-- ==== Sys2Proof/Word.lean ====
section
/-! DEFINITION. Word.lean: the widths of the SV88's data (R10: registers are 32-bit words) and their plainest
arithmetic. -/

namespace Sys2Proof

/-- A register or bus word. -/
abbrev Word := BitVec 32

/-- A byte of memory. -/
abbrev Byte := BitVec 8

/-- A word from a number, high-order bits discarded (R19). -/
abbrev w32 (n : Nat) : Word := BitVec.ofNat 32 n

end Sys2Proof
end

