-- ==== Sys2Proof/Syntax.lean ====
section
/-! DEFINITION. Syntax.lean: the commands of the SV88, one constructor per row of the spec's opcode table. Operands
are what the sender supplies: the core that makes an access (its security attribute is state, R418), indices of the
resource named, values, and what the world outside supplies with an event (levels, octets, measured counts). -/

namespace Sys2Proof

/-- A core, CPU0 to CPU3. -/
abbrev Cpu := Fin 4

/-- A counter or timestamp that is read as a LO and a HI word (R47). -/
inductive TsReg where
  | now
  | slow
  | dtime
  | rxts (lane : Fin 16)
  | cpt (group : Fin 8)
  deriving DecidableEq, Repr

/-- Who reads memory when an ECC error is found (R468, R566, R567); `scan` is the scan of a unit. -/
inductive SramAgent where
  | core (c : Cpu)
  | cipher (c : Cpu)
  | signature (c : Cpu)
  | ring (k : Fin 4)
  | submission
  | flash
  | debug
  | window
  | scan
  deriving DecidableEq, Repr

/-- What the world outside supplies to one run of the boot sequencer (R392, R396, R402, R406, R414): the level of TEST;
the octets of the external source, a read past which is a read error; addresses whose read meets an error (an external
address counts from 0x1000000; a read that the ready-line timeout aborts is one); flash addresses whose read is corrected; the manifest indices whose hash differs at the second read; whether the TRIAL record
verifies; whether the host breaks a word of SP1 off as Ivory ends (R506). -/
structure BootEnv where
  test : Bool
  ext : List Byte
  bad : List Nat
  soft : List Nat
  second : List Nat
  trialOk : Bool
  cut : Bool
  deriving DecidableEq, Repr

/-- The AMO operations of RV32A (R426). -/
inductive AmoOp where
  | swap
  | add
  | xor
  | and
  | or
  | min
  | max
  | minu
  | maxu
  deriving DecidableEq, Repr

/-- The form of a core's access that reads: a load of 2 ^ `size` octets, LR.W, an instruction fetch (R10, R426, R427). -/
inductive ReadForm where
  | load (size : Fin 3)
  | reserve
  | fetch
  deriving DecidableEq, Repr

/-- The form of a core's access that writes: a store of 2 ^ `size` octets, SC.W, an AMO (R10, R426). -/
inductive WriteForm where
  | store (size : Fin 3)
  | conditional
  | amo (op : AmoOp)
  deriving DecidableEq, Repr

/-- A read at a bus address (R10). -/
structure ReadAccess where
  form : ReadForm
  addr : Word
  deriving DecidableEq, Repr

/-- A device CSR that software reads (Table 14.2). -/
inductive DeviceCsr where
  | svprio
  | svclaim
  | svinfo
  deriving DecidableEq, Repr

/-- A read of a device CSR by a core; `plain`: with CSRRS or CSRRC and rs1 = x0, the only form that svclaim allows (R422). -/
structure CsrRead where
  core : Cpu
  csr : DeviceCsr
  plain : Bool
  deriving DecidableEq, Repr

/-- A write of svclaim; `plain`: with CSRRW and rd = x0, the only form allowed (R422). -/
structure ClaimWrite where
  value : Word
  plain : Bool
  deriving DecidableEq, Repr

/-- What a read meets in its handshake: the bits of the register that hardware sets then (R12); an uncorrectable error of
the frame store (R314). -/
structure ReadMeets where
  hw : Word
  ecc : Bool
  deriving DecidableEq, Repr

/-- The place in its frame of a cell whose read meets an uncorrectable error, if one does (R327). -/
abbrev EccCell : Type := Option (Fin 16)

/-- A preparation that completes: its thread, and the error that it meets (R327). -/
structure Preparation where
  thread : Fin 4
  ecc : EccCell
  deriving DecidableEq, Repr

/-- The uncorrectable error that the forwarding engine meets on a frame, if any: what it read, the entry where a search reads
many, and the word of a table entry or the place of a cell (R311, R327, R345). -/
structure ForwardFault where
  kind : Fin 11
  entry : Fin 512
  word : Fin 16
  deriving DecidableEq, Repr

/-- The error that the engine meets on a submission, if any: what it read, and the word of a table entry (R311, R327, R345,
R567). -/
structure SubmitFault where
  kind : Fin 6
  word : Fin 16
  deriving DecidableEq, Repr

/-- The commands of the SV88: one constructor per row of the opcode table, in the table's order. -/
inductive Instr where
  /-- REGISTER_WRITE (R11): A write to a register that has no row of its own; it is applied field by field under the access codes, the LK locks of R13 and the block's forbidden values. -/
  | registerWrite (core : Cpu) (form : WriteForm) (addr : Word) (v : Word)
  /-- RC_READ (R11): A read of an RC field returns its value and then clears it, with R12 resolving a simultaneous hardware update. -/
  | rcRead (core : Cpu) (access : ReadAccess) (meets : ReadMeets)
  /-- POWER_ON_RESET (R15): The first rise of VBAT, or a wake from Off, resets every register including AON and zeroes the listed memories. -/
  | powerOnReset
  /-- SYSTEM_RESET (R15): RST_N held low resets every register except the AON status and the reset-cause record, and zeroes the listed memories. -/
  | systemReset
  /-- BROWN_OUT (R558): VBAT or the core rail stays below its brown-out level for 1 µs, causing a system reset with cause BROWNOUT. -/
  | brownOut (coreRail : Bool)
  /-- TBASE_UNLOCK (R48): The PLL loses lock in Run or Idle, causing a system reset with cause TBASE_UNLOCK. -/
  | tbaseUnlock
  /-- PLL_LOCK (R46): The PLL locks after a reset, which sets LOCKED and starts TB_NOW counting from zero. -/
  | pllLock
  /-- LO_READ_CAPTURE (R47): A read of a LO word of a 64-bit TB counter captures the whole value into the reading core's shadow. -/
  | loReadCapture (core : Cpu) (r : TsReg)
  /-- HI_READ_SHADOW (R47): A read of a HI word returns the upper half of the reading core's last capture of that register. -/
  | hiReadShadow (core : Cpu) (r : TsReg)
  /-- RATIO_UPDATE (R51): At the end of each 256-slow-tick calibration window, TB_RATIO is updated or the window is discarded with RATIO_RANGE. -/
  | ratioUpdate (m : Word)
  /-- SLOW_FAIL (R52): No slow-tick edge arrives for 65,536 ticks, which sets SLOW_FAIL and blocks sleep entry. -/
  | slowFail
  /-- SLOW_EDGE_RETURN (R52): A slow-tick edge arrives while SLOW_FAIL is set, which clears TB_STATUS.SLOW_FAIL. -/
  | slowEdgeReturn
  /-- SLOW_FAIL_RESTART (R599): After a wake with a stopped 32 kHz crystal, no edge arrives for 65,536 ticks after lock, so the time base restarts by the wake procedure without that edge. -/
  | slowFailRestart
  /-- TIME_BASE_RESTART (R53): At the first slow-tick edge after a wake's PLL lock, TB_NOW and TB_DTIME are rebuilt, and catch-up, clamp release and entry to Idle follow. -/
  | timeBaseRestart
  /-- COMPARE_ARM (R56): A write of ARMED = 1 arms a time-base compare, which fires at once with LATE set if its target is already reached. -/
  | compareArm (core : Cpu) (n : Fin 8) (wake sel per : Bool)
  /-- COMPARE_DISARM (R59): A write of ARMED = 0 disarms a compare; if it meets a firing, the firing wins and DISARM_LATE is set. -/
  | compareDisarm (core : Cpu) (n : Fin 8)
  /-- COMPARE_FIRE (R55): An armed compare fires when its counter reaches its target, recording lateness, raising its flag and event, and re-arming in periodic mode. -/
  | compareFire (n : Fin 8)
  /-- DTIME_SLEW_STEP (R65): Every 20,000 ticks while the slew remainder is non-zero, TB_DTIME moves one tick towards it and the remainder shrinks by one. -/
  | dtimeSlewStep
  /-- GROUP_OPEN (R97): OPEN on a free or ended commit group makes the writer its owner with the write's attribute, or is refused with FOREIGN. -/
  | groupOpen (core : Cpu) (g : Fin 8)
  /-- STAGE_PUSH (R76): A write of AC_Gn_SDATA appends an entry of address, mask and value, failing the group with OVERFLOW at the 65th push. -/
  | stagePush (core : Cpu) (g : Fin 8) (v : Word)
  /-- COMMIT_NOW (R91): COMMIT_NOW moves an open group to ARMING and starts pre-delivery for an immediate commit. -/
  | commitNow (core : Cpu) (g : Fin 8)
  /-- COMMIT_AT (R89): COMMIT_AT moves an open group to ARMING and starts pre-delivery for a commit at an instant of TB_NOW or TB_DTIME. -/
  | commitAt (core : Cpu) (g : Fin 8) (sel : Bool)
  /-- GROUP_ABORT (R94): ABORT moves an open, arming or armed group to ABORTED, unless the commit has already won (ABORT_LATE). -/
  | groupAbort (core : Cpu) (g : Fin 8)
  /-- GROUP_RELEASE (R75): RELEASE returns an open or ended group to FREE and zeroes its staging store. -/
  | groupRelease (core : Cpu) (g : Fin 8)
  /-- PRE_DELIVERY_END (R81): Pre-delivery of every entry to its target completes, and the group becomes ARMED or FAILED, with LATE_ARM for a passed instant. -/
  | preDeliveryEnd (g : Fin 8)
  /-- COMMIT_POINT (R88): The group's token passes the arbiter; every entry takes effect at that tick after the VALUE check, or the group fails, and the commit event is emitted. -/
  | commitPoint (g : Fin 8)
  /-- AC_DISABLE (R100): Clearing AC_CTL.EN aborts every arming or armed group with DISABLED and then clears EN_ACK. -/
  | acDisable (core : Cpu) 
  /-- RETUNE (R108): An accepted write of FE_WIN_CTL starts a retune, which puts both chains in standby, stops calibrations and cuts any transmission. -/
  | retune (core : Cpu) (freq : BitVec 24)
  /-- RETUNE_COMPLETE (R109): The synthesiser and DC calibration of a retune finish, the chains return to service and FE_INT_STAT.RETUNE is set. -/
  | retuneComplete (ok : Bool) (temp : BitVec 16)
  /-- CAL_SYN (R112): FE_CAL_CMD.SYN commands a synthesiser calibration at the current LO. -/
  | calSyn (core : Cpu) 
  /-- CAL_DC (R112): FE_CAL_CMD.DC commands a DC offset calibration of each enabled chain. -/
  | calDc (core : Cpu) 
  /-- CAL_IQADC (R112): FE_CAL_CMD.IQADC commands an I/Q and ADC gain calibration. -/
  | calIqadc (core : Cpu) 
  /-- CAL_PALP (R112): FE_CAL_CMD.PALP commands a calibration of the TX_LP ramp shaper table. -/
  | calPalp (core : Cpu) 
  /-- CAL_PAHP (R112): FE_CAL_CMD.PAHP commands a calibration of the TX_HP ramp shaper table. -/
  | calPahp (core : Cpu) 
  /-- CAL_COMPLETE (R112): A running calibration finishes, storing its result, and the next queued calibration starts, or CAL_DONE is set. -/
  | calComplete (ok : Bool) (temp : BitVec 16)
  /-- SENSE_PERIOD (R128): FE_SENSE_CTL.PERIOD elapses, so temperature and VBAT are measured and the temperature trigger is judged. -/
  | sensePeriod (temp mv : BitVec 16)
  /-- SENSE_NOW (R128): A write of FE_SENSE_CTL.NOW measures temperature and VBAT at once. -/
  | senseNow (core : Cpu) (temp mv : BitVec 16)
  /-- FORCED_CAL (R114): Once TEMP_DUE has been set for FORCE_T seconds and the radio is idle, the shell starts SYN followed by DC. -/
  | forcedCal
  /-- SYNTH_UNLOCK (R115): Loss of synthesiser lock cuts any transmission, puts the chains in standby, sets UNLOCK and runs SYN and DC. -/
  | synthUnlock
  /-- SYNTH_RELOCK (R116): After a wake, the synthesiser relocks from the retained settings, within 40 µs of PLL lock. -/
  | synthRelock
  /-- CHAIN_ENABLE (R118): Setting CHA_EN or CHB_EN enables a chain, which runs DC and is in service within 40 µs. -/
  | chainEnable (core : Cpu) (chain : Fin 2)
  /-- CHAIN_DISABLE (R118): Clearing CHA_EN or CHB_EN switches the chain off at once, and lanes mid-frame on it lose their frames as blanked. -/
  | chainDisable (core : Cpu) (chain : Fin 2)
  /-- GAIN_STEP_DOWN (R119): The ADC input exceeds −3 dBFS, so the chain gain steps down within 1 µs. -/
  | gainStepDown (chain : Fin 2)
  /-- GAIN_STEP_UP (R119): The ADC input has stayed below −15 dBFS for 1 ms, so the chain gain steps up. -/
  | gainStepUp (chain : Fin 2)
  /-- RSSI_REFRESH (R126): Every 16 µs each lane's FE_LRPTn_NOW.RSSI is refreshed over the last 128 µs. -/
  | rssiRefresh (n : Fin 16) (a b : BitVec 16)
  /-- FE_DISABLE (R129): Clearing FE_CTL.EN stops new retunes, calibrations and transmissions, and discards commanded calibrations not yet started. -/
  | feDisable (core : Cpu) 
  /-- FE_DISABLE_DONE (R129): Once transmissions and running calibrations have ended, the chains go to standby and FE_CTL.EN_ACK clears. -/
  | feDisableDone
  /-- FE_ENABLE (R129): Setting FE_CTL.EN again runs a retune to the value in FE_WIN_CTL if it is not 0. -/
  | feEnable (core : Cpu) 
  /-- TX_RAMP_UP (R124): At a transmission's ramp-up anchor, the aerial switch changes, every lane is blanked and the PA ramps up, after the launch checks for an acknowledgement. -/
  | txRampUp
  /-- TX_LAST_BIT (R124): The last bit of a transmission leaves the output pin and ramp-down starts. -/
  | txLastBit
  /-- TX_RAMP_DOWN_END (R124): Ramp-down ends; the aerial switch returns to the receive code, the transmit term leaves the ledger, and the acknowledgement wait or the TXF status follows. -/
  | txRampDownEnd
  /-- CHAINS_IN_SERVICE (R31): The receive chains return to service after a ramp-down, and armed lanes resume their search. -/
  | chainsInService
  /-- LANE_ARM (R146): CZ_LANEn_CMD.ARM sets ARMED_FW and arms the lane at the next tick. -/
  | laneArm (core : Cpu) (n : Fin 16) 
  /-- LANE_DISARM (R146): CZ_LANEn_CMD.DISARM clears ARMED_FW, and the lane leaves its search by R147. -/
  | laneDisarm (core : Cpu) (n : Fin 16) 
  /-- LANE_CFG_WRITE (R149): An accepted write that changes a lane's BIN, MODE, DIV or EN, or PATH, takes effect at once and abandons any reception in progress. -/
  | laneCfgWrite (core : Cpu) (n : Fin 16) (v : Word)
  /-- PREAMBLE_DETECT (R150): A lane's preamble correlation reaches its threshold on a chain, and the lane enters PREAMBLE and starts its measurement or sync search. -/
  | preambleDetect (n : Fin 16) (chain : Fin 2)
  /-- DIVERSITY_DECISION (R150): At the end of the measurement span, the lane chooses a chain or switch position by choose_chain. -/
  | diversityDecision (n : Fin 16) (ma mb : BitVec 16)
  /-- SYNC_WORD_DETECT (R62): The lane detects the sync word, takes the receive timestamp, writes its lane report and enters FRAME. -/
  | syncWordDetect (n : Fin 16) (rssi snr8 cfo : BitVec 16) (coded : Bool)
  /-- SYNC_TIMEOUT (R147): STO × 64 symbols pass after preamble detection without a sync word, and the lane returns to ARMED or ATTACHED. -/
  | syncTimeout (n : Fin 16) 
  /-- PREAMBLE_LOST (R147): The correlation stays below threshold for 16 symbols, and the lane returns to ARMED or ATTACHED. -/
  | preambleLost (n : Fin 16) 
  /-- PHR_END (R154): The lane sees the end of the PHR; it records LEN, abandons the frame on a header error, or makes the admission decision. -/
  | phrEnd (n : Fin 16) (phr : BitVec 16)
  /-- FRAME_END (R155): The lane sees the frame end; it checks the FCS and filter, and hands the frame to the frame handler, which parses its IEs and owes, matches or drops it. -/
  | frameEnd (n : Fin 16) (psdu : List Byte)
  /-- LANE_FAIL (R161): A lane fails its continuous check; it moves to FAILED, its reception is counted, the failure is recorded, and its work moves to a spare if one is IDLE. -/
  | laneFail (n : Fin 16) 
  /-- SELFTEST_START (R160): A self-test period elapses, and the periodic test starts on each lane in IDLE or ATTACHED. -/
  | selftestStart
  /-- SELFTEST_END (R160): A lane's stored-vector test completes, and the lane passes or fails under R161. -/
  | selftestEnd (n : Fin 16) (ok : Bool)
  /-- BSC_SAMPLE (R165): Every 1 ms, NF is sampled on each bin held by an armed managed lane and on the survey bin. -/
  | bscSample
  /-- SURVEY_STEP (R166): After 10 ms on a candidate bin, the survey lane moves to the next candidate. -/
  | surveyStep
  /-- BSC_DECISION (R167): Every PERIOD × 16 s, bin-set choice compares costs and may schedule a swap of the worst bin for the best candidate. -/
  | bscDecision
  /-- BSC_CHANGE (R168): TB_DTIME reaches CZ_BSC_EFF, and the pending bin change is applied to the managed lanes or dropped. -/
  | bscChange
  /-- BSC_DISABLE (R169): Clearing CZ_BSC_CTL.EN stops the survey and further decisions, leaving any pending change in force. -/
  | bscDisable (core : Cpu) 
  /-- CZ_DISABLE (R170): Clearing CZ_CTL.EN abandons every reception, clears ARMED_FW, voids open windows and clears EN_ACK. -/
  | czDisable (core : Cpu) 
  /-- CZ_ENABLE (R170): Setting CZ_CTL.EN again leaves the lanes ATTACHED until something arms them. -/
  | czEnable (core : Cpu) 
  /-- LS_START (R179): START moves a HALTED thread to READY at LS_Tn_PC, with an empty stack. -/
  | lsStart (core : Cpu) (n : Fin 4) 
  /-- HALT_CMD (R179): A HALT command stops a thread at its next boundary, at once in a wait, or after its TXF status. -/
  | haltCmd (core : Cpu) (n : Fin 4) 
  /-- MAIL (R193): A write of LS_Tn_CMD.MAIL latches the thread's MAIL pending bit. -/
  | mail (core : Cpu) (n : Fin 4) 
  /-- ABORT_TX (R200): ABORT_TX ends a TXF before ramp-up with ABORTED, or lets a started transmission complete with ABORT_LATE. -/
  | abortTx (core : Cpu) (n : Fin 4) 
  /-- MOV (R184): MOV copies a register, a pair or a sign-extended immediate. -/
  | mov (n : Fin 4) 
  /-- MOVI (R184): MOVI loads a 16-bit immediate into the low or the high half of a register. -/
  | movi (n : Fin 4) 
  /-- ADD (R186): ADD adds, on 32 bits or on pairs, and sets the flags. -/
  | add (n : Fin 4) 
  /-- SUB (R186): SUB subtracts, on 32 bits or on pairs, and sets the flags. -/
  | sub (n : Fin 4) 
  /-- CMP (R186): CMP sets the flags from a subtraction without writing a result. -/
  | cmp (n : Fin 4) 
  /-- JMP (R184): JMP sets the PC to K. -/
  | jmp (n : Fin 4) 
  /-- JCC (R186): JCC jumps to K if the condition of Table 6.4 holds. -/
  | jcc (n : Fin 4) 
  /-- CALL (R185): CALL pushes the return address and jumps, halting with STACK if the stack is full. -/
  | call (n : Fin 4) 
  /-- RET (R185): RET pops the return address, halting with STACK if the stack is empty. -/
  | ret (n : Fin 4) 
  /-- YIELD (R180): YIELD gives up the thread's issue turn. -/
  | yield (n : Fin 4) 
  /-- HALT_INSN (R184): The HALT instruction moves the thread to HALTED with CAUSE HALT_INSN and sets LS_INT_STAT.HALT. -/
  | haltInsn (n : Fin 4) 
  /-- ILLEGAL (R185): An unused opcode or condition, a non-zero unused bit or a bad operand halts the thread with CAUSE ILLEGAL. -/
  | illegal (n : Fin 4) 
  /-- LDT (R184): LDT loads TB_NOW, TB_DTIME, a lane's receive timestamp or its frame end into a pair. -/
  | ldt (n : Fin 4) 
  /-- WAITT (R189): WAITT prepares its launch bundle, saves a checkpoint and waits for its instant. -/
  | waitt (n : Fin 4) 
  /-- WAITT_RELEASE (R189): The selected counter reaches the WAITT instant, or preparation ends late, and every bundle instruction takes effect as one launch. -/
  | waittRelease (n : Fin 4) 
  /-- WAITE (R193): WAITE waits for a masked pending bit of condition K, with an optional timeout. -/
  | waite (n : Fin 4) 
  /-- WAITE_DONE (R193): A pending bit of the awaited condition under the mask becomes 1, and WAITE reports and clears it. -/
  | waiteDone (n : Fin 4) 
  /-- WAITE_TIMEOUT (R193): TB_NOW reaches the WAITE timeout first, and sD receives 0xF in [31:28]. -/
  | waiteTimeout (n : Fin 4) 
  /-- TUNE (R191): TUNE outside a bundle writes FE_WIN_CTL at the next tick, or sets RADIO_ERR for a forbidden value. -/
  | tune (n : Fin 4) 
  /-- LANE (R191): LANE outside a bundle writes the CZ_LANEm_CFG of the mapped physical lane at the next tick. -/
  | lane (n : Fin 4) 
  /-- ARMRX (R192): ARMRX opens or restarts receive windows on the named logical lanes and clears their PRE, FRAME and WEND bits. -/
  | armrx (n : Fin 4) 
  /-- DISRX (R192): DISRX closes the windows of the named logical lanes. -/
  | disrx (n : Fin 4) 
  /-- WINDOW_CLOSE (R192): A receive window reaches its length and closes, latching WEND if no preamble was seen. -/
  | windowClose
  /-- TXF (R194): TXF starts a transmission of the descriptor at an instant: it posts the ledger term and begins preparation. -/
  | txf (n : Fin 4) 
  /-- TXF_PREPARED (R196): TXF preparation completes; the frame is taken, the lifetime and hold-back rules and the checks of R30 are applied, and ramp-up is scheduled or the TXF ends. -/
  | txfPrepared (p : Preparation)
  /-- ACK_TIMEOUT (R198): The acknowledgement wait ends without an acknowledgement, so the TXF ends with NO_ACK and the frame is retried or dropped. -/
  | ackTimeout (n : Fin 4) 
  /-- ACKPOL (R214): ACKPOL sets the acknowledgement policy of the named logical lanes. -/
  | ackpol (n : Fin 4) 
  /-- DRIFT (R220): DRIFT computes a partner's predicted sniff instant and guard, or enters FALLBACK. -/
  | drift (n : Fin 4) 
  /-- LDN (R187): LDN loads one word of a neighbour entry. -/
  | ldn (n : Fin 4) 
  /-- STN (R187): STN stores one word of a neighbour entry, or sets NB_RO for an engine-owned word or a refused entry. -/
  | stn (n : Fin 4) 
  /-- SIG (R184): SIG sets an LS_INT_STAT.SIG bit or pulses an LS event producer. -/
  | sig (n : Fin 4) 
  /-- PAIR_MISMATCH (R203): The duplicated copies of a thread disagree; the output is held and the thread restores from its checkpoint into REPLAY. -/
  | pairMismatch (n : Fin 4) 
  /-- REPLAY_COMPLETE (R203): The replaying thread reaches the state it would have had, and leaves REPLAY. -/
  | replayComplete (n : Fin 4) 
  /-- FH_MISMATCH (R204): The duplicated frame handler disagrees; the frame or acknowledgement is abandoned and counted in ACK_WITHHELD. -/
  | fhMismatch (p : Fin 16) (ack : Bool)
  /-- ACK_SNAPSHOT (R214): At the snapshot, an owed acknowledgement is launched, deferred or skipped under the lane policy and the budget, coexistence and withholding rules. -/
  | ackSnapshot
  /-- LS_DISABLE (R216): Clearing LS_CTL.EN refuses START and halts waiting threads with CAUSE DISABLE. -/
  | lsDisable (core : Cpu) 
  /-- LS_DISABLE_DONE (R216): Once every thread is HALTED and no acknowledgement is owed, the windows close and LS_CTL.EN_ACK clears. -/
  | lsDisableDone
  /-- SNIFF_INT_WRITE (R223): A write of LS_SNF_INT or LS_SNF_NEXT sets the sniff schedule, aligning NEXT beyond TB_SLOW or setting RANGE. -/
  | sniffIntWrite (core : Cpu) (sel : Fin 3) (v : Word)
  /-- SNIFF_OPEN (R222): TB_SLOW reaches LS_SNF_NEXT, so a sniff window opens on the sniff lanes or is skipped, and NEXT advances. -/
  | sniffOpen
  /-- SNIFF_CLOSE (R224): A sniff window closes without a preamble, and the sniff is extended on energy or ends. -/
  | sniffClose
  /-- DATA_WINDOW_OPEN (R234): A held data window of a wake frame opens on the receiving lane. -/
  | dataWindowOpen
  /-- DATA_WINDOW_CLOSE (R234): A data window closes without a preamble, and WAKE_LOST is counted. -/
  | dataWindowClose
  /-- WAKE_TRAIN_SEGMENT (R232): After an acknowledgement wait, the next wake-train segment launches, or the train ends with NO_ACK. -/
  | wakeTrainSegment (n : Fin 4) 
  /-- BEACON_WINDOW_OPEN (R240): The tracker opens a guarded beacon window on the beacon lane and sets its bin. -/
  | beaconWindowOpen
  /-- BEACON_MISS (R241): A beacon window closes without the parent's beacon, and the miss ladder advances, starting Amber and Umber at the third miss. -/
  | beaconMiss
  /-- AMBER_SECOND (R242): Each whole second in Amber counts AMBER_S, and SUSP is set at LIMIT. -/
  | amberSecond
  /-- UMBER_STEP (R243): Every 1.5 beacon intervals the Umber lanes move to the next group of bins. -/
  | umberStep
  /-- REPARENT (R247): A write of LS_BCN_CMD.REPARENT re-parents to IDX, or is refused with BADCMD. -/
  | reparent (core : Cpu) (idx : BitVec 9)
  /-- BSET_EFFECT (R249): TB_DTIME reaches LS_BSET_EFF, and the parent's next bin set becomes current. -/
  | bsetEffect
  /-- BUCKET_RETIRE (R257): A DUTY bucket or DWELL quarter boundary passes, and the oldest air stops counting. -/
  | bucketRetire (n : Fin 8)
  /-- PRESET (R267): A write of DC_RECn_CMD.PRESET loads a band record from Table 8.1. -/
  | preset (core : Cpu) (n : Fin 8) (p : BitVec 4)
  /-- DC_RECORD_WRITE (R265): A write to a band record is checked for forbidden values and clears or initialises its history. -/
  | dcRecordWrite (core : Cpu) (n : Fin 8) (k : Fin 4) (v : Word)
  /-- LBT_LISTEN_END (R269): A listen span ends, and the channel is judged free, retried later or the TXF ends with TX_LBT. -/
  | lbtListenEnd (n : Fin 4) (draw : Word)
  /-- COEX_REQUEST (R271): COEX_REQ rises with COEX_PRI at the lead before a transmission or acknowledgement. -/
  | coexRequest
  /-- GRANT_SAMPLE (R273): COEX_GNT is sampled, and a low sample ends the TXF with TX_COEX or skips the acknowledgement. -/
  | grantSample (owner : Fin 20) (gnt : Bool)
  /-- GRANT_WITHDRAWN (R274): COEX_GNT falls during a transmission, which is cut or completed as WDRAW selects. -/
  | grantWithdrawn
  /-- DC_DISABLE (R277): Clearing DC_CTL.EN stops new budget checks. -/
  | dcDisable (core : Cpu) 
  /-- DC_DISABLE_DONE (R277): Once no reservation remains, DC_CTL.EN_ACK clears. -/
  | dcDisableDone
  /-- CX_DISABLE (R278): Clearing CX_CTL.EN withdraws unsampled requests, drives the pins low and clears EN_ACK. -/
  | cxDisable (core : Cpu) 
  /-- FORWARD (R294): The forwarding engine takes the next frame in frame-end order, opens it, decides on it, and delivers, discards or seals and queues it. -/
  | forward (fault : ForwardFault)
  /-- NB_ENTRY_WRITE (R282): A window write to a neighbour entry is applied under the child-limit and TXLVL tests, and a VALID change to 0 flushes its queues. -/
  | nbEntryWrite (core : Cpu) (i : Fin 512) (k : Fin 16) (v : Word)
  /-- RING_COPY (R301): A frame waiting for a receive ring is copied into the descriptor at HEAD, which is handed to firmware. -/
  | ringCopy (k : Fin 4) (ecc : EccCell)
  /-- RING_KICK (R302): A write of a ring's KICK makes the engine retry the descriptor at HEAD. -/
  | ringKick (core : Cpu) (k : Fin 4)
  /-- RING_RETRY (R302): Every 1 ms the engine retries the descriptor at HEAD for waiting frames. -/
  | ringRetry
  /-- SUB_KICK (R303): A write of FW_SUB KICK makes the engine take submission descriptors from HEAD while OWN is 1. -/
  | subKick (core : Cpu) 
  /-- SUBMISSION (R303): The engine processes one submission descriptor as routed, DIRECT or RAW, and writes its status. -/
  | submission (fault : SubmitFault)
  /-- SUB_FREE (R304): A write of FW_SUB_FREE releases the cells of a RAW frame. -/
  | subFree (core : Cpu) (cell : BitVec 12)
  /-- ROUTE_AGING (R306): Each FW_AGE period, learned routes age, and those at AGE 15 are invalidated. -/
  | routeAging
  /-- ALLOC (R307): ALLOC sets ADM in the lowest free route entry, or reports FULL. -/
  | alloc (core : Cpu) 
  /-- FREE (R307): FREE clears ADM, RV and NV of the named entry. -/
  | free (core : Cpu) (id : BitVec 12)
  /-- KEY_ROLLOVER (R308): At a Root's rollover instant, the broadcast receive key moves to FW_KPREV and the new W3 is committed. -/
  | keyRollover (w3 : Word)
  /-- KPREV_EXPIRE (R308): HOLD × 16 s after the rollover commit, a Root clears FW_KPREV.EN. -/
  | kprevExpire
  /-- FW_DISABLE (R309): Clearing FW_CTL.EN freezes the queues and refuses admission after the frame in processing. -/
  | fwDisable (core : Cpu) 
  /-- FW_DISABLE_DONE (R309): Once the frame in processing and the ring copies have completed, FW_CTL.EN_ACK clears. -/
  | fwDisableDone
  /-- LOAD (R340): LOAD installs the load buffer as the slot's key, or sets KEYERR, and zeroes the buffer. -/
  | load (core : Cpu) (n : Fin 64)
  /-- CLEAR (R340): CLEAR zeroes a slot's key and load buffer and clears VALID and WRAPPED. -/
  | clear (core : Cpu) (n : Fin 64)
  /-- KS_ATTR_WRITE (R342): A write of CE_KSn_ATTR narrows a valid slot, or is refused with WIDEN. -/
  | ksAttrWrite (core : Cpu) (n : Fin 64) (v : Word)
  /-- CE_START (R355): START queues a CE context's job and posts it to the ledger. -/
  | ceStart (core : Cpu) (c : Cpu) 
  /-- CE_JOB_RUN (R355): The ledger starts a queued CE job, which checks its parameters, lengths and slot and runs. -/
  | ceJobRun (c : Cpu) (ecc : Bool)
  /-- CE_JOB_END (R354): A CE job ends with its code, releasing or zeroing its output, and raises DONE or ERR. -/
  | ceJobEnd (c : Cpu) (bus : Bool)
  /-- CE_ABORT (R357): ABORT ends a queued or running CE job with ABORTED, or sets ABORT_LATE after completion. -/
  | ceAbort (core : Cpu) (c : Cpu) 
  /-- CE_DISABLE (R358): Clearing CE_CTL.EN ends the running and queued jobs with DISABLED and clears EN_ACK. -/
  | ceDisable (core : Cpu) 
  /-- PQ_START (R362): START queues a PQ context's job and posts it to the ledger. -/
  | pqStart (core : Cpu) (c : Cpu) 
  /-- PQ_JOB_RUN (R364): The ledger starts a queued PQ job, which makes its checks and runs. -/
  | pqJobRun (c : Cpu) 
  /-- PQ_JOB_END (R371): A PQ job ends with DONE, REJECT or an error code and writes its output. -/
  | pqJobEnd (c : Cpu) (rounds : BitVec 8) (bus : Bool)
  /-- PQ_ABORT (R372): ABORT stops a PQ job before its completion point, zeroing its output, or sets ABORT_LATE. -/
  | pqAbort (core : Cpu) (c : Cpu) 
  /-- PQ_DISABLE (R372): Clearing PQ_CTL.EN ends PQ jobs with DISABLED and clears EN_ACK. -/
  | pqDisable (core : Cpu) 
  /-- CLEAR1 (R369): PQ_PK_CMD.CLEAR1 zeroes PK1 and clears PK1V, after any job using PK1. -/
  | clear1 (core : Cpu) 
  /-- ENTROPY_WORD (R374): 1,024 tested raw bits are hashed into an entropy word added to the pool. -/
  | entropyWord (raw : List Byte)
  /-- ENTROPY_FAIL (R374): A health test fails; the pool is discarded and the source enters FAIL. -/
  | entropyFail (rct : Bool)
  /-- RESTART (R373): PQ_ENT_CTL.RESTART reruns the entropy start-up test. -/
  | restart (core : Cpu) 
  /-- STARTUP_TEST_END (R373): The 4,096-bit start-up test passes, and the source becomes OK. -/
  | startupTestEnd
  /-- PROG_OKH (R379): PROG_OKH writes an owner key hash into OTP slot IDX, or is refused. -/
  | progOkh (core : Cpu) (idx : Fin 4)
  /-- REVOKE (R379): REVOKE blows the revocation fuse of owner slot IDX, or is refused. -/
  | revoke (core : Cpu) (idx : Fin 4)
  /-- ARB_ADV (R379): ARB_ADV programs the next anti-rollback slot with PQ_OTP_ARG, or is refused. -/
  | arbAdv (core : Cpu) 
  /-- OTP_OP_END (R379): An OTP operation ends with its RESULT and sets OTP_DONE. -/
  | otpOpEnd
  /-- BOOT (R413): After a reset and any flash operation, the boot sequencer chooses, verifies and applies an image, locks LK fields and starts the cores, or holds in Ivory. -/
  | boot (e : BootEnv)
  /-- RELEASE (R414): BT_CTL.RELEASE ends Ivory, continuing the boot or causing a system reset. -/
  | release (e : BootEnv)
  /-- CORE_START (R429): A Secure write of IC_CPUc_CTL.START starts a HELD core at its ENTRY. -/
  | coreStart (core : Cpu) (c : Cpu)
  /-- WFI (R421): WFI makes the core idle until an interrupt is assigned to it. -/
  | wfi (c : Cpu)
  /-- CLAIM (R438): A read of svclaim claims the core's assigned source, activating it and pushing the priority. -/
  | claim (read : CsrRead)
  /-- COMPLETION (R438): A write of svclaim naming an active source completes it, pops the priority stack and resamples a level source. -/
  | completion (c : Cpu) (w : ClaimWrite)
  /-- SVPRIO_WRITE (R435): A write of svprio changes the running priority and triggers re-evaluation. -/
  | svprioWrite (c : Cpu) (v : Word)
  /-- SWI (R431): A write of IC_SWI pulses software interrupt sources. -/
  | swi (core : Cpu) (mask : BitVec 4)
  /-- PEND_WRITE (R433): A write of IC_PENDk sets or clears edge pending bits, with an arriving edge winning over a 0. -/
  | pendWrite (core : Cpu) (k : Fin 6) (v hw : Word)
  /-- IC_AMO (R433): An AMO to IC_PENDk, IC_ENk or IC_WAKEk is performed indivisibly by the controller. -/
  | icAmo (core : Cpu) (arr : Fin 3) (k : Fin 6) (op : Fin 3) (v : Word)
  /-- EDGE_LATCH (R431): An edge source sets its pending latch, and the controller routes candidates. -/
  | edgeLatch (n : Fin 128)
  /-- LEVEL_CHANGE (R432): A level source's line changes, so its pending bit follows it or its assignment is withdrawn. -/
  | levelChange (n : Fin 64) (level : Bool)
  /-- IC_DISABLE (R442): Clearing IC_CTL.EN withdraws every assignment and clears EN_ACK. -/
  | icDisable (core : Cpu) 
  /-- SETADDR (R445): A SETADDR debug request sets the window space, offset and INC. -/
  | setaddr (arg : Word)
  /-- DBG_READ (R445): A READ debug request makes one 32-bit window read. -/
  | dbgRead (late : Bool)
  /-- DBG_WRITE (R445): A WRITE debug request makes one 32-bit window write. -/
  | dbgWrite (v : Word) (late : Bool)
  /-- DMSEL (R445): DMSEL selects a core and a debug module register, or is DENIED. -/
  | dmsel (arg : Word)
  /-- DMREAD (R446): DMREAD reads the selected debug module register. -/
  | dmread
  /-- DMWRITE (R446): DMWRITE writes the selected debug module register, for example to halt or resume a core. -/
  | dmwrite (v : Word)
  /-- DBG_STATUS (R445): A STATUS debug request returns halt, security, Ivory, sleep and access-level state. -/
  | dbgStatus
  /-- RESULT (R445): RESULT returns the outcome of the last request that was answered WAIT. -/
  | result
  /-- DEBUG_BAD_REQUEST (R444): A debug request with a bad SYNC, CRC or OP is ignored or answered CRCERR or BADOP. -/
  | debugBadRequest (head : BitVec 8) (rest : BitVec 40)
  /-- DEBUG_ACCESS_DONE (R445): A debug access that was answered WAIT completes, and its outcome becomes available to RESULT. -/
  | debugAccessDone
  /-- EV_DISABLE (R462): Clearing EV_CTL.EN stops forwarding and group switching and clears EN_ACK. -/
  | evDisable (core : Cpu) 
  /-- PROGRAM (R472): A PROGRAM command is checked and enters WAIT, or ends with a refusal code. -/
  | program (core : Cpu) 
  /-- ERASE (R472): An ERASE command is checked and enters WAIT, or ends with a refusal code. -/
  | erase (core : Cpu) 
  /-- SUSPEND (R479): SUSPEND suspends the running erase, freeing the bank for reads within 30 µs. -/
  | suspend (core : Cpu) 
  /-- RESUME (R480): RESUME returns a suspended erase to WAIT. -/
  | resume (core : Cpu) 
  /-- FL_ABORT (R483): ABORT ends a waiting or running flash operation as Table 16.3 gives, or sets ABORT_LATE. -/
  | flAbort (core : Cpu) 
  /-- FL_OP_START (R473): A waiting flash operation starts once no other runs and the ledger admits it. -/
  | flOpStart
  /-- PROGRAM_END (R474): A page program finishes its verify and ends with DONE or VERIFY. -/
  | programEnd (ok : Bool)
  /-- ERASE_END (R476): An erase completes by clearing the block's flag cell, or ends with VERIFY. -/
  | eraseEnd (ok : Bool)
  /-- AUTO_SUSPEND (R481): A read of an erasing bank, once MINRUN has passed, suspends the erase and is served. -/
  | autoSuspend (core : Cpu) (addr : BitVec 22)
  /-- AUTO_RESUME (R481): After QUIET with no read of the bank, an auto-suspended erase resumes. -/
  | autoResume
  /-- FL_DISABLE (R486): Clearing FL_CTL.EN refuses new commands and ends a waiting operation with DISABLED. -/
  | flDisable (core : Cpu) 
  /-- XFER_START (R496): SPx_XFER.START begins a master transfer, driving SEL and then SELEN and the clock. -/
  | xferStart (core : Cpu) (x : Fin 2) (rxign txfill : Bool) (sel : BitVec 5) (count : BitVec 16)
  /-- XFER_ABORT (R500): XFER.ABORT stops a master transfer at the next bit boundary, or sets ABORT_LATE. -/
  | xferAbort (core : Cpu) (x : Fin 2) 
  /-- MASTER_WORD (R497): A master word completes; it is stored or discarded, and the clock continues or stalls for the FIFOs. -/
  | masterWord (x : Fin 2) (rx : Word)
  /-- STALL_CLEAR (R497): The cause of a master stall clears, and the clock restarts HALF ticks later. -/
  | stallClear (x : Fin 2) 
  /-- XFER_END (R496): After the last bit, TRAIL and GAP, the transfer ends with its code and emits its event. -/
  | xferEnd (x : Fin 2) 
  /-- RDY_LOW (R498): SPx_RDY low pauses a master at a bit boundary. -/
  | rdyLow (x : Fin 2) 
  /-- RDY_HIGH (R498): SPx_RDY high resumes a paused master transfer. -/
  | rdyHigh (x : Fin 2) 
  /-- RDY_TIMEOUT (R499): A pause lasts RDYTO, and the transfer ends with TIMEOUT. -/
  | rdyTimeout (x : Fin 2) 
  /-- SLAVE_SELECT (R502): The host asserts the slave select, and the port starts counting bits. -/
  | slaveSelect (x : Fin 2) 
  /-- SLAVE_WORD (R502): A slave word completes and is written to the receive FIFO, or is discarded with RXOVF. -/
  | slaveWord (x : Fin 2) (rx : Word)
  /-- SLAVE_DESELECT (R505): The select is released, and a partial word is discarded with FRAG. -/
  | slaveDeselect (x : Fin 2) (bits : Fin 32)
  /-- TXD_PUSH (R515): A write of SPx_TXD pushes a word, or sets TXOVF when the FIFO is full. -/
  | txdPush (core : Cpu) (x : Fin 2) (v : Word)
  /-- RXD_POP (R515): A read of SPx_RXD pops a word, or returns 0 with RXUDF. -/
  | rxdPop (core : Cpu) (x : Fin 2) 
  /-- FLUSH_RX (R515): FLUSH_RX empties the receive FIFO. -/
  | flushRx (core : Cpu) (x : Fin 2) 
  /-- FLUSH_TX (R515): FLUSH_TX empties the transmit FIFO. -/
  | flushTx (core : Cpu) (x : Fin 2) 
  /-- SP_DISABLE (R513): Clearing SPx_CTL.EN stops new transfers after the word in progress. -/
  | spDisable (core : Cpu) (x : Fin 2) 
  /-- SP_DISABLE_DONE (R513): Once the word in progress has ended, SPx_CTL.EN_ACK clears. -/
  | spDisableDone (x : Fin 2) 
  /-- WINDOW_COMMAND (R507): The first word of a window selection sets the space, address and direction, or sets WIN_BERR. -/
  | windowCommand (v : Word)
  /-- WINDOW_READ (R509): A window data word makes a Secure 32-bit read at the window address. -/
  | windowRead (early : Bool)
  /-- WINDOW_WRITE (R509): A window data word makes a Secure 32-bit write at the window address. -/
  | windowWrite (v : Word) (early : Bool)
  /-- TM_START (R518): START sets a timer's RUN and clears PREM. -/
  | tmStart (core : Cpu) (t : Fin 8) 
  /-- TM_STOP (R518): STOP clears a timer's RUN. -/
  | tmStop (core : Cpu) (t : Fin 8) 
  /-- TIMER_INCREMENT (R516): A prescaler output increments COUNT or wraps it, judging compare matches and overflow. -/
  | timerIncrement (t : Fin 8) 
  /-- CAPTURE (R521): A filtered edge or event captures COUNT into the channel queue, or into the paired registers. -/
  | capture (t : Fin 8) (k : Fin 4) (rising : Bool)
  /-- CAP_POP (R522): A read of CHk_CAP pops the head capture entry. -/
  | capPop (core : Cpu) (t : Fin 8) (k : Fin 4) 
  /-- WIDTH_READ (R524): A read of CHk_WIDTH clears WIDTH_V. -/
  | widthRead (core : Cpu) (t : Fin 8) (k : Fin 4) 
  /-- COUNT_WRITE (R517): A write of COUNT moves the counter without a transition and clears PREM. -/
  | countWrite (core : Cpu) (t : Fin 8) (v : Word)
  /-- CMP_WRITE (R519): A write of CMP sets the compare value, setting CMP_EQ_WRITE if it equals COUNT. -/
  | cmpWrite (core : Cpu) (t : Fin 8) (k : Fin 4) (v : Word)
  /-- TM_DISABLE (R529): Clearing TM_CTL.EN stops every timer with its state kept, and clears EN_ACK. -/
  | tmDisable (core : Cpu) 
  /-- KICK (R532): A write of a watchdog's KICK clears ELAPSED, or causes expiry with EARLY or BADKEY. -/
  | kick (core : Cpu) (w : Fin 5) (key : BitVec 16)
  /-- WD_WARN (R533): ELAPSED reaches TIMEOUT − WARN, and the watchdog sets its early warning. -/
  | wdWarn (w : Fin 5) 
  /-- WD_EXPIRY (R534): ELAPSED reaches TIMEOUT; a core watchdog restarts its core, and WD_SYS causes a system reset. -/
  | wdExpiry (w : Fin 5) 
  /-- CORE_RESTART_END (R534): The restarted core issues its first instruction at ENTRY, ending the recovery. -/
  | coreRestartEnd (c : Cpu)
  /-- SRAM_UNCORRECTABLE (R567): An uncorrectable system SRAM word fails the access, is zeroed, and leads to a unit scan, a system reset or a record. -/
  | sramUncorrectable (agent : SramAgent) (addr : BitVec 20)
  /-- UNIT_SCAN_END (R567): The scan of the 32 KiB unit completes, and its owner core enters core restart. -/
  | unitScanEnd (k : Fin 32)
  /-- REC_POP (R573): A write of FC_REC_POP.POP removes the head fault record. -/
  | recPop (core : Cpu) 
  /-- SLEEP_ARM (R544): A write of PM_SLEEP sets ARM and TARGET, or ends an attempt silently when ARM is cleared. -/
  | sleepArm (core : Cpu) (arm target : Bool)
  /-- SLEEP_ATTEMPT (R545): With ARM at 1 and no wait holding, the power manager attempts entry and is refused or enters Sleep or Deep sleep. -/
  | sleepAttempt
  /-- WAKE (R549): A recognised wake source starts the wake, restoring the rail and domains and starting XO40. -/
  | wake
  /-- WAKE_PIN (R550): WAKE held high for 50 µs sets WAKEPIN, wakes the device, or causes a power-on reset from Off. -/
  | wakePin (high : Bool)
  /-- COMPARATOR_CHANGE (R551): A CMPA or CMPB output changes, emitting its event and, on its selected edge, setting its flag or waking the device. -/
  | comparatorChange (x : Fin 2) (out : Bool)
  /-- SLOW_ALARM (R548): A slow-counter alarm or PM_ALARM fires, waking the device. -/
  | slowAlarm
  /-- OFF (R552): PM_CMD.OFF with the key enters Off after any flash or OTP operation. -/
  | off (core : Cpu) (key : BitVec 16)
  /-- SYSRST (R552): PM_CMD.SYSRST with the key performs a system reset with cause SWREQ. -/
  | sysrst (core : Cpu) (key : BitVec 16)
  /-- VCORE_WRITE (R553): A write of PM_VCORE.RUN moves the core rail at 10 mV/µs, or is refused. -/
  | vcoreWrite (core : Cpu) (bspr : Bool) (run : BitVec 8)
  /-- DROOP (R557): A rail falls below a droop threshold, and throttle level 1 or 2 takes effect within 200 ns. -/
  | droop (level : Fin 3)
  /-- DROOP_RELEASE (R45): The rail stays above the release point for 20 µs, and the droop level steps down by one. -/
  | droopRelease
  /-- VR_ENABLE (R556): Writing 1 to VR_CTL.EN sends SET with the Run value over the regulator link. -/
  | vrEnable (core : Cpu) 
  /-- VR_DISABLE (R556): Writing 0 to VR_CTL.EN sends RELEASE, and the internal buck takes over. -/
  | vrDisable (core : Cpu) 
  /-- VRQ_ACK (R554): A rising VRQ_ACK after a frame confirms the rail and sets VR_INT_STAT.ACK. -/
  | vrqAck
  /-- VR_TIMEOUT (R555): No acknowledgement within 2 ms leads to RELEASE, fallback to the internal buck and TIMEOUT. -/
  | vrTimeout
  /-- OUT_SET (R588): A write of GP_OUT_SET sets the GP_OUT bits written as 1, as one step. -/
  | outSet (core : Cpu) (mask : BitVec 24)
  /-- OUT_CLR (R588): A write of GP_OUT_CLR clears the GP_OUT bits written as 1, as one step. -/
  | outClr (core : Cpu) (mask : BitVec 24)
  /-- GPIO_EDGE (R589): A filtered GPIO edge sets GP_EDGE_STAT and drives its group source, event producers and timer inputs. -/
  | gpioEdge (n : Fin 24) (rising : Bool)
  /-- IMEM_ECC (R183): A thread's fetch meets an uncorrectable error in the sequencer instruction memory, halting the thread with CAUSE IMEM_ECC and passing a fault record. -/
  | imemEcc (n : Fin 4) 
  /-- FLASH_ECC_ERROR (R468): A flash read finds a correctable or uncorrectable ECC error, counting CORR or UNCORR, setting ECC_C or ECC_U and writing FL_ECC_LOG. -/
  | flashEccError (agent : SramAgent) (addr : BitVec 22) (uncorrectable : Bool)
  /-- SRAM_CORRECTABLE (R566): A system SRAM read finds a correctable error, returns and writes back the corrected word and counts SRAM_CORR. -/
  | sramCorrectable (agent : SramAgent) (addr : BitVec 20)
  /-- VIO_SUPPLY_LOSS (R581): VIO_A or VIO_B falls below, or returns above, 1.0 V, making every pin it references high impedance and edgeless until it returns. -/
  | vioSupplyLoss (b lost : Bool)
  /-- DEBUG_HALT (R447): A core halts into its debug module by ebreak, single step or a trigger match, entering DEBUG with its watchdog and timers stopping as configured. -/
  | debugHalt (c : Cpu) (cause : Fin 8) (pc : Word)
  /-- MSTATUS_MIE_CHANGE (R436): A core's mstatus.MIE or mie.MEIE changes, by a CSR write, trap entry or MRET, so the controller re-evaluates eligibility and may assign or withdraw a source. -/
  | mstatusMieChange (c : Cpu) (mie meie user : Bool)
  deriving DecidableEq, Repr

end Sys2Proof
end

