-- ==== Sys2Proof/Machine/Aes.lean ====
section
/-! DEFINITION. Machine/Aes.lean: AES (FIPS 197) and its modes as the cipher engine uses them: CCM and CCM* of R291 and
R348, GCM, CTR, CMAC, and the key unwrap of NIST SP 800-38F. Octets are numbers 0 to 255. The spec names these
algorithms and does not restate them (log entry 12). -/

namespace Sys2Proof.Machine

/-- The AES S-box, part 0. -/
def aesSbox0 : List Nat := [
  0x63, 0x7c, 0x77, 0x7b, 0xf2, 0x6b, 0x6f, 0xc5, 0x30, 0x01, 0x67, 0x2b, 0xfe, 0xd7, 0xab, 0x76,
  0xca, 0x82, 0xc9, 0x7d, 0xfa, 0x59, 0x47, 0xf0, 0xad, 0xd4, 0xa2, 0xaf, 0x9c, 0xa4, 0x72, 0xc0,
  0xb7, 0xfd, 0x93, 0x26, 0x36, 0x3f, 0xf7, 0xcc, 0x34, 0xa5, 0xe5, 0xf1, 0x71, 0xd8, 0x31, 0x15,
  0x04, 0xc7, 0x23, 0xc3, 0x18, 0x96, 0x05, 0x9a, 0x07, 0x12, 0x80, 0xe2, 0xeb, 0x27, 0xb2, 0x75]

/-- The AES S-box, part 1. -/
def aesSbox1 : List Nat := [
  0x09, 0x83, 0x2c, 0x1a, 0x1b, 0x6e, 0x5a, 0xa0, 0x52, 0x3b, 0xd6, 0xb3, 0x29, 0xe3, 0x2f, 0x84,
  0x53, 0xd1, 0x00, 0xed, 0x20, 0xfc, 0xb1, 0x5b, 0x6a, 0xcb, 0xbe, 0x39, 0x4a, 0x4c, 0x58, 0xcf,
  0xd0, 0xef, 0xaa, 0xfb, 0x43, 0x4d, 0x33, 0x85, 0x45, 0xf9, 0x02, 0x7f, 0x50, 0x3c, 0x9f, 0xa8,
  0x51, 0xa3, 0x40, 0x8f, 0x92, 0x9d, 0x38, 0xf5, 0xbc, 0xb6, 0xda, 0x21, 0x10, 0xff, 0xf3, 0xd2]

/-- The AES S-box, part 2. -/
def aesSbox2 : List Nat := [
  0xcd, 0x0c, 0x13, 0xec, 0x5f, 0x97, 0x44, 0x17, 0xc4, 0xa7, 0x7e, 0x3d, 0x64, 0x5d, 0x19, 0x73,
  0x60, 0x81, 0x4f, 0xdc, 0x22, 0x2a, 0x90, 0x88, 0x46, 0xee, 0xb8, 0x14, 0xde, 0x5e, 0x0b, 0xdb,
  0xe0, 0x32, 0x3a, 0x0a, 0x49, 0x06, 0x24, 0x5c, 0xc2, 0xd3, 0xac, 0x62, 0x91, 0x95, 0xe4, 0x79,
  0xe7, 0xc8, 0x37, 0x6d, 0x8d, 0xd5, 0x4e, 0xa9, 0x6c, 0x56, 0xf4, 0xea, 0x65, 0x7a, 0xae, 0x08]

/-- The AES S-box, part 3. -/
def aesSbox3 : List Nat := [
  0xba, 0x78, 0x25, 0x2e, 0x1c, 0xa6, 0xb4, 0xc6, 0xe8, 0xdd, 0x74, 0x1f, 0x4b, 0xbd, 0x8b, 0x8a,
  0x70, 0x3e, 0xb5, 0x66, 0x48, 0x03, 0xf6, 0x0e, 0x61, 0x35, 0x57, 0xb9, 0x86, 0xc1, 0x1d, 0x9e,
  0xe1, 0xf8, 0x98, 0x11, 0x69, 0xd9, 0x8e, 0x94, 0x9b, 0x1e, 0x87, 0xe9, 0xce, 0x55, 0x28, 0xdf,
  0x8c, 0xa1, 0x89, 0x0d, 0xbf, 0xe6, 0x42, 0x68, 0x41, 0x99, 0x2d, 0x0f, 0xb0, 0x54, 0xbb, 0x16]

/-- The AES S-box. -/
def aesSub (x : Nat) : Nat :=
  (if x < 64 then aesSbox0 else if x < 128 then aesSbox1 else if x < 192 then aesSbox2 else aesSbox3).getD (x % 64) 0

/-- The inverse S-box. -/
def aesInvSub (x : Nat) : Nat := ((List.range 256).find? fun i => aesSub i == x).getD 0

/-- Multiplication by x in GF(2^8), and by a small constant. -/
def xtime (a : Nat) : Nat := if a < 128 then 2 * a else (2 * a) ^^^ 0x11b
def gmul (a c : Nat) : Nat :=
  let a2 := xtime a
  let a4 := xtime a2
  let a8 := xtime a4
  (if c % 2 = 1 then a else 0) ^^^ (if c / 2 % 2 = 1 then a2 else 0) ^^^ (if c / 4 % 2 = 1 then a4 else 0)
    ^^^ (if c / 8 % 2 = 1 then a8 else 0)

/-- Octet strings combined by exclusive or; the shorter bounds the length. -/
def xorList (a b : List Nat) : List Nat := List.zipWith (· ^^^ ·) a b

/-- Consecutive pieces of `n` octets; `fuel` bounds their number. -/
def chunks (n : Nat) : Nat → List Nat → List (List Nat)
  | 0, _ => []
  | _, [] => []
  | f + 1, d => d.take n :: chunks n f (d.drop n)

/-- The 16-octet blocks of a string, the last one as it is. -/
def blocks16 (d : List Nat) : List (List Nat) := chunks 16 ((d.length + 15) / 16) d

/-- Zero octets up to a multiple of 16. -/
def pad16 (d : List Nat) : List Nat := d ++ List.replicate ((16 - d.length % 16) % 16) 0

/-- One step of the key schedule: the words so far, newest first. -/
def keyStep (nk : Nat) (ws : List (List Nat)) (i : Nat) : List (List Nat) :=
  let prev := ws.getD 0 []
  let t :=
    if i % nk = 0 then
      let r := (prev.drop 1 ++ prev.take 1).map aesSub
      let rc := (List.range (i / nk - 1)).foldl (fun a _ => xtime a) 1
      xorList r [rc, 0, 0, 0]
    else if 6 < nk ∧ i % nk = 4 then prev.map aesSub
    else prev
  xorList (ws.getD (nk - 1) []) t :: ws

/-- The round keys of a 16- or 32-octet key. -/
def roundKeys (key : List Nat) : List (List Nat) :=
  let nk := key.length / 4
  let w0 := (chunks 4 nk key).reverse
  let ws := ((List.range (4 * (nk + 7) - nk)).map (· + nk)).foldl (keyStep nk) w0
  chunks 16 (nk + 7) ((ws.reverse.take (4 * (nk + 7))).foldl (· ++ ·) [])

/-- ShiftRows and its inverse on the 16 octets in column order. -/
def shiftRows (s : List Nat) : List Nat := (List.range 16).map fun i => s.getD (i % 4 + 4 * ((i / 4 + i % 4) % 4)) 0
def unshiftRows (s : List Nat) : List Nat := (List.range 16).map fun i => s.getD (i % 4 + 4 * ((i / 4 + 4 - i % 4) % 4)) 0

/-- One octet of a column times a circulant row. -/
def mixAt (s : List Nat) (m : List Nat) (i : Nat) : Nat :=
  let c := i / 4 * 4
  (List.range 4).foldl (fun a k => a ^^^ gmul (s.getD (c + k) 0) (m.getD ((k + 4 - i % 4) % 4) 0)) 0

/-- MixColumns with the given row. -/
def mixColumns (m s : List Nat) : List Nat := (List.range 16).map (mixAt s m)

/-- AES on one block. -/
def aesEncrypt (key blk : List Nat) : List Nat :=
  let ks := roundKeys key
  let n := ks.length - 1
  let s := xorList blk (ks.getD 0 [])
  let s := ((List.range (n - 1)).map (· + 1)).foldl
    (fun s r => xorList (mixColumns [2, 3, 1, 1] (shiftRows (s.map aesSub))) (ks.getD r [])) s
  xorList (shiftRows (s.map aesSub)) (ks.getD n [])

/-- The inverse of AES on one block. -/
def aesDecrypt (key blk : List Nat) : List Nat :=
  let ks := roundKeys key
  let n := ks.length - 1
  let s := (unshiftRows (xorList blk (ks.getD n []))).map aesInvSub
  let s := ((List.range (n - 1)).map fun r => n - 1 - r).foldl
    (fun s r => (unshiftRows (mixColumns [14, 11, 13, 9] (xorList s (ks.getD r [])))).map aesInvSub) s
  xorList s (ks.getD 0 [])

/-- A number as `n` octets, most significant first. -/
def natBE (n v : Nat) : List Nat := (List.range n).map fun i => v / 256 ^ (n - 1 - i) % 256

/-- Octets, most significant first, as a number. -/
def beNat (d : List Nat) : Nat := d.foldl (fun a x => a * 256 + x) 0

/-- Counter-mode keystream applied to `d`: block `i` of the keystream is AES of `ctr i`. -/
def ctrXor (key : List Nat) (ctr : Nat → List Nat) (d : List Nat) : List Nat :=
  let bs := blocks16 d
  ((List.range bs.length).map fun i => xorList (bs.getD i []) (aesEncrypt key (ctr i))).foldl (· ++ ·) []

/-- CBC-MAC of a string of whole blocks. -/
def cbcMac (key d : List Nat) : List Nat :=
  (blocks16 d).foldl (fun x b => aesEncrypt key (xorList x b)) (List.replicate 16 0)

/-- The counter block `i` of CCM. -/
def ccmCtr (nonce : List Nat) (i : Nat) : List Nat := (14 - nonce.length) :: nonce ++ natBE (15 - nonce.length) i

/-- The tag of CCM before it is masked. -/
def ccmMac (key nonce aad pt : List Nat) (tl : Nat) : List Nat :=
  let q := 15 - nonce.length
  let b0 := ((if aad.isEmpty then 0 else 64) + (tl - 2) / 2 * 8 + (q - 1)) :: nonce ++ natBE q pt.length
  let a := if aad.isEmpty then []
    else pad16 ((if aad.length < 0xFF00 then natBE 2 aad.length else [0xFF, 0xFE] ++ natBE 4 aad.length) ++ aad)
  cbcMac key (b0 ++ a ++ pad16 pt)

/-- The tag of CCM and CCM*. -/
def ccmTag (key nonce aad pt : List Nat) (tl : Nat) : List Nat :=
  (xorList (ccmMac key nonce aad pt tl) (aesEncrypt key (ccmCtr nonce 0))).take tl

/-- Encryption and decryption of CCM and CCM*. -/
def ccmCrypt (key nonce d : List Nat) : List Nat := ctrXor key (fun i => ccmCtr nonce (i + 1)) d

/-- Multiplication in GF(2^128) as GCM has it, of numbers whose top bit is the first bit. -/
def gfMul (x y : Nat) : Nat :=
  ((List.range 128).foldl (fun (z : Nat × Nat) i =>
    (if x / 2 ^ (127 - i) % 2 = 1 then z.1 ^^^ z.2 else z.1,
     if z.2 % 2 = 1 then (z.2 / 2) ^^^ (0xE1 * 2 ^ 120) else z.2 / 2)) (0, y)).1

/-- GHASH of a string of whole blocks. -/
def ghash (h : Nat) (d : List Nat) : Nat := (blocks16 d).foldl (fun y b => gfMul (y ^^^ beNat b) h) 0

/-- The counter block `i` of GCM with a 12-octet IV. -/
def gcmCtr (iv : List Nat) (i : Nat) : List Nat := iv ++ natBE 4 (i + 1)

/-- Encryption and decryption of GCM. -/
def gcmCrypt (key iv d : List Nat) : List Nat := ctrXor key (fun i => gcmCtr iv (i + 1)) d

/-- The tag of GCM over ciphertext `ct`. -/
def gcmTag (key iv aad ct : List Nat) (tl : Nat) : List Nat :=
  let h := beNat (aesEncrypt key (List.replicate 16 0))
  let s := ghash h (pad16 aad ++ pad16 ct ++ natBE 8 (8 * aad.length) ++ natBE 8 (8 * ct.length))
  (xorList (natBE 16 s) (aesEncrypt key (gcmCtr iv 0))).take tl

/-- The job mode CTR of R348: the last 4 octets of the block count modulo 2^32. -/
def ctrCrypt (key ctr d : List Nat) : List Nat :=
  ctrXor key (fun i => ctr.take 12 ++ natBE 4 (beNat (ctr.drop 12) + i)) d

/-- Doubling in the subkey derivation of CMAC. -/
def cmacDouble (x : Nat) : Nat := if x / 2 ^ 127 % 2 = 1 then (2 * x % 2 ^ 128) ^^^ 0x87 else 2 * x % 2 ^ 128

/-- The tag of CMAC. -/
def cmacTag (key d : List Nat) (tl : Nat) : List Nat :=
  let k1 := cmacDouble (beNat (aesEncrypt key (List.replicate 16 0)))
  let full := d.length ≠ 0 ∧ d.length % 16 = 0
  let n := if d.isEmpty then 1 else (d.length + 15) / 16
  let last := d.drop (16 * (n - 1))
  let m := if full then xorList last (natBE 16 k1)
    else xorList (pad16 (last ++ [0x80])) (natBE 16 (cmacDouble k1))
  (cbcMac key (d.take (16 * (n - 1)) ++ m)).take tl

/-- One step of KW unwrapping: register A and the semiblocks. -/
def kwStep (key : List Nat) (n : Nat) (st : List Nat × List (List Nat)) (t : Nat) : List Nat × List (List Nat) :=
  let i := (t - 1) % n
  let b := aesDecrypt key (xorList st.1 (natBE 8 t) ++ st.2.getD i [])
  (b.take 8, st.2.set i (b.drop 8))

/-- Key unwrap of NIST SP 800-38F: the key, where the default ICV verifies. -/
def kwUnwrap (key c : List Nat) : Option (List Nat) :=
  let rs := chunks 8 (c.length / 8) c
  let n := rs.length - 1
  let r := ((List.range (6 * n)).map fun i => 6 * n - i).foldl (kwStep key n) (rs.getD 0 [], rs.drop 1)
  if r.1 = List.replicate 8 0xA6 then some (r.2.foldl (· ++ ·) []) else none

end Sys2Proof.Machine
end

