-- ==== Sys2Proof/Config.lean ====
section
/-! DEFINITION. Config.lean: the values the spec leaves open, as constants without a body: no proof can see one, so a
claim about them holds whatever they are. A free value is drawn with the state's counter (log entry 6). -/

namespace Sys2Proof

/-- The value of draw number `n` where the spec says nothing of a 32-bit value. -/
opaque Config.freeWord : Nat → Word

/-- The value of draw number `n` where the spec says nothing of an octet string: its octet `i`. -/
opaque Config.freeByte : Nat → Nat → Byte

/-- Pad bits that NRNSC coding adds to a PSDU of a given length: IEEE 802.15.4 defines them, the spec does not (R206,
log entry 10). -/
opaque Config.fecPad : Nat → Nat

/-- TB_GD_TRIM.SILICON, loaded from OTP at an address the spec does not give (R16, log entry 14). -/
opaque Config.gdTrim : Nat

end Sys2Proof
end

