-- ==== Sys2Proof/Machine/Fields.lean ====
section
/-! DEFINITION. Machine/Fields.lean: the address of every register of the spec's register tables and every
named field of it, as a place in the register file. A register array is a function of its index. SP0 and SP1
are index 0 and 1 of SP_; WD_CPUc is index c and WD_SYS index 8 of WD_ (0x100 + 8 × 0x20 = 0x200); FW_SUB is
index 4 of FW_RING_ (0x100 + 4 × 0x10 = 0x140); PM_CMPA and PM_CMPB are index 0 and 1 of PM_CMP_. -/

namespace Sys2Proof.Machine

/-- A field of a register: the register's bus address, its lowest bit, its width. -/
structure Field where
  addr : Nat
  lo : Nat
  w : Nat
  deriving DecidableEq, Repr

/-- Address of TB_CTL (Table 2.3). -/
abbrev A_TB_CTL : Nat := 0x40010000
abbrev TB_CTL_WAKE_LEAD : Field := ⟨0x40010000, 0, 12⟩
/-- Address of TB_STATUS (Table 2.4). -/
abbrev A_TB_STATUS : Nat := 0x40010004
abbrev TB_STATUS_SLOW_FAIL : Field := ⟨0x40010004, 2, 1⟩
abbrev TB_STATUS_CAL_VALID : Field := ⟨0x40010004, 1, 1⟩
abbrev TB_STATUS_LOCKED : Field := ⟨0x40010004, 0, 1⟩
/-- Address of TB_NOW_LO (Table 2.5). -/
abbrev A_TB_NOW_LO : Nat := 0x40010008
abbrev TB_NOW_LO_VALUE : Field := ⟨0x40010008, 0, 32⟩
/-- Address of TB_NOW_HI (Table 2.5). -/
abbrev A_TB_NOW_HI : Nat := 0x4001000c
abbrev TB_NOW_HI_VALUE : Field := ⟨0x4001000c, 0, 32⟩
/-- Address of TB_SLOW_HI (Table 2.6). -/
abbrev A_TB_SLOW_HI : Nat := 0x40010014
abbrev TB_SLOW_HI_VALUE : Field := ⟨0x40010014, 0, 16⟩
/-- Address of TB_SLOW_LO (Table 2.6). -/
abbrev A_TB_SLOW_LO : Nat := 0x40010010
abbrev TB_SLOW_LO_VALUE : Field := ⟨0x40010010, 0, 32⟩
/-- Address of TB_RATIO (Table 2.7). -/
abbrev A_TB_RATIO : Nat := 0x40010018
abbrev TB_RATIO_VALUE : Field := ⟨0x40010018, 0, 32⟩
/-- Address of TB_CATCH_FRAC (Table 2.7). -/
abbrev A_TB_CATCH_FRAC : Nat := 0x4001001c
abbrev TB_CATCH_FRAC_FRAC : Field := ⟨0x4001001c, 0, 12⟩
/-- Address of TB_CAL_CTL (Table 2.8). -/
abbrev A_TB_CAL_CTL : Nat := 0x40010020
abbrev TB_CAL_CTL_FILT : Field := ⟨0x40010020, 1, 3⟩
abbrev TB_CAL_CTL_EN : Field := ⟨0x40010020, 0, 1⟩
/-- Address of TB_CATCH_SLOW (Table 2.8). -/
abbrev A_TB_CATCH_SLOW : Nat := 0x40010024
abbrev TB_CATCH_SLOW_VALUE : Field := ⟨0x40010024, 0, 32⟩
/-- Address of TB_DTIME_LO (Table 2.9). -/
abbrev A_TB_DTIME_LO : Nat := 0x40010030
abbrev TB_DTIME_LO_VALUE : Field := ⟨0x40010030, 0, 32⟩
/-- Address of TB_DTIME_HI (Table 2.9). -/
abbrev A_TB_DTIME_HI : Nat := 0x40010034
abbrev TB_DTIME_HI_VALUE : Field := ⟨0x40010034, 0, 32⟩
/-- Address of TB_DRATE (Table 2.9). -/
abbrev A_TB_DRATE : Nat := 0x40010038
abbrev TB_DRATE_RATE : Field := ⟨0x40010038, 0, 32⟩
/-- Address of TB_DISC_CTL (Table 2.10). -/
abbrev A_TB_DISC_CTL : Nat := 0x4001003c
abbrev TB_DISC_CTL_GAIN : Field := ⟨0x4001003c, 16, 4⟩
abbrev TB_DISC_CTL_STEP_THR : Field := ⟨0x4001003c, 0, 16⟩
/-- Address of TB_DISC_STAT (Table 2.11). -/
abbrev A_TB_DISC_STAT : Nat := 0x40010040
abbrev TB_DISC_STAT_DEPTH : Field := ⟨0x40010040, 28, 4⟩
abbrev TB_DISC_STAT_ACQ : Field := ⟨0x40010040, 27, 1⟩
abbrev TB_DISC_STAT_MASTER : Field := ⟨0x40010040, 26, 1⟩
abbrev TB_DISC_STAT_PARENT : Field := ⟨0x40010040, 17, 9⟩
abbrev TB_DISC_STAT_NBCN : Field := ⟨0x40010040, 0, 16⟩
/-- Address of TB_DISC_ERR (Table 2.11). -/
abbrev A_TB_DISC_ERR : Nat := 0x40010044
abbrev TB_DISC_ERR_ERR : Field := ⟨0x40010044, 0, 32⟩
/-- Address of TB_GD_TRIM (Table 2.12). -/
abbrev A_TB_GD_TRIM : Nat := 0x40010048
abbrev TB_GD_TRIM_BOARD : Field := ⟨0x40010048, 16, 16⟩
abbrev TB_GD_TRIM_SILICON : Field := ⟨0x40010048, 0, 16⟩
/-- Address of TB_INT_STAT (Table 2.12). -/
abbrev A_TB_INT_STAT : Nat := 0x4001004c
abbrev TB_INT_STAT_RATIO_RANGE : Field := ⟨0x4001004c, 13, 1⟩
abbrev TB_INT_STAT_SLOW_FAIL : Field := ⟨0x4001004c, 12, 1⟩
abbrev TB_INT_STAT_CAL_DONE : Field := ⟨0x4001004c, 11, 1⟩
abbrev TB_INT_STAT_ACQ : Field := ⟨0x4001004c, 10, 1⟩
abbrev TB_INT_STAT_STEP : Field := ⟨0x4001004c, 9, 1⟩
abbrev TB_INT_STAT_CMP : Field := ⟨0x4001004c, 0, 8⟩
/-- Address of TB_INT_EN (Table 2.12). -/
abbrev A_TB_INT_EN : Nat := 0x40010050
abbrev TB_INT_EN_EN : Field := ⟨0x40010050, 0, 32⟩
/-- Address of TB_CMPn_CTL (Table 2.13). -/
abbrev A_TB_CMP_CTL (n : Nat) : Nat := 0x40010100+n*32
abbrev TB_CMP_CTL_SKIP (n : Nat) : Field := ⟨0x40010100+n*32, 8, 4⟩
abbrev TB_CMP_CTL_WR_ARMED (n : Nat) : Field := ⟨0x40010100+n*32, 7, 1⟩
abbrev TB_CMP_CTL_DISARM_LATE (n : Nat) : Field := ⟨0x40010100+n*32, 6, 1⟩
abbrev TB_CMP_CTL_MISSED_IN_SLEEP (n : Nat) : Field := ⟨0x40010100+n*32, 5, 1⟩
abbrev TB_CMP_CTL_LATE (n : Nat) : Field := ⟨0x40010100+n*32, 4, 1⟩
abbrev TB_CMP_CTL_WAKE (n : Nat) : Field := ⟨0x40010100+n*32, 3, 1⟩
abbrev TB_CMP_CTL_SEL (n : Nat) : Field := ⟨0x40010100+n*32, 2, 1⟩
abbrev TB_CMP_CTL_PER (n : Nat) : Field := ⟨0x40010100+n*32, 1, 1⟩
abbrev TB_CMP_CTL_ARMED (n : Nat) : Field := ⟨0x40010100+n*32, 0, 1⟩
/-- Address of TB_CMPn_TGT_LO (Table 2.13). -/
abbrev A_TB_CMP_TGT_LO (n : Nat) : Nat := 0x40010104+n*32
abbrev TB_CMP_TGT_LO_TGT (n : Nat) : Field := ⟨0x40010104+n*32, 0, 32⟩
/-- Address of TB_CMPn_TGT_HI (Table 2.13). -/
abbrev A_TB_CMP_TGT_HI (n : Nat) : Nat := 0x40010108+n*32
abbrev TB_CMP_TGT_HI_TGT (n : Nat) : Field := ⟨0x40010108+n*32, 0, 32⟩
/-- Address of TB_CMPn_PERIOD (Table 2.13). -/
abbrev A_TB_CMP_PERIOD (n : Nat) : Nat := 0x4001010c+n*32
abbrev TB_CMP_PERIOD_PERIOD (n : Nat) : Field := ⟨0x4001010c+n*32, 0, 32⟩
/-- Address of TB_CMPn_LATE (Table 2.13). -/
abbrev A_TB_CMP_LATE (n : Nat) : Nat := 0x40010110+n*32
abbrev TB_CMP_LATE_LATE (n : Nat) : Field := ⟨0x40010110+n*32, 0, 32⟩
/-- Address of TB_RXTSn_LO (Table 2.14). -/
abbrev A_TB_RXTS_LO (n : Nat) : Nat := 0x40010200+n*16
abbrev TB_RXTS_LO_TS (n : Nat) : Field := ⟨0x40010200+n*16, 0, 32⟩
/-- Address of TB_RXTSn_HI (Table 2.14). -/
abbrev A_TB_RXTS_HI (n : Nat) : Nat := 0x40010204+n*16
abbrev TB_RXTS_HI_TS (n : Nat) : Field := ⟨0x40010204+n*16, 0, 32⟩
/-- Address of TB_RXTSn_INFO (Table 2.14). -/
abbrev A_TB_RXTS_INFO (n : Nat) : Nat := 0x40010208+n*16
abbrev TB_RXTS_INFO_SEQ (n : Nat) : Field := ⟨0x40010208+n*16, 16, 16⟩
abbrev TB_RXTS_INFO_MODE (n : Nat) : Field := ⟨0x40010208+n*16, 4, 4⟩
abbrev TB_RXTS_INFO_CHAIN (n : Nat) : Field := ⟨0x40010208+n*16, 1, 1⟩
abbrev TB_RXTS_INFO_VALID (n : Nat) : Field := ⟨0x40010208+n*16, 0, 1⟩
/-- Address of AC_CTL (Table 3.4). -/
abbrev A_AC_CTL : Nat := 0x40040000
abbrev AC_CTL_EN_ACK : Field := ⟨0x40040000, 1, 1⟩
abbrev AC_CTL_EN : Field := ⟨0x40040000, 0, 1⟩
/-- Address of AC_STATUS (Table 3.5). -/
abbrev A_AC_STATUS : Nat := 0x40040004
abbrev AC_STATUS_BUSY : Field := ⟨0x40040004, 8, 8⟩
abbrev AC_STATUS_OWNED : Field := ⟨0x40040004, 0, 8⟩
/-- Address of AC_INT_STAT (Table 3.6). -/
abbrev A_AC_INT_STAT : Nat := 0x40040008
abbrev AC_INT_STAT_BADCMD : Field := ⟨0x40040008, 17, 1⟩
abbrev AC_INT_STAT_FOREIGN : Field := ⟨0x40040008, 16, 1⟩
abbrev AC_INT_STAT_FAIL : Field := ⟨0x40040008, 8, 8⟩
abbrev AC_INT_STAT_DONE : Field := ⟨0x40040008, 0, 8⟩
/-- Address of AC_INT_EN (Table 3.6). -/
abbrev A_AC_INT_EN : Nat := 0x4004000c
abbrev AC_INT_EN_EN : Field := ⟨0x4004000c, 0, 32⟩
/-- Address of AC_Gn_CFG (Table 3.7). -/
abbrev A_AC_G_CFG (n : Nat) : Nat := 0x40040100+n*64
abbrev AC_G_CFG_NS_OK (n : Nat) : Field := ⟨0x40040100+n*64, 4, 1⟩
abbrev AC_G_CFG_CORES (n : Nat) : Field := ⟨0x40040100+n*64, 0, 4⟩
/-- Address of AC_Gn_CMD (Table 3.8). -/
abbrev A_AC_G_CMD (n : Nat) : Nat := 0x40040104+n*64
abbrev AC_G_CMD_SEL (n : Nat) : Field := ⟨0x40040104+n*64, 8, 1⟩
abbrev AC_G_CMD_CMD (n : Nat) : Field := ⟨0x40040104+n*64, 0, 3⟩
/-- Address of AC_Gn_STAT (Table 3.9). -/
abbrev A_AC_G_STAT (n : Nat) : Nat := 0x40040108+n*64
abbrev AC_G_STAT_STATE (n : Nat) : Field := ⟨0x40040108+n*64, 28, 4⟩
abbrev AC_G_STAT_REASON (n : Nat) : Field := ⟨0x40040108+n*64, 24, 4⟩
abbrev AC_G_STAT_ABORT_LATE (n : Nat) : Field := ⟨0x40040108+n*64, 23, 1⟩
abbrev AC_G_STAT_LATE (n : Nat) : Field := ⟨0x40040108+n*64, 22, 1⟩
abbrev AC_G_STAT_SEL (n : Nat) : Field := ⟨0x40040108+n*64, 21, 1⟩
abbrev AC_G_STAT_ATTR (n : Nat) : Field := ⟨0x40040108+n*64, 20, 1⟩
abbrev AC_G_STAT_OWNER (n : Nat) : Field := ⟨0x40040108+n*64, 18, 2⟩
abbrev AC_G_STAT_IDX_VALID (n : Nat) : Field := ⟨0x40040108+n*64, 17, 1⟩
abbrev AC_G_STAT_FAIL_IDX (n : Nat) : Field := ⟨0x40040108+n*64, 10, 6⟩
abbrev AC_G_STAT_COUNT (n : Nat) : Field := ⟨0x40040108+n*64, 0, 7⟩
/-- Address of AC_Gn_SADDR (Table 3.10). -/
abbrev A_AC_G_SADDR (n : Nat) : Nat := 0x4004010c+n*64
abbrev AC_G_SADDR_ADDR (n : Nat) : Field := ⟨0x4004010c+n*64, 2, 30⟩
abbrev AC_G_SADDR_INC (n : Nat) : Field := ⟨0x4004010c+n*64, 0, 1⟩
/-- Address of AC_Gn_SMASK (Table 3.10). -/
abbrev A_AC_G_SMASK (n : Nat) : Nat := 0x40040110+n*64
abbrev AC_G_SMASK_MASK (n : Nat) : Field := ⟨0x40040110+n*64, 0, 32⟩
/-- Address of AC_Gn_SDATA (Table 3.10). -/
abbrev A_AC_G_SDATA (n : Nat) : Nat := 0x40040114+n*64
abbrev AC_G_SDATA_DATA (n : Nat) : Field := ⟨0x40040114+n*64, 0, 32⟩
/-- Address of AC_Gn_TGT_LO (Table 3.11). -/
abbrev A_AC_G_TGT_LO (n : Nat) : Nat := 0x40040118+n*64
abbrev AC_G_TGT_LO_TGT (n : Nat) : Field := ⟨0x40040118+n*64, 0, 32⟩
/-- Address of AC_Gn_TGT_HI (Table 3.11). -/
abbrev A_AC_G_TGT_HI (n : Nat) : Nat := 0x4004011c+n*64
abbrev AC_G_TGT_HI_TGT (n : Nat) : Field := ⟨0x4004011c+n*64, 0, 32⟩
/-- Address of AC_Gn_CPT_LO (Table 3.11). -/
abbrev A_AC_G_CPT_LO (n : Nat) : Nat := 0x40040120+n*64
abbrev AC_G_CPT_LO_CPT (n : Nat) : Field := ⟨0x40040120+n*64, 0, 32⟩
/-- Address of AC_Gn_CPT_HI (Table 3.11). -/
abbrev A_AC_G_CPT_HI (n : Nat) : Nat := 0x40040124+n*64
abbrev AC_G_CPT_HI_CPT (n : Nat) : Field := ⟨0x40040124+n*64, 0, 32⟩
/-- Address of AC_Gn_LATE (Table 3.11). -/
abbrev A_AC_G_LATE (n : Nat) : Nat := 0x40040128+n*64
abbrev AC_G_LATE_LATE (n : Nat) : Field := ⟨0x40040128+n*64, 0, 32⟩
/-- Address of FE_CTL (Table 4.6). -/
abbrev A_FE_CTL : Nat := 0x40050000
abbrev FE_CTL_EN_ACK : Field := ⟨0x40050000, 6, 1⟩
abbrev FE_CTL_HP_OK : Field := ⟨0x40050000, 5, 1⟩
abbrev FE_CTL_SWDIV : Field := ⟨0x40050000, 4, 1⟩
abbrev FE_CTL_CHB_EN : Field := ⟨0x40050000, 3, 1⟩
abbrev FE_CTL_CHA_EN : Field := ⟨0x40050000, 2, 1⟩
abbrev FE_CTL_EN : Field := ⟨0x40050000, 0, 1⟩
/-- Address of FE_WIN_CTL (Table 4.7). -/
abbrev A_FE_WIN_CTL : Nat := 0x40050010
abbrev FE_WIN_CTL_FREQ : Field := ⟨0x40050010, 0, 24⟩
/-- Address of FE_RT_STAT (Table 4.7). -/
abbrev A_FE_RT_STAT : Nat := 0x40050014
abbrev FE_RT_STAT_BUSY : Field := ⟨0x40050014, 31, 1⟩
abbrev FE_RT_STAT_RESTART : Field := ⟨0x40050014, 30, 1⟩
abbrev FE_RT_STAT_DUR : Field := ⟨0x40050014, 0, 16⟩
/-- Address of FE_TX_OFS (Table 4.7). -/
abbrev A_FE_TX_OFS : Nat := 0x40050018
abbrev FE_TX_OFS_OFS : Field := ⟨0x40050018, 0, 16⟩
/-- Address of FE_TXPk (Table 4.8). -/
abbrev A_FE_TXP (n : Nat) : Nat := 0x40050020+n*4
abbrev FE_TXP_RAMP (n : Nat) : Field := ⟨0x40050020+n*4, 9, 2⟩
abbrev FE_TXP_OUT (n : Nat) : Field := ⟨0x40050020+n*4, 8, 1⟩
abbrev FE_TXP_LEVEL (n : Nat) : Field := ⟨0x40050020+n*4, 0, 5⟩
/-- Address of FE_ASW (Table 4.9). -/
abbrev A_FE_ASW : Nat := 0x40050040
abbrev FE_ASW_TXHP : Field := ⟨0x40050040, 8, 2⟩
abbrev FE_ASW_TXLP : Field := ⟨0x40050040, 6, 2⟩
abbrev FE_ASW_RX1 : Field := ⟨0x40050040, 4, 2⟩
abbrev FE_ASW_RX0 : Field := ⟨0x40050040, 2, 2⟩
abbrev FE_ASW_SLEEP : Field := ⟨0x40050040, 0, 2⟩
/-- Address of FE_CAL_CMD (Table 4.10). -/
abbrev A_FE_CAL_CMD : Nat := 0x40050050
abbrev FE_CAL_CMD_RUN : Field := ⟨0x40050050, 0, 5⟩
/-- Address of FE_CAL_CTL (Table 4.10). -/
abbrev A_FE_CAL_CTL : Nat := 0x40050054
abbrev FE_CAL_CTL_FORCE_T : Field := ⟨0x40050054, 0, 8⟩
/-- Address of FE_CAL_STAT (Table 4.10). -/
abbrev A_FE_CAL_STAT : Nat := 0x40050058
abbrev FE_CAL_STAT_BUSY : Field := ⟨0x40050058, 31, 1⟩
abbrev FE_CAL_STAT_TEMP_DUE : Field := ⟨0x40050058, 30, 1⟩
abbrev FE_CAL_STAT_SYN_FAIL : Field := ⟨0x40050058, 29, 1⟩
abbrev FE_CAL_STAT_VALID : Field := ⟨0x40050058, 16, 5⟩
abbrev FE_CAL_STAT_LAST_T : Field := ⟨0x40050058, 0, 16⟩
/-- Address of FE_SENSE_CTL (Table 4.11). -/
abbrev A_FE_SENSE_CTL : Nat := 0x40050060
abbrev FE_SENSE_CTL_NOW : Field := ⟨0x40050060, 31, 1⟩
abbrev FE_SENSE_CTL_PERIOD : Field := ⟨0x40050060, 0, 16⟩
/-- Address of FE_TEMP (Table 4.11). -/
abbrev A_FE_TEMP : Nat := 0x40050064
abbrev FE_TEMP_VALID : Field := ⟨0x40050064, 31, 1⟩
abbrev FE_TEMP_TEMP : Field := ⟨0x40050064, 0, 16⟩
/-- Address of FE_VBAT (Table 4.11). -/
abbrev A_FE_VBAT : Nat := 0x40050068
abbrev FE_VBAT_VALID : Field := ⟨0x40050068, 31, 1⟩
abbrev FE_VBAT_MV : Field := ⟨0x40050068, 0, 13⟩
/-- Address of FE_CHSTAT (Table 4.11). -/
abbrev A_FE_CHSTAT : Nat := 0x4005006c
abbrev FE_CHSTAT_GAIN_B : Field := ⟨0x4005006c, 8, 3⟩
abbrev FE_CHSTAT_GAIN_A : Field := ⟨0x4005006c, 0, 3⟩
/-- Address of FE_SPUR (Table 4.11). -/
abbrev A_FE_SPUR : Nat := 0x40050070
abbrev FE_SPUR_BINS : Field := ⟨0x40050070, 0, 32⟩
/-- Address of FE_INT_STAT (Table 4.11). -/
abbrev A_FE_INT_STAT : Nat := 0x40050080
abbrev FE_INT_STAT_PA_SAT : Field := ⟨0x40050080, 7, 1⟩
abbrev FE_INT_STAT_SWDIV_MULTI : Field := ⟨0x40050080, 6, 1⟩
abbrev FE_INT_STAT_TX_BUSY_WR : Field := ⟨0x40050080, 5, 1⟩
abbrev FE_INT_STAT_RANGE : Field := ⟨0x40050080, 4, 1⟩
abbrev FE_INT_STAT_UNLOCK : Field := ⟨0x40050080, 3, 1⟩
abbrev FE_INT_STAT_TEMP_DUE : Field := ⟨0x40050080, 2, 1⟩
abbrev FE_INT_STAT_CAL_DONE : Field := ⟨0x40050080, 1, 1⟩
abbrev FE_INT_STAT_RETUNE : Field := ⟨0x40050080, 0, 1⟩
/-- Address of FE_INT_EN (Table 4.11). -/
abbrev A_FE_INT_EN : Nat := 0x40050084
abbrev FE_INT_EN_EN : Field := ⟨0x40050084, 0, 32⟩
/-- Address of FE_LRPTn_FRM (Table 4.12). -/
abbrev A_FE_LRPT_FRM (n : Nat) : Nat := 0x40050100+n*8
abbrev FE_LRPT_FRM_LQI (n : Nat) : Field := ⟨0x40050100+n*8, 24, 8⟩
abbrev FE_LRPT_FRM_CHAIN (n : Nat) : Field := ⟨0x40050100+n*8, 16, 1⟩
abbrev FE_LRPT_FRM_RSSI (n : Nat) : Field := ⟨0x40050100+n*8, 0, 16⟩
/-- Address of FE_LRPTn_NOW (Table 4.12). -/
abbrev A_FE_LRPT_NOW (n : Nat) : Nat := 0x40050104+n*8
abbrev FE_LRPT_NOW_RSSI (n : Nat) : Field := ⟨0x40050104+n*8, 0, 16⟩
/-- Address of CZ_CTL (Table 5.10). -/
abbrev A_CZ_CTL : Nat := 0x40060000
abbrev CZ_CTL_EN_ACK : Field := ⟨0x40060000, 2, 1⟩
abbrev CZ_CTL_PATH : Field := ⟨0x40060000, 1, 1⟩
abbrev CZ_CTL_EN : Field := ⟨0x40060000, 0, 1⟩
/-- Address of CZ_STATUS (Table 5.11). -/
abbrev A_CZ_STATUS : Nat := 0x40060004
abbrev CZ_STATUS_FAILED : Field := ⟨0x40060004, 16, 16⟩
abbrev CZ_STATUS_ACTIVE : Field := ⟨0x40060004, 0, 16⟩
/-- Address of CZ_NARROW (Table 5.11). -/
abbrev A_CZ_NARROW : Nat := 0x40060008
abbrev CZ_NARROW_BW : Field := ⟨0x40060008, 16, 1⟩
abbrev CZ_NARROW_OFS : Field := ⟨0x40060008, 0, 16⟩
/-- Address of CZ_SELF_CTL (Table 5.12). -/
abbrev A_CZ_SELF_CTL : Nat := 0x4006000c
abbrev CZ_SELF_CTL_SPARE : Field := ⟨0x4006000c, 9, 1⟩
abbrev CZ_SELF_CTL_EN : Field := ⟨0x4006000c, 8, 1⟩
abbrev CZ_SELF_CTL_PERIOD : Field := ⟨0x4006000c, 0, 8⟩
/-- Address of CZ_FAIL_LOG (Table 5.13). -/
abbrev A_CZ_FAIL_LOG : Nat := 0x40060010
abbrev CZ_FAIL_LOG_VALID : Field := ⟨0x40060010, 10, 1⟩
abbrev CZ_FAIL_LOG_CAUSE : Field := ⟨0x40060010, 9, 1⟩
abbrev CZ_FAIL_LOG_SPARED : Field := ⟨0x40060010, 8, 1⟩
abbrev CZ_FAIL_LOG_SPARE_LANE : Field := ⟨0x40060010, 4, 4⟩
abbrev CZ_FAIL_LOG_LANE : Field := ⟨0x40060010, 0, 4⟩
/-- Address of CZ_INT_STAT (Table 5.14). -/
abbrev A_CZ_INT_STAT : Nat := 0x40060020
abbrev CZ_INT_STAT_BSC : Field := ⟨0x40060020, 5, 1⟩
abbrev CZ_INT_STAT_NOSPARE : Field := ⟨0x40060020, 4, 1⟩
abbrev CZ_INT_STAT_LANE_FAIL : Field := ⟨0x40060020, 3, 1⟩
abbrev CZ_INT_STAT_FAILED_WR : Field := ⟨0x40060020, 2, 1⟩
abbrev CZ_INT_STAT_RANGE : Field := ⟨0x40060020, 1, 1⟩
abbrev CZ_INT_STAT_BLANK : Field := ⟨0x40060020, 0, 1⟩
/-- Address of CZ_INT_EN (Table 5.14). -/
abbrev A_CZ_INT_EN : Nat := 0x40060024
abbrev CZ_INT_EN_EN : Field := ⟨0x40060024, 0, 32⟩
/-- Address of CZ_LANEn_CFG (Table 5.15). -/
abbrev A_CZ_LANE_CFG (n : Nat) : Nat := 0x40060100+n*256
abbrev CZ_LANE_CFG_EN (n : Nat) : Field := ⟨0x40060100+n*256, 31, 1⟩
abbrev CZ_LANE_CFG_BSC (n : Nat) : Field := ⟨0x40060100+n*256, 30, 1⟩
abbrev CZ_LANE_CFG_DIV (n : Nat) : Field := ⟨0x40060100+n*256, 22, 2⟩
abbrev CZ_LANE_CFG_SFD_ERR (n : Nat) : Field := ⟨0x40060100+n*256, 20, 2⟩
abbrev CZ_LANE_CFG_PDT (n : Nat) : Field := ⟨0x40060100+n*256, 16, 4⟩
abbrev CZ_LANE_CFG_MODE (n : Nat) : Field := ⟨0x40060100+n*256, 8, 4⟩
abbrev CZ_LANE_CFG_BIN (n : Nat) : Field := ⟨0x40060100+n*256, 0, 6⟩
/-- Address of CZ_LANEn_DCFG (Table 5.16). -/
abbrev A_CZ_LANE_DCFG (n : Nat) : Nat := 0x40060104+n*256
abbrev CZ_LANE_DCFG_STO (n : Nat) : Field := ⟨0x40060104+n*256, 24, 8⟩
abbrev CZ_LANE_DCFG_DSPAN (n : Nat) : Field := ⟨0x40060104+n*256, 8, 2⟩
abbrev CZ_LANE_DCFG_DHYST (n : Nat) : Field := ⟨0x40060104+n*256, 0, 4⟩
/-- Address of CZ_LANEn_CMD (Table 5.17). -/
abbrev A_CZ_LANE_CMD (n : Nat) : Nat := 0x40060108+n*256
abbrev CZ_LANE_CMD_DISARM (n : Nat) : Field := ⟨0x40060108+n*256, 1, 1⟩
abbrev CZ_LANE_CMD_ARM (n : Nat) : Field := ⟨0x40060108+n*256, 0, 1⟩
/-- Address of CZ_LANEn_STAT (Table 5.17). -/
abbrev A_CZ_LANE_STAT (n : Nat) : Nat := 0x4006010c+n*256
abbrev CZ_LANE_STAT_STATE (n : Nat) : Field := ⟨0x4006010c+n*256, 28, 4⟩
abbrev CZ_LANE_STAT_CHAIN (n : Nat) : Field := ⟨0x4006010c+n*256, 27, 1⟩
abbrev CZ_LANE_STAT_ARMED_FW (n : Nat) : Field := ⟨0x4006010c+n*256, 26, 1⟩
/-- Address of CZ_LANEn_FRM (Table 5.18). -/
abbrev A_CZ_LANE_FRM (n : Nat) : Nat := 0x40060110+n*256
abbrev CZ_LANE_FRM_CFO (n : Nat) : Field := ⟨0x40060110+n*256, 16, 16⟩
abbrev CZ_LANE_FRM_LEN (n : Nat) : Field := ⟨0x40060110+n*256, 0, 11⟩
/-- Address of CZ_LANEn_DIVM (Table 5.18). -/
abbrev A_CZ_LANE_DIVM (n : Nat) : Nat := 0x40060114+n*256
abbrev CZ_LANE_DIVM_FIRST (n : Nat) : Field := ⟨0x40060114+n*256, 16, 1⟩
abbrev CZ_LANE_DIVM_MB (n : Nat) : Field := ⟨0x40060114+n*256, 8, 8⟩
abbrev CZ_LANE_DIVM_MA (n : Nat) : Field := ⟨0x40060114+n*256, 0, 8⟩
/-- Address of CZ_LANEn_CNT0 (Table 5.19). -/
abbrev A_CZ_LANE_CNT0 (n : Nat) : Nat := 0x40060118+n*256
abbrev CZ_LANE_CNT0_OK (n : Nat) : Field := ⟨0x40060118+n*256, 16, 16⟩
abbrev CZ_LANE_CNT0_FCS (n : Nat) : Field := ⟨0x40060118+n*256, 0, 16⟩
/-- Address of CZ_LANEn_CNT1 (Table 5.19). -/
abbrev A_CZ_LANE_CNT1 (n : Nat) : Nat := 0x4006011c+n*256
abbrev CZ_LANE_CNT1_HDR (n : Nat) : Field := ⟨0x4006011c+n*256, 16, 16⟩
abbrev CZ_LANE_CNT1_BLANKED (n : Nat) : Field := ⟨0x4006011c+n*256, 0, 16⟩
/-- Address of CZ_LANEn_CNT2 (Table 5.19). -/
abbrev A_CZ_LANE_CNT2 (n : Nat) : Nat := 0x40060120+n*256
abbrev CZ_LANE_CNT2_DROPPED (n : Nat) : Field := ⟨0x40060120+n*256, 16, 16⟩
abbrev CZ_LANE_CNT2_REFUSED (n : Nat) : Field := ⟨0x40060120+n*256, 0, 16⟩
/-- Address of CZ_BSC_CTL (Table 5.20). -/
abbrev A_CZ_BSC_CTL : Nat := 0x40060028
abbrev CZ_BSC_CTL_EN : Field := ⟨0x40060028, 31, 1⟩
abbrev CZ_BSC_CTL_SURVEY : Field := ⟨0x40060028, 24, 4⟩
abbrev CZ_BSC_CTL_HYST : Field := ⟨0x40060028, 16, 8⟩
abbrev CZ_BSC_CTL_LEAD : Field := ⟨0x40060028, 12, 4⟩
abbrev CZ_BSC_CTL_PERIOD : Field := ⟨0x40060028, 0, 8⟩
/-- Address of CZ_BSC_KEEP (Table 5.20). -/
abbrev A_CZ_BSC_KEEP : Nat := 0x4006002c
abbrev CZ_BSC_KEEP_KEEP : Field := ⟨0x4006002c, 0, 32⟩
/-- Address of CZ_BSC_SET (Table 5.20). -/
abbrev A_CZ_BSC_SET : Nat := 0x40060030
abbrev CZ_BSC_SET_SET : Field := ⟨0x40060030, 0, 32⟩
/-- Address of CZ_BSC_NEXT (Table 5.20). -/
abbrev A_CZ_BSC_NEXT : Nat := 0x40060034
abbrev CZ_BSC_NEXT_NEXT : Field := ⟨0x40060034, 0, 32⟩
/-- Address of CZ_BSC_EFF_LO (Table 5.20). -/
abbrev A_CZ_BSC_EFF_LO : Nat := 0x40060038
abbrev CZ_BSC_EFF_LO_EFF : Field := ⟨0x40060038, 0, 32⟩
/-- Address of CZ_BSC_EFF_HI (Table 5.20). -/
abbrev A_CZ_BSC_EFF_HI : Nat := 0x4006003c
abbrev CZ_BSC_EFF_HI_EFF : Field := ⟨0x4006003c, 0, 32⟩
/-- Address of CZ_BSC_STAT (Table 5.20). -/
abbrev A_CZ_BSC_STAT : Nat := 0x40060040
abbrev CZ_BSC_STAT_PEND : Field := ⟨0x40060040, 31, 1⟩
abbrev CZ_BSC_STAT_SURV : Field := ⟨0x40060040, 30, 1⟩
abbrev CZ_BSC_STAT_OUT : Field := ⟨0x40060040, 16, 6⟩
abbrev CZ_BSC_STAT_IN : Field := ⟨0x40060040, 8, 6⟩
abbrev CZ_BSC_STAT_SBIN : Field := ⟨0x40060040, 0, 6⟩
/-- Address of CZ_BSC_SEL (Table 5.20). -/
abbrev A_CZ_BSC_SEL : Nat := 0x40060044
abbrev CZ_BSC_SEL_BIN : Field := ⟨0x40060044, 0, 6⟩
/-- Address of CZ_BSC_COST (Table 5.20). -/
abbrev A_CZ_BSC_COST : Nat := 0x40060048
abbrev CZ_BSC_COST_LOSS : Field := ⟨0x40060048, 24, 8⟩
abbrev CZ_BSC_COST_VALID : Field := ⟨0x40060048, 23, 1⟩
abbrev CZ_BSC_COST_NF : Field := ⟨0x40060048, 0, 16⟩
/-- Address of CZ_BSC_CNT (Table 5.20). -/
abbrev A_CZ_BSC_CNT : Nat := 0x4006004c
abbrev CZ_BSC_CNT_SWAPS : Field := ⟨0x4006004c, 16, 16⟩
/-- Address of LS_CTL (Table 6.14). -/
abbrev A_LS_CTL : Nat := 0x40070000
abbrev LS_CTL_IMEM_LK : Field := ⟨0x40070000, 2, 1⟩
abbrev LS_CTL_EN_ACK : Field := ⟨0x40070000, 1, 1⟩
abbrev LS_CTL_EN : Field := ⟨0x40070000, 0, 1⟩
/-- Address of LS_STATUS (Table 6.14). -/
abbrev A_LS_STATUS : Nat := 0x40070004
abbrev LS_STATUS_ACK_OWED : Field := ⟨0x40070004, 16, 1⟩
abbrev LS_STATUS_STATE : Field := ⟨0x40070004, 0, 16⟩
/-- Address of LS_INT_STAT (Table 6.15). -/
abbrev A_LS_INT_STAT : Nat := 0x40070008
abbrev LS_INT_STAT_WR_RUN : Field := ⟨0x40070008, 21, 1⟩
abbrev LS_INT_STAT_FOREIGN : Field := ⟨0x40070008, 20, 1⟩
abbrev LS_INT_STAT_ACK_WITHHELD : Field := ⟨0x40070008, 19, 1⟩
abbrev LS_INT_STAT_ACK_SKIP : Field := ⟨0x40070008, 18, 1⟩
abbrev LS_INT_STAT_FH_MISMATCH : Field := ⟨0x40070008, 17, 1⟩
abbrev LS_INT_STAT_ROLLBACK : Field := ⟨0x40070008, 16, 1⟩
abbrev LS_INT_STAT_FAULT : Field := ⟨0x40070008, 12, 4⟩
abbrev LS_INT_STAT_HALT : Field := ⟨0x40070008, 8, 4⟩
abbrev LS_INT_STAT_SIG : Field := ⟨0x40070008, 0, 8⟩
/-- Address of LS_INT_EN (Table 6.15). -/
abbrev A_LS_INT_EN : Nat := 0x4007000c
abbrev LS_INT_EN_EN : Field := ⟨0x4007000c, 0, 32⟩
/-- Address of LS_ACK_CFG (Table 6.16). -/
abbrev A_LS_ACK_CFG : Nat := 0x40070010
abbrev LS_ACK_CFG_PMARGIN : Field := ⟨0x40070010, 16, 8⟩
abbrev LS_ACK_CFG_PRESET : Field := ⟨0x40070010, 0, 2⟩
/-- Address of LS_ACK_POL (Table 6.16). -/
abbrev A_LS_ACK_POL : Nat := 0x40070014
abbrev LS_ACK_POL_POL : Field := ⟨0x40070014, 0, 32⟩
/-- Address of LS_FILT_CFG (Table 6.17). -/
abbrev A_LS_FILT_CFG : Nat := 0x40070018
abbrev LS_FILT_CFG_PAN_ID : Field := ⟨0x40070018, 16, 16⟩
abbrev LS_FILT_CFG_PASS_OTHER : Field := ⟨0x40070018, 4, 1⟩
abbrev LS_FILT_CFG_PASS_OLD : Field := ⟨0x40070018, 3, 1⟩
abbrev LS_FILT_CFG_PROMISC : Field := ⟨0x40070018, 2, 1⟩
abbrev LS_FILT_CFG_COORD : Field := ⟨0x40070018, 1, 1⟩
/-- Address of LS_SHORT (Table 6.17). -/
abbrev A_LS_SHORT : Nat := 0x4007001c
abbrev LS_SHORT_NODE_ID : Field := ⟨0x4007001c, 0, 12⟩
/-- Address of LS_EUI_LO (Table 6.17). -/
abbrev A_LS_EUI_LO : Nat := 0x40070020
abbrev LS_EUI_LO_EUI : Field := ⟨0x40070020, 0, 32⟩
/-- Address of LS_EUI_HI (Table 6.17). -/
abbrev A_LS_EUI_HI : Nat := 0x40070024
abbrev LS_EUI_HI_EUI : Field := ⟨0x40070024, 0, 32⟩
/-- Address of LS_OUI (Table 6.17). -/
abbrev A_LS_OUI : Nat := 0x40070028
abbrev LS_OUI_OUI : Field := ⟨0x40070028, 0, 24⟩
/-- Address of LS_PAIR_STAT (Table 6.18). -/
abbrev A_LS_PAIR_STAT : Nat := 0x40070030
abbrev LS_PAIR_STAT_ROLLBACKS : Field := ⟨0x40070030, 16, 16⟩
abbrev LS_PAIR_STAT_FH : Field := ⟨0x40070030, 5, 1⟩
abbrev LS_PAIR_STAT_VALID : Field := ⟨0x40070030, 4, 1⟩
abbrev LS_PAIR_STAT_THREAD : Field := ⟨0x40070030, 0, 2⟩
/-- Address of LS_LMAP0 (Table 6.18). -/
abbrev A_LS_LMAP0 : Nat := 0x40070038
abbrev LS_LMAP0_MAP : Field := ⟨0x40070038, 0, 32⟩
/-- Address of LS_LMAP1 (Table 6.18). -/
abbrev A_LS_LMAP1 : Nat := 0x4007003c
abbrev LS_LMAP1_MAP : Field := ⟨0x4007003c, 0, 32⟩
/-- Address of LS_FH_CNT0 (Table 6.19). -/
abbrev A_LS_FH_CNT0 : Nat := 0x40070040
abbrev LS_FH_CNT0_ACK_SENT : Field := ⟨0x40070040, 16, 16⟩
abbrev LS_FH_CNT0_ACK_DEFERRED : Field := ⟨0x40070040, 0, 16⟩
/-- Address of LS_FH_CNT1 (Table 6.19). -/
abbrev A_LS_FH_CNT1 : Nat := 0x40070044
abbrev LS_FH_CNT1_ACK_SKIP : Field := ⟨0x40070044, 16, 16⟩
abbrev LS_FH_CNT1_ACK_WITHHELD : Field := ⟨0x40070044, 0, 16⟩
/-- Address of LS_FH_CNT2 (Table 6.19). -/
abbrev A_LS_FH_CNT2 : Nat := 0x40070048
abbrev LS_FH_CNT2_FILT_DROP : Field := ⟨0x40070048, 16, 16⟩
abbrev LS_FH_CNT2_PASSED : Field := ⟨0x40070048, 0, 16⟩
/-- Address of LS_FH_CNT3 (Table 6.19). -/
abbrev A_LS_FH_CNT3 : Nat := 0x4007004c
abbrev LS_FH_CNT3_SECLVL : Field := ⟨0x4007004c, 16, 16⟩
abbrev LS_FH_CNT3_ACK_STRAY : Field := ⟨0x4007004c, 0, 16⟩
/-- Address of LS_Tn_CMD (Table 6.20). -/
abbrev A_LS_T_CMD (n : Nat) : Nat := 0x40070100+n*128
abbrev LS_T_CMD_MAIL (n : Nat) : Field := ⟨0x40070100+n*128, 3, 1⟩
abbrev LS_T_CMD_ABORT_TX (n : Nat) : Field := ⟨0x40070100+n*128, 2, 1⟩
abbrev LS_T_CMD_HALT (n : Nat) : Field := ⟨0x40070100+n*128, 1, 1⟩
abbrev LS_T_CMD_START (n : Nat) : Field := ⟨0x40070100+n*128, 0, 1⟩
/-- Address of LS_Tn_PC (Table 6.20). -/
abbrev A_LS_T_PC (n : Nat) : Nat := 0x40070104+n*128
abbrev LS_T_PC_PC (n : Nat) : Field := ⟨0x40070104+n*128, 0, 13⟩
/-- Address of LS_Tn_CFG (Table 6.20). -/
abbrev A_LS_T_CFG (n : Nat) : Nat := 0x40070108+n*128
abbrev LS_T_CFG_NS_OK (n : Nat) : Field := ⟨0x40070108+n*128, 20, 1⟩
abbrev LS_T_CFG_CORES (n : Nat) : Field := ⟨0x40070108+n*128, 16, 4⟩
abbrev LS_T_CFG_TXTOL (n : Nat) : Field := ⟨0x40070108+n*128, 0, 16⟩
/-- Address of LS_Tn_STAT (Table 6.21). -/
abbrev A_LS_T_STAT (n : Nat) : Nat := 0x4007010c+n*128
abbrev LS_T_STAT_STATE (n : Nat) : Field := ⟨0x4007010c+n*128, 28, 4⟩
abbrev LS_T_STAT_CAUSE (n : Nat) : Field := ⟨0x4007010c+n*128, 24, 4⟩
abbrev LS_T_STAT_FLAGS (n : Nat) : Field := ⟨0x4007010c+n*128, 19, 5⟩
abbrev LS_T_STAT_DEPTH (n : Nat) : Field := ⟨0x4007010c+n*128, 17, 2⟩
abbrev LS_T_STAT_RADIO_ERR (n : Nat) : Field := ⟨0x4007010c+n*128, 16, 1⟩
abbrev LS_T_STAT_NB_RO (n : Nat) : Field := ⟨0x4007010c+n*128, 15, 1⟩
abbrev LS_T_STAT_CKPT_PC (n : Nat) : Field := ⟨0x4007010c+n*128, 0, 13⟩
/-- Address of LS_Tn_LATE (Table 6.22). -/
abbrev A_LS_T_LATE (n : Nat) : Nat := 0x40070110+n*128
abbrev LS_T_LATE_LATE (n : Nat) : Field := ⟨0x40070110+n*128, 0, 32⟩
/-- Address of LS_Tn_TXS (Table 6.22). -/
abbrev A_LS_T_TXS (n : Nat) : Nat := 0x40070114+n*128
abbrev LS_T_TXS_STATUS (n : Nat) : Field := ⟨0x40070114+n*128, 0, 32⟩
/-- Address of LS_Tn_PEND0 (Table 6.22). -/
abbrev A_LS_T_PEND0 (n : Nat) : Nat := 0x40070118+n*128
abbrev LS_T_PEND0_PRE (n : Nat) : Field := ⟨0x40070118+n*128, 16, 16⟩
abbrev LS_T_PEND0_FRAME (n : Nat) : Field := ⟨0x40070118+n*128, 0, 16⟩
/-- Address of LS_Tn_PEND1 (Table 6.22). -/
abbrev A_LS_T_PEND1 (n : Nat) : Nat := 0x4007011c+n*128
abbrev LS_T_PEND1_RETUNE (n : Nat) : Field := ⟨0x4007011c+n*128, 21, 1⟩
abbrev LS_T_PEND1_MAIL (n : Nat) : Field := ⟨0x4007011c+n*128, 20, 1⟩
abbrev LS_T_PEND1_EVT (n : Nat) : Field := ⟨0x4007011c+n*128, 16, 4⟩
abbrev LS_T_PEND1_WEND (n : Nat) : Field := ⟨0x4007011c+n*128, 0, 16⟩
/-- Address of LS_Tn_Sk (Table 6.22). -/
abbrev A_LS_T_S (n k : Nat) : Nat := 0x40070140+n*128+k*4
abbrev LS_T_S_VALUE (n k : Nat) : Field := ⟨0x40070140+n*128+k*4, 0, 32⟩
/-- Address of LS_BSET_CUR (Table 7.17). -/
abbrev A_LS_BSET_CUR : Nat := 0x40070464
abbrev LS_BSET_CUR_CUR : Field := ⟨0x40070464, 0, 32⟩
/-- Address of LS_BSET_NXT (Table 7.17). -/
abbrev A_LS_BSET_NXT : Nat := 0x40070468
abbrev LS_BSET_NXT_NXT : Field := ⟨0x40070468, 0, 32⟩
/-- Address of LS_BSET_EFF_LO (Table 7.17). -/
abbrev A_LS_BSET_EFF_LO : Nat := 0x4007046c
abbrev LS_BSET_EFF_LO_EFF : Field := ⟨0x4007046c, 0, 32⟩
/-- Address of LS_BSET_EFF_HI (Table 7.17). -/
abbrev A_LS_BSET_EFF_HI : Nat := 0x40070470
abbrev LS_BSET_EFF_HI_EFF : Field := ⟨0x40070470, 0, 32⟩
/-- Address of LS_BSET_STAT (Table 7.17). -/
abbrev A_LS_BSET_STAT : Nat := 0x40070474
abbrev LS_BSET_STAT_PEND : Field := ⟨0x40070474, 31, 1⟩
abbrev LS_BSET_STAT_VALID : Field := ⟨0x40070474, 30, 1⟩
/-- Address of LS_RDV_CFG (Table 7.11). -/
abbrev A_LS_RDV_CFG : Nat := 0x40070400
abbrev LS_RDV_CFG_SEG : Field := ⟨0x40070400, 22, 10⟩
abbrev LS_RDV_CFG_FILT : Field := ⟨0x40070400, 20, 2⟩
abbrev LS_RDV_CFG_LPMAX : Field := ⟨0x40070400, 16, 4⟩
abbrev LS_RDV_CFG_BMIN : Field := ⟨0x40070400, 0, 16⟩
/-- Address of LS_RDV_SEED (Table 7.11). -/
abbrev A_LS_RDV_SEED : Nat := 0x40070404
abbrev LS_RDV_SEED_RSEED : Field := ⟨0x40070404, 0, 18⟩
/-- Address of LS_RDV_INT_STAT (Table 7.12). -/
abbrev A_LS_RDV_INT_STAT : Nat := 0x40070408
abbrev LS_RDV_INT_STAT_BSET : Field := ⟨0x40070408, 16, 1⟩
abbrev LS_RDV_INT_STAT_BADCMD : Field := ⟨0x40070408, 15, 1⟩
abbrev LS_RDV_INT_STAT_RANGE : Field := ⟨0x40070408, 14, 1⟩
abbrev LS_RDV_INT_STAT_BCN_BLANK : Field := ⟨0x40070408, 13, 1⟩
abbrev LS_RDV_INT_STAT_HOLD_EXP : Field := ⟨0x40070408, 12, 1⟩
abbrev LS_RDV_INT_STAT_RESYNC : Field := ⟨0x40070408, 11, 1⟩
abbrev LS_RDV_INT_STAT_REPARENT : Field := ⟨0x40070408, 10, 1⟩
abbrev LS_RDV_INT_STAT_UMBER_EMPTY : Field := ⟨0x40070408, 9, 1⟩
abbrev LS_RDV_INT_STAT_AMBER : Field := ⟨0x40070408, 8, 1⟩
abbrev LS_RDV_INT_STAT_BCN_ALT : Field := ⟨0x40070408, 7, 1⟩
abbrev LS_RDV_INT_STAT_BCN_MISS : Field := ⟨0x40070408, 6, 1⟩
abbrev LS_RDV_INT_STAT_RESEED : Field := ⟨0x40070408, 5, 1⟩
abbrev LS_RDV_INT_STAT_FALLBACK : Field := ⟨0x40070408, 4, 1⟩
abbrev LS_RDV_INT_STAT_RETRY : Field := ⟨0x40070408, 3, 1⟩
abbrev LS_RDV_INT_STAT_WAKE_OVF : Field := ⟨0x40070408, 2, 1⟩
abbrev LS_RDV_INT_STAT_WAKE : Field := ⟨0x40070408, 1, 1⟩
abbrev LS_RDV_INT_STAT_SNF_DET : Field := ⟨0x40070408, 0, 1⟩
/-- Address of LS_RDV_INT_EN (Table 7.12). -/
abbrev A_LS_RDV_INT_EN : Nat := 0x4007040c
abbrev LS_RDV_INT_EN_EN : Field := ⟨0x4007040c, 0, 32⟩
/-- Address of LS_RDV_LAST (Table 7.12). -/
abbrev A_LS_RDV_LAST : Nat := 0x40070410
abbrev LS_RDV_LAST_RSTATE : Field := ⟨0x40070410, 12, 3⟩
abbrev LS_RDV_LAST_IDX : Field := ⟨0x40070410, 0, 9⟩
/-- Address of LS_SNF_CFG (Table 7.13). -/
abbrev A_LS_SNF_CFG : Nat := 0x40070420
abbrev LS_SNF_CFG_LMASK : Field := ⟨0x40070420, 16, 16⟩
abbrev LS_SNF_CFG_EXT : Field := ⟨0x40070420, 8, 8⟩
abbrev LS_SNF_CFG_LEN : Field := ⟨0x40070420, 0, 8⟩
/-- Address of LS_SNF_INT (Table 7.13). -/
abbrev A_LS_SNF_INT : Nat := 0x40070424
abbrev LS_SNF_INT_INT : Field := ⟨0x40070424, 0, 21⟩
/-- Address of LS_SNF_NEXT_LO (Table 7.13). -/
abbrev A_LS_SNF_NEXT_LO : Nat := 0x40070428
abbrev LS_SNF_NEXT_LO_NEXT : Field := ⟨0x40070428, 0, 32⟩
/-- Address of LS_SNF_NEXT_HI (Table 7.13). -/
abbrev A_LS_SNF_NEXT_HI : Nat := 0x4007042c
abbrev LS_SNF_NEXT_HI_NEXT : Field := ⟨0x4007042c, 0, 16⟩
/-- Address of LS_SNF_ED (Table 7.13). -/
abbrev A_LS_SNF_ED : Nat := 0x40070430
abbrev LS_SNF_ED_THR : Field := ⟨0x40070430, 0, 16⟩
/-- Address of LS_SNF_CNT0 (Table 7.13). -/
abbrev A_LS_SNF_CNT0 : Nat := 0x40070434
abbrev LS_SNF_CNT0_DET : Field := ⟨0x40070434, 16, 16⟩
abbrev LS_SNF_CNT0_ED : Field := ⟨0x40070434, 0, 16⟩
/-- Address of LS_SNF_CNT1 (Table 7.13). -/
abbrev A_LS_SNF_CNT1 : Nat := 0x40070438
abbrev LS_SNF_CNT1_SKIP : Field := ⟨0x40070438, 16, 16⟩
abbrev LS_SNF_CNT1_WAKE : Field := ⟨0x40070438, 0, 16⟩
/-- Address of LS_SNF_CNT2 (Table 7.13). -/
abbrev A_LS_SNF_CNT2 : Nat := 0x4007043c
abbrev LS_SNF_CNT2_WAKE_LOST : Field := ⟨0x4007043c, 16, 16⟩
abbrev LS_SNF_CNT2_WAKE_OVF : Field := ⟨0x4007043c, 0, 16⟩
/-- Address of LS_BCN_CFG (Table 7.14). -/
abbrev A_LS_BCN_CFG : Nat := 0x40070440
abbrev LS_BCN_CFG_EN : Field := ⟨0x40070440, 31, 1⟩
abbrev LS_BCN_CFG_PCHOICE : Field := ⟨0x40070440, 30, 1⟩
abbrev LS_BCN_CFG_EVERY : Field := ⟨0x40070440, 24, 4⟩
abbrev LS_BCN_CFG_LANE2 : Field := ⟨0x40070440, 20, 4⟩
abbrev LS_BCN_CFG_LANE : Field := ⟨0x40070440, 16, 4⟩
abbrev LS_BCN_CFG_ABIN : Field := ⟨0x40070440, 8, 6⟩
abbrev LS_BCN_CFG_BIN : Field := ⟨0x40070440, 0, 6⟩
/-- Address of LS_BCN_UMASK (Table 7.14). -/
abbrev A_LS_BCN_UMASK : Nat := 0x40070444
abbrev LS_BCN_UMASK_UMASK : Field := ⟨0x40070444, 0, 16⟩
/-- Address of LS_BCN_HOLD (Table 7.14). -/
abbrev A_LS_BCN_HOLD : Nat := 0x40070448
abbrev LS_BCN_HOLD_PHYST : Field := ⟨0x40070448, 24, 8⟩
abbrev LS_BCN_HOLD_LIMIT : Field := ⟨0x40070448, 0, 16⟩
/-- Address of LS_BCN_CMD (Table 7.14). -/
abbrev A_LS_BCN_CMD : Nat := 0x4007044c
abbrev LS_BCN_CMD_REPARENT : Field := ⟨0x4007044c, 31, 1⟩
abbrev LS_BCN_CMD_IDX : Field := ⟨0x4007044c, 0, 9⟩
/-- Address of LS_BCN_STAT (Table 7.15). -/
abbrev A_LS_BCN_STAT : Nat := 0x40070450
abbrev LS_BCN_STAT_MISS : Field := ⟨0x40070450, 30, 2⟩
abbrev LS_BCN_STAT_AMBER : Field := ⟨0x40070450, 29, 1⟩
abbrev LS_BCN_STAT_UMBER : Field := ⟨0x40070450, 28, 1⟩
abbrev LS_BCN_STAT_SUSP : Field := ⟨0x40070450, 27, 1⟩
abbrev LS_BCN_STAT_PSUSP : Field := ⟨0x40070450, 26, 1⟩
abbrev LS_BCN_STAT_ALT : Field := ⟨0x40070450, 25, 1⟩
abbrev LS_BCN_STAT_UGRP : Field := ⟨0x40070450, 20, 5⟩
abbrev LS_BCN_STAT_AMBER_S : Field := ⟨0x40070450, 0, 16⟩
/-- Address of LS_BCN_NEXT_LO (Table 7.15). -/
abbrev A_LS_BCN_NEXT_LO : Nat := 0x40070454
abbrev LS_BCN_NEXT_LO_NEXT : Field := ⟨0x40070454, 0, 32⟩
/-- Address of LS_BCN_NEXT_HI (Table 7.15). -/
abbrev A_LS_BCN_NEXT_HI : Nat := 0x40070458
abbrev LS_BCN_NEXT_HI_NEXT : Field := ⟨0x40070458, 0, 32⟩
/-- Address of LS_BCN_INFO (Table 7.15). -/
abbrev A_LS_BCN_INFO : Nat := 0x4007045c
abbrev LS_BCN_INFO_BINT : Field := ⟨0x4007045c, 28, 4⟩
abbrev LS_BCN_INFO_LASTEV : Field := ⟨0x4007045c, 18, 2⟩
abbrev LS_BCN_INFO_OLD : Field := ⟨0x4007045c, 9, 9⟩
abbrev LS_BCN_INFO_NEW : Field := ⟨0x4007045c, 0, 9⟩
/-- Address of LS_BCN_CNT (Table 7.15). -/
abbrev A_LS_BCN_CNT : Nat := 0x40070460
abbrev LS_BCN_CNT_HEARD : Field := ⟨0x40070460, 16, 16⟩
abbrev LS_BCN_CNT_MISSED : Field := ⟨0x40070460, 0, 16⟩
/-- Address of DC_CTL (Table 8.3). -/
abbrev A_DC_CTL : Nat := 0x400a0000
abbrev DC_CTL_PACE : Field := ⟨0x400a0000, 3, 1⟩
abbrev DC_CTL_STRICT : Field := ⟨0x400a0000, 2, 1⟩
abbrev DC_CTL_EN_ACK : Field := ⟨0x400a0000, 1, 1⟩
abbrev DC_CTL_EN : Field := ⟨0x400a0000, 0, 1⟩
/-- Address of DC_STATUS (Table 8.3). -/
abbrev A_DC_STATUS : Nat := 0x400a0004
abbrev DC_STATUS_WARN : Field := ⟨0x400a0004, 0, 8⟩
/-- Address of DC_INT_STAT (Table 8.3). -/
abbrev A_DC_INT_STAT : Nat := 0x400a0008
abbrev DC_INT_STAT_RANGE : Field := ⟨0x400a0008, 20, 1⟩
abbrev DC_INT_STAT_LBT_NOLANE : Field := ⟨0x400a0008, 19, 1⟩
abbrev DC_INT_STAT_LBT_BUSY : Field := ⟨0x400a0008, 18, 1⟩
abbrev DC_INT_STAT_UNMATCHED : Field := ⟨0x400a0008, 17, 1⟩
abbrev DC_INT_STAT_REFUSE : Field := ⟨0x400a0008, 8, 8⟩
abbrev DC_INT_STAT_WARN : Field := ⟨0x400a0008, 0, 8⟩
/-- Address of DC_INT_EN (Table 8.3). -/
abbrev A_DC_INT_EN : Nat := 0x400a000c
abbrev DC_INT_EN_EN : Field := ⟨0x400a000c, 0, 32⟩
/-- Address of DC_LBT_CFG (Table 8.4). -/
abbrev A_DC_LBT_CFG : Nat := 0x400a0010
abbrev DC_LBT_CFG_BOMAX : Field := ⟨0x400a0010, 28, 4⟩
abbrev DC_LBT_CFG_NTRY : Field := ⟨0x400a0010, 24, 4⟩
abbrev DC_LBT_CFG_LISTEN : Field := ⟨0x400a0010, 16, 8⟩
abbrev DC_LBT_CFG_THR : Field := ⟨0x400a0010, 0, 16⟩
/-- Address of DC_CNT (Table 8.5). -/
abbrev A_DC_CNT : Nat := 0x400a0014
abbrev DC_CNT_LBT_BUSY : Field := ⟨0x400a0014, 16, 16⟩
abbrev DC_CNT_ACK_REFUSED : Field := ⟨0x400a0014, 0, 16⟩
/-- Address of DC_CNT1 (Table 8.5). -/
abbrev A_DC_CNT1 : Nat := 0x400a0018
abbrev DC_CNT1_UNMATCHED : Field := ⟨0x400a0018, 16, 16⟩
/-- Address of DC_DWQ_SEL (Table 8.5). -/
abbrev A_DC_DWQ_SEL : Nat := 0x400a001c
abbrev DC_DWQ_SEL_REC : Field := ⟨0x400a001c, 8, 3⟩
abbrev DC_DWQ_SEL_CH : Field := ⟨0x400a001c, 0, 8⟩
/-- Address of DC_DWQ_VAL (Table 8.5). -/
abbrev A_DC_DWQ_VAL : Nat := 0x400a0020
abbrev DC_DWQ_VAL_USED : Field := ⟨0x400a0020, 0, 32⟩
/-- Address of DC_RECn_CFG (Table 8.6). -/
abbrev A_DC_REC_CFG (n : Nat) : Nat := 0x400a0100+n*32
abbrev DC_REC_CFG_EN (n : Nat) : Field := ⟨0x400a0100+n*32, 31, 1⟩
abbrev DC_REC_CFG_KIND (n : Nat) : Field := ⟨0x400a0100+n*32, 30, 1⟩
abbrev DC_REC_CFG_LBT (n : Nat) : Field := ⟨0x400a0100+n*32, 29, 1⟩
abbrev DC_REC_CFG_WARN (n : Nat) : Field := ⟨0x400a0100+n*32, 24, 4⟩
abbrev DC_REC_CFG_INIT (n : Nat) : Field := ⟨0x400a0100+n*32, 20, 4⟩
abbrev DC_REC_CFG_LIMIT (n : Nat) : Field := ⟨0x400a0100+n*32, 0, 17⟩
/-- Address of DC_RECn_LOW (Table 8.6). -/
abbrev A_DC_REC_LOW (n : Nat) : Nat := 0x400a0104+n*32
abbrev DC_REC_LOW_LOW (n : Nat) : Field := ⟨0x400a0104+n*32, 0, 24⟩
/-- Address of DC_RECn_HIGH (Table 8.6). -/
abbrev A_DC_REC_HIGH (n : Nat) : Nat := 0x400a0108+n*32
abbrev DC_REC_HIGH_HIGH (n : Nat) : Field := ⟨0x400a0108+n*32, 0, 24⟩
/-- Address of DC_RECn_PER (Table 8.6). -/
abbrev A_DC_REC_PER (n : Nat) : Nat := 0x400a010c+n*32
abbrev DC_REC_PER_SPACING (n : Nat) : Field := ⟨0x400a010c+n*32, 16, 16⟩
abbrev DC_REC_PER_WINDOW (n : Nat) : Field := ⟨0x400a010c+n*32, 0, 16⟩
/-- Address of DC_RECn_CMD (Table 8.6). -/
abbrev A_DC_REC_CMD (n : Nat) : Nat := 0x400a0110+n*32
abbrev DC_REC_CMD_PRESET (n : Nat) : Field := ⟨0x400a0110+n*32, 0, 4⟩
/-- Address of DC_RECn_USED_LO (Table 8.6). -/
abbrev A_DC_REC_USED_LO (n : Nat) : Nat := 0x400a0114+n*32
abbrev DC_REC_USED_LO_USED (n : Nat) : Field := ⟨0x400a0114+n*32, 0, 32⟩
/-- Address of DC_RECn_USED_HI (Table 8.6). -/
abbrev A_DC_REC_USED_HI (n : Nat) : Nat := 0x400a0118+n*32
abbrev DC_REC_USED_HI_USED (n : Nat) : Field := ⟨0x400a0118+n*32, 0, 32⟩
/-- Address of DC_RECn_CNT (Table 8.6). -/
abbrev A_DC_REC_CNT (n : Nat) : Nat := 0x400a011c+n*32
abbrev DC_REC_CNT_REFUSED (n : Nat) : Field := ⟨0x400a011c+n*32, 16, 16⟩
abbrev DC_REC_CNT_CHARGED (n : Nat) : Field := ⟨0x400a011c+n*32, 0, 16⟩
/-- Address of CX_CTL (Table 8.7). -/
abbrev A_CX_CTL : Nat := 0x40150000
abbrev CX_CTL_EN_ACK : Field := ⟨0x40150000, 2, 1⟩
abbrev CX_CTL_POL_GNT : Field := ⟨0x40150000, 1, 1⟩
abbrev CX_CTL_EN : Field := ⟨0x40150000, 0, 1⟩
/-- Address of CX_CFG (Table 8.7). -/
abbrev A_CX_CFG : Nat := 0x40150004
abbrev CX_CFG_ACKRX : Field := ⟨0x40150004, 31, 1⟩
abbrev CX_CFG_RXREQ : Field := ⟨0x40150004, 30, 1⟩
abbrev CX_CFG_WDRAW : Field := ⟨0x40150004, 29, 1⟩
abbrev CX_CFG_LEAD : Field := ⟨0x40150004, 16, 10⟩
abbrev CX_CFG_GSAMP : Field := ⟨0x40150004, 8, 8⟩
/-- Address of CX_PRI_MAP (Table 8.7). -/
abbrev A_CX_PRI_MAP : Nat := 0x40150008
abbrev CX_PRI_MAP_MAP : Field := ⟨0x40150008, 0, 8⟩
/-- Address of CX_INT_STAT (Table 8.7). -/
abbrev A_CX_INT_STAT : Nat := 0x4015000c
abbrev CX_INT_STAT_RANGE : Field := ⟨0x4015000c, 3, 1⟩
abbrev CX_INT_STAT_WITHDRAWN : Field := ⟨0x4015000c, 2, 1⟩
abbrev CX_INT_STAT_ACK_DENIED : Field := ⟨0x4015000c, 1, 1⟩
abbrev CX_INT_STAT_DENIED : Field := ⟨0x4015000c, 0, 1⟩
/-- Address of CX_INT_EN (Table 8.7). -/
abbrev A_CX_INT_EN : Nat := 0x40150010
abbrev CX_INT_EN_EN : Field := ⟨0x40150010, 0, 32⟩
/-- Address of CX_CNT0 (Table 8.7). -/
abbrev A_CX_CNT0 : Nat := 0x40150014
abbrev CX_CNT0_DENIED : Field := ⟨0x40150014, 16, 16⟩
abbrev CX_CNT0_WITHDRAWN : Field := ⟨0x40150014, 0, 16⟩
/-- Address of CX_CNT1 (Table 8.7). -/
abbrev A_CX_CNT1 : Nat := 0x40150018
abbrev CX_CNT1_GRANTED : Field := ⟨0x40150018, 16, 16⟩
abbrev CX_CNT1_ACK_DENIED : Field := ⟨0x40150018, 0, 16⟩
/-- Address of CX_STATUS (Table 8.7). -/
abbrev A_CX_STATUS : Nat := 0x4015001c
abbrev CX_STATUS_GNT : Field := ⟨0x4015001c, 2, 1⟩
abbrev CX_STATUS_PRI : Field := ⟨0x4015001c, 1, 1⟩
abbrev CX_STATUS_REQ : Field := ⟨0x4015001c, 0, 1⟩
/-- Address of NB_W0 (Table 9.1). -/
abbrev A_NB_W0 (n : Nat) : Nat := 0x40080000+n*64
abbrev NB_W0_VALID (n : Nat) : Field := ⟨0x40080000+n*64, 31, 1⟩
abbrev NB_W0_IHLUNO (n : Nat) : Field := ⟨0x40080000+n*64, 30, 1⟩
abbrev NB_W0_CHILD (n : Nat) : Field := ⟨0x40080000+n*64, 29, 1⟩
abbrev NB_W0_NOFWD (n : Nat) : Field := ⟨0x40080000+n*64, 28, 1⟩
abbrev NB_W0_LONG (n : Nat) : Field := ⟨0x40080000+n*64, 27, 1⟩
abbrev NB_W0_LDET (n : Nat) : Field := ⟨0x40080000+n*64, 26, 1⟩
abbrev NB_W0_NODE_ID (n : Nat) : Field := ⟨0x40080000+n*64, 0, 12⟩
/-- Address of NB_W1 (Table 9.1). -/
abbrev A_NB_W1 (n : Nat) : Nat := 0x40080004+n*64
abbrev NB_W1_EUI_LO (n : Nat) : Field := ⟨0x40080004+n*64, 0, 32⟩
/-- Address of NB_W2 (Table 9.1). -/
abbrev A_NB_W2 (n : Nat) : Nat := 0x40080008+n*64
abbrev NB_W2_EUI_HI (n : Nat) : Field := ⟨0x40080008+n*64, 0, 32⟩
/-- Address of NB_W3 (Table 9.1). -/
abbrev A_NB_W3 (n : Nat) : Nat := 0x4008000c+n*64
abbrev NB_W3_TXLVL (n : Nat) : Field := ⟨0x4008000c+n*64, 30, 2⟩
abbrev NB_W3_TXKS (n : Nat) : Field := ⟨0x4008000c+n*64, 24, 6⟩
abbrev NB_W3_TXKIM (n : Nat) : Field := ⟨0x4008000c+n*64, 23, 1⟩
abbrev NB_W3_RXKS (n : Nat) : Field := ⟨0x4008000c+n*64, 16, 6⟩
abbrev NB_W3_TXKIDX (n : Nat) : Field := ⟨0x4008000c+n*64, 8, 8⟩
abbrev NB_W3_RXKIDX (n : Nat) : Field := ⟨0x4008000c+n*64, 0, 8⟩
/-- Address of NB_W4 (Table 9.1). -/
abbrev A_NB_W4 (n : Nat) : Nat := 0x40080010+n*64
abbrev NB_W4_FC_NEXT (n : Nat) : Field := ⟨0x40080010+n*64, 0, 32⟩
/-- Address of NB_W5 (Table 9.1). -/
abbrev A_NB_W5 (n : Nat) : Nat := 0x40080014+n*64
abbrev NB_W5_LSEQ (n : Nat) : Field := ⟨0x40080014+n*64, 24, 8⟩
abbrev NB_W5_LSV (n : Nat) : Field := ⟨0x40080014+n*64, 23, 1⟩
abbrev NB_W5_PMEAS (n : Nat) : Field := ⟨0x40080014+n*64, 16, 1⟩
abbrev NB_W5_PROP (n : Nat) : Field := ⟨0x40080014+n*64, 0, 16⟩
/-- Address of NB_W6 (Table 9.1). -/
abbrev A_NB_W6 (n : Nat) : Nat := 0x40080018+n*64
abbrev NB_W6_RSTATE (n : Nat) : Field := ⟨0x40080018+n*64, 29, 3⟩
abbrev NB_W6_NSYNC (n : Nat) : Field := ⟨0x40080018+n*64, 21, 8⟩
abbrev NB_W6_SNIFF (n : Nat) : Field := ⟨0x40080018+n*64, 0, 21⟩
/-- Address of NB_W7 (Table 9.1). -/
abbrev A_NB_W7 (n : Nat) : Nat := 0x4008001c+n*64
abbrev NB_W7_ANCHOR_LO (n : Nat) : Field := ⟨0x4008001c+n*64, 0, 32⟩
/-- Address of NB_W8 (Table 9.1). -/
abbrev A_NB_W8 (n : Nat) : Nat := 0x40080020+n*64
abbrev NB_W8_ANCHOR_HI (n : Nat) : Field := ⟨0x40080020+n*64, 0, 32⟩
/-- Address of NB_W9 (Table 9.1). -/
abbrev A_NB_W9 (n : Nat) : Nat := 0x40080024+n*64
abbrev NB_W9_DRIFT (n : Nat) : Field := ⟨0x40080024+n*64, 0, 32⟩
/-- Address of NB_W10 (Table 9.1). -/
abbrev A_NB_W10 (n : Nat) : Nat := 0x40080028+n*64
abbrev NB_W10_RESID (n : Nat) : Field := ⟨0x40080028+n*64, 14, 18⟩
abbrev NB_W10_RMISS (n : Nat) : Field := ⟨0x40080028+n*64, 6, 8⟩
abbrev NB_W10_BINT (n : Nat) : Field := ⟨0x40080028+n*64, 2, 4⟩
abbrev NB_W10_BCN (n : Nat) : Field := ⟨0x40080028+n*64, 1, 1⟩
abbrev NB_W10_BHOLD (n : Nat) : Field := ⟨0x40080028+n*64, 0, 1⟩
/-- Address of NB_W11 (Table 9.1). -/
abbrev A_NB_W11 (n : Nat) : Nat := 0x4008002c+n*64
abbrev NB_W11_LOFS (n : Nat) : Field := ⟨0x4008002c+n*64, 0, 32⟩
/-- Address of NB_W12 (Table 9.1). -/
abbrev A_NB_W12 (n : Nat) : Nat := 0x40080030+n*64
abbrev NB_W12_BLAST (n : Nat) : Field := ⟨0x40080030+n*64, 0, 32⟩
/-- Address of NB_W13 (Table 9.1). -/
abbrev A_NB_W13 (n : Nat) : Nat := 0x40080034+n*64
abbrev NB_W13_BPAR (n : Nat) : Field := ⟨0x40080034+n*64, 20, 12⟩
abbrev NB_W13_BLQI (n : Nat) : Field := ⟨0x40080034+n*64, 12, 8⟩
abbrev NB_W13_BBIN (n : Nat) : Field := ⟨0x40080034+n*64, 6, 6⟩
abbrev NB_W13_BDEPTH (n : Nat) : Field := ⟨0x40080034+n*64, 2, 4⟩
abbrev NB_W13_BHEARD (n : Nat) : Field := ⟨0x40080034+n*64, 1, 1⟩
/-- Address of NB_W14 (Table 9.1). -/
abbrev A_NB_W14 (n : Nat) : Nat := 0x40080038+n*64
abbrev NB_W14_FLQI (n : Nat) : Field := ⟨0x40080038+n*64, 24, 8⟩
abbrev NB_W14_INCELLS (n : Nat) : Field := ⟨0x40080038+n*64, 12, 12⟩
abbrev NB_W14_QCELLS (n : Nat) : Field := ⟨0x40080038+n*64, 0, 12⟩
/-- Address of NB_W15 (Table 9.1). -/
abbrev A_NB_W15 (n : Nat) : Nat := 0x4008003c+n*64
abbrev NB_W15_ROOM_IN (n : Nat) : Field := ⟨0x4008003c+n*64, 28, 4⟩
abbrev NB_W15_ROOM_OUT (n : Nat) : Field := ⟨0x4008003c+n*64, 24, 4⟩
abbrev NB_W15_LASTRX (n : Nat) : Field := ⟨0x4008003c+n*64, 0, 24⟩
/-- Address of NB_ROUTE (Table 9.2). -/
abbrev A_NB_ROUTE (n : Nat) : Nat := 0x40088000+n*4
abbrev NB_ROUTE_RV (n : Nat) : Field := ⟨0x40088000+n*4, 31, 1⟩
abbrev NB_ROUTE_NV (n : Nat) : Field := ⟨0x40088000+n*4, 30, 1⟩
abbrev NB_ROUTE_LEARNED (n : Nat) : Field := ⟨0x40088000+n*4, 29, 1⟩
abbrev NB_ROUTE_DROP (n : Nat) : Field := ⟨0x40088000+n*4, 28, 1⟩
abbrev NB_ROUTE_EXC (n : Nat) : Field := ⟨0x40088000+n*4, 27, 1⟩
abbrev NB_ROUTE_NBR (n : Nat) : Field := ⟨0x40088000+n*4, 18, 9⟩
abbrev NB_ROUTE_ADM (n : Nat) : Field := ⟨0x40088000+n*4, 17, 1⟩
abbrev NB_ROUTE_AGE (n : Nat) : Field := ⟨0x40088000+n*4, 9, 4⟩
abbrev NB_ROUTE_NH (n : Nat) : Field := ⟨0x40088000+n*4, 0, 9⟩
/-- Address of NB_CTL (Table 9.9). -/
abbrev A_NB_CTL : Nat := 0x4008c000
abbrev NB_CTL_CHILDREN : Field := ⟨0x4008c000, 16, 8⟩
abbrev NB_CTL_NS_WR : Field := ⟨0x4008c000, 1, 1⟩
abbrev NB_CTL_NS_RD : Field := ⟨0x4008c000, 0, 1⟩
/-- Address of FW_CTL (Table 9.10). -/
abbrev A_FW_CTL : Nat := 0x40090000
abbrev FW_CTL_UPDEF : Field := ⟨0x40090000, 4, 1⟩
abbrev FW_CTL_LEARN : Field := ⟨0x40090000, 3, 1⟩
abbrev FW_CTL_RELAY : Field := ⟨0x40090000, 2, 1⟩
abbrev FW_CTL_EN_ACK : Field := ⟨0x40090000, 1, 1⟩
abbrev FW_CTL_EN : Field := ⟨0x40090000, 0, 1⟩
/-- Address of FW_CFG (Table 9.10). -/
abbrev A_FW_CFG : Nat := 0x40090004
abbrev FW_CFG_EXRING : Field := ⟨0x40090004, 25, 2⟩
abbrev FW_CFG_RMAP : Field := ⟨0x40090004, 16, 8⟩
abbrev FW_CFG_BCIDX : Field := ⟨0x40090004, 0, 9⟩
/-- Address of FW_FCTR (Table 9.10). -/
abbrev A_FW_FCTR : Nat := 0x40090008
abbrev FW_FCTR_CTR : Field := ⟨0x40090008, 0, 32⟩
/-- Address of FW_SEQ (Table 9.10). -/
abbrev A_FW_SEQ : Nat := 0x4009000c
abbrev FW_SEQ_SEQ : Field := ⟨0x4009000c, 0, 8⟩
/-- Address of FW_KPREV (Table 9.10). -/
abbrev A_FW_KPREV : Nat := 0x40090010
abbrev FW_KPREV_EN : Field := ⟨0x40090010, 31, 1⟩
abbrev FW_KPREV_HOLD : Field := ⟨0x40090010, 16, 8⟩
abbrev FW_KPREV_KIDX : Field := ⟨0x40090010, 8, 8⟩
abbrev FW_KPREV_KS : Field := ⟨0x40090010, 0, 6⟩
/-- Address of FW_DISP (Table 9.11). -/
abbrev A_FW_DISP : Nat := 0x40090014
abbrev FW_DISP_DISP : Field := ⟨0x40090014, 2, 21⟩
/-- Address of FW_XSEL (Table 9.11). -/
abbrev A_FW_XSEL : Nat := 0x40090018
abbrev FW_XSEL_CAUSE : Field := ⟨0x40090018, 0, 6⟩
/-- Address of FW_XCNT (Table 9.11). -/
abbrev A_FW_XCNT : Nat := 0x4009001c
abbrev FW_XCNT_COUNT : Field := ⟨0x4009001c, 0, 16⟩
/-- Address of FW_CNT0 (Table 9.11). -/
abbrev A_FW_CNT0 : Nat := 0x40090020
abbrev FW_CNT0_RELAYED : Field := ⟨0x40090020, 16, 16⟩
abbrev FW_CNT0_DELIVERED : Field := ⟨0x40090020, 0, 16⟩
/-- Address of FW_CNT1 (Table 9.11). -/
abbrev A_FW_CNT1 : Nat := 0x40090024
abbrev FW_CNT1_SUBMITTED : Field := ⟨0x40090024, 16, 16⟩
abbrev FW_CNT1_LEARNED : Field := ⟨0x40090024, 0, 16⟩
/-- Address of FW_INT_STAT (Table 9.12). -/
abbrev A_FW_INT_STAT : Nat := 0x40090028
abbrev FW_INT_STAT_RANGE : Field := ⟨0x40090028, 13, 1⟩
abbrev FW_INT_STAT_ECC : Field := ⟨0x40090028, 12, 1⟩
abbrev FW_INT_STAT_MAPERR : Field := ⟨0x40090028, 11, 1⟩
abbrev FW_INT_STAT_DOMFULL : Field := ⟨0x40090028, 10, 1⟩
abbrev FW_INT_STAT_RWAIT : Field := ⟨0x40090028, 9, 1⟩
abbrev FW_INT_STAT_FCEXH : Field := ⟨0x40090028, 8, 1⟩
abbrev FW_INT_STAT_FCWARN : Field := ⟨0x40090028, 7, 1⟩
abbrev FW_INT_STAT_REPLAY : Field := ⟨0x40090028, 6, 1⟩
abbrev FW_INT_STAT_AUTHFAIL : Field := ⟨0x40090028, 5, 1⟩
abbrev FW_INT_STAT_SUB : Field := ⟨0x40090028, 4, 1⟩
abbrev FW_INT_STAT_RX : Field := ⟨0x40090028, 0, 4⟩
/-- Address of FW_INT_EN (Table 9.12). -/
abbrev A_FW_INT_EN : Nat := 0x4009002c
abbrev FW_INT_EN_EN : Field := ⟨0x4009002c, 0, 32⟩
/-- Address of FW_AGE (Table 9.13). -/
abbrev A_FW_AGE : Nat := 0x40090030
abbrev FW_AGE_PERIOD : Field := ⟨0x40090030, 0, 16⟩
/-- Address of FW_DOM_CMD (Table 9.13). -/
abbrev A_FW_DOM_CMD : Nat := 0x40090034
abbrev FW_DOM_CMD_ID : Field := ⟨0x40090034, 16, 12⟩
abbrev FW_DOM_CMD_FREE : Field := ⟨0x40090034, 1, 1⟩
abbrev FW_DOM_CMD_ALLOC : Field := ⟨0x40090034, 0, 1⟩
/-- Address of FW_DOM_STAT (Table 9.13). -/
abbrev A_FW_DOM_STAT : Nat := 0x40090038
abbrev FW_DOM_STAT_VALID : Field := ⟨0x40090038, 31, 1⟩
abbrev FW_DOM_STAT_FULL : Field := ⟨0x40090038, 30, 1⟩
abbrev FW_DOM_STAT_ID : Field := ⟨0x40090038, 16, 12⟩
abbrev FW_DOM_STAT_COUNT : Field := ⟨0x40090038, 0, 12⟩
/-- Address of FW_ECC_LOG (Table 9.13). -/
abbrev A_FW_ECC_LOG : Nat := 0x4009003c
abbrev FW_ECC_LOG_VALID : Field := ⟨0x4009003c, 31, 1⟩
abbrev FW_ECC_LOG_ROUTE : Field := ⟨0x4009003c, 30, 1⟩
abbrev FW_ECC_LOG_IDX : Field := ⟨0x4009003c, 4, 12⟩
abbrev FW_ECC_LOG_WORD : Field := ⟨0x4009003c, 0, 4⟩
/-- Address of FW_RINGk_BASE (Table 9.14). -/
abbrev A_FW_RING_BASE (n : Nat) : Nat := 0x40090100+n*16
abbrev FW_RING_BASE_BASE (n : Nat) : Field := ⟨0x40090100+n*16, 4, 28⟩
/-- Address of FW_RINGk_CFG (Table 9.14). -/
abbrev A_FW_RING_CFG (n : Nat) : Nat := 0x40090104+n*16
abbrev FW_RING_CFG_EN (n : Nat) : Field := ⟨0x40090104+n*16, 31, 1⟩
abbrev FW_RING_CFG_KICK (n : Nat) : Field := ⟨0x40090104+n*16, 30, 1⟩
abbrev FW_RING_CFG_COUNT (n : Nat) : Field := ⟨0x40090104+n*16, 0, 11⟩
/-- Address of FW_RINGk_HEAD (Table 9.14). -/
abbrev A_FW_RING_HEAD (n : Nat) : Nat := 0x40090108+n*16
abbrev FW_RING_HEAD_HEAD (n : Nat) : Field := ⟨0x40090108+n*16, 0, 10⟩
/-- Address of FW_RINGk_STAT (Table 9.14). -/
abbrev A_FW_RING_STAT (n : Nat) : Nat := 0x4009010c+n*16
abbrev FW_RING_STAT_WAIT (n : Nat) : Field := ⟨0x4009010c+n*16, 0, 16⟩
/-- Address of FW_SUB_FREE (Table 9.14). -/
abbrev A_FW_SUB_FREE : Nat := 0x4009014c
abbrev FW_SUB_FREE_CELL : Field := ⟨0x4009014c, 0, 12⟩
/-- Address of FW_ADM0 (Table 10.7). -/
abbrev A_FW_ADM0 : Nat := 0x40090400
abbrev FW_ADM0_RXMIN : Field := ⟨0x40090400, 16, 12⟩
abbrev FW_ADM0_SHMAX : Field := ⟨0x40090400, 0, 12⟩
/-- Address of FW_ADM1 (Table 10.7). -/
abbrev A_FW_ADM1 : Nat := 0x40090404
abbrev FW_ADM1_INCAP : Field := ⟨0x40090404, 16, 12⟩
abbrev FW_ADM1_QCAP : Field := ⟨0x40090404, 0, 12⟩
/-- Address of FW_ADM2 (Table 10.7). -/
abbrev A_FW_ADM2 : Nat := 0x40090408
abbrev FW_ADM2_ROOM_EN : Field := ⟨0x40090408, 31, 1⟩
abbrev FW_ADM2_LOWW : Field := ⟨0x40090408, 16, 12⟩
abbrev FW_ADM2_RSHIFT : Field := ⟨0x40090408, 12, 4⟩
abbrev FW_ADM2_NOCAP : Field := ⟨0x40090408, 0, 12⟩
/-- Address of FW_FC_CFG (Table 10.7). -/
abbrev A_FW_FC_CFG : Nat := 0x4009040c
abbrev FW_FC_CFG_HBEN : Field := ⟨0x4009040c, 31, 1⟩
abbrev FW_FC_CFG_FPWIN : Field := ⟨0x4009040c, 16, 8⟩
abbrev FW_FC_CFG_PROBE : Field := ⟨0x4009040c, 0, 4⟩
/-- Address of FW_CLSc_CFG (Table 10.8). -/
abbrev A_FW_CLS_CFG (n : Nat) : Nat := 0x40090410+n*4
abbrev FW_CLS_CFG_RMAX (n : Nat) : Field := ⟨0x40090410+n*4, 28, 4⟩
abbrev FW_CLS_CFG_PLVL (n : Nat) : Field := ⟨0x40090410+n*4, 24, 4⟩
abbrev FW_CLS_CFG_LIFE (n : Nat) : Field := ⟨0x40090410+n*4, 0, 16⟩
/-- Address of FW_CLSc_LIM (Table 10.8). -/
abbrev A_FW_CLS_LIM (n : Nat) : Nat := 0x40090420+n*4
abbrev FW_CLS_LIM_EDTHR (n : Nat) : Field := ⟨0x40090420+n*4, 16, 12⟩
abbrev FW_CLS_LIM_RES (n : Nat) : Field := ⟨0x40090420+n*4, 0, 12⟩
/-- Address of FW_FP_LAST (Table 10.9). -/
abbrev A_FW_FP_LAST : Nat := 0x40090430
abbrev FW_FP_LAST_VALID : Field := ⟨0x40090430, 31, 1⟩
abbrev FW_FP_LAST_IDX : Field := ⟨0x40090430, 0, 9⟩
/-- Address of FW_FS_STAT (Table 10.9). -/
abbrev A_FW_FS_STAT : Nat := 0x40090440
abbrev FW_FS_STAT_FREE : Field := ⟨0x40090440, 16, 13⟩
abbrev FW_FS_STAT_SHARED : Field := ⟨0x40090440, 0, 13⟩
/-- Address of FW_FS_USE0 (Table 10.9). -/
abbrev A_FW_FS_USE0 : Nat := 0x40090444
abbrev FW_FS_USE0_RX : Field := ⟨0x40090444, 16, 13⟩
abbrev FW_FS_USE0_RING : Field := ⟨0x40090444, 0, 13⟩
/-- Address of FW_FS_USE1 (Table 10.9). -/
abbrev A_FW_FS_USE1 : Nat := 0x40090448
abbrev FW_FS_USE1_RAW : Field := ⟨0x40090448, 16, 13⟩
abbrev FW_FS_USE1_NONBR : Field := ⟨0x40090448, 0, 13⟩
/-- Address of FW_CLSc_STAT (Table 10.9). -/
abbrev A_FW_CLS_STAT (n : Nat) : Nat := 0x40090450+n*4
abbrev FW_CLS_STAT_FRAMES (n : Nat) : Field := ⟨0x40090450+n*4, 16, 13⟩
abbrev FW_CLS_STAT_CELLS (n : Nat) : Field := ⟨0x40090450+n*4, 0, 13⟩
/-- Address of FW_FS_CNT0 (Table 10.10). -/
abbrev A_FW_FS_CNT0 : Nat := 0x40090460
abbrev FW_FS_CNT0_RXFULL : Field := ⟨0x40090460, 16, 16⟩
abbrev FW_FS_CNT0_INCAP : Field := ⟨0x40090460, 0, 16⟩
/-- Address of FW_FS_CNT1 (Table 10.10). -/
abbrev A_FW_FS_CNT1 : Nat := 0x40090464
abbrev FW_FS_CNT1_NOCAP : Field := ⟨0x40090464, 16, 16⟩
abbrev FW_FS_CNT1_QCAP : Field := ⟨0x40090464, 0, 16⟩
/-- Address of FW_FS_CNT2 (Table 10.10). -/
abbrev A_FW_FS_CNT2 : Nat := 0x40090468
abbrev FW_FS_CNT2_PACED : Field := ⟨0x40090468, 16, 16⟩
abbrev FW_FS_CNT2_PROBES : Field := ⟨0x40090468, 0, 16⟩
/-- Address of FW_CLSc_DROP (Table 10.10). -/
abbrev A_FW_CLS_DROP (n : Nat) : Nat := 0x40090470+n*4
abbrev FW_CLS_DROP_ADMIT (n : Nat) : Field := ⟨0x40090470+n*4, 16, 16⟩
abbrev FW_CLS_DROP_LOST (n : Nat) : Field := ⟨0x40090470+n*4, 0, 16⟩
/-- Address of FW_FS_INT_STAT (Table 10.10). -/
abbrev A_FW_FS_INT_STAT : Nat := 0x40090480
abbrev FW_FS_INT_STAT_ECC : Field := ⟨0x40090480, 9, 1⟩
abbrev FW_FS_INT_STAT_LOWFREE : Field := ⟨0x40090480, 8, 1⟩
abbrev FW_FS_INT_STAT_QDROP : Field := ⟨0x40090480, 4, 4⟩
abbrev FW_FS_INT_STAT_LOST : Field := ⟨0x40090480, 3, 1⟩
abbrev FW_FS_INT_STAT_NOCAP : Field := ⟨0x40090480, 2, 1⟩
abbrev FW_FS_INT_STAT_INCAP : Field := ⟨0x40090480, 1, 1⟩
abbrev FW_FS_INT_STAT_RXFULL : Field := ⟨0x40090480, 0, 1⟩
/-- Address of FW_FS_INT_EN (Table 10.10). -/
abbrev A_FW_FS_INT_EN : Nat := 0x40090484
abbrev FW_FS_INT_EN_EN : Field := ⟨0x40090484, 0, 32⟩
/-- Address of FW_QSEL (Table 10.11). -/
abbrev A_FW_QSEL : Nat := 0x40090490
abbrev FW_QSEL_Q : Field := ⟨0x40090490, 0, 11⟩
/-- Address of FW_QHEAD0 (Table 10.11). -/
abbrev A_FW_QHEAD0 : Nat := 0x40090494
abbrev FW_QHEAD0_FRAMES : Field := ⟨0x40090494, 16, 13⟩
abbrev FW_QHEAD0_CELLS : Field := ⟨0x40090494, 0, 13⟩
/-- Address of FW_QHEAD1 (Table 10.11). -/
abbrev A_FW_QHEAD1 : Nat := 0x40090498
abbrev FW_QHEAD1_HCNT : Field := ⟨0x40090498, 28, 4⟩
abbrev FW_QHEAD1_TAIL : Field := ⟨0x40090498, 12, 12⟩
abbrev FW_QHEAD1_HEAD : Field := ⟨0x40090498, 0, 12⟩
/-- Address of FW_MD_SEL (Table 10.11). -/
abbrev A_FW_MD_SEL : Nat := 0x400904a0
abbrev FW_MD_SEL_CELL : Field := ⟨0x400904a0, 0, 12⟩
/-- Address of FW_MD_CELL (Table 10.11). -/
abbrev A_FW_MD_CELL : Nat := 0x400904a4
abbrev FW_MD_CELL_USE : Field := ⟨0x400904a4, 29, 3⟩
abbrev FW_MD_CELL_LAST : Field := ⟨0x400904a4, 28, 1⟩
abbrev FW_MD_CELL_NEXT : Field := ⟨0x400904a4, 0, 12⟩
/-- Address of FW_MD_Wk (Table 10.11). -/
abbrev A_FW_MD_W (n : Nat) : Nat := 0x400904c0+n*4
abbrev FW_MD_W_WORD (n : Nat) : Field := ⟨0x400904c0+n*4, 0, 32⟩
/-- Address of CE_CTL (Table 11.6). -/
abbrev A_CE_CTL : Nat := 0x400b0000
abbrev CE_CTL_EN_ACK : Field := ⟨0x400b0000, 1, 1⟩
abbrev CE_CTL_EN : Field := ⟨0x400b0000, 0, 1⟩
/-- Address of CE_STATUS (Table 11.6). -/
abbrev A_CE_STATUS : Nat := 0x400b0004
abbrev CE_STATUS_FRAME : Field := ⟨0x400b0004, 8, 1⟩
abbrev CE_STATUS_QUEUED : Field := ⟨0x400b0004, 4, 4⟩
abbrev CE_STATUS_RUN : Field := ⟨0x400b0004, 0, 4⟩
/-- Address of CE_INT_STAT (Table 11.7). -/
abbrev A_CE_INT_STAT : Nat := 0x400b0008
abbrev CE_INT_STAT_BADCMD : Field := ⟨0x400b0008, 12, 1⟩
abbrev CE_INT_STAT_FOREIGN : Field := ⟨0x400b0008, 11, 1⟩
abbrev CE_INT_STAT_KEYERR : Field := ⟨0x400b0008, 10, 1⟩
abbrev CE_INT_STAT_WIDEN : Field := ⟨0x400b0008, 9, 1⟩
abbrev CE_INT_STAT_KECC : Field := ⟨0x400b0008, 8, 1⟩
abbrev CE_INT_STAT_ERR : Field := ⟨0x400b0008, 4, 4⟩
abbrev CE_INT_STAT_DONE : Field := ⟨0x400b0008, 0, 4⟩
/-- Address of CE_INT_EN (Table 11.7). -/
abbrev A_CE_INT_EN : Nat := 0x400b000c
abbrev CE_INT_EN_EN : Field := ⟨0x400b000c, 0, 32⟩
/-- Address of CE_KS_VALID0 (Table 11.8). -/
abbrev A_CE_KS_VALID0 : Nat := 0x400b0010
abbrev CE_KS_VALID0_VALID : Field := ⟨0x400b0010, 0, 32⟩
/-- Address of CE_KS_VALID1 (Table 11.8). -/
abbrev A_CE_KS_VALID1 : Nat := 0x400b0014
abbrev CE_KS_VALID1_VALID : Field := ⟨0x400b0014, 0, 32⟩
/-- Address of CE_KS_LOG (Table 11.8). -/
abbrev A_CE_KS_LOG : Nat := 0x400b0018
abbrev CE_KS_LOG_VALID : Field := ⟨0x400b0018, 31, 1⟩
abbrev CE_KS_LOG_SLOT : Field := ⟨0x400b0018, 0, 6⟩
/-- Address of CE_CNT0 (Table 11.8). -/
abbrev A_CE_CNT0 : Nat := 0x400b0020
abbrev CE_CNT0_JOBS : Field := ⟨0x400b0020, 16, 16⟩
abbrev CE_CNT0_AUTH : Field := ⟨0x400b0020, 0, 16⟩
/-- Address of CE_Jc_CTL (Table 11.9). -/
abbrev A_CE_J_CTL (n : Nat) : Nat := 0x400b0100+n*64
abbrev CE_J_CTL_MODE (n : Nat) : Field := ⟨0x400b0100+n*64, 28, 4⟩
abbrev CE_J_CTL_DIR (n : Nat) : Field := ⟨0x400b0100+n*64, 27, 1⟩
abbrev CE_J_CTL_KS (n : Nat) : Field := ⟨0x400b0100+n*64, 20, 6⟩
abbrev CE_J_CTL_TKS (n : Nat) : Field := ⟨0x400b0100+n*64, 14, 6⟩
abbrev CE_J_CTL_TAGLEN (n : Nat) : Field := ⟨0x400b0100+n*64, 8, 5⟩
abbrev CE_J_CTL_NLEN (n : Nat) : Field := ⟨0x400b0100+n*64, 4, 4⟩
abbrev CE_J_CTL_ABORT (n : Nat) : Field := ⟨0x400b0100+n*64, 1, 1⟩
abbrev CE_J_CTL_START (n : Nat) : Field := ⟨0x400b0100+n*64, 0, 1⟩
/-- Address of CE_Jc_STAT (Table 11.10). -/
abbrev A_CE_J_STAT (n : Nat) : Nat := 0x400b0104+n*64
abbrev CE_J_STAT_STATE (n : Nat) : Field := ⟨0x400b0104+n*64, 28, 4⟩
abbrev CE_J_STAT_ABORT_LATE (n : Nat) : Field := ⟨0x400b0104+n*64, 27, 1⟩
abbrev CE_J_STAT_CODE (n : Nat) : Field := ⟨0x400b0104+n*64, 0, 8⟩
/-- Address of CE_Jc_SRC (Table 11.10). -/
abbrev A_CE_J_SRC (n : Nat) : Nat := 0x400b0108+n*64
abbrev CE_J_SRC_ADDR (n : Nat) : Field := ⟨0x400b0108+n*64, 0, 32⟩
/-- Address of CE_Jc_DST (Table 11.10). -/
abbrev A_CE_J_DST (n : Nat) : Nat := 0x400b010c+n*64
abbrev CE_J_DST_ADDR (n : Nat) : Field := ⟨0x400b010c+n*64, 0, 32⟩
/-- Address of CE_Jc_AAD (Table 11.10). -/
abbrev A_CE_J_AAD (n : Nat) : Nat := 0x400b0110+n*64
abbrev CE_J_AAD_ADDR (n : Nat) : Field := ⟨0x400b0110+n*64, 0, 32⟩
/-- Address of CE_Jc_LEN (Table 11.10). -/
abbrev A_CE_J_LEN (n : Nat) : Nat := 0x400b0114+n*64
abbrev CE_J_LEN_ALEN (n : Nat) : Field := ⟨0x400b0114+n*64, 16, 16⟩
abbrev CE_J_LEN_PLEN (n : Nat) : Field := ⟨0x400b0114+n*64, 0, 16⟩
/-- Address of CE_Jc_NONCEk (Table 11.10). -/
abbrev A_CE_J_NONCE (n k : Nat) : Nat := 0x400b0118+n*64+k*4
abbrev CE_J_NONCE_NONCE (n k : Nat) : Field := ⟨0x400b0118+n*64+k*4, 0, 32⟩
/-- Address of CE_Jc_TAGk (Table 11.10). -/
abbrev A_CE_J_TAG (n k : Nat) : Nat := 0x400b0128+n*64+k*4
abbrev CE_J_TAG_TAG (n k : Nat) : Field := ⟨0x400b0128+n*64+k*4, 0, 32⟩
/-- Address of CE_KSn_ATTR (Table 11.11). -/
abbrev A_CE_KS_ATTR (n : Nat) : Nat := 0x400b0400+n*64
abbrev CE_KS_ATTR_VALID (n : Nat) : Field := ⟨0x400b0400+n*64, 31, 1⟩
abbrev CE_KS_ATTR_WRAPPED (n : Nat) : Field := ⟨0x400b0400+n*64, 30, 1⟩
abbrev CE_KS_ATTR_SEC (n : Nat) : Field := ⟨0x400b0400+n*64, 29, 1⟩
abbrev CE_KS_ATTR_CORES (n : Nat) : Field := ⟨0x400b0400+n*64, 24, 4⟩
abbrev CE_KS_ATTR_SIZE (n : Nat) : Field := ⟨0x400b0400+n*64, 16, 1⟩
abbrev CE_KS_ATTR_USAGE (n : Nat) : Field := ⟨0x400b0400+n*64, 0, 7⟩
/-- Address of CE_KSn_KEYk (Table 11.11). -/
abbrev A_CE_KS_KEY (n k : Nat) : Nat := 0x400b0404+n*64+k*4
abbrev CE_KS_KEY_KEY (n k : Nat) : Field := ⟨0x400b0404+n*64+k*4, 0, 32⟩
/-- Address of CE_KSn_CMD (Table 11.11). -/
abbrev A_CE_KS_CMD (n : Nat) : Nat := 0x400b0424+n*64
abbrev CE_KS_CMD_CLEAR (n : Nat) : Field := ⟨0x400b0424+n*64, 1, 1⟩
abbrev CE_KS_CMD_LOAD (n : Nat) : Field := ⟨0x400b0424+n*64, 0, 1⟩
/-- Address of PQ_CTL (Table 12.10). -/
abbrev A_PQ_CTL : Nat := 0x400c0000
abbrev PQ_CTL_OTP_EN : Field := ⟨0x400c0000, 3, 1⟩
abbrev PQ_CTL_DETOK : Field := ⟨0x400c0000, 2, 1⟩
abbrev PQ_CTL_EN_ACK : Field := ⟨0x400c0000, 1, 1⟩
abbrev PQ_CTL_EN : Field := ⟨0x400c0000, 0, 1⟩
/-- Address of PQ_STATUS (Table 12.10). -/
abbrev A_PQ_STATUS : Nat := 0x400c0004
abbrev PQ_STATUS_PK1V : Field := ⟨0x400c0004, 8, 1⟩
abbrev PQ_STATUS_QUEUED : Field := ⟨0x400c0004, 4, 4⟩
abbrev PQ_STATUS_RUN : Field := ⟨0x400c0004, 0, 4⟩
/-- Address of PQ_CFG (Table 12.10). -/
abbrev A_PQ_CFG : Nat := 0x400c0010
abbrev PQ_CFG_MAXR : Field := ⟨0x400c0010, 0, 8⟩
/-- Address of PQ_PK_CMD (Table 12.10). -/
abbrev A_PQ_PK_CMD : Nat := 0x400c0014
abbrev PQ_PK_CMD_CLEAR1 : Field := ⟨0x400c0014, 0, 1⟩
/-- Address of PQ_INT_STAT (Table 12.11). -/
abbrev A_PQ_INT_STAT : Nat := 0x400c0008
abbrev PQ_INT_STAT_OTP_DONE : Field := ⟨0x400c0008, 11, 1⟩
abbrev PQ_INT_STAT_ENT_FAIL : Field := ⟨0x400c0008, 10, 1⟩
abbrev PQ_INT_STAT_FOREIGN : Field := ⟨0x400c0008, 9, 1⟩
abbrev PQ_INT_STAT_BADCMD : Field := ⟨0x400c0008, 8, 1⟩
abbrev PQ_INT_STAT_ERR : Field := ⟨0x400c0008, 4, 4⟩
abbrev PQ_INT_STAT_DONE : Field := ⟨0x400c0008, 0, 4⟩
/-- Address of PQ_INT_EN (Table 12.11). -/
abbrev A_PQ_INT_EN : Nat := 0x400c000c
abbrev PQ_INT_EN_EN : Field := ⟨0x400c000c, 0, 32⟩
/-- Address of PQ_ENT_CTL (Table 12.12). -/
abbrev A_PQ_ENT_CTL : Nat := 0x400c0020
abbrev PQ_ENT_CTL_RESTART : Field := ⟨0x400c0020, 0, 1⟩
/-- Address of PQ_ENT_STAT (Table 12.12). -/
abbrev A_PQ_ENT_STAT : Nat := 0x400c0024
abbrev PQ_ENT_STAT_STATE : Field := ⟨0x400c0024, 30, 2⟩
abbrev PQ_ENT_STAT_RCT : Field := ⟨0x400c0024, 29, 1⟩
abbrev PQ_ENT_STAT_APT : Field := ⟨0x400c0024, 28, 1⟩
abbrev PQ_ENT_STAT_POOL : Field := ⟨0x400c0024, 0, 3⟩
/-- Address of PQ_ENT_CNT (Table 12.12). -/
abbrev A_PQ_ENT_CNT : Nat := 0x400c0028
abbrev PQ_ENT_CNT_FAILS : Field := ⟨0x400c0028, 16, 16⟩
abbrev PQ_ENT_CNT_WORDS : Field := ⟨0x400c0028, 0, 16⟩
/-- Address of PQ_MBDk (Table 12.13). -/
abbrev A_PQ_MBD (n : Nat) : Nat := 0x400c0040+n*4
abbrev PQ_MBD_MBD (n : Nat) : Field := ⟨0x400c0040+n*4, 0, 32⟩
/-- Address of PQ_ID_STAT (Table 12.13). -/
abbrev A_PQ_ID_STAT : Nat := 0x400c0060
abbrev PQ_ID_STAT_DKEY : Field := ⟨0x400c0060, 13, 1⟩
abbrev PQ_ID_STAT_BKV : Field := ⟨0x400c0060, 12, 1⟩
abbrev PQ_ID_STAT_BKEY : Field := ⟨0x400c0060, 10, 2⟩
abbrev PQ_ID_STAT_REVOKED : Field := ⟨0x400c0060, 4, 4⟩
abbrev PQ_ID_STAT_PROG : Field := ⟨0x400c0060, 0, 4⟩
/-- Address of PQ_ARB_LO (Table 12.13). -/
abbrev A_PQ_ARB_LO : Nat := 0x400c0064
abbrev PQ_ARB_LO_ARB : Field := ⟨0x400c0064, 0, 32⟩
/-- Address of PQ_ARB_HI (Table 12.13). -/
abbrev A_PQ_ARB_HI : Nat := 0x400c0068
abbrev PQ_ARB_HI_ARB : Field := ⟨0x400c0068, 0, 32⟩
/-- Address of PQ_ARB_IMG_LO (Table 12.13). -/
abbrev A_PQ_ARB_IMG_LO : Nat := 0x400c006c
abbrev PQ_ARB_IMG_LO_IMG : Field := ⟨0x400c006c, 0, 32⟩
/-- Address of PQ_ARB_IMG_HI (Table 12.13). -/
abbrev A_PQ_ARB_IMG_HI : Nat := 0x400c0070
abbrev PQ_ARB_IMG_HI_IMG : Field := ⟨0x400c0070, 0, 32⟩
/-- Address of PQ_OTP_CMD (Table 12.14). -/
abbrev A_PQ_OTP_CMD : Nat := 0x400c0074
abbrev PQ_OTP_CMD_BUSY : Field := ⟨0x400c0074, 31, 1⟩
abbrev PQ_OTP_CMD_RESULT : Field := ⟨0x400c0074, 8, 4⟩
abbrev PQ_OTP_CMD_IDX : Field := ⟨0x400c0074, 4, 2⟩
abbrev PQ_OTP_CMD_OP : Field := ⟨0x400c0074, 0, 2⟩
/-- Address of PQ_OTP_SRC (Table 12.14). -/
abbrev A_PQ_OTP_SRC : Nat := 0x400c0078
abbrev PQ_OTP_SRC_ADDR : Field := ⟨0x400c0078, 0, 32⟩
/-- Address of PQ_OTP_ARG_LO (Table 12.14). -/
abbrev A_PQ_OTP_ARG_LO : Nat := 0x400c007c
abbrev PQ_OTP_ARG_LO_ARG : Field := ⟨0x400c007c, 0, 32⟩
/-- Address of PQ_OTP_ARG_HI (Table 12.14). -/
abbrev A_PQ_OTP_ARG_HI : Nat := 0x400c0080
abbrev PQ_OTP_ARG_HI_ARG : Field := ⟨0x400c0080, 0, 32⟩
/-- Address of PQ_Jc_CTL (Table 12.15). -/
abbrev A_PQ_J_CTL (n : Nat) : Nat := 0x400c0100+n*64
abbrev PQ_J_CTL_MODE (n : Nat) : Field := ⟨0x400c0100+n*64, 28, 4⟩
abbrev PQ_J_CTL_KSEL (n : Nat) : Field := ⟨0x400c0100+n*64, 27, 1⟩
abbrev PQ_J_CTL_SEEDM (n : Nat) : Field := ⟨0x400c0100+n*64, 26, 1⟩
abbrev PQ_J_CTL_DET (n : Nat) : Field := ⟨0x400c0100+n*64, 25, 1⟩
abbrev PQ_J_CTL_ABORT (n : Nat) : Field := ⟨0x400c0100+n*64, 1, 1⟩
abbrev PQ_J_CTL_START (n : Nat) : Field := ⟨0x400c0100+n*64, 0, 1⟩
/-- Address of PQ_Jc_STAT (Table 12.15). -/
abbrev A_PQ_J_STAT (n : Nat) : Nat := 0x400c0104+n*64
abbrev PQ_J_STAT_STATE (n : Nat) : Field := ⟨0x400c0104+n*64, 28, 4⟩
abbrev PQ_J_STAT_ABORT_LATE (n : Nat) : Field := ⟨0x400c0104+n*64, 27, 1⟩
abbrev PQ_J_STAT_ROUNDS (n : Nat) : Field := ⟨0x400c0104+n*64, 8, 8⟩
abbrev PQ_J_STAT_CODE (n : Nat) : Field := ⟨0x400c0104+n*64, 0, 8⟩
/-- Address of PQ_Jc_SRC (Table 12.15). -/
abbrev A_PQ_J_SRC (n : Nat) : Nat := 0x400c0108+n*64
abbrev PQ_J_SRC_ADDR (n : Nat) : Field := ⟨0x400c0108+n*64, 0, 32⟩
/-- Address of PQ_Jc_DST (Table 12.15). -/
abbrev A_PQ_J_DST (n : Nat) : Nat := 0x400c010c+n*64
abbrev PQ_J_DST_ADDR (n : Nat) : Field := ⟨0x400c010c+n*64, 0, 32⟩
/-- Address of PQ_Jc_SIG (Table 12.15). -/
abbrev A_PQ_J_SIG (n : Nat) : Nat := 0x400c0110+n*64
abbrev PQ_J_SIG_ADDR (n : Nat) : Field := ⟨0x400c0110+n*64, 0, 32⟩
/-- Address of PQ_Jc_PK (Table 12.15). -/
abbrev A_PQ_J_PK (n : Nat) : Nat := 0x400c0114+n*64
abbrev PQ_J_PK_ADDR (n : Nat) : Field := ⟨0x400c0114+n*64, 0, 32⟩
/-- Address of PQ_Jc_CTXA (Table 12.15). -/
abbrev A_PQ_J_CTXA (n : Nat) : Nat := 0x400c0118+n*64
abbrev PQ_J_CTXA_ADDR (n : Nat) : Field := ⟨0x400c0118+n*64, 0, 32⟩
/-- Address of PQ_Jc_MLEN (Table 12.15). -/
abbrev A_PQ_J_MLEN (n : Nat) : Nat := 0x400c011c+n*64
abbrev PQ_J_MLEN_MLEN (n : Nat) : Field := ⟨0x400c011c+n*64, 0, 23⟩
/-- Address of PQ_Jc_OLEN (Table 12.15). -/
abbrev A_PQ_J_OLEN (n : Nat) : Nat := 0x400c0120+n*64
abbrev PQ_J_OLEN_CTXL (n : Nat) : Field := ⟨0x400c0120+n*64, 24, 8⟩
abbrev PQ_J_OLEN_OLEN (n : Nat) : Field := ⟨0x400c0120+n*64, 0, 16⟩
/-- Address of BT_CHIP_ID (Table 13.7). -/
abbrev A_BT_CHIP_ID : Nat := 0x40120000
abbrev BT_CHIP_ID_PART : Field := ⟨0x40120000, 16, 16⟩
abbrev BT_CHIP_ID_REVISION : Field := ⟨0x40120000, 8, 8⟩
abbrev BT_CHIP_ID_STEP : Field := ⟨0x40120000, 0, 8⟩
/-- Address of BT_BOOTCFG (Table 13.7). -/
abbrev A_BT_BOOTCFG : Nat := 0x40120004
abbrev BT_BOOTCFG_CFG : Field := ⟨0x40120004, 0, 32⟩
/-- Address of BT_STATUS (Table 13.8). -/
abbrev A_BT_STATUS : Nat := 0x40120008
abbrev BT_STATUS_RESULT : Field := ⟨0x40120008, 30, 2⟩
abbrev BT_STATUS_SRC : Field := ⟨0x40120008, 28, 2⟩
abbrev BT_STATUS_TRIAL : Field := ⟨0x40120008, 27, 1⟩
abbrev BT_STATUS_PROFILE : Field := ⟨0x40120008, 25, 2⟩
abbrev BT_STATUS_IVORY : Field := ⟨0x40120008, 24, 1⟩
abbrev BT_STATUS_IVCAUSE : Field := ⟨0x40120008, 22, 2⟩
abbrev BT_STATUS_WASIVORY : Field := ⟨0x40120008, 21, 1⟩
abbrev BT_STATUS_TESTPIN : Field := ⟨0x40120008, 20, 1⟩
abbrev BT_STATUS_REPAIRED : Field := ⟨0x40120008, 19, 1⟩
abbrev BT_STATUS_NVMWAIT : Field := ⟨0x40120008, 18, 1⟩
abbrev BT_STATUS_BTIME : Field := ⟨0x40120008, 0, 16⟩
/-- Address of BT_CTL (Table 13.8). -/
abbrev A_BT_CTL : Nat := 0x4012000c
abbrev BT_CTL_RELEASE : Field := ⟨0x4012000c, 0, 1⟩
/-- Address of BT_BANK (Table 13.9). -/
abbrev A_BT_BANK : Nat := 0x40120010
abbrev BT_BANK_EXT : Field := ⟨0x40120010, 8, 4⟩
abbrev BT_BANK_B : Field := ⟨0x40120010, 4, 4⟩
abbrev BT_BANK_A : Field := ⟨0x40120010, 0, 4⟩
/-- Address of BT_EINC_A (Table 13.10). -/
abbrev A_BT_EINC_A : Nat := 0x40120014
abbrev BT_EINC_A_BLK : Field := ⟨0x40120014, 0, 32⟩
/-- Address of BT_EINC_B (Table 13.10). -/
abbrev A_BT_EINC_B : Nat := 0x40120018
abbrev BT_EINC_B_BLK : Field := ⟨0x40120018, 0, 32⟩
/-- Address of BT_EREP_A (Table 13.10). -/
abbrev A_BT_EREP_A : Nat := 0x4012001c
abbrev BT_EREP_A_BLK : Field := ⟨0x4012001c, 0, 32⟩
/-- Address of BT_EREP_B (Table 13.10). -/
abbrev A_BT_EREP_B : Nat := 0x40120020
abbrev BT_EREP_B_BLK : Field := ⟨0x40120020, 0, 32⟩
/-- Address of BT_IMG (Table 13.10). -/
abbrev A_BT_IMG : Nat := 0x40120024
abbrev BT_IMG_SEQ : Field := ⟨0x40120024, 0, 32⟩
/-- Address of BT_IMGINFO (Table 13.10). -/
abbrev A_BT_IMGINFO : Nat := 0x40120028
abbrev BT_IMGINFO_DSTART : Field := ⟨0x40120028, 8, 5⟩
abbrev BT_IMGINFO_NOREPAIR : Field := ⟨0x40120028, 1, 1⟩
abbrev BT_IMGINFO_IVFLAG : Field := ⟨0x40120028, 0, 1⟩
/-- Address of BT_CERT_ADDR (Table 13.10). -/
abbrev A_BT_CERT_ADDR : Nat := 0x4012002c
abbrev BT_CERT_ADDR_ADDR : Field := ⟨0x4012002c, 0, 32⟩
/-- Address of BT_CERT_LEN (Table 13.10). -/
abbrev A_BT_CERT_LEN : Nat := 0x40120030
abbrev BT_CERT_LEN_LEN : Field := ⟨0x40120030, 0, 32⟩
/-- Address of BT_FAIL (Table 13.10). -/
abbrev A_BT_FAIL : Nat := 0x40120034
abbrev BT_FAIL_VALID : Field := ⟨0x40120034, 31, 1⟩
abbrev BT_FAIL_SRC : Field := ⟨0x40120034, 29, 2⟩
abbrev BT_FAIL_CODE : Field := ⟨0x40120034, 25, 4⟩
abbrev BT_FAIL_SECT : Field := ⟨0x40120034, 20, 5⟩
abbrev BT_FAIL_IDX : Field := ⟨0x40120034, 0, 18⟩
/-- Address of IC_CTL (Table 14.7). -/
abbrev A_IC_CTL : Nat := 0x40020000
abbrev IC_CTL_EN_ACK : Field := ⟨0x40020000, 1, 1⟩
abbrev IC_CTL_EN : Field := ⟨0x40020000, 0, 1⟩
/-- Address of IC_STATUS (Table 14.7). -/
abbrev A_IC_STATUS : Nat := 0x40020004
abbrev IC_STATUS_PTR : Field := ⟨0x40020004, 0, 2⟩
/-- Address of IC_ERR (Table 14.7). -/
abbrev A_IC_ERR : Nat := 0x40020008
abbrev IC_ERR_BADCPL : Field := ⟨0x40020008, 3, 1⟩
abbrev IC_ERR_BADCMD : Field := ⟨0x40020008, 2, 1⟩
abbrev IC_ERR_FOREIGN : Field := ⟨0x40020008, 1, 1⟩
abbrev IC_ERR_BERR : Field := ⟨0x40020008, 0, 1⟩
/-- Address of IC_ERR_EN (Table 14.7). -/
abbrev A_IC_ERR_EN : Nat := 0x4002000c
abbrev IC_ERR_EN_EN : Field := ⟨0x4002000c, 0, 32⟩
/-- Address of IC_BERR_ADDR (Table 14.7). -/
abbrev A_IC_BERR_ADDR : Nat := 0x40020010
abbrev IC_BERR_ADDR_ADDR : Field := ⟨0x40020010, 0, 32⟩
/-- Address of IC_BERR_INFO (Table 14.7). -/
abbrev A_IC_BERR_INFO : Nat := 0x40020014
abbrev IC_BERR_INFO_VALID : Field := ⟨0x40020014, 31, 1⟩
abbrev IC_BERR_INFO_CORE : Field := ⟨0x40020014, 4, 2⟩
abbrev IC_BERR_INFO_WRITE : Field := ⟨0x40020014, 3, 1⟩
abbrev IC_BERR_INFO_NS : Field := ⟨0x40020014, 2, 1⟩
abbrev IC_BERR_INFO_KIND : Field := ⟨0x40020014, 0, 2⟩
/-- Address of IC_SWI (Table 14.7). -/
abbrev A_IC_SWI : Nat := 0x40020018
abbrev IC_SWI_SWI : Field := ⟨0x40020018, 0, 4⟩
/-- Address of IC_MEMSEC (Table 14.8). -/
abbrev A_IC_MEMSEC : Nat := 0x40020020
abbrev IC_MEMSEC_SEC : Field := ⟨0x40020020, 0, 32⟩
/-- Address of IC_FLSEC (Table 14.8). -/
abbrev A_IC_FLSEC : Nat := 0x40020024
abbrev IC_FLSEC_SEC : Field := ⟨0x40020024, 0, 32⟩
/-- Address of IC_FSSEC (Table 14.8). -/
abbrev A_IC_FSSEC : Nat := 0x40020028
abbrev IC_FSSEC_NS_RD : Field := ⟨0x40020028, 0, 1⟩
/-- Address of IC_DBG_CTL (Table 14.8). -/
abbrev A_IC_DBG_CTL : Nat := 0x40020030
abbrev IC_DBG_CTL_HALTED : Field := ⟨0x40020030, 4, 4⟩
abbrev IC_DBG_CTL_ACTIVE : Field := ⟨0x40020030, 3, 1⟩
abbrev IC_DBG_CTL_LEVEL : Field := ⟨0x40020030, 0, 2⟩
/-- Address of IC_CPUc_CTL (Table 14.9). -/
abbrev A_IC_CPU_CTL (n : Nat) : Nat := 0x40020040+n*4
abbrev IC_CPU_CTL_START (n : Nat) : Field := ⟨0x40020040+n*4, 0, 1⟩
/-- Address of IC_CPUc_ENTRY (Table 14.9). -/
abbrev A_IC_CPU_ENTRY (n : Nat) : Nat := 0x40020050+n*4
abbrev IC_CPU_ENTRY_ENTRY (n : Nat) : Field := ⟨0x40020050+n*4, 0, 32⟩
/-- Address of IC_CPUc_STAT (Table 14.9). -/
abbrev A_IC_CPU_STAT (n : Nat) : Nat := 0x40020060+n*4
abbrev IC_CPU_STAT_STATE (n : Nat) : Field := ⟨0x40020060+n*4, 28, 4⟩
abbrev IC_CPU_STAT_NS (n : Nat) : Field := ⟨0x40020060+n*4, 27, 1⟩
abbrev IC_CPU_STAT_ASG (n : Nat) : Field := ⟨0x40020060+n*4, 26, 1⟩
abbrev IC_CPU_STAT_ASRC (n : Nat) : Field := ⟨0x40020060+n*4, 16, 8⟩
abbrev IC_CPU_STAT_RPRI (n : Nat) : Field := ⟨0x40020060+n*4, 8, 4⟩
abbrev IC_CPU_STAT_RESTARTS (n : Nat) : Field := ⟨0x40020060+n*4, 0, 8⟩
/-- Address of IC_PENDk (Table 14.10). -/
abbrev A_IC_PEND (n : Nat) : Nat := 0x40020100+n*4
abbrev IC_PEND_PEND (n : Nat) : Field := ⟨0x40020100+n*4, 0, 32⟩
/-- Address of IC_ENk (Table 14.10). -/
abbrev A_IC_EN (n : Nat) : Nat := 0x40020140+n*4
abbrev IC_EN_EN (n : Nat) : Field := ⟨0x40020140+n*4, 0, 32⟩
/-- Address of IC_ACTk (Table 14.10). -/
abbrev A_IC_ACT (n : Nat) : Nat := 0x40020180+n*4
abbrev IC_ACT_ACT (n : Nat) : Field := ⟨0x40020180+n*4, 0, 32⟩
/-- Address of IC_WAKEk (Table 14.10). -/
abbrev A_IC_WAKE (n : Nat) : Nat := 0x400201c0+n*4
abbrev IC_WAKE_WAKE (n : Nat) : Field := ⟨0x400201c0+n*4, 0, 32⟩
/-- Address of IC_SRCn_CFG (Table 14.10). -/
abbrev A_IC_SRC_CFG (n : Nat) : Nat := 0x40020400+n*4
abbrev IC_SRC_CFG_SEC (n : Nat) : Field := ⟨0x40020400+n*4, 31, 1⟩
abbrev IC_SRC_CFG_TGT (n : Nat) : Field := ⟨0x40020400+n*4, 8, 4⟩
abbrev IC_SRC_CFG_PRIO (n : Nat) : Field := ⟨0x40020400+n*4, 0, 4⟩
/-- Address of EV_CTL (Table 15.5). -/
abbrev A_EV_CTL : Nat := 0x40030000
abbrev EV_CTL_EN_ACK : Field := ⟨0x40030000, 1, 1⟩
abbrev EV_CTL_EN : Field := ⟨0x40030000, 0, 1⟩
/-- Address of EV_INT_STAT (Table 15.5). -/
abbrev A_EV_INT_STAT : Nat := 0x40030004
abbrev EV_INT_STAT_WINVAL : Field := ⟨0x40030004, 2, 1⟩
abbrev EV_INT_STAT_DIRECT : Field := ⟨0x40030004, 1, 1⟩
abbrev EV_INT_STAT_OVR : Field := ⟨0x40030004, 0, 1⟩
/-- Address of EV_INT_EN (Table 15.5). -/
abbrev A_EV_INT_EN : Nat := 0x40030008
abbrev EV_INT_EN_EN : Field := ⟨0x40030008, 0, 32⟩
/-- Address of EV_GRP_EN (Table 15.5). -/
abbrev A_EV_GRP_EN : Nat := 0x40030010
abbrev EV_GRP_EN_EN : Field := ⟨0x40030010, 0, 8⟩
/-- Address of EV_OVRk (Table 15.6). -/
abbrev A_EV_OVR (n : Nat) : Nat := 0x40030020+n*4
abbrev EV_OVR_OVR (n : Nat) : Field := ⟨0x40030020+n*4, 0, 32⟩
/-- Address of EV_GRPg_CFG (Table 15.7). -/
abbrev A_EV_GRP_CFG (n : Nat) : Nat := 0x40030040+n*4
abbrev EV_GRP_CFG_OFF (n : Nat) : Field := ⟨0x40030040+n*4, 16, 8⟩
abbrev EV_GRP_CFG_ON (n : Nat) : Field := ⟨0x40030040+n*4, 0, 8⟩
/-- Address of EV_CHn_CFG (Table 15.8). -/
abbrev A_EV_CH_CFG (n : Nat) : Nat := 0x40031000+n*64
abbrev EV_CH_CFG_EN (n : Nat) : Field := ⟨0x40031000+n*64, 31, 1⟩
abbrev EV_CH_CFG_SEC (n : Nat) : Field := ⟨0x40031000+n*64, 7, 1⟩
abbrev EV_CH_CFG_OWNER (n : Nat) : Field := ⟨0x40031000+n*64, 4, 2⟩
abbrev EV_CH_CFG_CORES (n : Nat) : Field := ⟨0x40031000+n*64, 0, 4⟩
/-- Address of EV_CHn_PRODk (Table 15.8). -/
abbrev A_EV_CH_PROD (n k : Nat) : Nat := 0x40031004+n*64+k*4
abbrev EV_CH_PROD_PROD (n k : Nat) : Field := ⟨0x40031004+n*64+k*4, 0, 32⟩
/-- Address of EV_CHn_CONSk (Table 15.8). -/
abbrev A_EV_CH_CONS (n k : Nat) : Nat := 0x40031018+n*64+k*4
abbrev EV_CH_CONS_CONS (n k : Nat) : Field := ⟨0x40031018+n*64+k*4, 0, 32⟩
/-- Address of EV_CHn_CNT (Table 15.8). -/
abbrev A_EV_CH_CNT (n : Nat) : Nat := 0x40031028+n*64
abbrev EV_CH_CNT_FIRED (n : Nat) : Field := ⟨0x40031028+n*64, 0, 16⟩
/-- Address of FL_CTL (Table 16.4). -/
abbrev A_FL_CTL : Nat := 0x400d0000
abbrev FL_CTL_AUTOSUS : Field := ⟨0x400d0000, 2, 1⟩
abbrev FL_CTL_EN_ACK : Field := ⟨0x400d0000, 1, 1⟩
abbrev FL_CTL_EN : Field := ⟨0x400d0000, 0, 1⟩
/-- Address of FL_CFG (Table 16.4). -/
abbrev A_FL_CFG : Nat := 0x400d0004
abbrev FL_CFG_QUIET : Field := ⟨0x400d0004, 8, 8⟩
abbrev FL_CFG_MINRUN : Field := ⟨0x400d0004, 0, 8⟩
/-- Address of FL_ADDR (Table 16.4). -/
abbrev A_FL_ADDR : Nat := 0x400d0008
abbrev FL_ADDR_ADDR : Field := ⟨0x400d0008, 9, 13⟩
/-- Address of FL_SRC (Table 16.4). -/
abbrev A_FL_SRC : Nat := 0x400d000c
abbrev FL_SRC_ADDR : Field := ⟨0x400d000c, 2, 30⟩
/-- Address of FL_CMD (Table 16.5). -/
abbrev A_FL_CMD : Nat := 0x400d0010
abbrev FL_CMD_OP : Field := ⟨0x400d0010, 0, 3⟩
/-- Address of FL_STAT (Table 16.6). -/
abbrev A_FL_STAT : Nat := 0x400d0014
abbrev FL_STAT_STATE : Field := ⟨0x400d0014, 28, 4⟩
abbrev FL_STAT_SUSP : Field := ⟨0x400d0014, 27, 1⟩
abbrev FL_STAT_ABORT_LATE : Field := ⟨0x400d0014, 26, 1⟩
abbrev FL_STAT_END : Field := ⟨0x400d0014, 25, 1⟩
abbrev FL_STAT_SBLK : Field := ⟨0x400d0014, 16, 6⟩
abbrev FL_STAT_LASTOP : Field := ⟨0x400d0014, 8, 2⟩
abbrev FL_STAT_CODE : Field := ⟨0x400d0014, 0, 8⟩
/-- Address of FL_INT_STAT (Table 16.7). -/
abbrev A_FL_INT_STAT : Nat := 0x400d0018
abbrev FL_INT_STAT_BADCMD : Field := ⟨0x400d0018, 5, 1⟩
abbrev FL_INT_STAT_ECC_U : Field := ⟨0x400d0018, 4, 1⟩
abbrev FL_INT_STAT_ECC_C : Field := ⟨0x400d0018, 3, 1⟩
abbrev FL_INT_STAT_SUSP : Field := ⟨0x400d0018, 2, 1⟩
abbrev FL_INT_STAT_ERR : Field := ⟨0x400d0018, 1, 1⟩
abbrev FL_INT_STAT_END : Field := ⟨0x400d0018, 0, 1⟩
/-- Address of FL_INT_EN (Table 16.7). -/
abbrev A_FL_INT_EN : Nat := 0x400d001c
abbrev FL_INT_EN_EN : Field := ⟨0x400d001c, 0, 32⟩
/-- Address of FL_INC_A (Table 16.7). -/
abbrev A_FL_INC_A : Nat := 0x400d0020
abbrev FL_INC_A_BLK : Field := ⟨0x400d0020, 0, 32⟩
/-- Address of FL_INC_B (Table 16.7). -/
abbrev A_FL_INC_B : Nat := 0x400d0024
abbrev FL_INC_B_BLK : Field := ⟨0x400d0024, 0, 32⟩
/-- Address of FL_WP_A (Table 16.7). -/
abbrev A_FL_WP_A : Nat := 0x400d0028
abbrev FL_WP_A_WP : Field := ⟨0x400d0028, 0, 32⟩
/-- Address of FL_WP_B (Table 16.7). -/
abbrev A_FL_WP_B : Nat := 0x400d002c
abbrev FL_WP_B_WP : Field := ⟨0x400d002c, 0, 32⟩
/-- Address of FL_MARK_SEL (Table 16.8). -/
abbrev A_FL_MARK_SEL : Nat := 0x400d0030
abbrev FL_MARK_SEL_BLK : Field := ⟨0x400d0030, 0, 6⟩
/-- Address of FL_MARKk (Table 16.8). -/
abbrev A_FL_MARK (n : Nat) : Nat := 0x400d0034+n*4
abbrev FL_MARK_MARK (n : Nat) : Field := ⟨0x400d0034+n*4, 0, 32⟩
/-- Address of FL_ECC_LOG (Table 16.8). -/
abbrev A_FL_ECC_LOG : Nat := 0x400d0044
abbrev FL_ECC_LOG_VALID : Field := ⟨0x400d0044, 31, 1⟩
abbrev FL_ECC_LOG_ADDR : Field := ⟨0x400d0044, 3, 19⟩
/-- Address of FL_ECC_CNT (Table 16.8). -/
abbrev A_FL_ECC_CNT : Nat := 0x400d0048
abbrev FL_ECC_CNT_CORR : Field := ⟨0x400d0048, 16, 16⟩
abbrev FL_ECC_CNT_UNCORR : Field := ⟨0x400d0048, 0, 16⟩
/-- Address of FL_TIME (Table 16.8). -/
abbrev A_FL_TIME : Nat := 0x400d004c
abbrev FL_TIME_DUR : Field := ⟨0x400d004c, 0, 24⟩
/-- Address of SP0_CTL (Table 17.5). -/
abbrev A_SP_CTL (n : Nat) : Nat := 0x400e0000+n*65536
abbrev SP_CTL_SSPOL (n : Nat) : Field := ⟨0x400e0000+n*65536, 5, 1⟩
abbrev SP_CTL_MODE (n : Nat) : Field := ⟨0x400e0000+n*65536, 2, 2⟩
abbrev SP_CTL_EN_ACK (n : Nat) : Field := ⟨0x400e0000+n*65536, 1, 1⟩
abbrev SP_CTL_EN (n : Nat) : Field := ⟨0x400e0000+n*65536, 0, 1⟩
/-- Address of SP0_FMT (Table 17.5). -/
abbrev A_SP_FMT (n : Nat) : Nat := 0x400e0004+n*65536
abbrev SP_FMT_LSBF (n : Nat) : Field := ⟨0x400e0004+n*65536, 10, 1⟩
abbrev SP_FMT_CPOL (n : Nat) : Field := ⟨0x400e0004+n*65536, 9, 1⟩
abbrev SP_FMT_CPHA (n : Nat) : Field := ⟨0x400e0004+n*65536, 8, 1⟩
abbrev SP_FMT_WLEN (n : Nat) : Field := ⟨0x400e0004+n*65536, 0, 5⟩
/-- Address of SP0_CLKCFG (Table 17.5). -/
abbrev A_SP_CLKCFG (n : Nat) : Nat := 0x400e0008+n*65536
abbrev SP_CLKCFG_SPREAD (n : Nat) : Field := ⟨0x400e0008+n*65536, 16, 1⟩
abbrev SP_CLKCFG_HALF (n : Nat) : Field := ⟨0x400e0008+n*65536, 0, 12⟩
/-- Address of SP0_TIM (Table 17.5). -/
abbrev A_SP_TIM (n : Nat) : Nat := 0x400e000c+n*65536
abbrev SP_TIM_GAP (n : Nat) : Field := ⟨0x400e000c+n*65536, 24, 8⟩
abbrev SP_TIM_TRAIL (n : Nat) : Field := ⟨0x400e000c+n*65536, 16, 8⟩
abbrev SP_TIM_LEAD (n : Nat) : Field := ⟨0x400e000c+n*65536, 8, 8⟩
abbrev SP_TIM_SETUP (n : Nat) : Field := ⟨0x400e000c+n*65536, 0, 8⟩
/-- Address of SP0_RDYCFG (Table 17.5). -/
abbrev A_SP_RDYCFG (n : Nat) : Nat := 0x400e0010+n*65536
abbrev SP_RDYCFG_RDYEN (n : Nat) : Field := ⟨0x400e0010+n*65536, 31, 1⟩
abbrev SP_RDYCFG_TXSTR (n : Nat) : Field := ⟨0x400e0010+n*65536, 30, 1⟩
abbrev SP_RDYCFG_RDYTO (n : Nat) : Field := ⟨0x400e0010+n*65536, 0, 16⟩
/-- Address of SP0_XFER (Table 17.6). -/
abbrev A_SP_XFER (n : Nat) : Nat := 0x400e0014+n*65536
abbrev SP_XFER_START (n : Nat) : Field := ⟨0x400e0014+n*65536, 31, 1⟩
abbrev SP_XFER_ABORT (n : Nat) : Field := ⟨0x400e0014+n*65536, 30, 1⟩
abbrev SP_XFER_RXIGN (n : Nat) : Field := ⟨0x400e0014+n*65536, 29, 1⟩
abbrev SP_XFER_TXFILL (n : Nat) : Field := ⟨0x400e0014+n*65536, 28, 1⟩
abbrev SP_XFER_SEL (n : Nat) : Field := ⟨0x400e0014+n*65536, 16, 5⟩
abbrev SP_XFER_COUNT (n : Nat) : Field := ⟨0x400e0014+n*65536, 0, 16⟩
/-- Address of SP0_STAT (Table 17.6). -/
abbrev A_SP_STAT (n : Nat) : Nat := 0x400e0018+n*65536
abbrev SP_STAT_STATE (n : Nat) : Field := ⟨0x400e0018+n*65536, 28, 4⟩
abbrev SP_STAT_ABORT_LATE (n : Nat) : Field := ⟨0x400e0018+n*65536, 27, 1⟩
abbrev SP_STAT_WORDS (n : Nat) : Field := ⟨0x400e0018+n*65536, 8, 16⟩
abbrev SP_STAT_CODE (n : Nat) : Field := ⟨0x400e0018+n*65536, 0, 8⟩
/-- Address of SP0_FIFO (Table 17.7). -/
abbrev A_SP_FIFO (n : Nat) : Nat := 0x400e001c+n*65536
abbrev SP_FIFO_FLUSH_RX (n : Nat) : Field := ⟨0x400e001c+n*65536, 31, 1⟩
abbrev SP_FIFO_FLUSH_TX (n : Nat) : Field := ⟨0x400e001c+n*65536, 30, 1⟩
abbrev SP_FIFO_TXLVL (n : Nat) : Field := ⟨0x400e001c+n*65536, 16, 7⟩
abbrev SP_FIFO_RXLVL (n : Nat) : Field := ⟨0x400e001c+n*65536, 0, 7⟩
/-- Address of SP0_FIFOCFG (Table 17.7). -/
abbrev A_SP_FIFOCFG (n : Nat) : Nat := 0x400e0020+n*65536
abbrev SP_FIFOCFG_RXTHR (n : Nat) : Field := ⟨0x400e0020+n*65536, 8, 7⟩
abbrev SP_FIFOCFG_TXTHR (n : Nat) : Field := ⟨0x400e0020+n*65536, 0, 7⟩
/-- Address of SP0_FILL (Table 17.7). -/
abbrev A_SP_FILL (n : Nat) : Nat := 0x400e0024+n*65536
abbrev SP_FILL_FILL (n : Nat) : Field := ⟨0x400e0024+n*65536, 0, 32⟩
/-- Address of SP0_TXD (Table 17.7). -/
abbrev A_SP_TXD (n : Nat) : Nat := 0x400e0028+n*65536
abbrev SP_TXD_DATA (n : Nat) : Field := ⟨0x400e0028+n*65536, 0, 32⟩
/-- Address of SP0_RXD (Table 17.7). -/
abbrev A_SP_RXD (n : Nat) : Nat := 0x400e002c+n*65536
abbrev SP_RXD_DATA (n : Nat) : Field := ⟨0x400e002c+n*65536, 0, 32⟩
/-- Address of SP0_INT_STAT (Table 17.8). -/
abbrev A_SP_INT_STAT (n : Nat) : Nat := 0x400e0030+n*65536
abbrev SP_INT_STAT_TXOVF (n : Nat) : Field := ⟨0x400e0030+n*65536, 10, 1⟩
abbrev SP_INT_STAT_RXUDF (n : Nat) : Field := ⟨0x400e0030+n*65536, 9, 1⟩
abbrev SP_INT_STAT_BADCMD (n : Nat) : Field := ⟨0x400e0030+n*65536, 8, 1⟩
abbrev SP_INT_STAT_RANGE (n : Nat) : Field := ⟨0x400e0030+n*65536, 7, 1⟩
abbrev SP_INT_STAT_WIN_BERR (n : Nat) : Field := ⟨0x400e0030+n*65536, 6, 1⟩
abbrev SP_INT_STAT_WIN_OVRUN (n : Nat) : Field := ⟨0x400e0030+n*65536, 5, 1⟩
abbrev SP_INT_STAT_TXUDF (n : Nat) : Field := ⟨0x400e0030+n*65536, 4, 1⟩
abbrev SP_INT_STAT_RXOVF (n : Nat) : Field := ⟨0x400e0030+n*65536, 3, 1⟩
abbrev SP_INT_STAT_TIMEOUT (n : Nat) : Field := ⟨0x400e0030+n*65536, 2, 1⟩
abbrev SP_INT_STAT_FRAG (n : Nat) : Field := ⟨0x400e0030+n*65536, 1, 1⟩
abbrev SP_INT_STAT_END (n : Nat) : Field := ⟨0x400e0030+n*65536, 0, 1⟩
/-- Address of SP0_INT_EN (Table 17.8). -/
abbrev A_SP_INT_EN (n : Nat) : Nat := 0x400e0034+n*65536
abbrev SP_INT_EN_THR (n : Nat) : Field := ⟨0x400e0034+n*65536, 16, 2⟩
abbrev SP_INT_EN_EN (n : Nat) : Field := ⟨0x400e0034+n*65536, 0, 11⟩
/-- Address of SP0_WIN (Table 17.8). -/
abbrev A_SP_WIN (n : Nat) : Nat := 0x400e0038+n*65536
abbrev SP_WIN_ADDR (n : Nat) : Field := ⟨0x400e0038+n*65536, 0, 32⟩
/-- Address of TM_CTL (Table 18.2). -/
abbrev A_TM_CTL : Nat := 0x40100000
abbrev TM_CTL_PAIRED : Field := ⟨0x40100000, 3, 1⟩
abbrev TM_CTL_TEST : Field := ⟨0x40100000, 2, 1⟩
abbrev TM_CTL_EN_ACK : Field := ⟨0x40100000, 1, 1⟩
abbrev TM_CTL_EN : Field := ⟨0x40100000, 0, 1⟩
/-- Address of TMt_CMD (Table 18.3). -/
abbrev A_TM_CMD (n : Nat) : Nat := 0x40100100+n*256
abbrev TM_CMD_STOP (n : Nat) : Field := ⟨0x40100100+n*256, 1, 1⟩
abbrev TM_CMD_START (n : Nat) : Field := ⟨0x40100100+n*256, 0, 1⟩
/-- Address of TMt_CFG (Table 18.3). -/
abbrev A_TM_CFG (n : Nat) : Nat := 0x40100104+n*256
abbrev TM_CFG_DBGSTOP (n : Nat) : Field := ⟨0x40100104+n*256, 28, 4⟩
abbrev TM_CFG_SRC (n : Nat) : Field := ⟨0x40100104+n*256, 26, 2⟩
abbrev TM_CFG_GSEL (n : Nat) : Field := ⟨0x40100104+n*256, 16, 5⟩
abbrev TM_CFG_PRESC (n : Nat) : Field := ⟨0x40100104+n*256, 0, 16⟩
/-- Address of TMt_STAT (Table 18.3). -/
abbrev A_TM_STAT (n : Nat) : Nat := 0x40100108+n*256
abbrev TM_STAT_RUN (n : Nat) : Field := ⟨0x40100108+n*256, 31, 1⟩
abbrev TM_STAT_OVF_SLEEP (n : Nat) : Field := ⟨0x40100108+n*256, 30, 1⟩
abbrev TM_STAT_PREM (n : Nat) : Field := ⟨0x40100108+n*256, 0, 16⟩
/-- Address of TMt_COUNT (Table 18.3). -/
abbrev A_TM_COUNT (n : Nat) : Nat := 0x4010010c+n*256
abbrev TM_COUNT_COUNT (n : Nat) : Field := ⟨0x4010010c+n*256, 0, 32⟩
/-- Address of TMt_TOP (Table 18.3). -/
abbrev A_TM_TOP (n : Nat) : Nat := 0x40100110+n*256
abbrev TM_TOP_TOP (n : Nat) : Field := ⟨0x40100110+n*256, 0, 32⟩
/-- Address of TMt_INT_STAT (Table 18.3). -/
abbrev A_TM_INT_STAT (n : Nat) : Nat := 0x40100114+n*256
abbrev TM_INT_STAT_BADCMD (n : Nat) : Field := ⟨0x40100114+n*256, 11, 1⟩
abbrev TM_INT_STAT_RANGE (n : Nat) : Field := ⟨0x40100114+n*256, 10, 1⟩
abbrev TM_INT_STAT_OVF (n : Nat) : Field := ⟨0x40100114+n*256, 8, 1⟩
abbrev TM_INT_STAT_PAIR (n : Nat) : Field := ⟨0x40100114+n*256, 4, 4⟩
abbrev TM_INT_STAT_MATCH (n : Nat) : Field := ⟨0x40100114+n*256, 0, 4⟩
/-- Address of TMt_INT_EN (Table 18.3). -/
abbrev A_TM_INT_EN (n : Nat) : Nat := 0x40100118+n*256
abbrev TM_INT_EN_EN (n : Nat) : Field := ⟨0x40100118+n*256, 0, 32⟩
/-- Address of TMt_CHk_CFG (Table 18.4). -/
abbrev A_TM_CH_CFG (n k : Nat) : Nat := 0x40100140+n*256+k*32
abbrev TM_CH_CFG_MODE (n k : Nat) : Field := ⟨0x40100140+n*256+k*32, 10, 2⟩
abbrev TM_CH_CFG_EDGE (n k : Nat) : Field := ⟨0x40100140+n*256+k*32, 8, 2⟩
abbrev TM_CH_CFG_EVT (n k : Nat) : Field := ⟨0x40100140+n*256+k*32, 7, 1⟩
abbrev TM_CH_CFG_GSEL (n k : Nat) : Field := ⟨0x40100140+n*256+k*32, 0, 5⟩
/-- Address of TMt_CHk_CMP (Table 18.5). -/
abbrev A_TM_CH_CMP (n k : Nat) : Nat := 0x40100144+n*256+k*32
abbrev TM_CH_CMP_CMP (n k : Nat) : Field := ⟨0x40100144+n*256+k*32, 0, 32⟩
/-- Address of TMt_CHk_CAP (Table 18.5). -/
abbrev A_TM_CH_CAP (n k : Nat) : Nat := 0x40100148+n*256+k*32
abbrev TM_CH_CAP_CAP (n k : Nat) : Field := ⟨0x40100148+n*256+k*32, 0, 32⟩
/-- Address of TMt_CHk_STAT (Table 18.5). -/
abbrev A_TM_CH_STAT (n k : Nat) : Nat := 0x4010014c+n*256+k*32
abbrev TM_CH_STAT_QOVF (n k : Nat) : Field := ⟨0x4010014c+n*256+k*32, 31, 1⟩
abbrev TM_CH_STAT_CMP_EQ_WRITE (n k : Nat) : Field := ⟨0x4010014c+n*256+k*32, 30, 1⟩
abbrev TM_CH_STAT_MISSED_IN_SLEEP (n k : Nat) : Field := ⟨0x4010014c+n*256+k*32, 29, 1⟩
abbrev TM_CH_STAT_POVR (n k : Nat) : Field := ⟨0x4010014c+n*256+k*32, 28, 1⟩
abbrev TM_CH_STAT_RISE_V (n k : Nat) : Field := ⟨0x4010014c+n*256+k*32, 27, 1⟩
abbrev TM_CH_STAT_WIDTH_V (n k : Nat) : Field := ⟨0x4010014c+n*256+k*32, 26, 1⟩
abbrev TM_CH_STAT_QEDGE (n k : Nat) : Field := ⟨0x4010014c+n*256+k*32, 4, 4⟩
abbrev TM_CH_STAT_QLVL (n k : Nat) : Field := ⟨0x4010014c+n*256+k*32, 0, 3⟩
/-- Address of TMt_CHk_RISE (Table 18.5). -/
abbrev A_TM_CH_RISE (n k : Nat) : Nat := 0x40100150+n*256+k*32
abbrev TM_CH_RISE_RISE (n k : Nat) : Field := ⟨0x40100150+n*256+k*32, 0, 32⟩
/-- Address of TMt_CHk_FALL (Table 18.5). -/
abbrev A_TM_CH_FALL (n k : Nat) : Nat := 0x40100154+n*256+k*32
abbrev TM_CH_FALL_FALL (n k : Nat) : Field := ⟨0x40100154+n*256+k*32, 0, 32⟩
/-- Address of TMt_CHk_WIDTH (Table 18.5). -/
abbrev A_TM_CH_WIDTH (n k : Nat) : Nat := 0x40100158+n*256+k*32
abbrev TM_CH_WIDTH_WIDTH (n k : Nat) : Field := ⟨0x40100158+n*256+k*32, 0, 32⟩
/-- Address of WD_CPUc_CFG (Table 18.6). -/
abbrev A_WD_CFG (n : Nat) : Nat := 0x40130100+n*32
abbrev WD_CFG_EN (n : Nat) : Field := ⟨0x40130100+n*32, 31, 1⟩
abbrev WD_CFG_DBGSTOP (n : Nat) : Field := ⟨0x40130100+n*32, 30, 1⟩
abbrev WD_CFG_TIMEOUT (n : Nat) : Field := ⟨0x40130100+n*32, 0, 16⟩
/-- Address of WD_CPUc_WIN (Table 18.6). -/
abbrev A_WD_WIN (n : Nat) : Nat := 0x40130104+n*32
abbrev WD_WIN_WINDOW (n : Nat) : Field := ⟨0x40130104+n*32, 16, 16⟩
abbrev WD_WIN_WARN (n : Nat) : Field := ⟨0x40130104+n*32, 0, 16⟩
/-- Address of WD_CPUc_KICK (Table 18.6). -/
abbrev A_WD_KICK (n : Nat) : Nat := 0x40130108+n*32
abbrev WD_KICK_KEY (n : Nat) : Field := ⟨0x40130108+n*32, 0, 16⟩
/-- Address of WD_CPUc_STAT (Table 18.6). -/
abbrev A_WD_STAT (n : Nat) : Nat := 0x4013010c+n*32
abbrev WD_STAT_RUN (n : Nat) : Field := ⟨0x4013010c+n*32, 31, 1⟩
abbrev WD_STAT_OPEN (n : Nat) : Field := ⟨0x4013010c+n*32, 30, 1⟩
abbrev WD_STAT_ELAPSED (n : Nat) : Field := ⟨0x4013010c+n*32, 0, 16⟩
/-- Address of WD_CPUc_INT_STAT (Table 18.6). -/
abbrev A_WD_INT_STAT (n : Nat) : Nat := 0x40130110+n*32
abbrev WD_INT_STAT_WARN (n : Nat) : Field := ⟨0x40130110+n*32, 0, 1⟩
/-- Address of WD_CPUc_INT_EN (Table 18.6). -/
abbrev A_WD_INT_EN (n : Nat) : Nat := 0x40130114+n*32
abbrev WD_INT_EN_EN (n : Nat) : Field := ⟨0x40130114+n*32, 0, 32⟩
/-- Address of PM_SLEEP (Table 19.14). -/
abbrev A_PM_SLEEP : Nat := 0x40000000
abbrev PM_SLEEP_TARGET : Field := ⟨0x40000000, 1, 1⟩
abbrev PM_SLEEP_ARM : Field := ⟨0x40000000, 0, 1⟩
/-- Address of PM_CMD (Table 19.14). -/
abbrev A_PM_CMD : Nat := 0x40000004
abbrev PM_CMD_KEY : Field := ⟨0x40000004, 16, 16⟩
abbrev PM_CMD_SYSRST : Field := ⟨0x40000004, 1, 1⟩
abbrev PM_CMD_OFF : Field := ⟨0x40000004, 0, 1⟩
/-- Address of PM_STAT (Table 19.14). -/
abbrev A_PM_STAT : Nat := 0x40000008
abbrev PM_STAT_REFUSE : Field := ⟨0x40000008, 28, 4⟩
abbrev PM_STAT_PREV : Field := ⟨0x40000008, 26, 2⟩
abbrev PM_STAT_LEVEL : Field := ⟨0x40000008, 24, 2⟩
abbrev PM_STAT_LLVL : Field := ⟨0x40000008, 22, 2⟩
abbrev PM_STAT_DLVL : Field := ⟨0x40000008, 20, 2⟩
abbrev PM_STAT_PEAK_HOLD : Field := ⟨0x40000008, 16, 1⟩
abbrev PM_STAT_WAIT : Field := ⟨0x40000008, 0, 11⟩
/-- Address of PM_DOM (Table 19.14). -/
abbrev A_PM_DOM : Nat := 0x4000000c
abbrev PM_DOM_MODE : Field := ⟨0x4000000c, 0, 26⟩
/-- Address of PM_VCORE (Table 19.14). -/
abbrev A_PM_VCORE : Nat := 0x40000010
abbrev PM_VCORE_BSPR : Field := ⟨0x40000010, 8, 1⟩
abbrev PM_VCORE_RUN : Field := ⟨0x40000010, 0, 8⟩
/-- Address of PM_LEDGER (Table 19.14). -/
abbrev A_PM_LEDGER : Nat := 0x40000014
abbrev PM_LEDGER_LIMIT : Field := ⟨0x40000014, 16, 8⟩
abbrev PM_LEDGER_SUM : Field := ⟨0x40000014, 0, 13⟩
/-- Address of PM_DROOP (Table 19.14). -/
abbrev A_PM_DROOP : Nat := 0x40000018
abbrev PM_DROOP_VB_T1 : Field := ⟨0x40000018, 24, 8⟩
abbrev PM_DROOP_VB_T2 : Field := ⟨0x40000018, 16, 8⟩
abbrev PM_DROOP_VB_HYST : Field := ⟨0x40000018, 12, 4⟩
abbrev PM_DROOP_CR_T1 : Field := ⟨0x40000018, 4, 4⟩
abbrev PM_DROOP_CR_T2 : Field := ⟨0x40000018, 0, 4⟩
/-- Address of PM_WAKE_EN (Table 19.15). -/
abbrev A_PM_WAKE_EN : Nat := 0x40000020
abbrev PM_WAKE_EN_CMPB : Field := ⟨0x40000020, 3, 1⟩
abbrev PM_WAKE_EN_CMPA : Field := ⟨0x40000020, 2, 1⟩
abbrev PM_WAKE_EN_IC : Field := ⟨0x40000020, 1, 1⟩
abbrev PM_WAKE_EN_PIN : Field := ⟨0x40000020, 0, 1⟩
/-- Address of PM_WAKE_CAUSE (Table 19.15). -/
abbrev A_PM_WAKE_CAUSE : Nat := 0x40000024
abbrev PM_WAKE_CAUSE_CAUSE : Field := ⟨0x40000024, 0, 6⟩
/-- Address of PM_ALARM_LO (Table 19.15). -/
abbrev A_PM_ALARM_LO : Nat := 0x40000028
abbrev PM_ALARM_LO_SLOW : Field := ⟨0x40000028, 0, 32⟩
/-- Address of PM_ALARM_HI (Table 19.15). -/
abbrev A_PM_ALARM_HI : Nat := 0x4000002c
abbrev PM_ALARM_HI_EN : Field := ⟨0x4000002c, 31, 1⟩
abbrev PM_ALARM_HI_SLOW : Field := ⟨0x4000002c, 0, 16⟩
/-- Address of PM_CMPA_CFG (Table 19.15). -/
abbrev A_PM_CMP_CFG (n : Nat) : Nat := 0x40000030+n*4
abbrev PM_CMP_CFG_OUT (n : Nat) : Field := ⟨0x40000030+n*4, 31, 1⟩
abbrev PM_CMP_CFG_EN (n : Nat) : Field := ⟨0x40000030+n*4, 15, 1⟩
abbrev PM_CMP_CFG_EDGE (n : Nat) : Field := ⟨0x40000030+n*4, 13, 2⟩
abbrev PM_CMP_CFG_HYST (n : Nat) : Field := ⟨0x40000030+n*4, 9, 2⟩
abbrev PM_CMP_CFG_THR (n : Nat) : Field := ⟨0x40000030+n*4, 0, 6⟩
/-- Address of PM_INT_STAT (Table 19.15). -/
abbrev A_PM_INT_STAT : Nat := 0x40000040
abbrev PM_INT_STAT_BADCMD : Field := ⟨0x40000040, 7, 1⟩
abbrev PM_INT_STAT_REFUSE : Field := ⟨0x40000040, 6, 1⟩
abbrev PM_INT_STAT_PEAK_HOLD : Field := ⟨0x40000040, 5, 1⟩
abbrev PM_INT_STAT_DROOP : Field := ⟨0x40000040, 4, 1⟩
abbrev PM_INT_STAT_CMPB : Field := ⟨0x40000040, 3, 1⟩
abbrev PM_INT_STAT_CMPA : Field := ⟨0x40000040, 2, 1⟩
abbrev PM_INT_STAT_WAKEPIN : Field := ⟨0x40000040, 1, 1⟩
abbrev PM_INT_STAT_WAKE : Field := ⟨0x40000040, 0, 1⟩
/-- Address of PM_INT_EN (Table 19.15). -/
abbrev A_PM_INT_EN : Nat := 0x40000044
abbrev PM_INT_EN_EN : Field := ⟨0x40000044, 0, 32⟩
/-- Address of PM_RSTCAUSE (Table 19.15). -/
abbrev A_PM_RSTCAUSE : Nat := 0x40000048
abbrev PM_RSTCAUSE_SUB : Field := ⟨0x40000048, 4, 4⟩
abbrev PM_RSTCAUSE_CAUSE : Field := ⟨0x40000048, 0, 4⟩
/-- Address of PM_BOOTREC (Table 19.15). -/
abbrev A_PM_BOOTREC : Nat := 0x4000004c
abbrev PM_BOOTREC_REC : Field := ⟨0x4000004c, 0, 32⟩
/-- Address of PM_CNT (Table 19.15). -/
abbrev A_PM_CNT : Nat := 0x40000050
abbrev PM_CNT_DROOP1 : Field := ⟨0x40000050, 16, 16⟩
abbrev PM_CNT_DROOP2 : Field := ⟨0x40000050, 0, 16⟩
/-- Address of PM_SCNT (Table 19.15). -/
abbrev A_PM_SCNT : Nat := 0x40000054
abbrev PM_SCNT_SLEEPS : Field := ⟨0x40000054, 16, 16⟩
abbrev PM_SCNT_REFUSED : Field := ⟨0x40000054, 0, 16⟩
/-- Address of VR_CTL (Table 19.16). -/
abbrev A_VR_CTL : Nat := 0x40160000
abbrev VR_CTL_FALLBACK : Field := ⟨0x40160000, 2, 1⟩
abbrev VR_CTL_EN_ACK : Field := ⟨0x40160000, 1, 1⟩
abbrev VR_CTL_EN : Field := ⟨0x40160000, 0, 1⟩
/-- Address of VR_CFG (Table 19.16). -/
abbrev A_VR_CFG : Nat := 0x40160004
abbrev VR_CFG_HALF : Field := ⟨0x40160004, 0, 12⟩
/-- Address of VR_STAT (Table 19.16). -/
abbrev A_VR_STAT : Nat := 0x40160008
abbrev VR_STAT_BUSY : Field := ⟨0x40160008, 31, 1⟩
abbrev VR_STAT_VALUE : Field := ⟨0x40160008, 16, 8⟩
abbrev VR_STAT_LAST : Field := ⟨0x40160008, 0, 16⟩
/-- Address of VR_INT_STAT (Table 19.16). -/
abbrev A_VR_INT_STAT : Nat := 0x4016000c
abbrev VR_INT_STAT_RANGE : Field := ⟨0x4016000c, 2, 1⟩
abbrev VR_INT_STAT_TIMEOUT : Field := ⟨0x4016000c, 1, 1⟩
abbrev VR_INT_STAT_ACK : Field := ⟨0x4016000c, 0, 1⟩
/-- Address of VR_INT_EN (Table 19.16). -/
abbrev A_VR_INT_EN : Nat := 0x40160010
abbrev VR_INT_EN_EN : Field := ⟨0x40160010, 0, 32⟩
/-- Address of FC_CFG (Table 20.6). -/
abbrev A_FC_CFG : Nat := 0x40140000
abbrev FC_CFG_ESC_WIN : Field := ⟨0x40140000, 24, 8⟩
abbrev FC_CFG_ESC_LIM : Field := ⟨0x40140000, 20, 4⟩
abbrev FC_CFG_IMEM_RST : Field := ⟨0x40140000, 3, 1⟩
abbrev FC_CFG_REPLAY_RST : Field := ⟨0x40140000, 2, 1⟩
abbrev FC_CFG_NOSPARE_RST : Field := ⟨0x40140000, 1, 1⟩
abbrev FC_CFG_SYNFAIL_RST : Field := ⟨0x40140000, 0, 1⟩
/-- Address of FC_STAT (Table 20.6). -/
abbrev A_FC_STAT : Nat := 0x40140004
abbrev FC_STAT_RECOV : Field := ⟨0x40140004, 31, 1⟩
abbrev FC_STAT_LEVEL : Field := ⟨0x40140004, 0, 5⟩
/-- Address of FC_REC_W0 (Table 20.6). -/
abbrev A_FC_REC_W0 : Nat := 0x40140008
abbrev FC_REC_W0_W0 : Field := ⟨0x40140008, 0, 32⟩
/-- Address of FC_REC_W1 (Table 20.6). -/
abbrev A_FC_REC_W1 : Nat := 0x4014000c
abbrev FC_REC_W1_W1 : Field := ⟨0x4014000c, 0, 32⟩
/-- Address of FC_REC_W2 (Table 20.6). -/
abbrev A_FC_REC_W2 : Nat := 0x40140010
abbrev FC_REC_W2_W2 : Field := ⟨0x40140010, 0, 32⟩
/-- Address of FC_REC_POP (Table 20.6). -/
abbrev A_FC_REC_POP : Nat := 0x40140014
abbrev FC_REC_POP_POP : Field := ⟨0x40140014, 0, 1⟩
/-- Address of FC_INT_STAT (Table 20.6). -/
abbrev A_FC_INT_STAT : Nat := 0x40140018
abbrev FC_INT_STAT_OVF : Field := ⟨0x40140018, 1, 1⟩
abbrev FC_INT_STAT_REC : Field := ⟨0x40140018, 0, 1⟩
/-- Address of FC_INT_EN (Table 20.6). -/
abbrev A_FC_INT_EN : Nat := 0x4014001c
abbrev FC_INT_EN_EN : Field := ⟨0x4014001c, 0, 32⟩
/-- Address of FC_CNT0 (Table 20.6). -/
abbrev A_FC_CNT0 : Nat := 0x40140020
abbrev FC_CNT0_RECORDS : Field := ⟨0x40140020, 16, 16⟩
abbrev FC_CNT0_LOST : Field := ⟨0x40140020, 0, 16⟩
/-- Address of FC_CNT1 (Table 20.6). -/
abbrev A_FC_CNT1 : Nat := 0x40140024
abbrev FC_CNT1_SRAM_CORR : Field := ⟨0x40140024, 16, 16⟩
abbrev FC_CNT1_SRAM_UNC : Field := ⟨0x40140024, 0, 16⟩
/-- Address of FC_OWN0 (Table 20.7). -/
abbrev A_FC_OWN0 : Nat := 0x40140030
abbrev FC_OWN0_OWN : Field := ⟨0x40140030, 0, 32⟩
/-- Address of FC_OWN1 (Table 20.7). -/
abbrev A_FC_OWN1 : Nat := 0x40140034
abbrev FC_OWN1_OWN : Field := ⟨0x40140034, 0, 32⟩
/-- Address of FC_SRAM_ACT (Table 20.7). -/
abbrev A_FC_SRAM_ACT : Nat := 0x40140038
abbrev FC_SRAM_ACT_RST : Field := ⟨0x40140038, 0, 32⟩
/-- Address of FC_SRAM_LOG (Table 20.7). -/
abbrev A_FC_SRAM_LOG : Nat := 0x4014003c
abbrev FC_SRAM_LOG_VALID : Field := ⟨0x4014003c, 31, 1⟩
abbrev FC_SRAM_LOG_ADDR : Field := ⟨0x4014003c, 2, 18⟩
/-- Address of GP_IN (Table 21.7). -/
abbrev A_GP_IN : Nat := 0x40110000
abbrev GP_IN_IN : Field := ⟨0x40110000, 0, 24⟩
/-- Address of GP_OUT (Table 21.7). -/
abbrev A_GP_OUT : Nat := 0x40110004
abbrev GP_OUT_OUT : Field := ⟨0x40110004, 0, 24⟩
/-- Address of GP_OUT_SET (Table 21.7). -/
abbrev A_GP_OUT_SET : Nat := 0x40110008
abbrev GP_OUT_SET_SET : Field := ⟨0x40110008, 0, 24⟩
/-- Address of GP_OUT_CLR (Table 21.7). -/
abbrev A_GP_OUT_CLR : Nat := 0x4011000c
abbrev GP_OUT_CLR_CLR : Field := ⟨0x4011000c, 0, 24⟩
/-- Address of GP_DIR (Table 21.7). -/
abbrev A_GP_DIR : Nat := 0x40110010
abbrev GP_DIR_DIR : Field := ⟨0x40110010, 0, 24⟩
/-- Address of GP_EDGE_STAT (Table 21.7). -/
abbrev A_GP_EDGE_STAT : Nat := 0x40110014
abbrev GP_EDGE_STAT_EDGE : Field := ⟨0x40110014, 0, 24⟩
/-- Address of GP_EDGE_EN (Table 21.7). -/
abbrev A_GP_EDGE_EN : Nat := 0x40110018
abbrev GP_EDGE_EN_EN : Field := ⟨0x40110018, 0, 24⟩
/-- Address of GP_SEC (Table 21.7). -/
abbrev A_GP_SEC : Nat := 0x4011001c
abbrev GP_SEC_SEC : Field := ⟨0x4011001c, 0, 24⟩
/-- Address of GP_SLEW (Table 21.7). -/
abbrev A_GP_SLEW : Nat := 0x40110020
abbrev GP_SLEW_DBG : Field := ⟨0x40110020, 10, 2⟩
abbrev GP_SLEW_ANTSW : Field := ⟨0x40110020, 8, 2⟩
abbrev GP_SLEW_VRQ : Field := ⟨0x40110020, 6, 2⟩
abbrev GP_SLEW_COEX : Field := ⟨0x40110020, 4, 2⟩
abbrev GP_SLEW_SP1 : Field := ⟨0x40110020, 2, 2⟩
abbrev GP_SLEW_SP0 : Field := ⟨0x40110020, 0, 2⟩
/-- Address of GP_EVPk (Table 21.7). -/
abbrev A_GP_EVP (n : Nat) : Nat := 0x40110040+n*4
abbrev GP_EVP_EDGE (n : Nat) : Field := ⟨0x40110040+n*4, 8, 2⟩
abbrev GP_EVP_PIN (n : Nat) : Field := ⟨0x40110040+n*4, 0, 5⟩
/-- Address of GP_EVCk (Table 21.7). -/
abbrev A_GP_EVC (n : Nat) : Nat := 0x40110060+n*4
abbrev GP_EVC_ACT (n : Nat) : Field := ⟨0x40110060+n*4, 8, 2⟩
abbrev GP_EVC_PIN (n : Nat) : Field := ⟨0x40110060+n*4, 0, 5⟩
/-- Address of GP_PADn_CFG (Table 21.8). -/
abbrev A_GP_PAD_CFG (n : Nat) : Nat := 0x40110100+n*4
abbrev GP_PAD_CFG_SLEW (n : Nat) : Field := ⟨0x40110100+n*4, 10, 2⟩
abbrev GP_PAD_CFG_PULL (n : Nat) : Field := ⟨0x40110100+n*4, 8, 2⟩
abbrev GP_PAD_CFG_LPOL (n : Nat) : Field := ⟨0x40110100+n*4, 7, 1⟩
abbrev GP_PAD_CFG_IEN (n : Nat) : Field := ⟨0x40110100+n*4, 6, 1⟩
abbrev GP_PAD_CFG_EDGE (n : Nat) : Field := ⟨0x40110100+n*4, 4, 2⟩

end Sys2Proof.Machine
end

