-- ==== Sys2Proof/Machine/RegMap.lean ====
section
/-! DEFINITION. Machine/RegMap.lean: the register tables of the spec's chapters 2 to 21, one row per register:
its offset in its block, its array dimensions (stride, count), the bits of each access code of R11 (RW, LK, W1C,
RC, WO; every other bit is RO) and its reset word. -/

namespace Sys2Proof.Machine

/-- One register, or array of registers, of a block (R11, R14). -/
structure RegDesc where
  off : Nat
  dims : List (Nat × Nat)
  rw : Word
  lk : Word
  w1c : Word
  rc : Word
  wo : Word
  reset : Word
  deriving DecidableEq, Repr

/-- Registers of PM, part 0. -/
def regsPM_0 : List RegDesc := [
  ⟨0x0, [], 0x3, 0x0, 0x0, 0x0, 0x0, 0x0⟩,
  ⟨0x4, [], 0x0, 0x0, 0x0, 0x0, 0xffff0003, 0x0⟩,
  ⟨0x8, [], 0x0, 0x0, 0x0, 0x0, 0x0, 0x0⟩,
  ⟨0xc, [], 0x0, 0x0, 0x0, 0x0, 0x0, 0x33ff00f⟩,
  ⟨0x10, [], 0x1ff, 0x0, 0x0, 0x0, 0x0, 0x150⟩,
  ⟨0x14, [], 0xff0000, 0x0, 0x0, 0x0, 0x0, 0x640000⟩,
  ⟨0x18, [], 0x0, 0xfffff0ff, 0x0, 0x0, 0x0, 0xf085058⟩,
  ⟨0x20, [], 0xf, 0x0, 0x0, 0x0, 0x0, 0x3⟩,
  ⟨0x24, [], 0x0, 0x0, 0x3f, 0x0, 0x0, 0x0⟩,
  ⟨0x28, [], 0xffffffff, 0x0, 0x0, 0x0, 0x0, 0x0⟩,
  ⟨0x2c, [], 0x8000ffff, 0x0, 0x0, 0x0, 0x0, 0x0⟩,
  ⟨0x30, [], 0xe63f, 0x0, 0x0, 0x0, 0x0, 0x2200⟩,
  ⟨0x34, [], 0xe63f, 0x0, 0x0, 0x0, 0x0, 0x2200⟩,
  ⟨0x40, [], 0x0, 0x0, 0xff, 0x0, 0x0, 0x0⟩,
  ⟨0x44, [], 0xffffffff, 0x0, 0x0, 0x0, 0x0, 0x0⟩,
  ⟨0x48, [], 0x0, 0x0, 0x0, 0x0, 0x0, 0x0⟩,
  ⟨0x4c, [], 0x0, 0x0, 0x0, 0x0, 0x0, 0x0⟩,
  ⟨0x50, [], 0x0, 0x0, 0x0, 0xffffffff, 0x0, 0x0⟩,
  ⟨0x54, [], 0x0, 0x0, 0x0, 0xffffffff, 0x0, 0x0⟩]

/-- The registers of block PM. -/
def regsPM : List RegDesc := regsPM_0

/-- Registers of TB, part 0. -/
def regsTB_0 : List RegDesc := [
  ⟨0x0, [], 0xfff, 0x0, 0x0, 0x0, 0x0, 0x21⟩,
  ⟨0x4, [], 0x0, 0x0, 0x0, 0x0, 0x0, 0x0⟩,
  ⟨0x8, [], 0x0, 0x0, 0x0, 0x0, 0x0, 0x0⟩,
  ⟨0xc, [], 0x0, 0x0, 0x0, 0x0, 0x0, 0x0⟩,
  ⟨0x14, [], 0x0, 0x0, 0x0, 0x0, 0x0, 0x0⟩,
  ⟨0x10, [], 0x0, 0x0, 0x0, 0x0, 0x0, 0x0⟩,
  ⟨0x18, [], 0x0, 0x0, 0x0, 0x0, 0x0, 0x17d7840⟩,
  ⟨0x1c, [], 0x0, 0x0, 0x0, 0x0, 0x0, 0x0⟩,
  ⟨0x20, [], 0xf, 0x0, 0x0, 0x0, 0x0, 0x9⟩,
  ⟨0x24, [], 0x0, 0x0, 0x0, 0x0, 0x0, 0x0⟩,
  ⟨0x30, [], 0x0, 0x0, 0x0, 0x0, 0x0, 0x0⟩,
  ⟨0x34, [], 0x0, 0x0, 0x0, 0x0, 0x0, 0x0⟩,
  ⟨0x38, [], 0x0, 0x0, 0x0, 0x0, 0x0, 0x0⟩,
  ⟨0x3c, [], 0x0, 0xfffff, 0x0, 0x0, 0x0, 0x20fa0⟩,
  ⟨0x40, [], 0x0, 0x0, 0x0, 0x0, 0x0, 0x0⟩,
  ⟨0x44, [], 0x0, 0x0, 0x0, 0x0, 0x0, 0x0⟩,
  ⟨0x48, [], 0x0, 0xffff0000, 0x0, 0x0, 0x0, 0x0⟩,
  ⟨0x4c, [], 0x0, 0x0, 0x3eff, 0x0, 0x0, 0x0⟩,
  ⟨0x50, [], 0xffffffff, 0x0, 0x0, 0x0, 0x0, 0x0⟩,
  ⟨0x100, [(32, 8)], 0xf, 0x0, 0xf0, 0x0, 0x0, 0x0⟩,
  ⟨0x104, [(32, 8)], 0xffffffff, 0x0, 0x0, 0x0, 0x0, 0x0⟩,
  ⟨0x108, [(32, 8)], 0xffffffff, 0x0, 0x0, 0x0, 0x0, 0x0⟩,
  ⟨0x10c, [(32, 8)], 0xffffffff, 0x0, 0x0, 0x0, 0x0, 0x0⟩,
  ⟨0x110, [(32, 8)], 0x0, 0x0, 0x0, 0x0, 0x0, 0x0⟩]

/-- Registers of TB, part 1. -/
def regsTB_1 : List RegDesc := [
  ⟨0x200, [(16, 16)], 0x0, 0x0, 0x0, 0x0, 0x0, 0x0⟩,
  ⟨0x204, [(16, 16)], 0x0, 0x0, 0x0, 0x0, 0x0, 0x0⟩,
  ⟨0x208, [(16, 16)], 0x0, 0x0, 0x0, 0x0, 0x0, 0x0⟩]

/-- The registers of block TB. -/
def regsTB : List RegDesc := regsTB_0 ++ regsTB_1

/-- Registers of IC, part 0. -/
def regsIC_0 : List RegDesc := [
  ⟨0x0, [], 0x1, 0x0, 0x0, 0x0, 0x0, 0x3⟩,
  ⟨0x4, [], 0x0, 0x0, 0x0, 0x0, 0x0, 0x0⟩,
  ⟨0x8, [], 0x0, 0x0, 0xf, 0x0, 0x0, 0x0⟩,
  ⟨0xc, [], 0xffffffff, 0x0, 0x0, 0x0, 0x0, 0x0⟩,
  ⟨0x10, [], 0x0, 0x0, 0x0, 0x0, 0x0, 0x0⟩,
  ⟨0x14, [], 0x0, 0x0, 0x0, 0x0, 0x0, 0x0⟩,
  ⟨0x18, [], 0x0, 0x0, 0x0, 0x0, 0xf, 0x0⟩,
  ⟨0x20, [], 0x0, 0xffffffff, 0x0, 0x0, 0x0, 0xffffffff⟩,
  ⟨0x24, [], 0x0, 0xffffffff, 0x0, 0x0, 0x0, 0xffffffff⟩,
  ⟨0x28, [], 0x0, 0x1, 0x0, 0x0, 0x0, 0x0⟩,
  ⟨0x30, [], 0x0, 0x3, 0x0, 0x0, 0x0, 0x0⟩,
  ⟨0x40, [(4, 4)], 0x0, 0x0, 0x0, 0x0, 0x1, 0x0⟩,
  ⟨0x50, [(4, 4)], 0x0, 0x0, 0x0, 0x0, 0x0, 0x0⟩,
  ⟨0x60, [(4, 4)], 0x0, 0x0, 0x0, 0x0, 0x0, 0x0⟩,
  ⟨0x100, [(4, 6)], 0xffffffff, 0x0, 0x0, 0x0, 0x0, 0x0⟩,
  ⟨0x140, [(4, 6)], 0xffffffff, 0x0, 0x0, 0x0, 0x0, 0x0⟩,
  ⟨0x180, [(4, 6)], 0x0, 0x0, 0x0, 0x0, 0x0, 0x0⟩,
  ⟨0x1c0, [(4, 4)], 0xffffffff, 0x0, 0x0, 0x0, 0x0, 0x0⟩,
  ⟨0x400, [(4, 192)], 0xf0f, 0x80000000, 0x0, 0x0, 0x0, 0x80000f00⟩]

/-- The registers of block IC. -/
def regsIC : List RegDesc := regsIC_0

/-- Registers of EV, part 0. -/
def regsEV_0 : List RegDesc := [
  ⟨0x0, [], 0x1, 0x0, 0x0, 0x0, 0x0, 0x3⟩,
  ⟨0x4, [], 0x0, 0x0, 0x7, 0x0, 0x0, 0x0⟩,
  ⟨0x8, [], 0xffffffff, 0x0, 0x0, 0x0, 0x0, 0x0⟩,
  ⟨0x10, [], 0xff, 0x0, 0x0, 0x0, 0x0, 0xff⟩,
  ⟨0x20, [(4, 4)], 0x0, 0x0, 0xffffffff, 0x0, 0x0, 0x0⟩,
  ⟨0x40, [(4, 8)], 0x0, 0xff00ff, 0x0, 0x0, 0x0, 0xff00ff⟩,
  ⟨0x1000, [(64, 64)], 0x800000bf, 0x0, 0x0, 0x0, 0x0, 0x91⟩,
  ⟨0x1004, [(64, 64), (4, 5)], 0xffffffff, 0x0, 0x0, 0x0, 0x0, 0x0⟩,
  ⟨0x1024, [(64, 64)], 0xffff, 0x0, 0x0, 0x0, 0x0, 0x0⟩,
  ⟨0x1018, [(64, 64), (4, 4)], 0xffffffff, 0x0, 0x0, 0x0, 0x0, 0x0⟩,
  ⟨0x1028, [(64, 64)], 0x0, 0x0, 0x0, 0xffff, 0x0, 0x0⟩]

/-- The registers of block EV. -/
def regsEV : List RegDesc := regsEV_0

/-- Registers of AC, part 0. -/
def regsAC_0 : List RegDesc := [
  ⟨0x0, [], 0x1, 0x0, 0x0, 0x0, 0x0, 0x3⟩,
  ⟨0x4, [], 0x0, 0x0, 0x0, 0x0, 0x0, 0x0⟩,
  ⟨0x8, [], 0x0, 0x0, 0x3ffff, 0x0, 0x0, 0x0⟩,
  ⟨0xc, [], 0xffffffff, 0x0, 0x0, 0x0, 0x0, 0x0⟩,
  ⟨0x100, [(64, 8)], 0x0, 0x1f, 0x0, 0x0, 0x0, 0x1f⟩,
  ⟨0x104, [(64, 8)], 0x0, 0x0, 0x0, 0x0, 0x107, 0x0⟩,
  ⟨0x108, [(64, 8)], 0x0, 0x0, 0x0, 0x0, 0x0, 0x0⟩,
  ⟨0x10c, [(64, 8)], 0xfffffffd, 0x0, 0x0, 0x0, 0x0, 0x0⟩,
  ⟨0x110, [(64, 8)], 0xffffffff, 0x0, 0x0, 0x0, 0x0, 0xffffffff⟩,
  ⟨0x114, [(64, 8)], 0x0, 0x0, 0x0, 0x0, 0xffffffff, 0x0⟩,
  ⟨0x118, [(64, 8)], 0xffffffff, 0x0, 0x0, 0x0, 0x0, 0x0⟩,
  ⟨0x11c, [(64, 8)], 0xffffffff, 0x0, 0x0, 0x0, 0x0, 0x0⟩,
  ⟨0x120, [(64, 8)], 0x0, 0x0, 0x0, 0x0, 0x0, 0x0⟩,
  ⟨0x124, [(64, 8)], 0x0, 0x0, 0x0, 0x0, 0x0, 0x0⟩,
  ⟨0x128, [(64, 8)], 0x0, 0x0, 0x0, 0x0, 0x0, 0x0⟩]

/-- The registers of block AC. -/
def regsAC : List RegDesc := regsAC_0

/-- Registers of FE, part 0. -/
def regsFE_0 : List RegDesc := [
  ⟨0x0, [], 0x1d, 0x20, 0x0, 0x0, 0x0, 0x6d⟩,
  ⟨0x10, [], 0xffffff, 0x0, 0x0, 0x0, 0x0, 0x0⟩,
  ⟨0x14, [], 0x0, 0x0, 0x40000000, 0x0, 0x0, 0x0⟩,
  ⟨0x18, [], 0xffff, 0x0, 0x0, 0x0, 0x0, 0x3e8⟩,
  ⟨0x20, [(4, 4)], 0x71f, 0x0, 0x0, 0x0, 0x0, 0x21e⟩,
  ⟨0x40, [], 0x3ff, 0x0, 0x0, 0x0, 0x0, 0x390⟩,
  ⟨0x50, [], 0x0, 0x0, 0x0, 0x0, 0x1f, 0x0⟩,
  ⟨0x54, [], 0xff, 0x0, 0x0, 0x0, 0x0, 0xa⟩,
  ⟨0x58, [], 0x0, 0x0, 0x0, 0x0, 0x0, 0x0⟩,
  ⟨0x60, [], 0xffff, 0x0, 0x0, 0x0, 0x80000000, 0x3e8⟩,
  ⟨0x64, [], 0x0, 0x0, 0x0, 0x0, 0x0, 0x0⟩,
  ⟨0x68, [], 0x0, 0x0, 0x0, 0x0, 0x0, 0x0⟩,
  ⟨0x6c, [], 0x0, 0x0, 0x0, 0x0, 0x0, 0x0⟩,
  ⟨0x70, [], 0x0, 0x0, 0x0, 0x0, 0x0, 0x0⟩,
  ⟨0x80, [], 0x0, 0x0, 0xff, 0x0, 0x0, 0x0⟩,
  ⟨0x84, [], 0xffffffff, 0x0, 0x0, 0x0, 0x0, 0x0⟩,
  ⟨0x100, [(8, 16)], 0x0, 0x0, 0x0, 0x0, 0x0, 0x0⟩,
  ⟨0x104, [(8, 16)], 0x0, 0x0, 0x0, 0x0, 0x0, 0xfefc⟩]

/-- The registers of block FE. -/
def regsFE : List RegDesc := regsFE_0

/-- Registers of CZ, part 0. -/
def regsCZ_0 : List RegDesc := [
  ⟨0x0, [], 0x3, 0x0, 0x0, 0x0, 0x0, 0x5⟩,
  ⟨0x4, [], 0x0, 0x0, 0x0, 0x0, 0x0, 0x0⟩,
  ⟨0x8, [], 0x1ffff, 0x0, 0x0, 0x0, 0x0, 0xbb8⟩,
  ⟨0xc, [], 0x3ff, 0x0, 0x0, 0x0, 0x0, 0x30a⟩,
  ⟨0x10, [], 0x0, 0x0, 0x0, 0x0, 0x0, 0x0⟩,
  ⟨0x20, [], 0x0, 0x0, 0x3f, 0x0, 0x0, 0x0⟩,
  ⟨0x24, [], 0xffffffff, 0x0, 0x0, 0x0, 0x0, 0x0⟩,
  ⟨0x100, [(256, 16)], 0xc0ff0f3f, 0x0, 0x0, 0x0, 0x0, 0x180000⟩,
  ⟨0x104, [(256, 16)], 0xff00030f, 0x0, 0x0, 0x0, 0x0, 0x80000102⟩,
  ⟨0x108, [(256, 16)], 0x0, 0x0, 0x0, 0x0, 0x3, 0x0⟩,
  ⟨0x10c, [(256, 16)], 0x0, 0x0, 0x0, 0x0, 0x0, 0x0⟩,
  ⟨0x110, [(256, 16)], 0x0, 0x0, 0x0, 0x0, 0x0, 0x0⟩,
  ⟨0x114, [(256, 16)], 0x0, 0x0, 0x0, 0x0, 0x0, 0x0⟩,
  ⟨0x118, [(256, 16)], 0x0, 0x0, 0x0, 0xffffffff, 0x0, 0x0⟩,
  ⟨0x11c, [(256, 16)], 0x0, 0x0, 0x0, 0xffffffff, 0x0, 0x0⟩,
  ⟨0x120, [(256, 16)], 0x0, 0x0, 0x0, 0xffffffff, 0x0, 0x0⟩,
  ⟨0x28, [], 0x8ffff0ff, 0x0, 0x0, 0x0, 0x0, 0xf0c800f⟩,
  ⟨0x2c, [], 0xffffffff, 0x0, 0x0, 0x0, 0x0, 0x0⟩,
  ⟨0x30, [], 0x0, 0x0, 0x0, 0x0, 0x0, 0x0⟩,
  ⟨0x34, [], 0x0, 0x0, 0x0, 0x0, 0x0, 0x0⟩,
  ⟨0x38, [], 0x0, 0x0, 0x0, 0x0, 0x0, 0x0⟩,
  ⟨0x3c, [], 0x0, 0x0, 0x0, 0x0, 0x0, 0x0⟩,
  ⟨0x40, [], 0x0, 0x0, 0x0, 0x0, 0x0, 0x0⟩,
  ⟨0x44, [], 0x3f, 0x0, 0x0, 0x0, 0x0, 0x4⟩]

/-- Registers of CZ, part 1. -/
def regsCZ_1 : List RegDesc := [
  ⟨0x48, [], 0x0, 0x0, 0x0, 0x0, 0x0, 0x0⟩,
  ⟨0x4c, [], 0x0, 0x0, 0x0, 0xffff0000, 0x0, 0x0⟩]

/-- The registers of block CZ. -/
def regsCZ : List RegDesc := regsCZ_0 ++ regsCZ_1

/-- Registers of LS, part 0. -/
def regsLS_0 : List RegDesc := [
  ⟨0x0, [], 0x1, 0x4, 0x0, 0x0, 0x0, 0x3⟩,
  ⟨0x4, [], 0x0, 0x0, 0x0, 0x0, 0x0, 0x0⟩,
  ⟨0x8, [], 0x0, 0x0, 0x3fffff, 0x0, 0x0, 0x0⟩,
  ⟨0xc, [], 0xffffffff, 0x0, 0x0, 0x0, 0x0, 0x0⟩,
  ⟨0x10, [], 0xff0003, 0x0, 0x0, 0x0, 0x0, 0x140000⟩,
  ⟨0x14, [], 0xffffffff, 0x0, 0x0, 0x0, 0x0, 0xaaaaaaaa⟩,
  ⟨0x18, [], 0x1c, 0xffff0002, 0x0, 0x0, 0x0, 0xffff0000⟩,
  ⟨0x1c, [], 0xfff, 0x0, 0x0, 0x0, 0x0, 0x0⟩,
  ⟨0x20, [], 0x0, 0x0, 0x0, 0x0, 0x0, 0x0⟩,
  ⟨0x24, [], 0x0, 0x0, 0x0, 0x0, 0x0, 0x0⟩,
  ⟨0x28, [], 0x0, 0x0, 0x0, 0x0, 0x0, 0x6af312⟩,
  ⟨0x30, [], 0x0, 0x0, 0x0, 0x0, 0x0, 0x0⟩,
  ⟨0x38, [], 0x0, 0x0, 0x0, 0x0, 0x0, 0x76543210⟩,
  ⟨0x3c, [], 0x0, 0x0, 0x0, 0x0, 0x0, 0xfedcba98⟩,
  ⟨0x40, [], 0x0, 0x0, 0x0, 0xffffffff, 0x0, 0x0⟩,
  ⟨0x44, [], 0x0, 0x0, 0x0, 0xffffffff, 0x0, 0x0⟩,
  ⟨0x48, [], 0x0, 0x0, 0x0, 0xffffffff, 0x0, 0x0⟩,
  ⟨0x4c, [], 0x0, 0x0, 0x0, 0xffffffff, 0x0, 0x0⟩,
  ⟨0x100, [(128, 4)], 0x0, 0x0, 0x0, 0x0, 0xf, 0x0⟩,
  ⟨0x104, [(128, 4)], 0x1fff, 0x0, 0x0, 0x0, 0x0, 0x0⟩,
  ⟨0x108, [(128, 4)], 0xffff, 0x1f0000, 0x0, 0x0, 0x0, 0x1f0320⟩,
  ⟨0x10c, [(128, 4)], 0x0, 0x0, 0x18000, 0x0, 0x0, 0x0⟩,
  ⟨0x110, [(128, 4)], 0x0, 0x0, 0x0, 0x0, 0x0, 0x0⟩,
  ⟨0x114, [(128, 4)], 0x0, 0x0, 0x0, 0x0, 0x0, 0x0⟩]

/-- Registers of LS, part 1. -/
def regsLS_1 : List RegDesc := [
  ⟨0x118, [(128, 4)], 0x0, 0x0, 0x0, 0x0, 0x0, 0x0⟩,
  ⟨0x11c, [(128, 4)], 0x0, 0x0, 0x0, 0x0, 0x0, 0x0⟩,
  ⟨0x140, [(128, 4), (4, 16)], 0xffffffff, 0x0, 0x0, 0x0, 0x0, 0x0⟩,
  ⟨0x464, [], 0x0, 0x0, 0x0, 0x0, 0x0, 0x0⟩,
  ⟨0x468, [], 0x0, 0x0, 0x0, 0x0, 0x0, 0x0⟩,
  ⟨0x46c, [], 0x0, 0x0, 0x0, 0x0, 0x0, 0x0⟩,
  ⟨0x470, [], 0x0, 0x0, 0x0, 0x0, 0x0, 0x0⟩,
  ⟨0x474, [], 0x0, 0x0, 0x0, 0x0, 0x0, 0x0⟩,
  ⟨0x400, [], 0xffffffff, 0x0, 0x0, 0x0, 0x0, 0x192801f4⟩,
  ⟨0x404, [], 0x3ffff, 0x0, 0x0, 0x0, 0x0, 0x13880⟩,
  ⟨0x408, [], 0x0, 0x0, 0x1ffff, 0x0, 0x0, 0x0⟩,
  ⟨0x40c, [], 0xffffffff, 0x0, 0x0, 0x0, 0x0, 0x0⟩,
  ⟨0x410, [], 0x0, 0x0, 0x0, 0x0, 0x0, 0x0⟩,
  ⟨0x420, [], 0xffffffff, 0x0, 0x0, 0x0, 0x0, 0x11e0c⟩,
  ⟨0x424, [], 0x1fffff, 0x0, 0x0, 0x0, 0x0, 0x0⟩,
  ⟨0x428, [], 0xffffffff, 0x0, 0x0, 0x0, 0x0, 0x0⟩,
  ⟨0x42c, [], 0xffff, 0x0, 0x0, 0x0, 0x0, 0x0⟩,
  ⟨0x430, [], 0xffff, 0x0, 0x0, 0x0, 0x0, 0xff38⟩,
  ⟨0x434, [], 0x0, 0x0, 0x0, 0xffffffff, 0x0, 0x0⟩,
  ⟨0x438, [], 0x0, 0x0, 0x0, 0xffffffff, 0x0, 0x0⟩,
  ⟨0x43c, [], 0x0, 0x0, 0x0, 0xffffffff, 0x0, 0x0⟩,
  ⟨0x440, [], 0xcfff3f3f, 0x0, 0x0, 0x0, 0x0, 0xc0102304⟩,
  ⟨0x444, [], 0xffff, 0x0, 0x0, 0x0, 0x0, 0xffff⟩,
  ⟨0x448, [], 0xff00ffff, 0x0, 0x0, 0x0, 0x0, 0x10000258⟩]

/-- Registers of LS, part 2. -/
def regsLS_2 : List RegDesc := [
  ⟨0x44c, [], 0x0, 0x0, 0x0, 0x0, 0x800001ff, 0x0⟩,
  ⟨0x450, [], 0x0, 0x0, 0x0, 0x0, 0x0, 0x0⟩,
  ⟨0x454, [], 0x0, 0x0, 0x0, 0x0, 0x0, 0x0⟩,
  ⟨0x458, [], 0x0, 0x0, 0x0, 0x0, 0x0, 0x0⟩,
  ⟨0x45c, [], 0x0, 0x0, 0x0, 0x0, 0x0, 0x40000000⟩,
  ⟨0x460, [], 0x0, 0x0, 0x0, 0xffffffff, 0x0, 0x0⟩]

/-- The registers of block LS. -/
def regsLS : List RegDesc := regsLS_0 ++ regsLS_1 ++ regsLS_2

/-- Registers of NB, part 0. -/
def regsNB_0 : List RegDesc := [
  ⟨0x0, [(64, 512)], 0xfc000fff, 0x0, 0x0, 0x0, 0x0, 0x0⟩,
  ⟨0x4, [(64, 512)], 0xffffffff, 0x0, 0x0, 0x0, 0x0, 0x0⟩,
  ⟨0x8, [(64, 512)], 0xffffffff, 0x0, 0x0, 0x0, 0x0, 0x0⟩,
  ⟨0xc, [(64, 512)], 0xffbfffff, 0x0, 0x0, 0x0, 0x0, 0x0⟩,
  ⟨0x10, [(64, 512)], 0xffffffff, 0x0, 0x0, 0x0, 0x0, 0x0⟩,
  ⟨0x14, [(64, 512)], 0xff81ffff, 0x0, 0x0, 0x0, 0x0, 0x0⟩,
  ⟨0x18, [(64, 512)], 0xffffffff, 0x0, 0x0, 0x0, 0x0, 0x0⟩,
  ⟨0x1c, [(64, 512)], 0xffffffff, 0x0, 0x0, 0x0, 0x0, 0x0⟩,
  ⟨0x20, [(64, 512)], 0xffffffff, 0x0, 0x0, 0x0, 0x0, 0x0⟩,
  ⟨0x24, [(64, 512)], 0xffffffff, 0x0, 0x0, 0x0, 0x0, 0x0⟩,
  ⟨0x28, [(64, 512)], 0xffffffff, 0x0, 0x0, 0x0, 0x0, 0x0⟩,
  ⟨0x2c, [(64, 512)], 0xffffffff, 0x0, 0x0, 0x0, 0x0, 0x0⟩,
  ⟨0x30, [(64, 512)], 0xffffffff, 0x0, 0x0, 0x0, 0x0, 0x0⟩,
  ⟨0x34, [(64, 512)], 0xfffffffe, 0x0, 0x0, 0x0, 0x0, 0x0⟩,
  ⟨0x38, [(64, 512)], 0x0, 0x0, 0x0, 0x0, 0x0, 0x0⟩,
  ⟨0x3c, [(64, 512)], 0x0, 0x0, 0x0, 0x0, 0x0, 0x0⟩,
  ⟨0x8000, [(4, 4096)], 0xfffe1fff, 0x0, 0x0, 0x0, 0x0, 0x0⟩,
  ⟨0xc000, [], 0x0, 0x3, 0x0, 0x0, 0x0, 0x1⟩]

/-- The registers of block NB. -/
def regsNB : List RegDesc := regsNB_0

/-- Registers of FW, part 0. -/
def regsFW_0 : List RegDesc := [
  ⟨0x0, [], 0x1d, 0x0, 0x0, 0x0, 0x0, 0x1f⟩,
  ⟨0x4, [], 0x6ff01ff, 0x0, 0x0, 0x0, 0x0, 0x69401ff⟩,
  ⟨0x8, [], 0xffffffff, 0x0, 0x0, 0x0, 0x0, 0x0⟩,
  ⟨0xc, [], 0xff, 0x0, 0x0, 0x0, 0x0, 0x0⟩,
  ⟨0x10, [], 0x80ffff3f, 0x0, 0x0, 0x0, 0x0, 0x100000⟩,
  ⟨0x14, [], 0x7ffffc, 0x0, 0x0, 0x0, 0x0, 0x14c7c⟩,
  ⟨0x18, [], 0x3f, 0x0, 0x0, 0x0, 0x0, 0x0⟩,
  ⟨0x1c, [], 0x0, 0x0, 0x0, 0xffff, 0x0, 0x0⟩,
  ⟨0x20, [], 0x0, 0x0, 0x0, 0xffffffff, 0x0, 0x0⟩,
  ⟨0x24, [], 0x0, 0x0, 0x0, 0xffffffff, 0x0, 0x0⟩,
  ⟨0x28, [], 0x0, 0x0, 0x3fff, 0x0, 0x0, 0x0⟩,
  ⟨0x2c, [], 0xffffffff, 0x0, 0x0, 0x0, 0x0, 0x0⟩,
  ⟨0x30, [], 0xffff, 0x0, 0x0, 0x0, 0x0, 0xf0⟩,
  ⟨0x34, [], 0x0, 0x0, 0x0, 0x0, 0xfff0003, 0x0⟩,
  ⟨0x38, [], 0x0, 0x0, 0x0, 0x0, 0x0, 0x0⟩,
  ⟨0x3c, [], 0x0, 0x0, 0x0, 0x0, 0x0, 0x0⟩,
  ⟨0x100, [(16, 4)], 0xfffffff0, 0x0, 0x0, 0x0, 0x0, 0x0⟩,
  ⟨0x140, [], 0xfffffff0, 0x0, 0x0, 0x0, 0x0, 0x0⟩,
  ⟨0x104, [(16, 4)], 0x800007ff, 0x0, 0x0, 0x0, 0x40000000, 0x0⟩,
  ⟨0x144, [], 0x800007ff, 0x0, 0x0, 0x0, 0x40000000, 0x0⟩,
  ⟨0x108, [(16, 4)], 0x0, 0x0, 0x0, 0x0, 0x0, 0x0⟩,
  ⟨0x148, [], 0x0, 0x0, 0x0, 0x0, 0x0, 0x0⟩,
  ⟨0x10c, [(16, 4)], 0x0, 0x0, 0x0, 0x0, 0x0, 0x0⟩,
  ⟨0x14c, [], 0x0, 0x0, 0x0, 0x0, 0xfff, 0x0⟩]

/-- Registers of FW, part 1. -/
def regsFW_1 : List RegDesc := [
  ⟨0x400, [], 0xfff0fff, 0x0, 0x0, 0x0, 0x0, 0x400b00⟩,
  ⟨0x404, [], 0xfff0fff, 0x0, 0x0, 0x0, 0x0, 0x1000400⟩,
  ⟨0x408, [], 0x8fffffff, 0x0, 0x0, 0x0, 0x0, 0x82003080⟩,
  ⟨0x40c, [], 0x80ff000f, 0x0, 0x0, 0x0, 0x0, 0x80140004⟩,
  ⟨0x410, [(4, 4)], 0xff00ffff, 0x0, 0x0, 0x0, 0x0, 0x0⟩,
  ⟨0x420, [(4, 4)], 0xfff0fff, 0x0, 0x0, 0x0, 0x0, 0x0⟩,
  ⟨0x430, [], 0x0, 0x0, 0x0, 0x0, 0x0, 0x0⟩,
  ⟨0x440, [], 0x0, 0x0, 0x0, 0x0, 0x0, 0x10000000⟩,
  ⟨0x444, [], 0x0, 0x0, 0x0, 0x0, 0x0, 0x0⟩,
  ⟨0x448, [], 0x0, 0x0, 0x0, 0x0, 0x0, 0x0⟩,
  ⟨0x450, [(4, 4)], 0x0, 0x0, 0x0, 0x0, 0x0, 0x0⟩,
  ⟨0x460, [], 0x0, 0x0, 0x0, 0xffffffff, 0x0, 0x0⟩,
  ⟨0x464, [], 0x0, 0x0, 0x0, 0xffffffff, 0x0, 0x0⟩,
  ⟨0x468, [], 0x0, 0x0, 0x0, 0xffffffff, 0x0, 0x0⟩,
  ⟨0x470, [(4, 4)], 0x0, 0x0, 0x0, 0xffffffff, 0x0, 0x0⟩,
  ⟨0x480, [], 0x0, 0x0, 0x3ff, 0x0, 0x0, 0x0⟩,
  ⟨0x484, [], 0xffffffff, 0x0, 0x0, 0x0, 0x0, 0x0⟩,
  ⟨0x490, [], 0x7ff, 0x0, 0x0, 0x0, 0x0, 0x0⟩,
  ⟨0x494, [], 0x0, 0x0, 0x0, 0x0, 0x0, 0x0⟩,
  ⟨0x498, [], 0x0, 0x0, 0x0, 0x0, 0x0, 0x0⟩,
  ⟨0x4a0, [], 0xfff, 0x0, 0x0, 0x0, 0x0, 0x0⟩,
  ⟨0x4a4, [], 0x0, 0x0, 0x0, 0x0, 0x0, 0x0⟩,
  ⟨0x4c0, [(4, 8)], 0x0, 0x0, 0x0, 0x0, 0x0, 0x0⟩]

/-- The registers of block FW. -/
def regsFW : List RegDesc := regsFW_0 ++ regsFW_1

/-- Registers of DC, part 0. -/
def regsDC_0 : List RegDesc := [
  ⟨0x0, [], 0x8, 0x5, 0x0, 0x0, 0x0, 0x4⟩,
  ⟨0x4, [], 0x0, 0x0, 0x0, 0x0, 0x0, 0x0⟩,
  ⟨0x8, [], 0x0, 0x0, 0x1effff, 0x0, 0x0, 0x0⟩,
  ⟨0xc, [], 0xffffffff, 0x0, 0x0, 0x0, 0x0, 0x0⟩,
  ⟨0x10, [], 0xffffffff, 0x0, 0x0, 0x0, 0x0, 0x5008ff10⟩,
  ⟨0x14, [], 0x0, 0x0, 0x0, 0xffffffff, 0x0, 0x0⟩,
  ⟨0x18, [], 0x0, 0x0, 0x0, 0xffff0000, 0x0, 0x0⟩,
  ⟨0x1c, [], 0x7ff, 0x0, 0x0, 0x0, 0x0, 0x0⟩,
  ⟨0x20, [], 0x0, 0x0, 0x0, 0x0, 0x0, 0x0⟩,
  ⟨0x100, [(32, 8)], 0xf000000, 0xe0f1ffff, 0x0, 0x0, 0x0, 0xc000000⟩,
  ⟨0x104, [(32, 8)], 0x0, 0xffffff, 0x0, 0x0, 0x0, 0x0⟩,
  ⟨0x108, [(32, 8)], 0x0, 0xffffff, 0x0, 0x0, 0x0, 0x0⟩,
  ⟨0x10c, [(32, 8)], 0x0, 0xffffffff, 0x0, 0x0, 0x0, 0xe10⟩,
  ⟨0x110, [(32, 8)], 0x0, 0x0, 0x0, 0x0, 0xf, 0x0⟩,
  ⟨0x114, [(32, 8)], 0x0, 0x0, 0x0, 0x0, 0x0, 0x0⟩,
  ⟨0x118, [(32, 8)], 0x0, 0x0, 0x0, 0x0, 0x0, 0x0⟩,
  ⟨0x11c, [(32, 8)], 0x0, 0x0, 0x0, 0xffffffff, 0x0, 0x0⟩]

/-- The registers of block DC. -/
def regsDC : List RegDesc := regsDC_0

/-- Registers of CE, part 0. -/
def regsCE_0 : List RegDesc := [
  ⟨0x0, [], 0x1, 0x0, 0x0, 0x0, 0x0, 0x3⟩,
  ⟨0x4, [], 0x0, 0x0, 0x0, 0x0, 0x0, 0x0⟩,
  ⟨0x8, [], 0x0, 0x0, 0x1fff, 0x0, 0x0, 0x0⟩,
  ⟨0xc, [], 0xffffffff, 0x0, 0x0, 0x0, 0x0, 0x0⟩,
  ⟨0x10, [], 0x0, 0x0, 0x0, 0x0, 0x0, 0x0⟩,
  ⟨0x14, [], 0x0, 0x0, 0x0, 0x0, 0x0, 0x0⟩,
  ⟨0x18, [], 0x0, 0x0, 0x0, 0x0, 0x0, 0x0⟩,
  ⟨0x20, [], 0x0, 0x0, 0x0, 0xffffffff, 0x0, 0x0⟩,
  ⟨0x100, [(64, 4)], 0xfbffdff0, 0x0, 0x0, 0x0, 0x3, 0x10d0⟩,
  ⟨0x104, [(64, 4)], 0x0, 0x0, 0x0, 0x0, 0x0, 0x0⟩,
  ⟨0x108, [(64, 4)], 0xffffffff, 0x0, 0x0, 0x0, 0x0, 0x0⟩,
  ⟨0x10c, [(64, 4)], 0xffffffff, 0x0, 0x0, 0x0, 0x0, 0x0⟩,
  ⟨0x110, [(64, 4)], 0xffffffff, 0x0, 0x0, 0x0, 0x0, 0x0⟩,
  ⟨0x114, [(64, 4)], 0xffffffff, 0x0, 0x0, 0x0, 0x0, 0x0⟩,
  ⟨0x118, [(64, 4), (4, 4)], 0xffffffff, 0x0, 0x0, 0x0, 0x0, 0x0⟩,
  ⟨0x128, [(64, 4), (4, 4)], 0xffffffff, 0x0, 0x0, 0x0, 0x0, 0x0⟩,
  ⟨0x400, [(64, 64)], 0x2f01007f, 0x0, 0x0, 0x0, 0x0, 0x2f000000⟩,
  ⟨0x404, [(64, 64), (4, 8)], 0x0, 0x0, 0x0, 0x0, 0xffffffff, 0x0⟩,
  ⟨0x424, [(64, 64)], 0x0, 0x0, 0x0, 0x0, 0x3, 0x0⟩]

/-- The registers of block CE. -/
def regsCE : List RegDesc := regsCE_0

/-- Registers of PQ, part 0. -/
def regsPQ_0 : List RegDesc := [
  ⟨0x0, [], 0x1, 0xc, 0x0, 0x0, 0x0, 0xb⟩,
  ⟨0x4, [], 0x0, 0x0, 0x0, 0x0, 0x0, 0x0⟩,
  ⟨0x10, [], 0xff, 0x0, 0x0, 0x0, 0x0, 0x40⟩,
  ⟨0x14, [], 0x0, 0x0, 0x0, 0x0, 0x1, 0x0⟩,
  ⟨0x8, [], 0x0, 0x0, 0xfff, 0x0, 0x0, 0x0⟩,
  ⟨0xc, [], 0xffffffff, 0x0, 0x0, 0x0, 0x0, 0x0⟩,
  ⟨0x20, [], 0x0, 0x0, 0x0, 0x0, 0x1, 0x0⟩,
  ⟨0x24, [], 0x0, 0x0, 0x0, 0x0, 0x0, 0x40000000⟩,
  ⟨0x28, [], 0x0, 0x0, 0x0, 0xffffffff, 0x0, 0x0⟩,
  ⟨0x40, [(4, 8)], 0x0, 0x0, 0x0, 0x0, 0x0, 0x0⟩,
  ⟨0x60, [], 0x0, 0x0, 0x0, 0x0, 0x0, 0x0⟩,
  ⟨0x64, [], 0x0, 0x0, 0x0, 0x0, 0x0, 0x0⟩,
  ⟨0x68, [], 0x0, 0x0, 0x0, 0x0, 0x0, 0x0⟩,
  ⟨0x6c, [], 0x0, 0x0, 0x0, 0x0, 0x0, 0x0⟩,
  ⟨0x70, [], 0x0, 0x0, 0x0, 0x0, 0x0, 0x0⟩,
  ⟨0x74, [], 0x30, 0x0, 0x0, 0x0, 0x3, 0x0⟩,
  ⟨0x78, [], 0xffffffff, 0x0, 0x0, 0x0, 0x0, 0x0⟩,
  ⟨0x7c, [], 0xffffffff, 0x0, 0x0, 0x0, 0x0, 0x0⟩,
  ⟨0x80, [], 0xffffffff, 0x0, 0x0, 0x0, 0x0, 0x0⟩,
  ⟨0x100, [(64, 4)], 0xfe000000, 0x0, 0x0, 0x0, 0x3, 0x0⟩,
  ⟨0x104, [(64, 4)], 0x0, 0x0, 0x0, 0x0, 0x0, 0x0⟩,
  ⟨0x108, [(64, 4)], 0xffffffff, 0x0, 0x0, 0x0, 0x0, 0x0⟩,
  ⟨0x10c, [(64, 4)], 0xffffffff, 0x0, 0x0, 0x0, 0x0, 0x0⟩,
  ⟨0x110, [(64, 4)], 0xffffffff, 0x0, 0x0, 0x0, 0x0, 0x0⟩]

/-- Registers of PQ, part 1. -/
def regsPQ_1 : List RegDesc := [
  ⟨0x114, [(64, 4)], 0xffffffff, 0x0, 0x0, 0x0, 0x0, 0x0⟩,
  ⟨0x118, [(64, 4)], 0xffffffff, 0x0, 0x0, 0x0, 0x0, 0x0⟩,
  ⟨0x11c, [(64, 4)], 0x7fffff, 0x0, 0x0, 0x0, 0x0, 0x0⟩,
  ⟨0x120, [(64, 4)], 0xff00ffff, 0x0, 0x0, 0x0, 0x0, 0x20⟩]

/-- The registers of block PQ. -/
def regsPQ : List RegDesc := regsPQ_0 ++ regsPQ_1

/-- Registers of FL, part 0. -/
def regsFL_0 : List RegDesc := [
  ⟨0x0, [], 0x5, 0x0, 0x0, 0x0, 0x0, 0x7⟩,
  ⟨0x4, [], 0xffff, 0x0, 0x0, 0x0, 0x0, 0x50a⟩,
  ⟨0x8, [], 0x3ffe00, 0x0, 0x0, 0x0, 0x0, 0x0⟩,
  ⟨0xc, [], 0xfffffffc, 0x0, 0x0, 0x0, 0x0, 0x0⟩,
  ⟨0x10, [], 0x0, 0x0, 0x0, 0x0, 0x7, 0x0⟩,
  ⟨0x14, [], 0x0, 0x0, 0x0, 0x0, 0x0, 0x0⟩,
  ⟨0x18, [], 0x0, 0x0, 0x3f, 0x0, 0x0, 0x0⟩,
  ⟨0x1c, [], 0xffffffff, 0x0, 0x0, 0x0, 0x0, 0x0⟩,
  ⟨0x20, [], 0x0, 0x0, 0x0, 0x0, 0x0, 0x0⟩,
  ⟨0x24, [], 0x0, 0x0, 0x0, 0x0, 0x0, 0x0⟩,
  ⟨0x28, [], 0x0, 0xffffffff, 0x0, 0x0, 0x0, 0x0⟩,
  ⟨0x2c, [], 0x0, 0xffffffff, 0x0, 0x0, 0x0, 0x0⟩,
  ⟨0x30, [], 0x3f, 0x0, 0x0, 0x0, 0x0, 0x0⟩,
  ⟨0x34, [(4, 4)], 0x0, 0x0, 0x0, 0x0, 0x0, 0x0⟩,
  ⟨0x44, [], 0x0, 0x0, 0x0, 0x0, 0x0, 0x0⟩,
  ⟨0x48, [], 0x0, 0x0, 0x0, 0xffffffff, 0x0, 0x0⟩,
  ⟨0x4c, [], 0x0, 0x0, 0x0, 0x0, 0x0, 0x0⟩]

/-- The registers of block FL. -/
def regsFL : List RegDesc := regsFL_0

/-- Registers of SP0, part 0. -/
def regsSP0_0 : List RegDesc := [
  ⟨0x0, [], 0x2d, 0x0, 0x0, 0x0, 0x0, 0x20⟩,
  ⟨0x4, [], 0x71f, 0x0, 0x0, 0x0, 0x0, 0x7⟩,
  ⟨0x8, [], 0x10fff, 0x0, 0x0, 0x0, 0x0, 0x20⟩,
  ⟨0xc, [], 0xffffffff, 0x0, 0x0, 0x0, 0x0, 0x8040404⟩,
  ⟨0x10, [], 0xc000ffff, 0x0, 0x0, 0x0, 0x0, 0x3e8⟩,
  ⟨0x14, [], 0x301fffff, 0x0, 0x0, 0x0, 0xc0000000, 0x1⟩,
  ⟨0x18, [], 0x0, 0x0, 0x0, 0x0, 0x0, 0x0⟩,
  ⟨0x1c, [], 0x0, 0x0, 0x0, 0x0, 0xc0000000, 0x0⟩,
  ⟨0x20, [], 0x7f7f, 0x0, 0x0, 0x0, 0x0, 0x2010⟩,
  ⟨0x24, [], 0xffffffff, 0x0, 0x0, 0x0, 0x0, 0xffffffff⟩,
  ⟨0x28, [], 0x0, 0x0, 0x0, 0x0, 0xffffffff, 0x0⟩,
  ⟨0x2c, [], 0x0, 0x0, 0x0, 0x0, 0x0, 0x0⟩,
  ⟨0x30, [], 0x0, 0x0, 0x7ff, 0x0, 0x0, 0x0⟩,
  ⟨0x34, [], 0x307ff, 0x0, 0x0, 0x0, 0x0, 0x0⟩,
  ⟨0x38, [], 0x0, 0x0, 0x0, 0x0, 0x0, 0x0⟩]

/-- The registers of block SP0. -/
def regsSP0 : List RegDesc := regsSP0_0

/-- Registers of SP1, part 0. -/
def regsSP1_0 : List RegDesc := [
  ⟨0x0, [], 0x2d, 0x0, 0x0, 0x0, 0x0, 0x20⟩,
  ⟨0x4, [], 0x71f, 0x0, 0x0, 0x0, 0x0, 0x7⟩,
  ⟨0x8, [], 0x10fff, 0x0, 0x0, 0x0, 0x0, 0x20⟩,
  ⟨0xc, [], 0xffffffff, 0x0, 0x0, 0x0, 0x0, 0x8040404⟩,
  ⟨0x10, [], 0xc000ffff, 0x0, 0x0, 0x0, 0x0, 0x3e8⟩,
  ⟨0x14, [], 0x301fffff, 0x0, 0x0, 0x0, 0xc0000000, 0x1⟩,
  ⟨0x18, [], 0x0, 0x0, 0x0, 0x0, 0x0, 0x0⟩,
  ⟨0x1c, [], 0x0, 0x0, 0x0, 0x0, 0xc0000000, 0x0⟩,
  ⟨0x20, [], 0x7f7f, 0x0, 0x0, 0x0, 0x0, 0x2010⟩,
  ⟨0x24, [], 0xffffffff, 0x0, 0x0, 0x0, 0x0, 0xffffffff⟩,
  ⟨0x28, [], 0x0, 0x0, 0x0, 0x0, 0xffffffff, 0x0⟩,
  ⟨0x2c, [], 0x0, 0x0, 0x0, 0x0, 0x0, 0x0⟩,
  ⟨0x30, [], 0x0, 0x0, 0x7ff, 0x0, 0x0, 0x0⟩,
  ⟨0x34, [], 0x307ff, 0x0, 0x0, 0x0, 0x0, 0x0⟩,
  ⟨0x38, [], 0x0, 0x0, 0x0, 0x0, 0x0, 0x0⟩]

/-- The registers of block SP1. -/
def regsSP1 : List RegDesc := regsSP1_0

/-- Registers of TM, part 0. -/
def regsTM_0 : List RegDesc := [
  ⟨0x0, [], 0x1, 0x4, 0x0, 0x0, 0x0, 0x3⟩,
  ⟨0x100, [(256, 8)], 0x0, 0x0, 0x0, 0x0, 0x3, 0x0⟩,
  ⟨0x104, [(256, 8)], 0xfc1fffff, 0x0, 0x0, 0x0, 0x0, 0xf0000000⟩,
  ⟨0x108, [(256, 8)], 0x0, 0x0, 0x40000000, 0x0, 0x0, 0x0⟩,
  ⟨0x10c, [(256, 8)], 0xffffffff, 0x0, 0x0, 0x0, 0x0, 0x0⟩,
  ⟨0x110, [(256, 8)], 0xffffffff, 0x0, 0x0, 0x0, 0x0, 0xffffffff⟩,
  ⟨0x114, [(256, 8)], 0x0, 0x0, 0xdff, 0x0, 0x0, 0x0⟩,
  ⟨0x118, [(256, 8)], 0xffffffff, 0x0, 0x0, 0x0, 0x0, 0x0⟩,
  ⟨0x140, [(256, 8), (32, 4)], 0xf9f, 0x0, 0x0, 0x0, 0x0, 0x100⟩,
  ⟨0x144, [(256, 8), (32, 4)], 0xffffffff, 0x0, 0x0, 0x0, 0x0, 0x0⟩,
  ⟨0x148, [(256, 8), (32, 4)], 0x0, 0x0, 0x0, 0x0, 0x0, 0x0⟩,
  ⟨0x14c, [(256, 8), (32, 4)], 0x0, 0x0, 0xf0000000, 0x0, 0x0, 0x0⟩,
  ⟨0x150, [(256, 8), (32, 4)], 0x0, 0x0, 0x0, 0x0, 0x0, 0x0⟩,
  ⟨0x154, [(256, 8), (32, 4)], 0x0, 0x0, 0x0, 0x0, 0x0, 0x0⟩,
  ⟨0x158, [(256, 8), (32, 4)], 0x0, 0x0, 0x0, 0x0, 0x0, 0x0⟩]

/-- The registers of block TM. -/
def regsTM : List RegDesc := regsTM_0

/-- Registers of GP, part 0. -/
def regsGP_0 : List RegDesc := [
  ⟨0x0, [], 0x0, 0x0, 0x0, 0x0, 0x0, 0x0⟩,
  ⟨0x4, [], 0xffffff, 0x0, 0x0, 0x0, 0x0, 0x0⟩,
  ⟨0x8, [], 0x0, 0x0, 0x0, 0x0, 0xffffff, 0x0⟩,
  ⟨0xc, [], 0x0, 0x0, 0x0, 0x0, 0xffffff, 0x0⟩,
  ⟨0x10, [], 0xffffff, 0x0, 0x0, 0x0, 0x0, 0x0⟩,
  ⟨0x14, [], 0x0, 0x0, 0xffffff, 0x0, 0x0, 0x0⟩,
  ⟨0x18, [], 0xffffff, 0x0, 0x0, 0x0, 0x0, 0x0⟩,
  ⟨0x1c, [], 0x0, 0xffffff, 0x0, 0x0, 0x0, 0x0⟩,
  ⟨0x20, [], 0xfff, 0x0, 0x0, 0x0, 0x0, 0x655⟩,
  ⟨0x40, [(4, 8)], 0x31f, 0x0, 0x0, 0x0, 0x0, 0x0⟩,
  ⟨0x60, [(4, 8)], 0x31f, 0x0, 0x0, 0x0, 0x0, 0x0⟩,
  ⟨0x100, [(4, 24)], 0xff0, 0x0, 0x0, 0x0, 0x0, 0x540⟩]

/-- The registers of block GP. -/
def regsGP : List RegDesc := regsGP_0

/-- Registers of BT, part 0. -/
def regsBT_0 : List RegDesc := [
  ⟨0x0, [], 0x0, 0x0, 0x0, 0x0, 0x0, 0x58880001⟩,
  ⟨0x4, [], 0x0, 0x0, 0x0, 0x0, 0x0, 0x0⟩,
  ⟨0x8, [], 0x0, 0x0, 0x0, 0x0, 0x0, 0x30000000⟩,
  ⟨0xc, [], 0x0, 0x0, 0x0, 0x0, 0x1, 0x0⟩,
  ⟨0x10, [], 0x0, 0x0, 0x0, 0x0, 0x0, 0x0⟩,
  ⟨0x14, [], 0x0, 0x0, 0x0, 0x0, 0x0, 0x0⟩,
  ⟨0x18, [], 0x0, 0x0, 0x0, 0x0, 0x0, 0x0⟩,
  ⟨0x1c, [], 0x0, 0x0, 0x0, 0x0, 0x0, 0x0⟩,
  ⟨0x20, [], 0x0, 0x0, 0x0, 0x0, 0x0, 0x0⟩,
  ⟨0x24, [], 0x0, 0x0, 0x0, 0x0, 0x0, 0x0⟩,
  ⟨0x28, [], 0x0, 0x0, 0x0, 0x0, 0x0, 0x0⟩,
  ⟨0x2c, [], 0x0, 0x0, 0x0, 0x0, 0x0, 0x0⟩,
  ⟨0x30, [], 0x0, 0x0, 0x0, 0x0, 0x0, 0x0⟩,
  ⟨0x34, [], 0x0, 0x0, 0x0, 0x0, 0x0, 0x0⟩]

/-- The registers of block BT. -/
def regsBT : List RegDesc := regsBT_0

/-- Registers of WD, part 0. -/
def regsWD_0 : List RegDesc := [
  ⟨0x100, [(32, 4)], 0x0, 0xc000ffff, 0x0, 0x0, 0x0, 0x40002710⟩,
  ⟨0x200, [], 0x0, 0xc000ffff, 0x0, 0x0, 0x0, 0x40002710⟩,
  ⟨0x104, [(32, 4)], 0x0, 0xffffffff, 0x0, 0x0, 0x0, 0x0⟩,
  ⟨0x204, [], 0x0, 0xffffffff, 0x0, 0x0, 0x0, 0x0⟩,
  ⟨0x108, [(32, 4)], 0x0, 0x0, 0x0, 0x0, 0xffff, 0x0⟩,
  ⟨0x208, [], 0x0, 0x0, 0x0, 0x0, 0xffff, 0x0⟩,
  ⟨0x10c, [(32, 4)], 0x0, 0x0, 0x0, 0x0, 0x0, 0x0⟩,
  ⟨0x20c, [], 0x0, 0x0, 0x0, 0x0, 0x0, 0x0⟩,
  ⟨0x110, [(32, 4)], 0x0, 0x0, 0x1, 0x0, 0x0, 0x0⟩,
  ⟨0x210, [], 0x0, 0x0, 0x1, 0x0, 0x0, 0x0⟩,
  ⟨0x114, [(32, 4)], 0xffffffff, 0x0, 0x0, 0x0, 0x0, 0x0⟩,
  ⟨0x214, [], 0xffffffff, 0x0, 0x0, 0x0, 0x0, 0x0⟩]

/-- The registers of block WD. -/
def regsWD : List RegDesc := regsWD_0

/-- Registers of FC, part 0. -/
def regsFC_0 : List RegDesc := [
  ⟨0x0, [], 0x0, 0xfff0000f, 0x0, 0x0, 0x0, 0x3c400000⟩,
  ⟨0x4, [], 0x0, 0x0, 0x0, 0x0, 0x0, 0x0⟩,
  ⟨0x8, [], 0x0, 0x0, 0x0, 0x0, 0x0, 0x0⟩,
  ⟨0xc, [], 0x0, 0x0, 0x0, 0x0, 0x0, 0x0⟩,
  ⟨0x10, [], 0x0, 0x0, 0x0, 0x0, 0x0, 0x0⟩,
  ⟨0x14, [], 0x0, 0x0, 0x0, 0x0, 0x1, 0x0⟩,
  ⟨0x18, [], 0x0, 0x0, 0x3, 0x0, 0x0, 0x0⟩,
  ⟨0x1c, [], 0xffffffff, 0x0, 0x0, 0x0, 0x0, 0x0⟩,
  ⟨0x20, [], 0x0, 0x0, 0x0, 0xffffffff, 0x0, 0x0⟩,
  ⟨0x24, [], 0x0, 0x0, 0x0, 0xffffffff, 0x0, 0x0⟩,
  ⟨0x30, [], 0x0, 0xffffffff, 0x0, 0x0, 0x0, 0x0⟩,
  ⟨0x34, [], 0x0, 0xffffffff, 0x0, 0x0, 0x0, 0x0⟩,
  ⟨0x38, [], 0x0, 0xffffffff, 0x0, 0x0, 0x0, 0x0⟩,
  ⟨0x3c, [], 0x0, 0x0, 0x80000000, 0x0, 0x0, 0x0⟩]

/-- The registers of block FC. -/
def regsFC : List RegDesc := regsFC_0

/-- Registers of CX, part 0. -/
def regsCX_0 : List RegDesc := [
  ⟨0x0, [], 0x3, 0x0, 0x0, 0x0, 0x0, 0x0⟩,
  ⟨0x4, [], 0xe3ffff00, 0x0, 0x0, 0x0, 0x0, 0xa0640a00⟩,
  ⟨0x8, [], 0xff, 0x0, 0x0, 0x0, 0x0, 0x13⟩,
  ⟨0xc, [], 0x0, 0x0, 0xf, 0x0, 0x0, 0x0⟩,
  ⟨0x10, [], 0xffffffff, 0x0, 0x0, 0x0, 0x0, 0x0⟩,
  ⟨0x14, [], 0x0, 0x0, 0x0, 0xffffffff, 0x0, 0x0⟩,
  ⟨0x18, [], 0x0, 0x0, 0x0, 0xffffffff, 0x0, 0x0⟩,
  ⟨0x1c, [], 0x0, 0x0, 0x0, 0x0, 0x0, 0x0⟩]

/-- The registers of block CX. -/
def regsCX : List RegDesc := regsCX_0

/-- Registers of VR, part 0. -/
def regsVR_0 : List RegDesc := [
  ⟨0x0, [], 0x1, 0x0, 0x0, 0x0, 0x0, 0x0⟩,
  ⟨0x4, [], 0xfff, 0x0, 0x0, 0x0, 0x0, 0x64⟩,
  ⟨0x8, [], 0x0, 0x0, 0x0, 0x0, 0x0, 0x0⟩,
  ⟨0xc, [], 0x0, 0x0, 0x7, 0x0, 0x0, 0x0⟩,
  ⟨0x10, [], 0xffffffff, 0x0, 0x0, 0x0, 0x0, 0x0⟩]

/-- The registers of block VR. -/
def regsVR : List RegDesc := regsVR_0

/-- The register rows of the block whose window is number `m` (R14, Table 14.4): the window of block `m` starts at
0x4000_0000 + m × 0x1_0000. -/
def blockRegs : Nat → List RegDesc
  | 0 => regsPM
  | 1 => regsTB
  | 2 => regsIC
  | 3 => regsEV
  | 4 => regsAC
  | 5 => regsFE
  | 6 => regsCZ
  | 7 => regsLS
  | 8 => regsNB
  | 9 => regsFW
  | 10 => regsDC
  | 11 => regsCE
  | 12 => regsPQ
  | 13 => regsFL
  | 14 => regsSP0
  | 15 => regsSP1
  | 16 => regsTM
  | 17 => regsGP
  | 18 => regsBT
  | 19 => regsWD
  | 20 => regsFC
  | 21 => regsCX
  | 22 => regsVR
  | _ => []

/-- Does offset `o` name an element of an array with dimensions `dims` (outermost first) that starts at `base`? -/
def inDims (o base : Nat) : List (Nat × Nat) → Bool
  | [] => o == base
  | (st, ct) :: ds =>
    match ds with
    | [] => decide (base ≤ o) && ((o - base) % st == 0) && decide ((o - base) / st < ct)
    | _ =>
      decide (base ≤ o) && decide ((o - base) / st < ct) && inDims (base + (o - base) % st) base ds

/-- The register row that holds bus address `a`, if one does (R14: every other address is unmapped). -/
def findReg (a : Nat) : Option RegDesc :=
  if a < 0x40000000 ∨ 0x40170000 ≤ a then none
  else (blockRegs ((a - 0x40000000) / 0x10000)).find? fun d => inDims (a % 0x10000) d.off d.dims

/-- The reset word of the register at bus address `a`. FW_CLSc_CFG and FW_CLSc_LIM have a reset value of their own
for each class (Table 10.8). -/
def resetWord (a : Nat) : Word :=
  match a with
  | 0x40090410 => 0x7F000000
  | 0x40090414 => 0x3D000000
  | 0x40090418 => 0x3B000000
  | 0x4009041C => 0x39000000
  | 0x40090420 => 0x0B000100
  | 0x40090424 => 0x09000100
  | 0x40090428 => 0x07000080
  | 0x4009042C => 0x04000080
  | _ =>
    match findReg a with
    | some d => d.reset
    | none => 0

end Sys2Proof.Machine
end

