-- ==== Sys2Proof/Machine/State.lean ====
section
/-! DEFINITION. Machine/State.lean: the state of the SV88 as plain data. Every register of the spec's tables lives in
`regs` at its bus address; the structures below hold what the spec gives the chip beside its registers. -/

namespace Sys2Proof.Machine

/-- Why a step stops with a fault. -/
inductive Fault where
  /-- Raised by a meaning whose list operand is longer than the hardware can present (WellFormed). Safe. -/
  | illFormed
  deriving DecidableEq, Repr

/-- Why a step has no meaning for a command. -/
inductive Refusal where
  /-- Raised by a command whose meaning is not modelled, under its name. Safe. -/
  | notModelled (mnemonic : String)
  deriving DecidableEq, Repr

/-- The outcome of the last bus access: the data it returned and whether it had an error response (R10, R14). -/
structure Resp where
  data : Word
  err : Bool
  deriving DecidableEq, Repr

/-- The device states of Table 19.1; Run and Idle differ only in what the cores do (R539). -/
inductive Power where
  | active
  | sleep
  | deep
  | off
  deriving DecidableEq, Repr

/-- The time base beside its registers (R46 to R71, R599): `sinceEdge`: ticks since the last slow-tick edge or the lock;
`edge`: this tick is a slow-tick edge (R53); `timedAt`: the tick at which a timed commit token last passed (R91). -/
structure TimeBase where
  now : BitVec 64
  dtime : BitVec 64
  slow : BitVec 48
  dacc : Word
  slewRem : Int
  slewWait : Nat
  stepPend : Option Int
  calOpen : Bool
  calTicks : Nat
  calSlow : Nat
  sinceEdge : Nat
  phase : Nat
  edge : Bool
  timedAt : Option Nat
  xoStopped : Bool
  firstAccepted : Bool
  beaconNow : BitVec 64
  t0 : BitVec 64
  d0 : BitVec 64
  s0 : BitVec 48
  shadow : List (Nat × Word)
  deriving DecidableEq, Repr

/-- A staged write: address, mask, value (R76). -/
structure StageEntry where
  addr : Nat
  mask : Word
  value : Word
  deriving DecidableEq, Repr

/-- A commit group beside its registers: its staging store, whether its commit is timed, the entries delivered so far, and
the tick at which its token reached the arbiter (R76, R81, R89, R91). -/
structure Group where
  entries : List StageEntry
  timed : Bool
  delivered : Nat
  since : Nat
  deriving DecidableEq, Repr

/-- A core beside its IC registers (R417 to R428, R435, R446). CSRs and general registers are lists of
(number, value); a number that is not listed holds 0. `first`: halted before its first instruction (R446, R531). -/
structure CoreS where
  mie : Bool
  meie : Bool
  user : Bool
  stack : List Nat
  active : List Nat
  gpr : List (Nat × Word)
  csr : List (Nat × Word)
  dm : List (Nat × Word)
  wasIdle : Bool
  first : Bool
  deriving DecidableEq, Repr

/-- A load of the current ledger that starts on request (R40, R43). -/
inductive Load where
  | fwe
  | ce (c : Nat)
  | pq (c : Nat)
  | prog
  | erase
  deriving DecidableEq, Repr

/-- The power manager beside its registers (R43, R544, R557): `attempt`: step 1 of a sleep entry has passed; `waking`:
0 none, 1 recognised, 2 rail and crystal starting, 3 PLL locked; `vrWait`: the frame that awaits its acknowledgement (0
none, 1 SET, 2 LOW), `vrStart` and `vrSlow`: the tick, where the time base ran, and the slow count at which the last frame began,
`buckWait`: a RELEASE has been sent and the internal buck is yet to take over (R554, R556); `abandoned`: a wait has arisen since step
1 of the attempt; `sniffWake`: the alarm of the last wake was the sniff schedule's, `sniffUsed`: its sniff has
opened; `cmp`: comparator outputs; `offPend`: Off waits for a flash or OTP operation. -/
structure PowerS where
  tx : List (Nat × Nat)
  loads : List Load
  held : List Load
  lastRefuse : Nat
  alarm : Option Nat
  attempt : Bool
  waking : Nat
  abandoned : Bool
  vrWait : Nat
  vrStart : Option Nat
  vrSlow : Nat
  buckWait : Bool
  vrSeq : Nat
  sniffWake : Bool
  sniffUsed : Bool
  cmp : List Bool
  offPend : Bool
  deriving DecidableEq, Repr

/-- A recovery in progress (R572). -/
structure Recovery where
  code : Nat
  sub : Nat
  place : Nat
  start : BitVec 64
  deriving DecidableEq, Repr

/-- A fault record (Table 20.3). -/
structure FaultRec where
  w0 : Word
  w1 : Word
  w2 : Word
  deriving DecidableEq, Repr

/-- What an access to system SRAM does: a load or store of 2 ^ `size` octets, LR.W, SC.W, an AMO (R426). -/
inductive MemOp where
  | load (size : Nat)
  | store (size : Nat) (v : Word)
  | reserve
  | conditional (v : Word)
  | amo (op : AmoOp) (v : Word)
  deriving DecidableEq, Repr

/-- An access of a core to a unit of system SRAM under scan, which waits for the scan's end (R567). -/
structure Stall where
  core : Nat
  addr : Nat
  op : MemOp
  deriving DecidableEq, Repr

/-- Fault containment beside its registers (R567, R571 to R573). -/
structure FaultS where
  stalls : List Stall
  queue : List FaultRec
  recov : List Recovery
  hist : List (Nat × Nat × BitVec 64)
  scan : List Nat
  deriving DecidableEq, Repr

/-- The debug port (R443 to R448): the window offset, space and increment; whether SETADDR was invalid and whether an
increment passed the boundary; the module register selected; the access under way (write, its word); the outcome that
RESULT returns; the status and data of the last response and the 44 bits as sent (0: no response); `quietTo`: the tick up to which a
bad SYNC keeps the port from looking for a request, `sentAt`: when the last response began. -/
structure DebugS where
  addr : Nat
  space : Nat
  inc : Bool
  bad : Bool
  past : Bool
  selCore : Nat
  selReg : Nat
  busy : Option (Bool × Word)
  result : Nat × Word
  status : Nat
  data : Word
  frame : Nat
  quietTo : Nat
  sentAt : Nat
  deriving DecidableEq, Repr

/-- A flash operation: program or erase, its address, source, attribute, latched page, and its run record
(R470, R473, R474, R476). -/
structure FlashOp where
  erase : Bool
  addr : Nat
  src : Nat
  ns : Bool
  page : List Byte
  pulsed : Bool
  ran : Nat
  since : Nat
  deriving DecidableEq, Repr

/-- The flash controller beside its registers: the operation, the suspended erase, page marks, flag cells, the cores' reads
that wait for a bank (core, size, address; R469 to R482). -/
structure FlashS where
  /-- OTP addresses that read with an uncorrectable error after a supply loss (R378, R380). -/
  otpBad : List Nat
  op : Option FlashOp
  susp : Option FlashOp
  auto : Bool
  resume : Bool
  marks : List Nat
  flags : List Nat
  lastRead : Nat
  waiting : List (Nat × Nat × Nat)
  deriving DecidableEq, Repr

/-- Timers and watchdogs beside their registers: the capture queues (index 4t + k) and the watchdogs' tick counts
(R522, R531); `due`: timers whose prescaler has given an output that is yet to move COUNT, `inTick`: a tick is under way and
its outputs are yet to come, `taken`: captures of this tick (timer, channel, rising, in paired mode) that wait for the increments,
`pairedWas`: the mode before the change of a handshake under way (R521, R523); `pinAt`: when each GPIO pin last changed, `edges`:
edges of pins, with their instants, whose level has yet to last 20 ns (R516). -/
structure TimerS where
  due : List Nat
  inTick : Bool
  taken : List (Nat × Nat × Bool × Bool)
  pairedWas : Option Bool
  pinAt : List Nat
  edges : List (Nat × Bool × Nat)
  caps : List (List (Nat × Bool))
  wdTicks : List Nat
  deriving DecidableEq, Repr

/-- The pins' filtered levels and supplies (R576 to R591); `antsw`: the code on ANTSW1:ANTSW0, `antSel`: the field of
FE_ASW it was taken from (0 SLEEP, 1 RX0, 2 RX1, 3 TXLP, 4 TXHP; R125); `selen`: the level at which a host drives SPx_SELEN, none
while it drives none (R502). -/
structure PinS where
  gpio : List Bool
  test : Bool
  wake : Bool
  rdy : List Bool
  gnt : Bool
  req : Bool
  pri : Bool
  antsw : Nat
  antSel : Nat
  vioLost : List Bool
  selen : List (Option Bool)
  deriving DecidableEq, Repr

/-- A serial port beside its registers (R491 to R515): FIFOs, words left, selection, and for SP1 the window command.
`away`: CLK is away from its idle level; `dout`: the level on DO; `word`, `inHand`, `bit`: the word being sent, whether it
is still the head of the transmit FIFO, the bits of it whose boundary has passed; `ending`: the code of an end that waits
for the next bit boundary; `selAt`, `edgeAt`, `fallAt`: when SELEN rises, the next clock edge, when SELEN falls; `rdyAt`:
when RDY was last seen low; `boundAt`: the last bit boundary; `sel`: the port sees its slave select asserted; `winHeld`: the
address and the word of a write that waits (R509). -/
structure PortS where
  away : Bool
  dout : Bool
  word : Word
  inHand : Bool
  bit : Nat
  ending : Nat
  selAt : Nat
  edgeAt : Nat
  fallAt : Nat
  rdyAt : Nat
  boundAt : Nat
  sel : Bool
  rx : List Word
  tx : List Word
  left : Nat
  code : Nat
  selen : Bool
  selPins : Nat
  endAt : Nat
  pauseAt : Nat
  winCmd : Bool
  winBad : Bool
  winOver : Bool
  winWrite : Bool
  winInc : Bool
  winSpace : Nat
  winOff : Nat
  winHeld : Option (Nat × Word)
  saved : Word
  deriving DecidableEq, Repr

/-- Who opened a receive window: a thread's ARMRX, the acknowledgement wait of thread `n`, the frame-pending window, a
sniff, a data window, the beacon tracker on its primary or alternate bin, Umber (R146, R192, R198, R224, R234, R240,
R241, R243, R332). -/
inductive WinOwner where
  | thread
  | ack (n : Nat)
  | pending
  | sniff
  | data (n : Nat)
  | beacon
  | beaconAlt
  | umber
  deriving DecidableEq, Repr

/-- An open receive window on a logical lane: the TB_NOW of its opening and close, whether a preamble was detected in
it, whether a disable voided it (R170, R192). -/
structure Window where
  owner : WinOwner
  lane : Nat
  opened : Nat
  close : Option Nat
  pre : Bool
  voided : Bool
  deriving DecidableEq, Repr

/-- A reception from its sync word on (R62, R126, R154, R206, R317): timestamps, the tick of detection, the opening of
the arming window, and what the PHR said. `adm`: 0 undecided, 1 admitted, 2 refused; `cells`: the cells promised then, `taken`:
those that have left the free list since. -/
structure Reception where
  ts : BitVec 64
  dts : BitVec 64
  seen : Nat
  opened : Option Nat
  coded : Bool
  mode : Nat
  rssi : Nat
  lqi : Nat
  phr : Bool
  len : Nat
  fcs2 : Bool
  dw : Bool
  adm : Nat
  cells : Nat
  taken : List Nat
  fend : Nat
  deriving DecidableEq, Repr

/-- A lane beside its registers: the chain that detected first, the opening of the window that armed it then (none where
firmware armed it, R212), whether a window of the rendezvous logic did, the reception in progress, the bin it takes at the
frame end, the frame end of its last frame; the tick of the last preamble detection and CZ_LANEn_DCFG as it stood then
(R147, R149, R150, R154, R168, R184). -/
structure LaneS where
  first : Nat
  armed : Option Nat
  called : Bool
  rx : Option Reception
  move : Option Nat
  lastEnd : Nat
  detAt : Nat
  dcfg : Word
  deriving DecidableEq, Repr

/-- The channeliser beside its registers (R160, R165 to R168). -/
structure ChannelS where
  lanes : List LaneS
  windows : List Window
  nf : List (Nat × Nat)
  loss : List (Nat × Nat)
  selfNext : Nat
  sampleNext : Nat
  surveyNext : Nat
  decideNext : Nat
  deriving DecidableEq, Repr

/-- A transmission under way: an acknowledgement (`thread`: the first cell of its frame) or the TXF of `thread`, its
output and power setting in units of 0.5 dBm, phase (`down`: ramp-down), whether it was cut, whether a grant withdrawal or
the shell (a retune, a loss of lock) cut it, its times (`planned`: the end of its ramp-down), the ramp, the frequency, the
number of wake frames before the frame; `paid`: the records, channels and buckets its air was charged to; what is sent: mode, preamble (octets; bit periods in Slate), FEC, PHR, whitening
and PSDU (R111, R123, R124, R138, R141, R205, R232, R259, R274). -/
structure AirS where
  ack : Bool
  thread : Nat
  hp : Bool
  setting : Int
  down : Bool
  cut : Bool
  wd : Bool
  shell : Bool
  start : Nat
  lastBit : Nat
  ramp : Nat
  planned : Nat
  freq : Nat
  wakes : Nat
  paid : List (Nat × Nat × Nat)
  mode : Nat
  pre : Nat
  coded : Bool
  phr : Nat
  dw : Bool
  psdu : List Byte
  deriving DecidableEq, Repr

/-- A calibration: its row of Table 4.2 (0 SYN to 4 PAHP; 5 the DC of a chain that has been enabled again, R118), the
chains it takes, whether FE_CAL_CMD named it, whether another trigger asked for it (R112, R129). -/
structure CalS where
  kind : Nat
  chains : Nat
  cmd : Bool
  auto : Bool
  deriving DecidableEq, Repr

/-- The analogue shell beside its registers (R108 to R120, R128). `calDone`: a commanded calibration has ended since the
last CAL_DONE; `sensed`: the tick of the last measurement (R454); `multi`: more than one lane uses the external switch (R120). -/
structure AnalogueS where
  cal : Option CalS
  queue : List CalS
  calDone : Bool
  synAgain : Bool
  rtStart : Nat
  unlock : Bool
  resetCal : Nat
  relocked : Bool
  senseNext : Nat
  senseWake : Bool
  sensed : Option Nat
  dueAt : Nat
  swPos : Nat
  air : Option AirS
  blank : Bool
  multi : Bool
  deriving DecidableEq, Repr

/-- An action that the time base launches at the next tick (R23, R146, R191): `attach`: a direct write took CFG of
`lane` from `old` to `new`; `path`: a direct write that changed CZ_CTL.PATH. -/
inductive Launch where
  | retune
  | attach (lane : Nat) (old new : Word)
  | path
  | arm (lane : Nat)
  | disarm (lane : Nat)
  | insn (thread : Nat) (word : Word) (a b : Word)
  deriving DecidableEq, Repr

/-- What a checkpoint of a thread holds (R202). -/
structure ThreadImage where
  pc : Nat
  flags : Nat
  gpr : List Word
  stack : List Nat
  pend0 : Word
  pend1 : Word
  deriving DecidableEq, Repr

/-- A WAITT or a WAITE in progress (R189, R193). -/
structure WaitS where
  sel : Bool
  inst : Nat
  dest : Nat
  bundle : List (Word × Word × Word)
  cond : Nat
  mask : Nat
  tmo : Option Nat
  prepared : Bool
  deriving DecidableEq, Repr

/-- The wake train of a TXF (R232, R235): three times I + T_w + T_det, three times the airtime of a wake frame, wake frames
in a segment, three times the summed airtime of the wake frames sent, and whether a later segment is running. Airtimes are
held in thirds of a tick, in which the symbols of Table 5.2 are whole. -/
structure TrainS where
  limit : Nat
  tw : Nat
  wakes : Nat
  sent : Nat
  later : Bool
  deriving DecidableEq, Repr

/-- A TXF in progress (R194 to R200): phase 0 in preparation, 1 prepared, 2 on the air, 3 waiting for the
acknowledgement, 4 between segments of a wake train. `anchor` holds on TB_NOW once `fixed`; `anchor0` is the first
anchor; `air` the ticks of the PPDU with its wake frames; `phr` the PHR loaded; `levels` the
levels of ALANE since the TXF executed, each with the tick from which it held, the latest first (R269). -/
structure TxfS where
  phase : Nat
  desc0 : Word
  desc1 : Word
  sel : Bool
  inst : Nat
  dest : Nat
  fixed : Bool
  anchor : Nat
  anchor0 : Nat
  late : Nat
  cell : Option Nat
  nb : Option Nat
  cls : Nat
  psdu : List Byte
  seq : Nat
  preamble : Nat
  air : Nat
  want : Bool
  tries : Nat
  lbt : Bool
  heard : Bool
  granted : Bool
  wd : Bool
  abortLate : Bool
  te : Nat
  laneOk : Bool
  ackBy : Nat
  preSeen : Bool
  train : Option TrainS
  phr : Nat
  levels : List (Nat × Int)
  deriving DecidableEq, Repr

/-- A thread beside its registers (R177, R179, R202, R203). -/
structure ThreadS where
  stack : List Nat
  wait : Option WaitS
  txf : Option TxfS
  image : ThreadImage
  since : Nat
  haltReq : Bool
  replay : Option (Nat × ThreadImage)
  deriving DecidableEq, Repr

/-- An owed acknowledgement (R211 to R215): its number, phase 0 owed, 1 decided, 2 on the air; `cell`: the first cell of its
frame, 4,096 + its number once the frame has been released (R295); `wd`: its grant was withdrawn before ramp-up (R274). -/
structure AckS where
  id : Nat
  phase : Nat
  logical : Nat
  phys : Nat
  mode : Nat
  freq : Nat
  fend : Nat
  seq : Nat
  opened : Option Nat
  ofs : Nat
  dly : Nat
  fcs2 : Bool
  dw : Bool
  coded : Bool
  nb : Option Nat
  fp : Bool
  room : Nat
  known : Bool
  cell : Nat
  auth : Nat
  anchor : Nat
  air : Nat
  wd : Bool
  deriving DecidableEq, Repr

/-- The link sequencer and frame handler beside their registers; `turn`: the thread that issued last (R180); `ackNext`: the
number of the next acknowledgement. -/
structure LinkS where
  threads : List ThreadS
  launches : List Launch
  acks : List AckS
  turn : Nat
  ackNext : Nat
  deriving DecidableEq, Repr

/-- A data window that a wake frame announced (R234). -/
structure DataWin where
  id : Nat
  src : Nat
  lane : Nat
  opens : Nat
  closes : Nat
  margin : Nat
  opened : Bool
  deriving DecidableEq, Repr

/-- The rendezvous logic beside its registers (R222 to R249): the last openings of the sniff schedule, newest first;
the sniff in progress (0 none, 1 sniff, 2 extension), its logical lanes, whether it detected a preamble, its close; data windows; the
TB_DTIME of the last parent beacon's sync-word end; the beacon window in progress, whether it was blanked, its close;
beacons passed over by EVERY; the lost parent; the start of the running Amber second; bins of the Umber lanes from
before the search; the next Umber step; R247's counts; whether a parent has been taken. -/
structure RdvS where
  refs : List Nat
  sniff : Nat
  lanes : List Nat
  sniffDet : Bool
  sniffClose : Nat
  data : List DataWin
  dataNext : Nat
  last : Int
  tracking : Bool
  blanked : Bool
  closes : Int
  skipped : Nat
  lost : Option Nat
  amberAt : Nat
  saved : List (Nat × Nat)
  umberNext : Nat
  choice : List (Nat × Nat)
  has : Bool
  deriving DecidableEq, Repr

/-- A band record's history: DUTY buckets (index, ticks) and DWELL quarters (channel, index, ticks); channel 256 stands
for every channel (R257, R258, R264). -/
structure RecS where
  duty : List (Nat × Nat)
  dwell : List (Nat × Nat × Nat)
  deriving DecidableEq, Repr

/-- A reservation: owner (thread, or 32 + an acknowledgement's number), record, channel, ticks (R259). -/
structure Reserve where
  owner : Nat
  record : Nat
  channel : Nat
  ticks : Nat
  deriving DecidableEq, Repr

/-- A coexistence request (R271 to R276): its owner as in `Reserve` (20: a receive window), its bit of CX_PRI_MAP; step 1 is
LEAD before `base`, but no earlier than `floor`; `high`: step 1 has passed, at `rose`, which fixed the level, GSAMP, ACKRX
and WDRAW; whether the grant has been sampled. -/
structure CoexReq where
  owner : Nat
  bit : Nat
  base : Nat
  floor : Nat
  high : Bool
  rose : Nat
  pri : Bool
  gsamp : Nat
  ackrx : Bool
  wdraw : Bool
  sampled : Bool
  deriving DecidableEq, Repr

/-- The duty-cycle accountant and coexistence beside their registers. -/
structure BudgetS where
  recs : List RecS
  reserved : List Reserve
  coex : List CoexReq
  deriving DecidableEq, Repr

/-- A frame in the frame store, held with its first cell (Table 10.1, R316): `use` 1 RX, 2 QUEUED, 3 RING, 4 RAW;
`fate` 0 undecided, 1 for a ring, 2 to be discarded, 3 queued (R295, R322); `ieSkip`, `ieAt`: the offsets of the Header IEs
skipped, and where the Payload IEs start (R210). -/
structure FrameS where
  use : Nat
  cls : Nat
  retry : Nat
  snbv : Bool
  snbr : Nat
  charged : Nat
  apend : Bool
  cells : List Nat
  len : Nat
  lane : Nat
  nh : Nat
  ts : BitVec 64
  dts : BitVec 64
  lqi : Nat
  rssi : Nat
  busy : Bool
  cause : Nat
  auth : Bool
  ring : Nat
  passed : Bool
  fate : Nat
  ieSkip : List Nat
  ieAt : Option Nat
  deriving DecidableEq, Repr

/-- What R292 restores: sender entry and its counter words before the frame. -/
structure CounterUndo where
  cell : Nat
  nb : Nat
  old4 : Word
  old5 : Word
  deriving DecidableEq, Repr

/-- The forwarding engine and the frame store beside their registers (R294, R302, R313 to R327). -/
structure ForwardS where
  freeNext : Nat
  freed : List Nat
  frames : List (Nat × FrameS)
  queues : List (Nat × List Nat)
  hcnt : List (Nat × Nat)
  nonbr : Nat
  work : List Nat
  waiting : List (List Nat)
  subWait : Bool
  undo : List CounterUndo
  heard : List Nat
  ageNext : Nat
  kprevEnd : Option Nat
  inProc : Bool
  stalled : List Nat
  deriving DecidableEq, Repr

/-- A key slot's key (octets) and load buffer (R340). -/
structure SlotS where
  key : List Nat
  buf : List (Option Word)
  deriving DecidableEq, Repr

/-- A job of the general datapath from its START: its attribute, and from its start the key it read, its parameters, and how
many octets of DST the bus let it write then (R344, R347 to R350). -/
structure JobS where
  ns : Bool
  key : List Nat
  mode : Nat
  dir : Bool
  tks : Nat
  taglen : Nat
  nlen : Nat
  src : Nat
  dst : Nat
  aad : Nat
  alen : Nat
  plen : Nat
  nonce : List Nat
  tag : List Nat
  reach : Nat
  deriving DecidableEq, Repr

/-- The cipher engine beside its registers (R339, R340, R355). -/
structure CipherS where
  slots : List SlotS
  jobs : List JobS
  queue : List Nat
  deriving DecidableEq, Repr

/-- An OTP operation: where it writes, the octets, whether it has started, the ARB slot it programs (R379, R380). -/
structure OtpOp where
  addr : Nat
  data : List Byte
  started : Bool
  deriving DecidableEq, Repr

/-- A job of the signature and hash unit from its START: its attribute, and from its start its parameters, the seed of
the private key it read, the random word it took, and how many octets of DST the bus let it write then (R362 to R367, R370). -/
structure PqJob where
  ns : Bool
  mode : Nat
  ksel : Bool
  seedm : Bool
  det : Bool
  src : Nat
  dst : Nat
  sig : Nat
  pk : Nat
  ctxa : Nat
  ctxl : Nat
  mlen : Nat
  olen : Nat
  key : List Byte
  rnd : Option (List Byte)
  now : Nat
  reach : Nat
  deriving DecidableEq, Repr

/-- The signature and hash unit beside its registers: the seeds of PK0 and PK1 (a private key is the image of its seed
under KeyGen_internal), a CLEAR1 that waits for a job, contexts and their queue, the entropy pool, the identical raw bits that
ended the last word and their value, the OTP operation (R362, R369, R373, R374, R376, R379). -/
structure SignS where
  pk0 : Option (List Byte)
  pk1 : Option (List Byte)
  clear1 : Bool
  jobs : List PqJob
  queue : List Nat
  pool : List (List Byte)
  run : Nat
  runBit : Bool
  otp : Option OtpOp
  deriving DecidableEq, Repr

/-- The boot sequencer beside its registers: 0 not run, 1 held in Ivory, 2 waiting for the reset calibration, 3 done;
the source, header and manifest hash of the image chosen; RELEASE pending (R411 to R414). -/
structure BootS where
  stage : Nat
  src : Nat
  hdr : List Byte
  hash : List Byte
  relPend : Bool
  deriving DecidableEq, Repr

/-- The machine. -/
structure State where
  /-- Registers that do not read as their reset word: strictly rising addresses. -/
  regs : List (Nat × Word)
  /-- Memory bytes that do not read as an unlisted address does: strictly rising addresses. -/
  mem : List Host.Cell
  /-- Flash ranges (start, length, draw) whose content is X until the block is erased (R474, R483, R488). -/
  xFlash : List (Nat × Nat × Nat)
  resp : Resp
  free : Nat
  locked : Bool
  openRegs : List Nat
  profile : Nat
  power : Power
  tb : TimeBase
  groups : List Group
  cores : List CoreS
  /-- LR/SC reservations: core and number of the aligned 32 B (R426). -/
  reservations : List (Nat × Nat)
  emitted : List Nat
  /-- The event matrix's registers before the commit point of this tick: they route what is emitted in it (R460). -/
  evWas : Option (List (Nat × Word))
  pm : PowerS
  fc : FaultS
  dbg : DebugS
  fl : FlashS
  tm : TimerS
  pins : PinS
  sp : List PortS
  fe : AnalogueS
  cz : ChannelS
  ls : LinkS
  rdv : RdvS
  dc : BudgetS
  fw : ForwardS
  ce : CipherS
  pq : SignS
  bt : BootS
  /-- The commands that are waiting, first in, first out. -/
  pending : List Instr
  deriving DecidableEq, Repr

def TimeBase.reset : TimeBase :=
  { now := 0, dtime := 0, slow := 0, dacc := 0, slewRem := 0, slewWait := 0, stepPend := none, calOpen := false, calTicks := 0,
    calSlow := 0, sinceEdge := 0, phase := 0, edge := false, timedAt := none, xoStopped := false, firstAccepted := false,
    beaconNow := 0, t0 := 0, d0 := 0, s0 := 0, shadow := [] }

def Group.reset : Group := { entries := [], timed := false, delivered := 0, since := 0 }

def CoreS.reset : CoreS :=
  { mie := false, meie := false, user := false, stack := [], active := [], gpr := [], csr := [], dm := [],
    wasIdle := false, first := false }

def PowerS.reset : PowerS :=
  { tx := [], loads := [], held := [], lastRefuse := 0, alarm := none, attempt := false, waking := 0, abandoned := false
    vrWait := 0, vrStart := none, vrSlow := 0, buckWait := false, vrSeq := 0,
    sniffWake := false, sniffUsed := false, cmp := [false, false], offPend := false }

def FaultS.reset : FaultS := { stalls := [], queue := [], recov := [], hist := [], scan := [] }

def DebugS.reset : DebugS :=
  { addr := 0, space := 0, inc := false, bad := false, past := false, selCore := 0, selReg := 0, busy := none, result := (1, 0), status := 0,
    data := 0, frame := 0, quietTo := 0, sentAt := 0 }

def FlashS.reset : FlashS :=
  { otpBad := [], op := none, susp := none, auto := false, resume := false, marks := [], flags := [], lastRead := 0, waiting := [] }

def TimerS.reset : TimerS :=
  { due := [], inTick := false, taken := [], pairedWas := none, pinAt := List.replicate 24 0, edges := [], caps := List.replicate 32 [], wdTicks := List.replicate 5 0 }

def PinS.reset : PinS :=
  { gpio := List.replicate 24 false, test := false, wake := false, rdy := [false, false],
    gnt := false, req := false, pri := false, antsw := 0, antSel := 0, vioLost := [false, false], selen := [none, none] }

def PortS.reset : PortS :=
  { away := false, dout := false, word := 0, inHand := false, bit := 0, ending := 0, selAt := 0, edgeAt := 0, fallAt := 0
    rdyAt := 0, boundAt := 0, sel := false, rx := [], tx := [], left := 0, code := 0, selen := false, selPins := 0, endAt := 0, pauseAt := 0, winCmd := false,
    winBad := false, winOver := false, winWrite := false, winInc := false, winSpace := 0, winOff := 0, winHeld := none, saved := 0 }

def LaneS.reset : LaneS := { first := 0, armed := none, called := false, rx := none, move := none, lastEnd := 0, detAt := 0, dcfg := 0 }

def ChannelS.reset : ChannelS :=
  { lanes := List.replicate 16 .reset, windows := [], nf := [], loss := [], selfNext := 200000000, sampleNext := 0,
    surveyNext := 0, decideNext := 0 }

def AnalogueS.reset : AnalogueS :=
  { cal := none, queue := [], calDone := false, synAgain := false, rtStart := 0, unlock := false, resetCal := 0,
    relocked := true, senseNext := 0, senseWake := false, sensed := none, dueAt := 0, swPos := 0, air := none, blank := false, multi := false }

def ThreadImage.reset : ThreadImage :=
  { pc := 0, flags := 0, gpr := List.replicate 16 0, stack := [], pend0 := 0, pend1 := 0 }

def ThreadS.reset : ThreadS :=
  { stack := [], wait := none, txf := none, image := .reset, since := 0, haltReq := false, replay := none }

def LinkS.reset : LinkS := { threads := List.replicate 4 .reset, launches := [], acks := [], turn := 3, ackNext := 0 }

def RdvS.reset : RdvS :=
  { refs := [], sniff := 0, lanes := [], sniffDet := false, sniffClose := 0, data := [], dataNext := 0, last := 0, tracking := false,
    blanked := false, closes := 0, skipped := 0, lost := none, amberAt := 0, saved := [], umberNext := 0, choice := [],
    has := false }

def RecS.reset : RecS := { duty := [], dwell := [] }

def BudgetS.reset : BudgetS := { recs := List.replicate 8 .reset, reserved := [], coex := [] }

def ForwardS.reset : ForwardS :=
  { freeNext := 0, freed := [], frames := [], queues := [], hcnt := [], nonbr := 0, work := [],
    waiting := List.replicate 4 [], subWait := false, undo := [], heard := [], ageNext := 0, kprevEnd := none,
    inProc := false, stalled := [] }

def SlotS.reset : SlotS := { key := [], buf := List.replicate 8 none }

def JobS.reset : JobS :=
  { ns := false, key := [], mode := 0, dir := false, tks := 0, taglen := 0, nlen := 0, src := 0, dst := 0, aad := 0,
    alen := 0, plen := 0, nonce := [], tag := [], reach := 0 }

def CipherS.reset : CipherS :=
  { slots := List.replicate 64 .reset, jobs := List.replicate 4 .reset, queue := [] }

def PqJob.reset : PqJob :=
  { ns := false, mode := 0, ksel := false, seedm := false, det := false, src := 0, dst := 0, sig := 0, pk := 0, ctxa := 0,
    ctxl := 0, mlen := 0, olen := 0, key := [], rnd := none, now := 0, reach := 0 }

def SignS.reset : SignS :=
  { pk0 := none, pk1 := none, clear1 := false, jobs := List.replicate 4 .reset, queue := [], pool := [], run := 0, runBit := false, otp := none }

def BootS.reset : BootS := { stage := 0, src := 3, hdr := [], hash := [], relPend := false }

/-- The machine right after power-on reset (R15, R16). -/
def State.reset : State :=
  { regs := [], mem := [], xFlash := [], resp := ⟨0, false⟩, free := 0, locked := false, openRegs := [], profile := 1,
    power := .active, tb := .reset, groups := List.replicate 8 .reset, cores := List.replicate 4 .reset, reservations := [],
    emitted := [], evWas := none, pm := .reset, fc := .reset, dbg := .reset, fl := .reset, tm := .reset,
    pins := .reset, sp := [.reset, .reset], fe := .reset, cz := .reset, ls := .reset, rdv := .reset,
    dc := .reset, fw := .reset, ce := .reset, pq := .reset, bt := .reset, pending := [] }

end Sys2Proof.Machine
end

