-- ==== Sys2Proof/Machine/Ops.lean ====
section
/-! DEFINITION. Machine/Ops.lean: the shared operations: registers and fields, memory, free values, interrupt edges,
event emission, the current ledger, fault records and resets. -/

namespace Sys2Proof.Machine

/-! ### Bits -/

def b2n (b : Bool) : Nat := if b then 1 else 0

/-- Bit `i` of `n`. -/
def bitOf (n i : Nat) : Bool := n / 2 ^ i % 2 == 1

/-- Bits `lo`, …, `lo + w - 1` of a word, as a number. -/
def bitsOf (x : Word) (lo w : Nat) : Nat := x.toNat / 2 ^ lo % 2 ^ w

/-- The two's complement value of the low `w` bits of `n`. -/
def signed (w n : Nat) : Int :=
  if n % 2 ^ w < 2 ^ (w - 1) then (n % 2 ^ w : Nat) else (n % 2 ^ w : Nat) - (2 ^ w : Nat)

/-- The low `w` bits of an integer in two's complement. -/
def unsigned (w : Nat) (i : Int) : Nat := (i % (2 ^ w : Nat)).toNat

/-- The word whose `w` bits from `lo` are ones. -/
def maskOf (lo w : Nat) : Word := BitVec.ofNat 32 (2 ^ w - 1) <<< lo

/-- `x` with its `w` bits from `lo` replaced by the low bits of `v`. -/
def insertBits (x : Word) (lo w v : Nat) : Word :=
  (x &&& ~~~ maskOf lo w) ||| (BitVec.ofNat 32 (v % 2 ^ w) <<< lo)

/-! ### Lists -/

/-- The element `i` of a list changed by `f`. -/
def updAt {α : Type} (l : List α) (i : Nat) (f : α → α) : List α :=
  match l, i with
  | [], _ => []
  | x :: xs, 0 => f x :: xs
  | x :: xs, i + 1 => x :: updAt xs i f

/-- The value a list of (key, value) holds for `k`, if any. -/
def assocGet {α : Type} (l : List (Nat × α)) (k : Nat) : Option α :=
  match l with
  | [] => none
  | (k', v) :: xs => if k' = k then some v else assocGet xs k

/-- The list with `v` for `k`, keys rising. -/
def assocPut {α : Type} (l : List (Nat × α)) (k : Nat) (v : α) : List (Nat × α) :=
  match l with
  | [] => [(k, v)]
  | (k', v') :: xs =>
    if k < k' then (k, v) :: (k', v') :: xs
    else if k = k' then (k, v) :: xs
    else (k', v') :: assocPut xs k v

/-- The list without an entry for `k`. -/
def assocDel {α : Type} (l : List (Nat × α)) (k : Nat) : List (Nat × α) :=
  match l with
  | [] => []
  | (k', v') :: xs => if k' = k then assocDel xs k else (k', v') :: assocDel xs k

/-! ### Registers -/

/-- The word stored for bus address `a`: what `regs` lists, or the reset word (R16). -/
def State.reg (s : State) (a : Nat) : Word := (assocGet s.regs a).getD (resetWord a)

/-- `s` with word `v` stored for bus address `a`, the register list kept canonical. -/
def State.setReg (s : State) (a : Nat) (v : Word) : State :=
  { s with regs := if v = resetWord a then assocDel s.regs a else assocPut s.regs a v }

/-- The value of a field. -/
def State.get (s : State) (f : Field) : Nat := bitsOf (s.reg f.addr) f.lo f.w

/-- `s` with a field set to the low bits of `v`. -/
def State.set (s : State) (f : Field) (v : Nat) : State :=
  s.setReg f.addr (insertBits (s.reg f.addr) f.lo f.w v)

/-- Bit `n` of a field, as a field. -/
def Field.bit (f : Field) (n : Nat) : Field := ⟨f.addr, f.lo + n, 1⟩

/-- Is a one-bit field 1? -/
def State.on (s : State) (f : Field) : Bool := s.get f == 1

/-- A signed field. -/
def State.getS (s : State) (f : Field) : Int := signed f.w (s.get f)

/-- A counter field advanced by `k`, saturating at its largest value (R11, R12). -/
def State.addSat (s : State) (f : Field) (k : Nat) : State := s.set f (min (s.get f + k) (2 ^ f.w - 1))

/-- A counter field advanced by one, saturating. -/
def State.bump (s : State) (f : Field) : State := s.addSat f 1

/-- A 64-bit value held as a LO and a HI field. -/
def State.get64 (s : State) (lo hi : Field) : Nat := s.get hi * 2 ^ 32 + s.get lo

/-- `s` with a 64-bit value in a LO and a HI field. -/
def State.set64 (s : State) (lo hi : Field) (v : Nat) : State := (s.set lo v).set hi (v / 2 ^ 32)

/-! ### Free values -/

/-- A 32-bit value the spec leaves open, and the state with the draw counted. -/
def State.fresh (s : State) : Word × State := (Config.freeWord s.free, { s with free := s.free + 1 })

/-! ### Memory (Table 14.4) -/

/-- The memory regions of the address map. -/
inductive Region where
  | flash
  | otp
  | sram
  | frames
  | window (m : Nat)
  | none
  deriving DecidableEq, Repr

/-- The region that holds an address (Table 14.4). -/
def regionOf (a : Nat) : Region :=
  if a < 0x400000 then .flash
  else if 0x1FFF0000 ≤ a ∧ a < 0x1FFF2000 then .otp
  else if 0x20000000 ≤ a ∧ a < 0x20100000 then .sram
  else if 0x24000000 ≤ a ∧ a < 0x24080000 then .frames
  else if 0x40000000 ≤ a ∧ a < 0x40170000 then .window ((a - 0x40000000) / 0x10000)
  else .none

/-- What a memory address that is not listed reads as: erased flash reads ones, OTP and the memories that a reset
zeroes read zero (DESIGN CHOICE for flash and OTP, log entry 8; R15 for the others). -/
def memDefault (a : Nat) : Byte := if a < 0x400000 then 0xFF else 0

/-- The draw of the X range that covers flash or OTP address `a`, if one does. -/
def State.xDraw (s : State) (a : Nat) : Option Nat :=
  if a < 0x20000000 then (s.xFlash.find? fun e => decide (e.1 ≤ a) && decide (a < e.1 + e.2.1)).map (·.2.2) else none

/-- One byte of memory: what is listed, or what an unlisted address reads as; in a flash range whose content is X, a
free value. -/
def State.byte (s : State) (a : Nat) : Byte :=
  match s.xDraw a with
  | some d => Config.freeByte d a
  | none => (assocGet s.mem a).getD (memDefault a)

/-- `s` with `len` bytes of flash from `a` left X. -/
def State.markX (s : State) (a len : Nat) : State :=
  { s with xFlash := s.xFlash ++ [(a, len, s.free)], free := s.free + 1 }

/-- `s` with one byte written, the memory list kept canonical. -/
def State.setByte (s : State) (a : Nat) (v : Byte) : State :=
  { s with mem := if v = memDefault a then assocDel s.mem a else assocPut s.mem a v }

/-- The canonical form of a memory list: addresses strictly rising, no entry equal to what an unlisted address reads as. -/
abbrev Memory.wf (m : List Host.Cell) : Prop :=
  m.Pairwise (fun x y => x.1 < y.1) ∧ ∀ c ∈ m, c.2 ≠ memDefault c.1

/-- The canonical form of the register list: addresses strictly rising, no entry equal to its reset word. -/
abbrev Registers.wf (l : List (Nat × Word)) : Prop :=
  l.Pairwise (fun x y => x.1 < y.1) ∧ ∀ e ∈ l, e.2 ≠ resetWord e.1

/-- `n` bytes from `a`. -/
def State.bytes (s : State) (a n : Nat) : List Byte := (List.range n).map fun i => s.byte (a + i)

/-- `s` with bytes written from `a`. -/
def State.setBytes (s : State) (a : Nat) : List Byte → State
  | [] => s
  | b :: bs => (s.setByte a b).setBytes (a + 1) bs

/-- The little-endian word at `a`. -/
def State.memWord (s : State) (a : Nat) : Word :=
  BitVec.ofNat 32 ((s.byte a).toNat + (s.byte (a + 1)).toNat * 0x100 + (s.byte (a + 2)).toNat * 0x10000
    + (s.byte (a + 3)).toNat * 0x1000000)

/-- `s` with a little-endian word written at `a`. -/
def State.setMemWord (s : State) (a : Nat) (v : Word) : State :=
  s.setBytes a [BitVec.ofNat 8 v.toNat, BitVec.ofNat 8 (v.toNat / 0x100), BitVec.ofNat 8 (v.toNat / 0x10000),
    BitVec.ofNat 8 (v.toNat / 0x1000000)]

/-- Does reservation `r` outlive a write of `n` octets of system SRAM from `a` by core `by`, or by an agent that is no
core (R426)? -/
def outlives (by_ : Option Nat) (a n : Nat) (r : Nat × Nat) : Bool :=
  decide (a < 0x20000000) || decide (0x20100000 ≤ a) || n == 0 || by_ == some r.1 || decide (32 * r.2 + 32 ≤ a) ||
    decide (a + n ≤ 32 * r.2)

/-- The reservations after that write. -/
def State.breakReservations (s : State) (by_ : Option Nat) (a n : Nat) : State :=
  { s with reservations := s.reservations.filter (outlives by_ a n) }

/-- A list of bytes as a little-endian number. -/
def leNat : List Byte → Nat
  | [] => 0
  | b :: bs => b.toNat + 256 * leNat bs

/-- A number as `n` bytes, little-endian. -/
def natLE : Nat → Nat → List Byte
  | 0, _ => []
  | n + 1, v => BitVec.ofNat 8 v :: natLE n (v / 256)

/-! ### Time -/

/-- TB_NOW as a number. -/
def State.now (s : State) : Nat := s.tb.now.toNat

/-- TB_DTIME as a number. -/
def State.dtime (s : State) : Nat := s.tb.dtime.toNat

/-- TB_SLOW as a number. -/
def State.slow (s : State) : Nat := s.tb.slow.toNat

/-- Is the PLL locked (TB_STATUS.LOCKED)? -/
def State.isLocked (s : State) : Bool := s.on TB_STATUS_LOCKED

/-- Is the device in Run or Idle? -/
def State.awake (s : State) : Bool := s.power == .active

/-! ### Events (R450 to R463) -/

/-- Producer `p` emits an event. It is lost while EV_CTL.EN is 0 (R462) or the device sleeps (R463). -/
def State.emit (s : State) (p : Nat) : State :=
  if s.awake && s.on EV_CTL_EN then { s with emitted := s.emitted ++ [p] } else s

/-! ### Interrupt edges (R430, R431) -/

/-- Pending latch of source `n`. -/
abbrev pendField (n : Nat) : Field := ⟨A_IC_PEND (n / 32), n % 32, 1⟩
/-- Enable bit of source `n`. -/
abbrev enField (n : Nat) : Field := ⟨A_IC_EN (n / 32), n % 32, 1⟩
/-- Active bit of source `n`. -/
abbrev actField (n : Nat) : Field := ⟨A_IC_ACT (n / 32), n % 32, 1⟩

/-- Is an edge source used (Table 14.5)? -/
def edgeUsed (n : Nat) : Bool := decide (n < 120)

/-- An edge on source `n` sets its latch (R431). -/
def State.edge (s : State) (n : Nat) : State := if edgeUsed n then s.set (pendField n) 1 else s

/-- The enable register and the interrupt source of bit `b` of the status register at address `a` (Table 14.5). -/
def irqOf (a b : Nat) : Option (Nat × Nat) :=
  if a = A_TB_INT_STAT then some (A_TB_INT_EN, if b < 8 then b else 8)
  else if a = A_AC_INT_STAT then some (A_AC_INT_EN, if b < 16 then 9 + b % 8 else 17)
  else if a = A_FE_INT_STAT then some (A_FE_INT_EN, 18)
  else if a = A_CZ_INT_STAT then some (A_CZ_INT_EN, 19)
  else if a = A_LS_INT_STAT then
    some (A_LS_INT_EN, if b < 8 then 20 + b else if b < 16 then 28 + (b - 8) % 4 else 32)
  else if a = A_LS_RDV_INT_STAT then some (A_LS_RDV_INT_EN, 33)
  else if a = A_DC_INT_STAT then some (A_DC_INT_EN, 34)
  else if a = A_CX_INT_STAT then some (A_CX_INT_EN, 35)
  else if a = A_FW_INT_STAT then some (A_FW_INT_EN, if b < 4 then 36 + b else if b = 4 then 40 else 41)
  else if a = A_FW_FS_INT_STAT then some (A_FW_FS_INT_EN, 42)
  else if a = A_CE_INT_STAT then some (A_CE_INT_EN, if b < 8 then 43 + b % 4 else 47)
  else if a = A_PQ_INT_STAT then some (A_PQ_INT_EN, if b < 8 then 48 + b % 4 else 52)
  else if a = A_FL_INT_STAT then if b = 0 ∨ b = 1 ∨ b = 4 then none else some (A_FL_INT_EN, 53)
  else if 0x40100114 ≤ a ∧ a < 0x40100900 ∧ a % 0x100 = 0x14 then
    some (a + 4, if b < 8 then 54 + 4 * ((a - 0x40100100) / 0x100) + b % 4 else 86 + (a - 0x40100100) / 0x100)
  else if 0x40130110 ≤ a ∧ a < 0x40130190 ∧ a % 0x20 = 0x10 then some (a + 4, 94 + (a - 0x40130110) / 0x20)
  else if a = A_WD_INT_STAT 8 then some (a + 4, 98)
  else if a = A_FC_INT_STAT then some (A_FC_INT_EN, 99)
  else if a = A_PM_INT_STAT then some (A_PM_INT_EN, 100)
  else if a = A_VR_INT_STAT then some (A_VR_INT_EN, 101)
  else if a = A_EV_INT_STAT then some (A_EV_INT_EN, 110)
  else if a = A_GP_EDGE_STAT then some (A_GP_EDGE_EN, 115 + b / 6)
  else if a = A_IC_ERR then some (A_IC_ERR_EN, 119)
  else none

/-- Hardware sets the one-bit status field `f`: its bit becomes 1, and if its enable bit is 1 its source gets one
edge (R431). -/
def State.raise (s : State) (f : Field) : State :=
  let t := s.set f 1
  match irqOf f.addr f.lo with
  | some (en, src) => if t.on ⟨en, f.lo, 1⟩ then t.edge src else t
  | none => t

/-- Hardware sets bit `n` of a status field. -/
def State.raiseBit (s : State) (f : Field) (n : Nat) : State := s.raise (f.bit n)

/-! ### The current ledger (R40 to R44) -/

/-- Core states of IC_CPUc_STAT.STATE (Table 14.9). -/
abbrev csHeld : Nat := 0
abbrev csRun : Nat := 1
abbrev csIdle : Nat := 2
abbrev csRestart : Nat := 3
abbrev csDebug : Nat := 4

/-- State of core `c`. -/
def State.coreState (s : State) (c : Nat) : Nat := s.get (IC_CPU_STAT_STATE c)

/-- The hidden state of core `c`. -/
def State.core (s : State) (c : Nat) : CoreS := s.cores.getD c .reset

/-- `s` with core `c` changed. -/
def State.updCore (s : State) (c : Nat) (f : CoreS → CoreS) : State := { s with cores := updAt s.cores c f }

/-- Weight of a load at level `n`, in 12.5 µA units (Table 1.6). -/
def Load.weight (l : Load) (n : Nat) : Nat :=
  match l with
  | .fwe => 248
  | .ce _ => if n = 2 then 0 else 208
  | .pq _ => if n = 2 then 0 else 344
  | .prog => 224
  | .erase => 280

/-- Is chain `c` (0 A, 1 B) in service: switched on, a window placed, no retune, no calibration that takes it, no
transmission blanking it, the shell not disabled, the synthesiser locked? -/
def State.chainUp (s : State) (c : Nat) : Bool :=
  s.awake && s.isLocked && s.fe.relocked && s.on (if c = 0 then FE_CTL_CHA_EN else FE_CTL_CHB_EN) &&
    s.on FE_CTL_EN_ACK && s.get FE_WIN_CTL_FREQ != 0 && !s.on FE_RT_STAT_BUSY && !s.on FE_CAL_STAT_SYN_FAIL &&
    !s.fe.blank && !s.fe.unlock && !(s.fe.queue.any fun e => e.kind == 5 && bitOf e.chains c) &&
    (match s.fe.cal with
      | some k => !(k.kind == 0 || k.kind == 2 || ((k.kind == 1 || k.kind == 5) && bitOf k.chains c))
      | none => true)

/-- The radio term (R40): the largest posted transmit weight; else the narrow weight with PATH at 1 and one chain enabled,
or the Indigo weight where any other combination has a chain in service. -/
def State.radioWeight (s : State) : Nat :=
  let t := s.pm.tx.foldl (fun m e => max m e.2) 0
  if t ≠ 0 then t
  else
    if s.on CZ_CTL_PATH && (s.on FE_CTL_CHA_EN != s.on FE_CTL_CHB_EN) then 368
    else if s.chainUp 0 || s.chainUp 1 then 1360
    else 0

/-- The ledger sum at level `n` (R40). -/
def State.ledgerSum (s : State) (n : Nat) : Nat :=
  let cores := ((List.range 4).filter fun c => s.coreState c == csRun).length
  88 + cores * (if n = 0 then 156 else if n = 1 then 78 else 39) + s.radioWeight
    + (s.pm.loads.map (·.weight n)).foldl (· + ·) 0

/-- The ledger limit in 12.5 µA units: PM_LEDGER.LIMIT mA, clamped to 88 to 100 (R41). -/
def State.ledgerLimit (s : State) : Nat := 80 * max 88 (min 100 (s.get PM_LEDGER_LIMIT))

/-- The lowest level at which the ledger with a pending load fits, if any (R43). -/
def State.fitLevel (s : State) (p : Option Load) : Option Nat :=
  [0, 1, 2].find? fun n =>
    decide (s.ledgerSum n + (match p with | some l => l.weight n | none => 0) ≤ s.ledgerLimit)

/-- The throttle level is the higher of the ledger's and the droop sensor's; a rise emits EVP153 (R557). -/
def State.applyLevel (s : State) : State :=
  let l := max (s.get PM_STAT_LLVL) (s.get PM_STAT_DLVL)
  let t := s.set PM_STAT_LEVEL l
  if s.get PM_STAT_LEVEL < l then t.emit 153 else t

/-- The level the ledger requires with nothing new pending, applied (R43): 2 while a held request still does not fit. -/
def State.relevel (s : State) : State :=
  let held := s.pm.held.any fun l => (s.fitLevel (some l)).isNone
  (s.set PM_STAT_LLVL (if held then 2 else (s.fitLevel none).getD 2)).applyLevel

/-- A held or new load asks to start: it starts where a level fits, or is held with PEAK_HOLD (R43). Answers whether
it started. -/
def State.ledgerStart (s : State) (l : Load) : Bool × State :=
  match s.fitLevel (some l) with
  | some n =>
    let t := { s with pm := { s.pm with loads := s.pm.loads ++ [l], held := s.pm.held.filter (· != l) } }
    let t := t.set PM_STAT_PEAK_HOLD (b2n (!t.pm.held.isEmpty))
    (true, (t.set PM_STAT_LLVL n).applyLevel)
  | none =>
    let t := { s with pm := { s.pm with held := if s.pm.held.contains l then s.pm.held else s.pm.held ++ [l] } }
    let t := (t.set PM_STAT_LLVL 2).applyLevel
    (false, if t.on PM_STAT_PEAK_HOLD then t else (t.set PM_STAT_PEAK_HOLD 1).raise PM_INT_STAT_PEAK_HOLD)

/-- A load leaves the ledger, or its held request is withdrawn. -/
def State.ledgerStop (s : State) (l : Load) : State :=
  let t := { s with pm := { s.pm with loads := s.pm.loads.filter (· != l), held := s.pm.held.filter (· != l) } }
  (t.set PM_STAT_PEAK_HOLD (b2n (!t.pm.held.isEmpty))).relevel

/-- The forwarding engine term joins the ledger; it is never held (R43). -/
def State.ledgerAddFwe (s : State) : State :=
  if s.pm.loads.contains Load.fwe then s
  else ({ s with pm := { s.pm with loads := s.pm.loads ++ [Load.fwe] } }).relevel

/-- A transmit term of poster `k` is posted (R43): 31 mA for TX_LP, 78 mA for TX_HP. -/
def State.postTx (s : State) (k : Nat) (hp : Bool) : State :=
  ({ s with pm := { s.pm with tx := assocPut s.pm.tx k (if hp then 6240 else 2480) } }).relevel

/-- The transmit term of poster `k` leaves the ledger. -/
def State.unpostTx (s : State) (k : Nat) : State :=
  ({ s with pm := { s.pm with tx := assocDel s.pm.tx k } }).relevel

/-! ### The regulator link's frames (R554) -/

/-- A frame of Table 19.9: OP, VALUE and SEQ with the checksum CHK, the number of ones in [15:3] modulo 8. -/
def vrFrame (op value seq : Nat) : Nat :=
  let w := op * 0x2000 + value % 256 * 32 + seq % 4 * 8
  w + ((List.range 16).filter fun i => bitOf w i).length % 8

/-- A frame is sent: OP and VALUE. SET and LOW await an acknowledgement; RELEASE has none, and the internal buck takes over after it
(R554). -/
def State.vrSend (s : State) (op value : Nat) : State :=
  (({ s with pm := { s.pm with vrSeq := (s.pm.vrSeq + 1) % 4, vrWait := if op = 3 then 0 else op,
                               vrStart := if s.awake && s.isLocked then some s.now else none, vrSlow := s.slow, buckWait := op == 3 } } : State).set VR_STAT_LAST (vrFrame op value s.pm.vrSeq)).set VR_STAT_BUSY 1

/-! ### Resets (R15) -/

/-- The registers that a system reset keeps: they lie in AON and only power-on reset clears them (R49, R72, R560). -/
def aonRegs (s : State) : List (Nat × Word) :=
  s.regs.filter fun e =>
    e.1 == A_TB_RATIO || e.1 == A_TB_CATCH_FRAC || e.1 == A_PM_RSTCAUSE || e.1 == A_PM_BOOTREC

/-- Memory after a reset: flash and OTP are kept, the other memories are zeroed (R15). -/
def keptMem (s : State) : List Host.Cell := s.mem.filter fun c => decide (c.1 < 0x20000000)

/-- What every reset leaves (R15): registers as listed, flash, OTP and the world outside the chip as they were. -/
def resetTo (s : State) (regs : List (Nat × Word)) : State :=
  { State.reset with
    regs := regs
    mem := keptMem s
    xFlash := s.xFlash
    free := s.free
    fl := { FlashS.reset with marks := s.fl.marks, flags := s.fl.flags, otpBad := s.fl.otpBad }
    pins := { s.pins with req := false, pri := false, antsw := 0, antSel := 0 }
    pending := s.pending }

/-- Power-on reset with the given reset cause (R15, R560). A flash operation in progress is cut: the page or block it
was changing is X, and its mark or flag cell is set (R488); the slot an OTP operation was writing is damaged
(R380), and whether a REVOKE has blown its bit is a free value. -/
def powerOnReset (s : State) (cause : Nat) : State :=
  let s := match s.pq.otp with
    | some o =>
      if !o.started then s
      else if o.addr = 0x1FFF1A80 then
        let (x, s) := s.fresh
        if bitOf x.toNat 0 then s.setBytes o.addr o.data else s
      else { s.markX o.addr o.data.length with fl := { s.fl with otpBad := s.fl.otpBad ++ [o.addr] } }
    | none => s
  let s := match s.fl.op with
    | some o =>
      if !o.erase && !o.pulsed && s.get FL_STAT_STATE != 1 then
        let t := s.markX o.addr 0x200
        { t with fl := { t.fl with marks := t.fl.marks ++ [o.addr / 0x200 % 8192] } }
      else s
    | none => s
  (resetTo s []).set PM_RSTCAUSE_CAUSE cause

/-- System reset with cause and sub-cause (R15, R49, R72, R487, R556, R560): TB_SLOW, TB_RATIO,
TB_CATCH_FRAC and CAL_VALID are kept; a running flash program or erase goes on; a waiting one is discarded; an OTP
operation completes (R380); an external regulator that supplies the rail is sent RELEASE, as the next frame of its sequence
(R554). -/
def systemReset (s : State) (cause sub : Nat) : State :=
  let s := match s.pq.otp with
    | some o => if o.started then s.setBytes o.addr o.data else s
    | none => s
  let t := resetTo s (aonRegs s)
  let t := { t with
    tb := { TimeBase.reset with slow := s.tb.slow, firstAccepted := s.tb.firstAccepted, phase := s.tb.phase,
                                xoStopped := s.tb.xoStopped }
    fl := { t.fl with op := s.fl.op.filter fun _ => s.get FL_STAT_STATE != 1 }
    pm := { t.pm with loads := match s.fl.op with
      | some o => if s.get FL_STAT_STATE = 1 then [] else [if o.erase then .erase else .prog]
      | none => [] } }
  let t := ((t.set TB_STATUS_CAL_VALID (s.get TB_STATUS_CAL_VALID)).set PM_RSTCAUSE_CAUSE cause).set PM_RSTCAUSE_SUB sub
  if s.on VR_CTL_EN_ACK then
    ({ t with pm := { t.pm with vrSeq := s.pm.vrSeq } } : State).vrSend 3 0x14
  else t

/-! ### Paired capture (R523) -/

/-- Is the device in Ivory? -/
def State.ivory (s : State) : Bool := s.on BT_STATUS_IVORY

/-- TM_CTL.PAIRED follows its three conditions; entering paired mode clears every RISE_V (R523). -/
def State.updPaired (s : State) : State :=
  let p := s.ivory || s.on TM_CTL_TEST || !s.fc.recov.isEmpty
  if p && !s.on TM_CTL_PAIRED then
    (List.range 32).foldl (fun t i => t.set (TM_CH_STAT_RISE_V (i / 4) (i % 4)) 0) (s.set TM_CTL_PAIRED 1)
  else s.set TM_CTL_PAIRED (b2n p)

/-! ### Fault records (R562 to R573) -/

/-- FC_STAT shows the queue's length and whether a recovery is in progress. -/
def State.fcSync (s : State) : State :=
  (s.set FC_STAT_LEVEL s.fc.queue.length).set FC_STAT_RECOV (b2n (!s.fc.recov.isEmpty))

/-- The resource of a record, for escalation (R571, Table 20.4). -/
def faultResource (code place : Nat) : Nat :=
  if code = 0x1 then place % 4
  else if code = 0x5 then place % 16
  else if code = 0x8 then place % 4
  else if code = 0x9 then place / 0x8000
  else 0

/-- Does a record of this code count for escalation (R571)? -/
def escalates (code : Nat) : Bool := [0x1, 0x2, 0x5, 0x6, 0x8, 0x9].contains code

/-- One fault record is written (R573), and a system reset follows where the records of its resource have reached
ESC_LIM within ESC_WIN seconds (R571). -/
def State.faultWrite (s : State) (code sub : Nat) (late : Bool) (dur place : Nat) (ts : BitVec 64) : State :=
  let r : FaultRec :=
    { w0 := w32 (code * 2 ^ 28 + sub % 16 * 2 ^ 24 + b2n late * 2 ^ 23 + min dur 0xFFFF)
      w1 := w32 place, w2 := w32 ts.toNat }
  let t :=
    if s.fc.queue.length < 16 then
      (({ s with fc := { s.fc with queue := s.fc.queue ++ [r] } } : State).bump FC_CNT0_RECORDS).raise FC_INT_STAT_REC
        |>.emit 155
    else (s.bump FC_CNT0_LOST).raise FC_INT_STAT_OVF
  let t := t.fcSync
  if escalates code then
    let res := faultResource code place
    let win := s.get FC_CFG_ESC_WIN * 200000000
    let hist := (t.fc.hist ++ [(code, res, t.tb.now)]).filter fun e => decide (t.now - e.2.2.toNat ≤ win)
    let t := { t with fc := { t.fc with hist := hist } }
    let n := (hist.filter fun e => e.1 == code && e.2.1 == res).length
    if s.get FC_CFG_ESC_LIM ≠ 0 ∧ s.get FC_CFG_ESC_LIM ≤ n then systemReset t 0x6 code else t
  else t

/-- A fault without interruption: one record at detection (R573). -/
def State.fault (s : State) (code sub place : Nat) : State := s.faultWrite code sub false 0 place s.tb.now

/-- A recovery begins (R572). -/
def State.recovBegin (s : State) (code sub place : Nat) : State :=
  ({ s with fc := { s.fc with recov := s.fc.recov ++ [Recovery.mk code sub place s.tb.now] } } : State).fcSync.updPaired

/-- Did an interruption of `ticks` from detection exceed its row's bound in µs, the detection allowance of Table 20.1 added
(R562)? A core hang counts TIMEOUT × 100 µs as its detection allowance (R563). -/
def overBound (s : State) (r : Recovery) (ticks : Nat) : Bool :=
  let bound : Nat × Nat :=
    match r.code with
    | 0x1 => (150, 0)
    | 0x2 => (2, 0)
    | 0x5 => (110, 10)
    | 0x6 => (322, 2)
    | 0x8 => (650, 100 * s.get (WD_CFG_TIMEOUT (r.place % 4)))
    | _ => (650, 0)
  decide (200 * bound.1 < ticks + 200 * bound.2)

/-- The recovery `r` ends: its record is written with `code`, `sub` and `place` (R572, R573). -/
def State.recovDone (s : State) (r : Recovery) (code sub place : Nat) : State :=
  let t := ({ s with fc := { s.fc with recov := s.fc.recov.erase r } } : State).fcSync.updPaired
  let ticks := s.now - r.start.toNat
  t.faultWrite code sub (overBound s r ticks) (ticks / 200) place r.start

/-- The recovery of `code` on resource `res` ends: its record is written with `code'`, `sub'` and `place'` (R572, R573). -/
def State.recovEnd (s : State) (code res code' : Nat) (subOf placeOf : Nat → Nat) : State :=
  match s.fc.recov.find? fun r => r.code == code && faultResource r.code r.place == res with
  | none => s
  | some r => s.recovDone r code' (subOf r.sub) (placeOf r.place)

end Sys2Proof.Machine
end

