-- ==== Sys2Proof/Machine/Access.lean ====
section
/-! DEFINITION. Machine/Access.lean: who makes a bus access, the field-by-field effect of a write (R11, R13), and how
an access completes (R10, R14, R427, R428). -/

namespace Sys2Proof.Machine

/-- The kinds of bus master: a core, SP1's window, the debug port, a commit group, an image record, an event. -/
inductive Master where
  | core
  | window
  | debug
  | commit
  | boot
  | event
  deriving DecidableEq, Repr

/-- The maker of an access: its kind, its core number and its attribute (R418). -/
structure Acc where
  kind : Master
  core : Nat
  ns : Bool
  deriving DecidableEq, Repr

/-- Core `c` as a bus master: its attribute is that of its image (R418). -/
def coreAcc (s : State) (c : Cpu) : Acc := { kind := .core, core := c, ns := s.on (IC_CPU_STAT_NS c) }

/-- SP1 in window mode: Secure (R507). -/
def windowAcc : Acc := { kind := .window, core := 0, ns := false }

/-- An image record: Secure (R407). -/
def bootAcc : Acc := { kind := .boot, core := 0, ns := false }

/-- Does the access pass owner checks as an image record does (R407, R507)? A commit group's were made at its
delivery and are not made again (R81). -/
def Acc.image (a : Acc) : Bool :=
  match a.kind with
  | .window => true
  | .boot => true
  | .debug => true
  | .commit => true
  | _ => false

/-- How a write completes: accepted, or refused with a bus error response and its IC_BERR_INFO.KIND. -/
inductive WriteEnd where
  | ok
  | berr (kind : Nat)
  /-- an error response whose KIND the spec does not give: a free value. -/
  | berrFree
  deriving DecidableEq, Repr

/-- Numbers of the CSRs that a trap and the debug module write. -/
abbrev csrMstatus : Nat := 0x300
abbrev csrMtvec : Nat := 0x305
abbrev csrMepc : Nat := 0x341
abbrev csrMcause : Nat := 0x342
abbrev csrMtval : Nat := 0x343
abbrev csrDpc : Nat := 0x7B1
abbrev csrDcsr : Nat := 0x7B0

/-- CSR `n` of core `c` as stored. -/
def State.csr (s : State) (c n : Nat) : Word := (assocGet (s.core c).csr n).getD 0

/-- `s` with CSR `n` of core `c` set. -/
def State.setCsr (s : State) (c n : Nat) (v : Word) : State :=
  s.updCore c fun k => { k with csr := assocPut k.csr n v }

/-- Core `c` takes an exception (R417, R422, R426, R428; the RISC-V privileged specification): mcause, mtval and MPIE, MPP are
written, interrupts are off, the core is in machine mode, and its reservation is cleared (R426). The pc it leaves is an
instruction's: a free value in mepc (log entry 28). -/
def State.trap (s : State) (c cause : Nat) (tval : Word) : State :=
  let (x, s) := s.fresh
  let k := s.core c
  let st := insertBits (insertBits (s.csr c csrMstatus) 7 1 (b2n k.mie)) 11 2 (if k.user then 0 else 3)
  let s := (((s.setCsr c csrMstatus st).setCsr c csrMepc (x &&& ~~~ 1#32)).setCsr c csrMcause (w32 cause)).setCsr c csrMtval tval
  let s := s.updCore c fun k => { k with mie := false, user := false }
  { s with reservations := s.reservations.filter fun r => r.1 != c }

/-- The access completes without an error response. -/
def State.respond (s : State) (d : Word) : State := { s with resp := ⟨d, false⟩ }

/-- The access completes with an error response; one made by a core is recorded, and raises an access fault there (R428). -/
def State.respondErr (s : State) (acc : Acc) (a : Nat) (write : Bool) (kind : Nat) : State :=
  let t := { s with resp := ⟨0, true⟩ }
  match acc.kind with
  | .core =>
    (t.setReg A_IC_BERR_ADDR (w32 a)).setReg A_IC_BERR_INFO
      (w32 (2 ^ 31 + acc.core % 4 * 16 + b2n write * 8 + b2n acc.ns * 4 + kind % 4))
      |>.raise IC_ERR_BERR
      |>.trap acc.core (if write then 7 else 5) (w32 a)
  | _ => t

/-- The end of a write as a response. -/
def State.finishWrite (s : State) (acc : Acc) (a : Nat) (e : WriteEnd) : State :=
  match e with
  | .ok => s.respond 0
  | .berr k => s.respondErr acc a true k
  | .berrFree => let (x, t) := s.fresh; t.respondErr acc a true x.toNat

/-- The LK bits of the register at `a` that are locked now: none before the boot sequencer locks, and none in a
register its image left open (R13, R410). -/
def lockedBits (s : State) (d : RegDesc) (a : Nat) : Word :=
  if s.locked && !s.openRegs.contains a then d.lk else 0

/-- Is bit `b` of the register at `a` locked? -/
def State.locksBit (s : State) (a b : Nat) : Bool :=
  match findReg a with | some d => (lockedBits s d a).getLsbD b | none => false

/-- Bits of functions that the profile does not have: they read 0 and ignore writes (R36, Table 1.4). In the Leaf profile
relay, route learning and the default route (Table 9.10); outside the Root profile the commands of the domain register and
ADM of every route entry (R307, Table 9.2). -/
def absentBits (s : State) (a : Nat) : Word :=
  if a = A_FW_CTL ∧ s.profile = 0 then 0x1C
  else if a = A_FW_DOM_CMD ∧ s.profile ≠ 2 then BitVec.allOnes 32
  else if A_NB_ROUTE 0 ≤ a ∧ a < A_NB_ROUTE 4096 ∧ s.profile ≠ 2 then 0x20000
  else 0

/-- The word the register holds after a write of `v` under the access codes alone (R11, R13, R36): W1C ones clear,
RO, RC and WO bits keep, locked and absent bits keep. -/
def fieldWord (s : State) (d : RegDesc) (a : Nat) (v : Word) : Word :=
  let old := s.reg a
  let m := (d.rw ||| d.lk) &&& ~~~ lockedBits s d a &&& ~~~ absentBits s a
  ((old &&& ~~~ m) ||| (v &&& m)) &&& ~~~ (v &&& d.w1c)

/-- A write under the access codes alone: a reserved offset ignores it (R14); a written value that differs in a locked
bit completes with an error response (R13). -/
def fieldWrite (s : State) (a : Nat) (v : Word) : State × WriteEnd :=
  match findReg a with
  | none => (s, .ok)
  | some d =>
    (s.setReg a (fieldWord s d a v),
     if (s.reg a ^^^ v) &&& lockedBits s d a = 0 then .ok else .berrFree)

/-- Is the write one that a commit group applies? Its forbidden values are judged as a whole, before any write (R85). -/
def Acc.staged (a : Acc) : Bool := a.kind == .commit

/-- A direct write that is ignored where the value it would leave is forbidden, setting flag `f`. -/
def guardWrite (staged : Bool) (bad : State → State → Nat → Bool) (f : Field) (s : State) (a : Nat) (v : Word) :
    State × WriteEnd :=
  let r := fieldWrite s a v
  if !staged && bad s r.1 a then (s.raise f, .ok) else r

/-- A write that only a Secure master may make: refused, it sets `f` and completes with an error response (R427). -/
def secureWrite (acc : Acc) (f : Option Field) (s : State) (k : State → State × WriteEnd) : State × WriteEnd :=
  if acc.ns && !acc.staged then ((match f with | some g => s.raise g | none => s), .berr 0) else k s

end Sys2Proof.Machine
end

