-- ==== Sys2Proof/Machine/Flash.lean ====
section
/-! DEFINITION. Machine/Flash.lean: the flash controller (R467 to R490). -/

namespace Sys2Proof.Machine

/-- Codes of FL_STAT.CODE (Table 16.6). -/
abbrev flDone : Nat := 0x01
abbrev flBus : Nat := 0x09
abbrev flAborted : Nat := 0x0A
abbrev flDisabled : Nat := 0x0B
abbrev flVerify : Nat := 0x0C

/-- Block number (bank in bit 5) and bank of a flash address. -/
def flBlock (a : Nat) : Nat := a / 0x10000 % 64
def flBank (a : Nat) : Nat := a / 0x200000 % 2

/-- Page number of a flash address, over the whole array. -/
def flPage (a : Nat) : Nat := a / 0x200 % 8192

/-- Is a 32 KiB unit of system SRAM Secure-only, is a 128 KiB unit of flash Secure-only (R427, Table 14.8)? -/
def sramSecure (s : State) (a : Nat) : Bool :=
  decide (0x20000000 ≤ a) && decide (a < 0x20100000) && bitOf (s.get IC_MEMSEC_SEC) ((a - 0x20000000) / 0x8000)
def flashSecure (s : State) (a : Nat) : Bool := bitOf (s.get IC_FLSEC_SEC) (a / 0x20000 % 32)

/-- Is the block's write protection set (Table 16.7)? -/
def flProtected (s : State) (b : Nat) : Bool :=
  if b < 32 then bitOf (s.get FL_WP_A_WP) b else bitOf (s.get FL_WP_B_WP) (b - 32)

/-- The 2 ^ `size` octets at `a` as a word. -/
def State.octets (s : State) (size a : Nat) : Word := w32 (leNat (s.bytes a (2 ^ size)))

/-- The reads that wait for a bank are served (R469, R481): the bank is readable now. -/
def flServe (s : State) : State :=
  s.fl.waiting.foldl (fun t e => t.respond (t.octets e.2.1 e.2.2)) { s with fl := { s.fl with waiting := [] } }

/-- An operation ends with a code (R484); with EN at 0 the disable is complete then (R486). -/
def flEnd (s : State) (code : Nat) : State :=
  let s := { s with fl := { s.fl with op := none } }
  let s := ((((s.set FL_STAT_CODE code).set FL_STAT_STATE 0).set FL_STAT_END 1).raise FL_INT_STAT_END).emit 96
  let s := if code = flDone then s else (s.raise FL_INT_STAT_ERR).emit 97
  let s := if s.on FL_CTL_EN then s else s.set FL_CTL_EN_ACK 0
  flServe s

/-- Running time of an operation, in ticks, suspension and WAIT excluded (Table 16.8). -/
def flRan (s : State) (o : FlashOp) : Nat := if s.get FL_STAT_STATE = 1 then o.ran else o.ran + (s.now - o.since)

/-- A running or waiting operation ends with its duration recorded, and a resume that waited for it takes effect
(R475, R480); with EN at 0 a suspended erase stays suspended (R486). -/
def flFinish (s : State) (o : FlashOp) (code : Nat) : State :=
  let s := (s.set FL_TIME_DUR (min (flRan s o / 2000) 0xFFFFFF)).ledgerStop (if o.erase then .erase else .prog)
  let s := flEnd s code
  let t := { s with fl := { s.fl with resume := false } }
  if s.fl.resume && s.on FL_CTL_EN then
    match s.fl.susp with
    | some e => ({ t with fl := { t.fl with op := some e, susp := none } }.set FL_STAT_SUSP 0).set FL_STAT_STATE 1
    | none => t
  else t

/-- A running operation completes: its code is reported, unless a system reset has cleared the registers since it
started (R487). -/
def flReport (s : State) (o : FlashOp) (code : Nat) : State :=
  if s.get FL_STAT_STATE = 0 then
    ({ s with fl := { s.fl with op := none } } : State).ledgerStop (if o.erase then .erase else .prog)
  else flFinish s o code

/-- The first failing check of Table 16.1, or 0. -/
def flCheck (s : State) (o : FlashOp) : Nat :=
  let b := flBlock o.addr
  let p := flPage o.addr
  if flProtected s b then 0x05
  else if o.ns && (flashSecure s o.addr || (!o.erase && (sramSecure s o.src || sramSecure s (o.src + 0x1FF)))) then 0x06
  else if !o.erase && !(decide (0x20000000 ≤ o.src) && decide (o.src + 0x200 ≤ 0x20100000)) then 0x09
  else if !o.erase && s.fl.flags.contains b then 0x04
  else if !o.erase && (s.fl.susp.map fun e => flBlock e.addr) == some b then 0x07
  else if o.erase && s.fl.susp.isSome then 0x08
  else if !o.erase && s.fl.marks.contains p then 0x03
  else if !o.erase && s.fl.marks.any (fun m => decide (m / 128 = p / 128) && decide (p < m)) then 0x02
  else 0

/-- PROGRAM or ERASE (R470, R472, R485, R486). -/
def flCommand (acc : Acc) (erase : Bool) (s : State) : State :=
  if !s.on FL_CTL_EN || s.get FL_STAT_STATE != 0 then s.raise FL_INT_STAT_BADCMD
  else
    let o : FlashOp :=
      { erase := erase, addr := s.get FL_ADDR_ADDR * 0x200, src := s.get FL_SRC_ADDR * 4, ns := acc.ns, page := [],
        pulsed := false, ran := 0, since := s.now }
    let s := (s.set FL_STAT_END 0).set FL_STAT_LASTOP (if erase then 2 else 1)
    match flCheck s o with
    | 0 => { s with fl := { s.fl with op := some o } }.set FL_STAT_STATE 1
    | c => flEnd s c

/-- The unit of system SRAM at address `a`, and whether it is under scan (R567). -/
def sramUnit (a : Nat) : Nat := (a - 0x20000000) / 0x8000
def sramScanned (s : State) (a : Nat) : Bool := s.fc.scan.contains (sramUnit a)

/-- Does an access of an agent to the `n` octets of system SRAM from `a` wait for a scan (R567)? -/
def sramWaits (s : State) (a n : Nat) : Bool :=
  n != 0 && decide (0x20000000 ≤ a) && decide (a < 0x20100000) &&
    s.fc.scan.any fun k => decide (sramUnit a ≤ k) && decide (k ≤ sramUnit (a + n - 1))

/-- Does the group of checks that the bus makes at the copy of a source page refuse it (R427, R474)? -/
def flSrcRefused (s : State) (o : FlashOp) : Bool := o.ns && (sramSecure s o.src || sramSecure s (o.src + 0x1FF))

/-- A waiting operation starts: the ledger admits it and no OTP operation runs (R42, R43, R473). A program latches its
page, or ends with BUS where the bus refuses it the source (R474); while a scan holds the source it does not start (R567). An
erase sets its flag cell, and the block is X until it completes (R476, R483). -/
def flStart (s : State) : State :=
  match s.fl.op with
  | none => s
  | some o =>
    if s.get FL_STAT_STATE ≠ 1 ∨ s.on PQ_OTP_CMD_BUSY ∨ (!o.erase && sramWaits s o.src 512) then s
    else
      let r := s.ledgerStart (if o.erase then .erase else .prog)
      let s := r.2
      if !r.1 then s
      else if o.erase then
        let s := if o.pulsed then s else s.markX (o.addr / 0x10000 * 0x10000) 0x10000
        let fs := if s.fl.flags.contains (flBlock o.addr) then s.fl.flags else s.fl.flags ++ [flBlock o.addr]
        { s with fl := { s.fl with op := some { o with pulsed := true, since := s.now }, flags := fs } }.set
          FL_STAT_STATE 3
      else if flSrcRefused s o then flFinish (s.set FL_STAT_STATE 2) { o with since := s.now } flBus
      else
        { s with fl := { s.fl with op := some { o with page := s.bytes o.src 512, since := s.now } } }.set FL_STAT_STATE 2

/-- The first programming pulse of a page: its mark is set, and its content is X until the program is verified
(R471, R474). -/
def flPulse (s : State) : State :=
  match s.fl.op with
  | some o =>
    if s.get FL_STAT_STATE ≠ 1 ∧ !o.erase ∧ !o.pulsed then
      let s := s.markX o.addr 0x200
      { s with fl := { s.fl with op := some { o with pulsed := true }, marks := s.fl.marks ++ [flPage o.addr] } }
    else s
  | none => s

/-- X ranges that start in `[a, a + len)` are dropped. -/
def State.clearX (s : State) (a len : Nat) : State :=
  { s with xFlash := s.xFlash.filter fun e => !(decide (a ≤ e.1) && decide (e.1 < a + len)) }

/-- A page program ends after its verify (R474). -/
def flProgramEnd (s : State) (ok : Bool) : State :=
  let s := flPulse s
  match s.fl.op with
  | some o =>
    if s.get FL_STAT_STATE = 1 ∨ o.erase then s
    else if ok then flReport ((s.clearX o.addr 0x200).setBytes o.addr o.page) o flDone
    else flReport s o flVerify
  | none => s

/-- An erase ends: verified, the block reads erased, its marks and last its flag cell clear (R476). -/
def flEraseEnd (s : State) (ok : Bool) : State :=
  match s.fl.op with
  | some o =>
    if s.get FL_STAT_STATE = 1 ∨ !o.erase then s
    else if ok then
      let b := flBlock o.addr
      let s := s.clearX (b * 0x10000) 0x10000
      let s := { s with
        mem := s.mem.filter fun c => !(decide (b * 0x10000 ≤ c.1) && decide (c.1 < (b + 1) * 0x10000))
        fl := { s.fl with marks := s.fl.marks.filter (fun m => m / 128 != b), flags := s.fl.flags.filter (· != b) } }
      flReport s o flDone
    else flReport s o flVerify
  | none => s

/-- The running erase is suspended (R479); with EN at 0 the disable is complete then (R486). -/
def flSuspend (s : State) (auto : Bool) : State :=
  match s.fl.op with
  | some o =>
    let o' := { o with ran := flRan s o, since := s.now }
    let s := { s with fl := { s.fl with op := none, susp := some o', auto := auto, lastRead := s.now } }
    let s := if s.on FL_CTL_EN then s else s.set FL_CTL_EN_ACK 0
    flServe (((((s.ledgerStop .erase).set FL_STAT_STATE 0).set FL_STAT_SUSP 1).set FL_STAT_SBLK
      (flBlock o.addr)).raise FL_INT_STAT_SUSP)
  | none => s

/-- A suspended erase returns to WAIT, or will when the running program ends (R480). -/
def flResume (s : State) : State :=
  match s.fl.susp with
  | some e =>
    if s.get FL_STAT_STATE = 0 then
      ({ s with fl := { s.fl with op := some e, susp := none } }.set FL_STAT_SUSP 0).set FL_STAT_STATE 1
    else { s with fl := { s.fl with resume := true } }
  | none => s

/-- SUSPEND and RESUME as commands (R479, R480, R486). -/
def flSuspendCmd (s : State) : State :=
  if s.get FL_STAT_STATE = 3 then flSuspend s false else s.raise FL_INT_STAT_BADCMD
def flResumeCmd (s : State) : State :=
  if s.on FL_CTL_EN && s.fl.susp.isSome then flResume s else s.raise FL_INT_STAT_BADCMD

/-- ABORT (Table 16.3). -/
def flAbort (s : State) : State :=
  match s.fl.op with
  | some o =>
    if s.get FL_STAT_STATE = 1 then flFinish s o flAborted
    else if s.get FL_STAT_STATE = 2 then
      if o.pulsed then s.set FL_STAT_ABORT_LATE 1 else flFinish s o flAborted
    else flFinish s o flAborted
  | none =>
    match s.fl.susp with
    | some e =>
      flEnd (({ s with fl := { s.fl with susp := none, resume := false } }.set FL_STAT_SUSP 0).set FL_TIME_DUR
        (min (e.ran / 2000) 0xFFFFFF)) flAborted
    | none => s.set FL_STAT_ABORT_LATE 1

/-- Is the bank of flash address `a` closed to reads by a running operation (R469)? -/
def flBankBusy (s : State) (a : Nat) : Bool :=
  match s.fl.op with
  | some o => s.get FL_STAT_STATE != 1 && flBank o.addr == flBank a
  | none => false

/-- A read of the bank of a suspended erase starts QUIET again (R481). -/
def flReadSeen (s : State) (a : Nat) : State :=
  match s.fl.susp with
  | some e => if flBank e.addr = flBank a then { s with fl := { s.fl with lastRead := s.now } } else s
  | none => s

/-- May a read of its bank suspend the running erase: AUTOSUS is set, and it has run MINRUN since it started or last resumed
(R481)? -/
def flYields (s : State) : Bool :=
  match s.fl.op with
  | some o => s.get FL_STAT_STATE == 3 && s.on FL_CTL_AUTOSUS && decide (o.since + s.get FL_CFG_MINRUN * 20000 ≤ s.now)
  | none => false

/-- A read by a core of a bank with an operation running (R469, R481): it suspends an erase that yields, and is served; else it
waits. -/
def flBusyRead (s : State) (core size a : Nat) : State :=
  let s := { s with fl := { s.fl with waiting := s.fl.waiting ++ [(core, size, a)] } }
  if flYields s then flSuspend s true else s

/-- Do the `n` octets from `a` lie in a bank closed to reads, or in a unit of system SRAM under scan, so that an agent's access
waits (R469, R567)? -/
def memBusy (s : State) (a n : Nat) : Bool :=
  sramWaits s a n || (n != 0 && decide (a < 0x400000) && (flBankBusy s a || flBankBusy s (min (a + n - 1) 0x3FFFFF)))

/-- What the flash controller keeps of a read at `a` that finds an ECC error (R468). -/
def flashEccKept (s : State) (a : Nat) (uncorrectable : Bool) : State :=
  if uncorrectable then
    (((s.bump FL_ECC_CNT_UNCORR).set FL_ECC_LOG_ADDR (a / 8)).set FL_ECC_LOG_VALID 1).raise FL_INT_STAT_ECC_U
  else (s.bump FL_ECC_CNT_CORR).raise FL_INT_STAT_ECC_C

/-- Has QUIET passed for an erase suspended by a read (R481)? With EN at 0 it stays suspended (R486). -/
def flQuietDue (s : State) : Bool :=
  s.on FL_CTL_EN && s.fl.susp.isSome && s.fl.auto && s.get FL_STAT_STATE == 0 &&
    decide (s.fl.lastRead + max 1 (s.get FL_CFG_QUIET) * 2000 ≤ s.now)

/-- Flag cells and marks as registers show them (R471, R477). -/
def flFlags (s : State) (bank : Nat) : Nat :=
  ((List.range 32).map fun k => b2n (s.fl.flags.contains (bank * 32 + k)) * 2 ^ k).foldl (· + ·) 0
def flMarks (s : State) (k : Nat) : Nat :=
  ((List.range 32).map fun j =>
    b2n (s.fl.marks.contains (s.get FL_MARK_SEL_BLK * 128 + 32 * k + j)) * 2 ^ j).foldl (· + ·) 0

/-- A write to the FL window (R472, R479 to R486, R490). -/
def flWrite (acc : Acc) (s : State) (a : Nat) (v : Word) : State × WriteEnd :=
  let o := a % 0x10000
  if o = 0x00 then
    secureWrite acc none s fun s =>
      let r := fieldWrite s a v
      if r.1.on FL_CTL_EN then (r.1.set FL_CTL_EN_ACK 1, r.2)
      else
        match r.1.fl.op with
        | some q => (if r.1.get FL_STAT_STATE = 1 then flFinish r.1 q flDisabled else r.1, r.2)
        | none => (r.1.set FL_CTL_EN_ACK 0, r.2)
  else if o = 0x04 ∨ o = 0x28 ∨ o = 0x2C then secureWrite acc none s fun s => fieldWrite s a v
  else if o = 0x10 then
    (match v.toNat % 8 with
      | 1 => flCommand acc false s
      | 2 => flCommand acc true s
      | 3 => flSuspendCmd s
      | 4 => flResumeCmd s
      | 5 => flAbort s
      | _ => s.raise FL_INT_STAT_BADCMD, .ok)
  else fieldWrite s a v

/-- A read of the FL window. -/
def flRead (s : State) (a : Nat) : Word :=
  if a = A_FL_INC_A then w32 (flFlags s 0)
  else if a = A_FL_INC_B then w32 (flFlags s 1)
  else if 0x400D0034 ≤ a ∧ a < 0x400D0044 then w32 (flMarks s ((a - 0x400D0034) / 4))
  else s.reg a

end Sys2Proof.Machine
end

