-- ==== Sys2Proof/Machine/Cipher.lean ====
section
/-! DEFINITION. Machine/Cipher.lean: the cipher engine: key slots and general jobs (R339 to R361). -/

namespace Sys2Proof.Machine

/-! ### Key slots (R339 to R346) -/

def State.slot (s : State) (n : Nat) : SlotS := s.ce.slots.getD n .reset
def State.updSlot (s : State) (n : Nat) (f : SlotS → SlotS) : State :=
  { s with ce := { s.ce with slots := updAt s.ce.slots n f } }

/-- Octets of a key of slot `n`'s SIZE. -/
def ksOctets (s : State) (n : Nat) : Nat := if s.on (CE_KS_ATTR_SIZE n) then 32 else 16

/-- A word as four octets, most significant first. -/
def wordBE (w : Word) : List Nat := natBE 4 w.toNat

/-- LOAD (R340). -/
def ksLoad (s : State) (n : Nat) : State :=
  let ws := (s.slot n).buf.take (ksOctets s n / 4)
  let t := s.updSlot n fun k => { k with buf := List.replicate 8 none }
  if ws.all (·.isSome) then
    let key := (ws.map fun w => wordBE (w.getD 0)).foldl (· ++ ·) []
    ((t.updSlot n fun k => { k with key := key }).set (CE_KS_ATTR_VALID n) 1).set (CE_KS_ATTR_WRAPPED n) 0
  else t.raise CE_INT_STAT_KEYERR

/-- CLEAR (R340). -/
def ksClear (s : State) (n : Nat) : State :=
  ((s.updSlot n fun _ => SlotS.reset).set (CE_KS_ATTR_VALID n) 0).set (CE_KS_ATTR_WRAPPED n) 0

/-- May this access write slot `n` (R341, R407)? -/
def ksMay (s : State) (acc : Acc) (n : Nat) : Bool :=
  (acc.image || bitOf (s.get (CE_KS_ATTR_CORES n)) acc.core) && !(s.on (CE_KS_ATTR_SEC n) && acc.ns && !acc.staged)

/-- Does a write widen a valid slot (R342)? -/
def ksWidens (s u : State) (n : Nat) : Bool :=
  s.on (CE_KS_ATTR_VALID n) &&
    ((List.range 7).any (fun i => bitOf (u.get (CE_KS_ATTR_USAGE n)) i && !bitOf (s.get (CE_KS_ATTR_USAGE n)) i) ||
     (List.range 4).any (fun i => bitOf (u.get (CE_KS_ATTR_CORES n)) i && !bitOf (s.get (CE_KS_ATTR_CORES n)) i) ||
     (s.on (CE_KS_ATTR_SEC n) && !u.on (CE_KS_ATTR_SEC n)) || s.get (CE_KS_ATTR_SIZE n) != u.get (CE_KS_ATTR_SIZE n))

/-- Forbidden values of CE (R342). -/
def ceBad (s u : State) (a : Nat) : Bool :=
  let o := a % 0x10000
  if 0x400 ≤ o ∧ o % 0x40 = 0 then ksWidens s u ((o - 0x400) / 0x40) else false

/-- A slot read meets an uncorrectable ECC error (R345). -/
def ksEcc (s : State) (n : Nat) : State :=
  let s := (ksClear s n).setReg A_CE_KS_LOG (w32 (2 ^ 31 + n))
  (s.raise CE_INT_STAT_KECC).fault 0xC 0 n

/-- A write that has passed the checks of R341 to a register of slot `n`. -/
def ksWrite (staged : Bool) (s : State) (n a : Nat) (v : Word) : State × WriteEnd :=
  let o := a % 0x40
  if o = 0 then guardWrite staged ceBad CE_INT_STAT_WIDEN s a v
  else if o < 0x24 then (s.updSlot n fun k => { k with buf := k.buf.set ((o - 4) / 4) (some v) }, .ok)
  else if o = 0x24 then
    (if bitOf v.toNat 1 then ksClear s n else if bitOf v.toNat 0 then ksLoad s n else s, .ok)
  else (s, .ok)

/-- VALID of 32 slots from `base`. -/
def ksValid (s : State) (base : Nat) : Nat :=
  ((List.range 32).map fun k => s.get (CE_KS_ATTR_VALID (base + k)) * 2 ^ k).foldl (· + ·) 0

/-! ### Memory as a job sees it (R347, R349) -/

/-- Does `[a, a + n)` lie in system SRAM, in flash? -/
def inSram (a n : Nat) : Bool := n == 0 || (decide (0x20000000 ≤ a) && decide (a + n ≤ 0x20100000))
def inFlash (a n : Nat) : Bool := n == 0 || decide (a + n ≤ 0x400000)

/-- Do two ranges overlap? -/
def overlap (a m b n : Nat) : Bool := decide (a < b + n) && decide (b < a + m) && m != 0 && n != 0

/-- Is an access of a Non-secure job to `[a, a + n)` refused (R427)? -/
def jobRefused (s : State) (ns : Bool) (a n : Nat) : Bool :=
  ns && (List.range n).any fun i => if a + i < 0x400000 then flashSecure s (a + i) else sramSecure s (a + i)

/-- The first octet of `[a, a + n)` that an access of a job may not touch; `n` where it may touch all of them (R347, R427). -/
def refusedAt (s : State) (ns : Bool) (a n : Nat) : Nat := ((List.range n).find? fun i => jobRefused s ns (a + i) 1).getD n

def octets (l : List Byte) : List Nat := l.map (·.toNat)
def bytesOf (l : List Nat) : List Byte := l.map (BitVec.ofNat 8)

/-! ### Jobs (R347 to R357) -/

/-- States and codes of CE_Jc_STAT (Table 11.10). -/
abbrev jbIdle : Nat := 0
abbrev jbQueued : Nat := 1
abbrev jbRun : Nat := 2
abbrev jbEnd : Nat := 3
abbrev ceDone : Nat := 1
abbrev ceAuth : Nat := 2
abbrev ceLength : Nat := 3
abbrev ceKey : Nat := 4
abbrev ceBus : Nat := 5
abbrev ceAborted : Nat := 6
abbrev ceDisabled : Nat := 7
abbrev ceParam : Nat := 8
abbrev ceKeyEcc : Nat := 9

def State.job (s : State) (c : Nat) : JobS := s.ce.jobs.getD c .reset
def State.updJob (s : State) (c : Nat) (f : JobS → JobS) : State :=
  { s with ce := { s.ce with jobs := updAt s.ce.jobs c f } }

/-- START (R355, R358). An event that finds the context QUEUED or RUN does not come here (R454). -/
def ceStart (s : State) (c : Nat) (ns : Bool) : State :=
  let st := s.get (CE_J_STAT_STATE c)
  if !s.on CE_CTL_EN || st == jbQueued || st == jbRun then s.raise CE_INT_STAT_BADCMD
  else
    let s := s.updJob c fun _ => { JobS.reset with ns := ns }
    let s := ((s.set (CE_J_STAT_STATE c) jbQueued).set (CE_J_STAT_CODE c) 0).set (CE_J_STAT_ABORT_LATE c) 0
    { s with ce := { s.ce with queue := s.ce.queue ++ [c] } }

/-- A job ends with a code: its term leaves the ledger (R355), its flag and event follow. -/
def ceEnd (s : State) (c code : Nat) : State :=
  let s := { s with ce := { s.ce with queue := s.ce.queue.filter (· != c) } }
  let s := (s.ledgerStop (.ce c)).updJob c fun _ => JobS.reset
  let s := ((s.set (CE_J_STAT_STATE c) jbEnd).set (CE_J_STAT_CODE c) code).bump CE_CNT0_JOBS
  let s := if code = ceAuth then s.bump CE_CNT0_AUTH else s
  (if code = ceDone then s.raiseBit CE_INT_STAT_DONE c else s.raiseBit CE_INT_STAT_ERR c).emit (88 + c)

/-- The parameters of context `c` as its registers hold them. -/
def ceParams (s : State) (c : Nat) : JobS :=
  { s.job c with
    mode := s.get (CE_J_CTL_MODE c), dir := s.on (CE_J_CTL_DIR c), tks := s.get (CE_J_CTL_TKS c)
    taglen := s.get (CE_J_CTL_TAGLEN c), nlen := s.get (CE_J_CTL_NLEN c), src := s.get (CE_J_SRC_ADDR c)
    dst := s.get (CE_J_DST_ADDR c), aad := s.get (CE_J_AAD_ADDR c), alen := s.get (CE_J_LEN_ALEN c)
    plen := s.get (CE_J_LEN_PLEN c)
    nonce := ((List.range 4).map fun k => wordBE (s.reg (A_CE_J_NONCE c k))).foldl (· ++ ·) []
    tag := ((List.range 4).map fun k => wordBE (s.reg (A_CE_J_TAG c k))).foldl (· ++ ·) [] }

/-- Level of a CCMF job: NONCE3[2:0] (Table 11.2). -/
def jobLevel (j : JobS) : Nat := j.nonce.getD 15 0 % 8

/-- Octets of the tag of a job. -/
def jobTag (j : JobS) : Nat := if j.mode = 1 then 4 * 2 ^ (jobLevel j - 5) else j.taglen

/-- Are the parameters of a job outside Table 11.2, or its buffers outside R349? -/
def jobBadParam (j : JobS) : Bool :=
  let out := if j.mode = 5 ∨ j.mode = 6 then 0 else j.plen
  let inMem := fun a n => inSram a n || inFlash a n
  (match j.mode with
    | 1 => decide (jobLevel j < 5)
    | 2 => decide (j.nlen < 7) || decide (13 < j.nlen) || decide (j.taglen < 4) || decide (16 < j.taglen) || j.taglen % 2 == 1
    | 3 => !(j.taglen == 4 || j.taglen == 8 || (decide (12 ≤ j.taglen) && decide (j.taglen ≤ 16)))
    | 4 => false
    | 5 => decide (j.taglen < 4) || decide (16 < j.taglen)
    | 6 => !j.dir
    | _ => true) ||
    !inMem j.src j.plen || !inMem j.aad j.alen || !inSram j.dst out ||
    (overlap j.dst out j.src j.plen && j.dst != j.src) || (overlap j.dst out j.aad j.alen && !(j.dst == j.aad && out == j.alen))

/-- Does a job break a limit of Table 11.3? -/
def jobBadLength (s : State) (j : JobS) : Bool :=
  match j.mode with
  | 1 => decide (2047 < j.alen) || decide (2047 < j.plen)
  | 2 => decide (2 ^ (8 * (15 - j.nlen)) ≤ j.plen) || (j.dir && decide (4096 < j.plen))
  | 3 => j.dir && decide (4096 < j.plen)
  | 4 => j.alen != 0 || j.plen == 0
  | 5 => j.alen != 0
  | _ => j.alen != 0 || j.plen != ksOctets s j.tks + 8

/-- May a job of core `c` use slot `n` for USAGE bit `b` (R346)? -/
def slotUsable (s : State) (c n b : Nat) (ns : Bool) : Bool :=
  s.on (CE_KS_ATTR_VALID n) && bitOf (s.get (CE_KS_ATTR_USAGE n)) b && bitOf (s.get (CE_KS_ATTR_CORES n)) c &&
    (!ns || !s.on (CE_KS_ATTR_SEC n))

/-- The head of the queue enters the datapath (R355): posted to the ledger, checked, run; `ecc` where the slot read
meets an uncorrectable error (R345). -/
def ceJobRun (s : State) (c : Nat) (ecc : Bool) : State :=
  if s.get (CE_J_STAT_STATE c) ≠ jbQueued ∨ s.ce.queue.head? ≠ some c ∨
      (List.range 4).any (fun k => s.get (CE_J_STAT_STATE k) == jbRun) then s
  else
    let r := s.ledgerStart (.ce c)
    let s := r.2
    if !r.1 then s
    else
      let j := ceParams s c
      let n := s.get (CE_J_CTL_KS c)
      if jobBadParam j then ceEnd s c ceParam
      else if jobBadLength s j then ceEnd s c ceLength
      else if ecc then ceEnd (ksEcc s n) c ceKeyEcc
      else if !slotUsable s c n j.mode j.ns then ceEnd s c ceKey
      else
        let out := if j.mode = 5 ∨ j.mode = 6 then 0 else j.plen
        let s := s.updJob c fun _ => { j with key := (s.slot n).key, reach := refusedAt s j.ns j.dst out }
        let s := { s with ce := { s.ce with queue := s.ce.queue.filter (· != c) } }
        s.set (CE_J_STAT_STATE c) jbRun

/-- The tag registers of context `c` take a tag, unused octets zero (R348). -/
def putTag (s : State) (c : Nat) (tag : List Nat) : State :=
  let t := tag ++ List.replicate (16 - tag.length) 0
  (List.range 4).foldl (fun u k => u.setReg (A_CE_J_TAG c k) (w32 (beNat ((t.drop (4 * k)).take 4)))) s

/-- The nonce, IV or counter block of a job (R348). -/
def jobNonce (j : JobS) : List Nat :=
  match j.mode with
  | 1 => j.nonce.take 12 ++ [jobLevel j]
  | 2 => j.nonce.take j.nlen
  | 3 => j.nonce.take 12
  | _ => j.nonce

/-- What a job's data path makes: the output octets, the tag out, and whether a tag in verifies. -/
def jobResult (j : JobS) (aad pt : List Nat) : List Nat × List Nat × Bool :=
  let n := jobNonce j
  let tl := jobTag j
  match j.mode with
  | 3 =>
    let x := gcmCrypt j.key n pt
    let t := gcmTag j.key n aad (if j.dir then pt else x) tl
    (x, t, t == j.tag.take tl)
  | 4 => (ctrCrypt j.key n pt, [], true)
  | 5 =>
    let t := cmacTag j.key pt tl
    ([], t, t == j.tag.take tl)
  | _ =>
    let x := ccmCrypt j.key n pt
    let t := ccmTag j.key n aad (if j.dir then x else pt) tl
    (x, t, t == j.tag.take tl)

/-- The end of an unwrap job (R351). -/
def ceUnwrapEnd (s : State) (c : Nat) (j : JobS) (src : List Nat) : State :=
  match kwUnwrap j.key src with
  | none => ceEnd s c ceAuth
  | some key =>
    let acc : Acc := { kind := .core, core := c, ns := j.ns }
    if !ksMay s acc j.tks then ceEnd s c ceKey
    else
      let s := s.updSlot j.tks fun k => { k with key := key }
      ceEnd ((s.set (CE_KS_ATTR_VALID j.tks) 1).set (CE_KS_ATTR_WRAPPED j.tks) 1) c ceDone

/-- A job with attribute `ns` is stopped in its middle: the `n` octets it has written at `dst` are zeroed. Where one of these
writes is refused, what they hold is open (R347, R353). Answers whether one was. -/
def zeroOut (s : State) (ns : Bool) (dst n : Nat) : Bool × State :=
  if jobRefused s ns dst n then
    (true, ({ s.setBytes dst ((List.range n).map fun i => Config.freeByte s.free (dst + i)) with
                free := s.free + 1 } : State).breakReservations none dst n)
  else (false, (s.setBytes dst (List.replicate n 0)).breakReservations none dst n)

/-- Does a job write its output as it goes (R353)? -/
def ceStreams (j : JobS) : Bool := j.mode != 5 && j.mode != 6 && (!j.dir || j.mode == 4)

/-- What a stopped job of context `c` had written is zeroed: whole blocks, no more than `most` octets and none from the first
refused one on; how many is open. A job whose last output octet ends it has not written that one (R347, R353, R354). Answers
whether a write was refused. -/
def ceDiscard (s : State) (c most : Nat) : Bool × State :=
  let j := s.job c
  if !ceStreams j then (false, s)
  else
    let (x, s) := s.fresh
    let blocks := (j.plen + 15) / 16 + b2n (j.mode != 4)
    let reach := max j.reach (refusedAt s j.ns j.dst j.plen)
    zeroOut s j.ns j.dst (min (min most reach) (min j.plen (16 * (x.toNat % max 1 blocks))))

/-- A running job of context `c` stops before its end, with `code`, or BUS where its output cannot be zeroed (R353). -/
def ceStop (s : State) (c code most : Nat) : State :=
  let r := ceDiscard s c most
  ceEnd r.2 c (if r.1 then ceBus else code)

/-- The output `l` of a job is written to DST: of an access that is refused nothing is (R347, R427). -/
def ceRelease (s : State) (j : JobS) (l : List Byte) : State :=
  let old := s.bytes j.dst l.length
  let out := (l.zip old).zipIdx.map fun e => if jobRefused s j.ns (j.dst + e.2) 1 then e.1.2 else e.1.1
  (s.setBytes j.dst out).breakReservations none j.dst l.length

/-- A running job ends (R349 to R354): with BUS where an access failed before its completion point (`bus`: one that the memory
failed), else with its output, its tag or AUTH. A decryption whose tag has verified ends with DONE whatever its release
meets (R354). A job paused at throttle level 2 does not end (Table 1.7), nor does one whose access waits for a flash bank or a
scan (R469, R567). -/
def ceJobEnd (s : State) (c : Nat) (bus : Bool) : State :=
  let j := s.job c
  let waits := memBusy s j.src j.plen || memBusy s j.aad j.alen || (j.mode != 5 && j.mode != 6 && memBusy s j.dst j.plen)
  if s.get (CE_J_STAT_STATE c) ≠ jbRun ∨ s.get PM_STAT_LEVEL = 2 ∨ waits then s
  else if bus || jobRefused s j.ns j.src j.plen || jobRefused s j.ns j.aad j.alen then
    ceStop s c ceBus (refusedAt s j.ns j.src j.plen)
  else
    let src := octets (s.bytes j.src j.plen)
    if j.mode = 6 then ceUnwrapEnd s c j src
    else
      let r := jobResult j (octets (s.bytes j.aad j.alen)) src
      let done := refusedAt s j.ns j.dst j.plen
      if j.dir && !r.2.2 then ceEnd s c ceAuth
      else if ceStreams j && done < j.plen then ceEnd (zeroOut s j.ns j.dst done).2 c ceBus
      else
        let s := if j.mode = 5 then s else ceRelease s j (bytesOf r.1)
        let s := if j.dir || j.mode == 4 then s else putTag s c r.2.1
        ceEnd s c ceDone

/-- ABORT (R357), and what CE_CTL.EN and a core restart do to a context (R358, R359). -/
def ceAbort (s : State) (c code : Nat) : State :=
  let st := s.get (CE_J_STAT_STATE c)
  if st = jbQueued then ceEnd s c code
  else if st = jbRun then ceStop s c code (s.job c).plen
  else if code = ceAborted then s.set (CE_J_STAT_ABORT_LATE c) 1
  else s

/-- CE_CTL.EN is cleared (R358). -/
def ceDisable (s : State) : State :=
  ((List.range 4).foldl (fun t c => ceAbort t c ceDisabled) s).set CE_CTL_EN_ACK 0

/-- A write to the CE window. -/
def ceWrite (acc : Acc) (s : State) (a : Nat) (v : Word) : State × WriteEnd :=
  let o := a % 0x10000
  if 0x400 ≤ o then
    let n := (o - 0x400) / 0x40
    if n < 64 ∧ ksMay s acc n then ksWrite acc.staged s n a v
    else if n < 64 then
      (s.raise CE_INT_STAT_FOREIGN, if s.on (CE_KS_ATTR_SEC n) && acc.ns then .berr 0 else .berrFree)
    else (s, .ok)
  else if 0x100 ≤ o ∧ o < 0x200 then
    let c := (o - 0x100) / 0x40
    if !(acc.image || acc.core == c) then (s.raise CE_INT_STAT_FOREIGN, .berrFree)
    else
      let r := fieldWrite s a v
      if o % 0x40 = 0 then
        let t := if bitOf v.toNat 0 then ceStart r.1 c acc.ns else r.1
        (if bitOf v.toNat 1 then ceAbort t c ceAborted else t, r.2)
      else r
  else if o = 0 then
    let r := fieldWrite s a v
    (if s.on CE_CTL_EN && !r.1.on CE_CTL_EN then ceDisable r.1
     else if r.1.on CE_CTL_EN then r.1.set CE_CTL_EN_ACK 1 else r.1, r.2)
  else fieldWrite s a v

end Sys2Proof.Machine
end

