-- ==== Sys2Proof/Machine/Lanes.lean ====
section
/-! DEFINITION. Machine/Lanes.lean: what the blocks of the radio share: lane states, the logical lane map, receive
windows, the pending bits of the threads, free cells, and the loss of receptions (R145 to R157, R170, R188, R192,
R316, R317). -/

namespace Sys2Proof.Machine

/-! ### Lane states (Table 5.5) -/

abbrev lnIdle : Nat := 0
abbrev lnAttached : Nat := 1
abbrev lnArmed : Nat := 2
abbrev lnPreamble : Nat := 3
abbrev lnDecide : Nat := 4
abbrev lnFrame : Nat := 5
abbrev lnSelftest : Nat := 6
abbrev lnSurvey : Nat := 7
abbrev lnFailed : Nat := 15

def State.laneState (s : State) (p : Nat) : Nat := s.get (CZ_LANE_STAT_STATE p)
def State.setLane (s : State) (p st : Nat) : State := s.set (CZ_LANE_STAT_STATE p) st
def State.lane (s : State) (p : Nat) : LaneS := s.cz.lanes.getD p .reset
def State.updLane (s : State) (p : Nat) (f : LaneS → LaneS) : State :=
  { s with cz := { s.cz with lanes := updAt s.cz.lanes p f } }

/-- The physical lane of a logical lane (R188). -/
def State.physOf (s : State) (l : Nat) : Nat :=
  bitsOf (s.reg (if l % 16 < 8 then A_LS_LMAP0 else A_LS_LMAP1)) (4 * (l % 8)) 4

/-- The logical lane that names a physical lane: the lowest one that maps to it. -/
def State.logicalOf (s : State) (p : Nat) : Option Nat := (List.range 16).find? fun l => s.physOf l == p

/-- `s` with logical lane `l` mapped to physical lane `p`. -/
def State.setMap (s : State) (l p : Nat) : State :=
  s.set ⟨if l % 16 < 8 then A_LS_LMAP0 else A_LS_LMAP1, 4 * (l % 8), 4⟩ p

/-- CZ_STATUS (Table 5.11). -/
def czStatus (s : State) : Word :=
  w32 (((List.range 16).map fun p =>
    let st := s.laneState p
    (if st == lnFailed then 2 ^ (16 + p) else if decide (2 ≤ st) && decide (st ≤ 5) then 2 ^ p else 0)).foldl (· + ·) 0)

/-! ### Thread pending bits (Table 6.5) -/

/-- Every thread latches a pending bit. -/
def State.latchAll (s : State) (f : Nat → Field) : State := (List.range 4).foldl (fun t n => t.set (f n) 1) s

/-! ### Windows and arming (R146, R147, R192) -/

/-- Is a physical lane armed: by firmware, or by an open window that is not voided (R146)? -/
def State.laneArmed (s : State) (p : Nat) : Bool :=
  s.on CZ_CTL_EN && (s.on (CZ_LANE_STAT_ARMED_FW p) ||
    s.cz.windows.any fun w => !w.voided && s.physOf w.lane == p)

/-- The opening of the window in which a lane is armed; none when firmware alone arms it (R212). -/
def State.armOpening (s : State) (p : Nat) : Option Nat :=
  (s.cz.windows.find? fun w => !w.voided && s.physOf w.lane == p).map (·.opened)

/-- Is a lane armed by an open window of the rendezvous logic: a sniff, a data or a beacon window? -/
def State.calledBy (s : State) (p : Nat) : Bool :=
  s.cz.windows.any fun w => !w.voided && s.physOf w.lane == p && (match w.owner with
    | .sniff => true
    | .data _ => true
    | .beacon => true
    | .beaconAlt => true
    | _ => false)

/-- The state a lane that receives nothing takes: IDLE, ATTACHED or ARMED (R147). -/
def State.restState (s : State) (p : Nat) : Nat :=
  if !s.on (CZ_LANE_CFG_EN p) then lnIdle else if s.laneArmed p then lnArmed else lnAttached

/-- A lane that is IDLE, ATTACHED, ARMED or under a self-test takes the state its arming gives: arming stops a test, and
a lane that stops being armed leaves its search (R146, R147, R160). -/
def State.settleLane (s : State) (p : Nat) : State :=
  let st := s.laneState p
  if st = lnSelftest then (if s.laneArmed p && s.on (CZ_LANE_CFG_EN p) then s.setLane p lnArmed else s)
  else if st = lnAttached ∨ st = lnArmed then s.setLane p (s.restState p)
  else s

/-- Address of frame-store cell `c` (R313). -/
def cellAddr (c : Nat) : Nat := 0x24000000 + 0x80 * c

/-- Octets written into cells in order (R314). -/
def State.fillCells (s : State) : List Nat → List Byte → State
  | [], _ => s
  | c :: cs, d => (s.setBytes (cellAddr c) (d.take 128)).fillCells cs (d.drop 128)

/-- Cells join the tail of the free list. -/
def State.giveCells (s : State) (cs : List Nat) : State := { s with fw := { s.fw with freed := s.fw.freed ++ cs } }

/-- Cells that part of a PSDU has been written to: what they hold is free values (DESIGN CHOICE, log entry 54). -/
def State.freeFill (s : State) (cs : List Nat) : State :=
  cs.foldl (fun t c =>
    { t.setBytes (cellAddr c) ((List.range 128).map fun i => Config.freeByte t.free (cellAddr c + i)) with free := t.free + 1 }) s

/-- A reception ends without its frame: the cells promised to it return, and those taken join the free list (R317). FREE is
derived from the promises. -/
def State.dropRx (s : State) (p : Nat) : State :=
  let t := s.updLane p fun l => { l with rx := none }
  match (s.lane p).rx with
  | some r => (t.freeFill r.taken).giveCells r.taken
  | none => t

/-- The switch returns to position 0 when a lane's frame ends or is abandoned (R152). -/
def swReturn (s : State) (p : Nat) : State :=
  if s.on FE_CTL_SWDIV && s.get (CZ_LANE_CFG_DIV p) == 0 then { s with fe := { s.fe with swPos := 0 } } else s

/-- A lane takes the bin it was to take at the frame end (R168). -/
def State.applyMove (s : State) (p : Nat) : State :=
  match (s.lane p).move with
  | some b => (s.set (CZ_LANE_CFG_BIN p) b).updLane p fun l => { l with move := none }
  | none => s

/-- A reception is abandoned (R156): counted if the sync word had been detected, as BLANKED or as DROPPED. A lane that
keeps its old bin to the frame end moves now (R168). -/
def State.abandonLane (s : State) (p : Nat) (blanked : Bool) : State :=
  let st := s.laneState p
  if st = lnPreamble ∨ st = lnDecide ∨ st = lnFrame then
    let s :=
      if st = lnFrame then
        if blanked then ((s.bump (CZ_LANE_CNT1_BLANKED p)).raise CZ_INT_STAT_BLANK).emit 76
        else s.bump (CZ_LANE_CNT2_DROPPED p)
      else s
    let s := (swReturn s p).applyMove p
    (s.dropRx p).setLane p (s.restState p)
  else s

/-- Every lane abandons its reception. -/
def State.abandonAll (s : State) (blanked : Bool) : State :=
  (List.range 16).foldl (fun t p => t.abandonLane p blanked) s

/-- A window opens on a logical lane (R192); while CZ_CTL.EN is 0 it arms nothing (R170). -/
def State.openWindow (s : State) (owner : WinOwner) (l : Nat) (len : Option Nat) : State :=
  let w : Window := { owner := owner, lane := l, opened := s.now, close := len.map (s.now + ·), pre := false,
                      voided := !s.on CZ_CTL_EN }
  let ws := s.cz.windows.filter fun x => !(x.owner == owner && x.lane == l)
  ({ s with cz := { s.cz with windows := ws ++ [w] } } : State).settleLane (s.physOf l)

/-- A window closes: WEND is latched for a thread's window in which no preamble was detected (R192); a lane that is no
longer armed leaves its search (R147). -/
def State.closeWindow (s : State) (w : Window) (wend : Bool) : State :=
  let s := { s with cz := { s.cz with windows := s.cz.windows.filter (· != w) } }
  let s := if wend && w.owner == .thread && !w.pre then s.latchAll fun n => (LS_T_PEND1_WEND n).bit w.lane else s
  s.settleLane (s.physOf w.lane)

/-- The open windows that a test picks close. -/
def State.closeWindows (s : State) (wend : Bool) (f : Window → Bool) : State :=
  (s.cz.windows.filter f).foldl (fun t w => t.closeWindow w wend) s

/-- Does a window with this owner stand open on any lane? -/
def State.windowOpen (s : State) (owner : WinOwner) : Bool := s.cz.windows.any (·.owner == owner)

/-! ### Chains in service (R117, R118, R132) -/

/-- Does a lane's configuration let it use chain `c` now (R120, R150, R153)? -/
def State.laneUses (s : State) (p c : Nat) : Bool :=
  let d := s.get (CZ_LANE_CFG_DIV p)
  if d = 1 then c == 0 else if d = 2 then c == 1 else c == 0 || !s.on FE_CTL_SWDIV

/-- The chain whose signal a lane in reception takes; with an external switch, a position is chain A (R120). -/
def State.laneChain (s : State) (p : Nat) : Nat :=
  let d := s.get (CZ_LANE_CFG_DIV p)
  if d = 1 then 0 else if d = 2 then 1 else if s.on FE_CTL_SWDIV then 0 else s.get (CZ_LANE_STAT_CHAIN p)

/-- Is a chain in service but for blanking by a transmission: it is not in standby? -/
def chainLive (s : State) (c : Nat) : Bool := ({ s with fe := { s.fe with blank := false } } : State).chainUp c

/-- Has the last bit of a lane's frame arrived before now? Such a frame is complete and is not blanked (R157). -/
def laneArrived (s : State) (p : Nat) : Bool :=
  s.laneState p == lnFrame && (s.lane p).rx.any fun r => r.phr && decide (r.fend < s.now)

/-- Receptions end on chains that have gone out of service (R118, R153, R156): a lane in DECIDE that still has the
other chain takes it at once; a retune counts DROPPED, every other cause BLANKED. -/
def State.loseChains (s : State) (blanked : Bool) : State :=
  (List.range 16).foldl (fun t p =>
    let st := t.laneState p
    if laneArrived t p ∧ chainLive t (t.laneChain p) then t
    else if st = lnDecide ∧ t.get (CZ_LANE_CFG_DIV p) = 0 ∧ !t.on FE_CTL_SWDIV ∧ (t.chainUp 0 || t.chainUp 1) then
      if t.chainUp 0 && t.chainUp 1 then t
      else (t.set (CZ_LANE_STAT_CHAIN p) (if t.chainUp 0 then 0 else 1)).setLane p lnPreamble
    else if t.chainUp (t.laneChain p) then t
    else t.abandonLane p blanked) s

/-! ### The aerial switch (R125) -/

/-- The field of FE_ASW whose code the switch is to have (R125): 0 SLEEP, 1 RX0, 2 RX1, 3 TXLP, 4 TXHP. -/
def antName (s : State) : Nat :=
  match s.fe.air with
  | some a => if a.hp then 4 else 3
  | none =>
    if !chainLive s 0 && !chainLive s 1 then 0
    else if s.on FE_CTL_SWDIV && s.fe.swPos == 1 && chainLive s 0 then 2
    else 1

/-- The code that FE_ASW gives for a field. -/
def antCode (s : State) (n : Nat) : Nat :=
  match n with
  | 0 => s.get FE_ASW_SLEEP
  | 1 => s.get FE_ASW_RX0
  | 2 => s.get FE_ASW_RX1
  | 3 => s.get FE_ASW_TXLP
  | _ => s.get FE_ASW_TXHP

/-- The aerial switch takes its code where the code in force changes; a write of FE_ASW shows at the next change (R125). -/
def State.updAnt (s : State) : State :=
  let n := antName s
  if s.pins.antSel = n then s else { s with pins := { s.pins with antsw := antCode s n, antSel := n } }

/-! ### Free cells (R316, R317) -/

/-- Cells promised to admitted frames still in reception and not yet taken. -/
def promised (s : State) : Nat :=
  (s.cz.lanes.map fun l => match l.rx with | some r => if r.adm = 1 then r.cells - r.taken.length else 0 | none => 0).foldl
    (· + ·) 0

/-- FREE: cells on the free list less the promised ones (R316). -/
def freeCells (s : State) : Nat := (4096 - s.fw.freeNext) + s.fw.freed.length - promised s

/-- FREE has changed from `before`: LOWFREE where it fell below LOWW (Table 10.10, EVP087). -/
def State.freeFell (s : State) (before : Nat) : State :=
  if s.get FW_ADM2_LOWW ≤ before ∧ freeCells s < s.get FW_ADM2_LOWW then (s.raise FW_FS_INT_STAT_LOWFREE).emit 87 else s

/-- `n` cells leave the head of the free list. -/
def State.takeCells (s : State) (n : Nat) : List Nat × State :=
  let k := min n (4096 - s.fw.freeNext)
  let a := (List.range k).map (· + s.fw.freeNext)
  let b := s.fw.freed.take (n - k)
  (a ++ b, { s with fw := { s.fw with freeNext := s.fw.freeNext + k, freed := s.fw.freed.drop (n - k) } })

/-- The reception of a lane has its first `n` cells from the free list (R317). -/
def State.takeRx (s : State) (p n : Nat) : State :=
  match (s.lane p).rx with
  | some r =>
    if r.adm = 1 ∧ r.taken.length < min n r.cells then
      let t := s.takeCells (min n r.cells - r.taken.length)
      t.2.updLane p fun l => { l with rx := some { r with taken := r.taken ++ t.1 } }
    else s
  | none => s

/-- Cells that `l` octets take (R313). -/
def cellsFor (l : Nat) : Nat := max 1 ((l + 127) / 128)

end Sys2Proof.Machine
end

