-- ==== Sys2Proof/Machine/Phy.lean ====
section
/-! DEFINITION. Machine/Phy.lean: lane modes, airtimes, what is sent, the PHR and the frame check sequences (R63, R121,
R136 to R144, R205, R206). -/

namespace Sys2Proof.Machine

/-- Is the mode one of Table 5.2 (R136)? -/
def modeBank (m : Nat) : Bool := decide (1 ≤ m) && decide (m ≤ 3)
def modeNarrow (m : Nat) : Bool := decide (8 ≤ m) && decide (m ≤ 12)
def modeOk (m : Nat) : Bool := modeBank m || modeNarrow m

/-- Three times the ticks of one symbol (R136); in Slate, of one bit period (R140). -/
def sym3 (m : Nat) : Nat :=
  match m with
  | 1 => 12000
  | 2 => 6000
  | 3 => 48000
  | 8 => 12000
  | 9 => 6000
  | 10 => 4000
  | 11 => 6000
  | 12 => 4000
  | _ => 0

/-- Three times the ticks of one bit of PHR and PSDU: two bits a symbol in 4-FSK (R138). -/
def bit3 (m : Nat) : Nat := if m = 11 ∨ m = 12 then sym3 m / 2 else sym3 m

/-- Receive group delay of a mode in ticks (Table 2.1). -/
def groupDelay (m : Nat) : Nat :=
  match m with
  | 1 => 9600
  | 2 => 5200
  | 3 => 14400
  | 8 => 7400
  | 9 => 4100
  | 10 => 3000
  | 11 => 2440
  | 12 => 1760
  | _ => 0

/-- How far a seen instant lies after its instant at the aerial (R62, R206): the group delay less the two trims. -/
def seenDelay (s : State) (m : Nat) : Int :=
  (groupDelay m : Int) - s.getS TB_GD_TRIM_SILICON - s.getS TB_GD_TRIM_BOARD

/-- Three times the airtime of PHR and PSDU of `len` octets, in ticks (R206). -/
def bodyThirds (m len : Nat) (coded : Bool) : Nat :=
  let bits := 16 + 8 * len
  (if coded then 2 * (bits + 3 + Config.fecPad len) else bits) * bit3 m

/-- Airtime of PHR and PSDU of `len` octets, in whole ticks (R206). -/
def bodyTicks (m len : Nat) (coded : Bool) : Nat := bodyThirds m len coded / 3

/-- Three times the airtime of a preamble of `pre` octets (bit periods in Slate) and the sync word, in ticks (R138,
R141). -/
def headThirds (m pre : Nat) : Nat := (if m = 3 then pre + 16 else 8 * pre + 16) * sym3 m

/-- Airtime of a preamble and the sync word, in whole ticks. -/
def headTicks (m pre : Nat) : Nat := headThirds m pre / 3

/-- Three times the airtime of a PPDU, in ticks. -/
def ppduThirds (m pre len : Nat) (coded : Bool) : Nat := headThirds m pre + bodyThirds m len coded

/-- Airtime of a PPDU in whole ticks. -/
def ppduTicks (m pre len : Nat) (coded : Bool) : Nat := ppduThirds m pre len coded / 3

/-- The detection allowance T_det of a mode in ticks (Table 7.4). -/
def detTicks (m : Nat) (long : Bool) : Nat := (if m = 3 then (if long then 42 else 24) else (if long then 46 else 28)) * sym3 m / 3

/-- Minimum sniff of a mode in ticks (Table 7.4). -/
def sniffMin (m : Nat) : Nat :=
  if m = 1 ∨ m = 8 then 48000 else if m = 10 ∨ m = 12 then 24000 else if m = 3 then 104000 else 28000

/-- The CRC-4 of a Slate PHR over bits 15 to 4 (R142). -/
def slateHcs (h : Nat) : Nat :=
  (List.range 12).foldl (fun crc k =>
    let fb := bitOf crc 3 != bitOf h (15 - k)
    let c := crc * 2 % 16
    if fb then c ^^^ 3 else c) 15

/-- What a PHR says: length, 2-octet FCS, whitening; none for a header error (R144, R154, R205). Bit 15 is sent first.
The SUN FSK layout is that of IEEE 802.15.4: mode switch [15], FCS type [12], whitening [11], length [10:0] (PRESUMED,
log entry 11). -/
def readPhr (m h : Nat) : Option (Nat × Bool × Bool) :=
  if m = 3 then
    let len := h / 16 % 256
    let fcs2 := bitOf h 15
    if slateHcs h ≠ h % 16 ∨ len ≤ (if fcs2 then 2 else 4) then none else some (len, fcs2, bitOf h 14)
  else if bitOf h 15 || h % 2048 == 0 then none
  else some (h % 2048, bitOf h 12, bitOf h 11)

/-- The PHR that the sender builds (R142, R205): no mode switch, reserved bits 0; Slate's with its HCS. -/
def buildPhr (m len : Nat) (fcs2 dw : Bool) : Nat :=
  if m = 3 then
    let h := b2n fcs2 * 0x8000 + b2n dw * 0x4000 + len % 256 * 16
    h + slateHcs h
  else b2n fcs2 * 0x1000 + b2n dw * 0x800 + len % 2048

/-- The PN9 sequence of IEEE 802.15.4 data whitening, `n` bits on from a register that holds the last nine bits, newest
first: each bit is that of four places before xor that of nine (PRESUMED, log entry 11). -/
def pn9 : Nat → List Bool → List Bool
  | 0, _ => []
  | n + 1, l =>
    let b := l.getD 3 false != l.getD 8 false
    b :: pn9 n ((b :: l).take 9)

/-- Bits whitened, or de-whitened: xor with PN9 from its seed of nine ones (R143, R205). -/
def whitenBits (l : List Bool) : List Bool := List.zipWith (· != ·) l (pn9 l.length (List.replicate 9 true))

/-- The bits of an octet, bit 0 first. -/
def octetBits (b : Byte) : List Bool := (List.range 8).map fun i => b.getLsbD i

/-- The octets of a PSDU whitened, or de-whitened. -/
def whiten (d : List Byte) : List Byte :=
  let w := pn9 (8 * d.length) (List.replicate 9 true)
  d.mapIdx fun i b => b ^^^ BitVec.ofNat 8 (((List.range 8).map fun k => b2n (w.getD (8 * i + k) false) * 2 ^ k).foldl (· + ·) 0)

/-- Bits `w` - 1 down to 0 of a number. -/
def bitsDown (w n : Nat) : List Bool := (List.range w).map fun i => bitOf n (w - 1 - i)

/-- The chips of a spread bit: C0 or C1 (R140). -/
def chipsOf (b : Bool) : List Bool :=
  if b then [false, false, false, true, true, false, true, true] else [true, true, true, false, false, true, false, false]

/-- Preamble and sync word as they are sent: chips in Slate (R140, R141), bits in the other modes (R138). The contents of
the SUN FSK preamble and SFD are those of IEEE 802.15.4 (PRESUMED, log entry 11). -/
def airHead (a : AirS) : List Bool :=
  if a.mode = 3 then
    (List.replicate a.pre [true, false, true, false, true, false, true, false]).flatten ++ (bitsDown 16 0x7A0E).flatMap chipsOf
  else (List.replicate (4 * a.pre) [false, true]).flatten ++ bitsDown 16 (if a.coded then 0x6F4E else 0x904E)

/-- PHR and PSDU as they are sent, before FEC: chips in Slate, bits in the other modes; the PHR's bit 15 first, each octet
bit 0 first, the PSDU whitened where DW says so (R138, R141 to R143, R205). -/
def airBody (a : AirS) : List Bool :=
  let b := a.psdu.flatMap octetBits
  let l := bitsDown 16 a.phr ++ (if a.dw then whitenBits b else b)
  if a.mode = 3 then l.flatMap chipsOf else l

/-- One octet of a bit-reversed CRC. -/
def crcStep (poly : Nat) (crc : Nat) (b : Byte) : Nat :=
  (List.range 8).foldl (fun c _ => if c % 2 = 1 then (c / 2) ^^^ poly else c / 2) (crc ^^^ b.toNat)

/-- The 2-octet FCS of IEEE 802.15.4 (CRC-16 of ITU-T, R143; log entry 11). -/
def fcs16 (d : List Byte) : Nat := d.foldl (crcStep 0x8408) 0

/-- The 4-octet FCS of IEEE 802.15.4 (CRC-32; a shorter calculation field is padded with zeros; R143, log entry 11). -/
def fcs32 (d : List Byte) : Nat :=
  ((d ++ List.replicate (4 - d.length) 0).foldl (crcStep 0xEDB88320) 0xFFFFFFFF) ^^^ 0xFFFFFFFF

/-- Octets of the FCS. -/
def fcsLen (fcs2 : Bool) : Nat := if fcs2 then 2 else 4

/-- The FCS octets of a PSDU body. -/
def fcsOf (fcs2 : Bool) (d : List Byte) : List Byte := if fcs2 then natLE 2 (fcs16 d) else natLE 4 (fcs32 d)

/-- Is the FCS of a received PSDU correct (R155)? -/
def fcsOk (fcs2 : Bool) (psdu : List Byte) : Bool :=
  let n := psdu.length - fcsLen fcs2
  psdu.drop n == fcsOf fcs2 (psdu.take n)

/-- The usable bin whose centre lies nearest transmit centre `f` for LO `lo`; the lower of two on a tie (R198). -/
def nearestBin (lo : Nat) (f : Int) : Nat :=
  (List.range 32).foldl (fun b i =>
    let c := fun k : Nat => ((lo : Int) - 39000 + 2000 * (k : Nat) - f).natAbs
    if c (i + 4) < c b then i + 4 else b) 4

end Sys2Proof.Machine
end

