-- ==== Sys2Proof/Machine/FrameStore.lean ====
section
/-! DEFINITION. Machine/FrameStore.lean: cells, frames, queues, admission, room codes and hold-back (R313 to R338). -/

namespace Sys2Proof.Machine

/-! ### Frames and their cells (R313 to R316, R325) -/

/-- Uses of a frame's cells (Table 10.1). -/
abbrev useRx : Nat := 1
abbrev useQueued : Nat := 2
abbrev useRing : Nat := 3
abbrev useRaw : Nat := 4

/-- Fates of a frame that owes an acknowledgement (R295, R322, R326). -/
abbrev fateRing : Nat := 1
abbrev fateDrop : Nat := 2
abbrev fateQueue : Nat := 3
abbrev fateFlush : Nat := 4

/-- The frame whose first cell is `c`, if one is. -/
def State.frame (s : State) (c : Nat) : Option FrameS := assocGet s.fw.frames c

/-- The frame with first cell `c` is as given. -/
def State.putFrame (s : State) (c : Nat) (f : FrameS) : State :=
  { s with fw := { s.fw with frames := assocPut s.fw.frames c f } }

/-- The frame with first cell `c`, changed. -/
def State.updFrame (s : State) (c : Nat) (g : FrameS → FrameS) : State :=
  match s.frame c with
  | some f => s.putFrame c (g f)
  | none => s

/-- The octets of a list of cells, `n` of them. -/
def cellOctets (s : State) (cells : List Nat) (n : Nat) : List Byte :=
  ((cells.map fun c => s.bytes (cellAddr c) 128).foldl (· ++ ·) []).take n

/-- The octets of a frame. -/
def frameOctets (s : State) (f : FrameS) : List Byte := cellOctets s f.cells f.len

/-- A frame of `use`, its metadata blank but for cells and length. -/
def FrameS.fresh (use len : Nat) (cells : List Nat) (ts : BitVec 64) : FrameS :=
  { use := use, cls := 0, retry := 0, snbv := false, snbr := 0, charged := 0, apend := false, cells := cells, len := len,
    lane := 0, nh := 0, ts := ts, dts := 0, lqi := 0, rssi := 0, busy := false, cause := 0, auth := false, ring := 0,
    passed := false, fate := 0, ieSkip := [], ieAt := none }

/-- Cells in a use; those that receptions have taken have use RX (R316). -/
def usedCells (s : State) (u : Nat) : Nat :=
  let rx := s.cz.lanes.map fun l => match l.rx with | some r => r.taken.length | none => 0
  ((s.fw.frames.map fun e => if e.2.use = u then e.2.cells.length else 0)).foldl (· + ·) 0
    + (if u = useRx then rx.foldl (· + ·) 0 else 0)

/-- Q[k] and the frames admitted to class `k` (R320, R322). -/
def classCells (s : State) (k : Nat) : Nat :=
  (s.fw.frames.map fun e => if e.2.use = useQueued ∧ e.2.cls = k then e.2.cells.length else 0).foldl (· + ·) 0
def classFrames (s : State) (k : Nat) : Nat :=
  (s.fw.frames.filter fun e => e.2.use == useQueued && e.2.cls == k).length

/-- The shared fill S (R320). -/
def sharedFill (s : State) : Nat :=
  ((List.range 4).map fun k => classCells s k - s.get (FW_CLS_LIM_RES k)).foldl (· + ·) 0

/-! ### Queues (R322) -/

/-- The frames linked on queue `q` = 4 × entry + class, head first. -/
def State.queue (s : State) (q : Nat) : List Nat := (assocGet s.fw.queues q).getD []

/-- `s` with queue `q` as given. -/
def State.setQueue (s : State) (q : Nat) (l : List Nat) : State :=
  { s with fw := { s.fw with queues := if l.isEmpty then assocDel s.fw.queues q else assocPut s.fw.queues q l } }

/-- Frame `c` joins the tail of its queue. -/
def State.linkFrame (s : State) (c : Nat) : State :=
  match s.frame c with
  | some f => s.setQueue (4 * f.nh + f.cls) (s.queue (4 * f.nh + f.cls) ++ [c])
  | none => s

/-- HELD count of an entry (R331). -/
def heldCount (s : State) (nb : Nat) : Nat := (assocGet s.fw.hcnt nb).getD 0
def State.setHeld (s : State) (nb n : Nat) : State :=
  { s with fw := { s.fw with hcnt := if n = 0 then assocDel s.fw.hcnt nb else assocPut s.fw.hcnt nb n } }

/-! ### Charges and releases (R319, R325) -/

/-- The charge of a frame's sender changes by an amount (R319, R325). -/
def State.chargeBy (s : State) (nb : Option Nat) (k : Int) : State :=
  match nb with
  | some i => s.set (NB_W14_INCELLS i) ((s.get (NB_W14_INCELLS i) : Int) + k).toNat
  | none => { s with fw := { s.fw with nonbr := ((s.fw.nonbr : Int) + k).toNat } }

/-- The sender a frame is charged to. -/
def FrameS.sender (f : FrameS) : Option Nat := if f.snbv then some f.snbr else none

/-- A frame is charged to its sender, or refused (R319). -/
def chargeFrame (s : State) (c : Nat) (nb : Option Nat) : Bool × State :=
  match s.frame c with
  | none => (false, s)
  | some f =>
    let n := f.cells.length
    match nb with
    | some i =>
      if s.get FW_ADM1_INCAP < s.get (NB_W14_INCELLS i) + n then
        (false, (s.bump FW_FS_CNT0_INCAP).raise FW_FS_INT_STAT_INCAP)
      else (true, (s.chargeBy nb n).putFrame c { f with snbv := true, snbr := i, charged := n })
    | none =>
      if s.get FW_ADM2_NOCAP < s.fw.nonbr + n then
        (false, (s.bump FW_FS_CNT1_NOCAP).raise FW_FS_INT_STAT_NOCAP)
      else (true, (s.chargeBy none n).putFrame c { f with charged := n })

/-- The frame with first cell `c` is released: its cells join the free list, the counts it was charged to fall (R325),
and it leaves every list. -/
def State.releaseFrame (s : State) (c : Nat) : State :=
  match s.frame c with
  | none => s
  | some f =>
    let s := s.chargeBy f.sender (-(f.charged : Int))
    let s := if f.use = useQueued then
        s.set (NB_W14_QCELLS f.nh) (s.get (NB_W14_QCELLS f.nh) - f.cells.length)
      else s
    let q := 4 * f.nh + f.cls
    let s := if f.use = useQueued then s.setQueue q ((s.queue q).filter (· != c)) else s
    let fw := { s.fw with frames := assocDel s.fw.frames c, work := s.fw.work.filter (· != c),
                          waiting := s.fw.waiting.map fun l => l.filter (· != c) }
    ({ s with fw := fw } : State).giveCells f.cells

/-- A queued frame is dropped and counted in LOST of its class (R323, R324, R326). -/
def State.loseFrame (s : State) (c : Nat) : State :=
  match s.frame c with
  | none => s
  | some f => ((s.bump (FW_CLS_DROP_LOST f.cls)).raise FW_FS_INT_STAT_LOST).releaseFrame c

/-- A frame is dropped for an uncorrectable error in its cell at place `k` (R327). -/
def State.eccFrame (s : State) (c k : Nat) : State :=
  match s.frame c with
  | none => s
  | some f =>
    let s := (s.bump (FW_CLS_DROP_LOST f.cls)).raise FW_FS_INT_STAT_ECC
    let s := if f.use = useQueued then s.raise FW_FS_INT_STAT_LOST else s
    (s.releaseFrame c).fault 0xA 0 (f.cells.getD k c)

/-- The link of the free list's head is lost to an uncorrectable error: the cell is withheld until the next system reset
(R327). -/
def State.loseLink (s : State) : State :=
  let r := s.takeCells 1
  if r.1.isEmpty then s else ((r.2.freeFell (freeCells s)).raise FW_FS_INT_STAT_ECC).fault 0xA 0 (r.1.headD 0)

/-! ### Admission to a queue (R320) -/

/-- The tests of the procedure queue_admit: `n` cells of class `k` for next hop `nh`, with the counts of a refusal. -/
def queueTest (s : State) (k nh n : Nat) : Bool × State :=
  let q := classCells s k
  let res := s.get (FW_CLS_LIM_RES k)
  let x := (q + n - res) - (q - res)
  if s.get FW_ADM1_QCAP < s.get (NB_W14_QCELLS nh) + n then
    (false, (s.bump FW_FS_CNT1_QCAP).raiseBit FW_FS_INT_STAT_QDROP k)
  else if 0 < x ∧ min (s.get (FW_CLS_LIM_EDTHR k)) (s.get FW_ADM0_SHMAX) < sharedFill s + x then
    (false, (s.bump (FW_CLS_DROP_ADMIT k)).raiseBit FW_FS_INT_STAT_QDROP k)
  else (true, s)

/-- Frame `c` is queued for next hop `nh` in class `k`; one that owes its own acknowledgement is linked later (R322). -/
def enqueue (s : State) (c k nh : Nat) : State :=
  match s.frame c with
  | none => s
  | some f =>
    let s := s.putFrame c { f with use := useQueued, cls := k, nh := nh, fate := if f.apend then fateQueue else 0 }
    let s := s.set (NB_W14_QCELLS nh) (s.get (NB_W14_QCELLS nh) + f.cells.length)
    if f.apend then s else s.linkFrame c

/-! ### Flush of an entry (R326) -/

/-- VALID of entry `i` has changed from 1 to 0. -/
def flushEntry (s : State) (i : Nat) : State :=
  let mine := s.fw.frames.filter fun e => e.2.use == useQueued && e.2.nh == i
  let s := mine.foldl (fun t e =>
    if e.2.busy || e.2.apend then t.updFrame e.1 fun f => { f with fate := fateFlush }
    else t.loseFrame e.1) s
  let s := ((s.set (NB_W15_ROOM_IN i) 0).set (NB_W15_ROOM_OUT i) 0).setHeld i 0
  { s with fw := { s.fw with heard := s.fw.heard.filter (· != i) } }

/-! ### Room and hold-back (R328 to R331) -/

/-- The procedure room_code. -/
def roomCode (s : State) (nb : Option Nat) : Nat :=
  if !s.on FW_ADM2_ROOM_EN then 15
  else
    let a : Int := ((freeCells s - s.get FW_ADM0_RXMIN) / 2 ^ min 9 (s.get FW_ADM2_RSHIFT) : Nat)
    let r := match nb with
      | none => min ((s.get FW_ADM2_NOCAP : Int) - s.fw.nonbr) a
      | some i => min ((s.get FW_ADM1_INCAP : Int) - s.get (NB_W14_INCELLS i)) a
    if r ≤ 0 then 1 else min 14 (Nat.log2 r.toNat + 2)

/-- The procedure hold_back: does a frame of `n` cells to entry `nb` go? -/
def holdBack (s : State) (nb n : Nat) : Bool × State :=
  let code := s.get (NB_W15_ROOM_IN nb)
  let probe := s.get FW_FC_CFG_PROBE
  if !s.on FW_FC_CFG_HBEN || code == 0 || code == 15 then (true, s)
  else if n ≤ (if code = 1 then 0 else 2 ^ (code - 2)) then (true, s)
  else if probe ≠ 0 ∧ probe ≤ heldCount s nb then (true, (s.setHeld nb 0).bump FW_FS_CNT2_PROBES)
  else (false, s.setHeld nb (min (heldCount s nb + 1) 15))

/-- Is a frame's lifetime over (R323)? -/
def lifeOver (s : State) (f : FrameS) : Bool :=
  let life := s.get (FW_CLS_CFG_LIFE f.cls)
  life != 0 && decide (life * 200000000 < s.now - f.ts.toNat)

/-- The head frame of a queue that is not busy: a second TXF finds the queue of a busy head empty (R323). -/
def queueHead (s : State) (q : Nat) : Option Nat :=
  match s.queue q with
  | [] => none
  | c :: _ => if (s.frame c).any (·.busy) then none else some c

/-- The frame a TXF with SRC `src` examines next for entry `nb` (R322, R323): for SRC 4, the head of the
lowest-numbered class whose queue holds a frame that is not busy. -/
def nextFrame (s : State) (nb src : Nat) : Option Nat :=
  if src < 4 then queueHead s (4 * nb + src)
  else (List.range 4).findSome? fun k => queueHead s (4 * nb + k)

/-! ### Disposition by TXF status (R304, R324) -/

/-- A TXF that took frame `c` ends with a status code. Answers whether the frame was dropped at its retry limit. RETRY has four
bits, and an increase at 15, which RMAX 15 forestalls and an RMAX lowered meanwhile does not, wraps (DESIGN CHOICE, log entry
63). -/
def disposeFrame (s : State) (c code : Nat) : Bool × State :=
  match s.frame c with
  | none => (false, s)
  | some f =>
    let s := s.putFrame c { f with busy := false }
    if code = 0 ∨ code = 1 then (false, s.releaseFrame c)
    else if f.use = useRaw then (false, s)
    else if f.fate = fateFlush then (false, s.loseFrame c)
    else if code = 2 then
      if f.retry = s.get (FW_CLS_CFG_RMAX f.cls) then (true, s.loseFrame c)
      else (false, s.updFrame c fun f => { f with retry := (f.retry + 1) % 16 })
    else (false, s)

/-! ### Registers (R338) -/

/-- Forbidden values of the frame store's registers, judged on state `u`. -/
def fsBad (_s u : State) (a : Nat) : Bool :=
  if a = A_FW_ADM0 ∨ a = A_FW_ADM1 ∨ (0x40090420 ≤ a ∧ a < 0x40090430) then
    decide (4096 < ((List.range 4).map fun k => u.get (FW_CLS_LIM_RES k)).foldl (· + ·) 0 + u.get FW_ADM0_SHMAX
      + u.get FW_ADM0_RXMIN) ||
    decide (u.get FW_ADM0_RXMIN < 16) || u.get FW_ADM1_INCAP == 0 || u.get FW_ADM1_QCAP == 0
  else false

/-- The frame that holds a cell, and the cell's place in it. -/
def cellOwner (s : State) (c : Nat) : Option (Nat × FrameS × Nat) :=
  (s.fw.frames.find? fun e => e.2.cells.contains c).map fun e => (e.1, e.2, e.2.cells.idxOf c)

/-- The frame after frame `c` in its queue. -/
def nextInQueue (s : State) (c : Nat) (f : FrameS) : Option Nat :=
  if f.use = useQueued then
    let q := s.queue (4 * f.nh + f.cls)
    if q.contains c then (q.drop (q.idxOf c + 1)).head? else none
  else none

/-- Word `k` of a frame's metadata (Table 10.1). -/
def metaWord (s : State) (c : Nat) (f : FrameS) (k : Nat) : Word :=
  match k with
  | 0 => w32 (f.use * 2 ^ 29 + f.cls * 2 ^ 27 + f.retry % 16 * 2 ^ 23 + b2n f.snbv * 2 ^ 22 + b2n f.apend * 2 ^ 21
      + f.cells.length * 2 ^ 16 + f.len)
  | 1 => w32 (f.lane * 2 ^ 28 + f.snbr * 2 ^ 16 + (if f.use = useQueued then f.nh else 0))
  | 2 => w32 f.ts.toNat
  | 3 => w32 (f.ts.toNat / 2 ^ 32)
  | 4 => w32 f.dts.toNat
  | 5 => w32 (f.dts.toNat / 2 ^ 32)
  | 6 => w32 (f.lqi * 2 ^ 24 + f.rssi)
  | _ =>
    match nextInQueue s c f with
    | some n => w32 (0x1000 + n)
    | none => 0

/-- The reception that has taken cell `c`, its physical lane and the cell's place in it. -/
def rxOwner (s : State) (c : Nat) : Option (Nat × Reception × Nat) :=
  (List.range 16).findSome? fun p => (s.lane p).rx.bind fun r => (r.taken.idxOf? c).map fun i => (p, r, i)

/-- What the metadata of a frame still being received on physical lane `p` holds (R315 to R317). -/
def rxFrame (s : State) (p : Nat) (r : Reception) : FrameS :=
  { FrameS.fresh useRx (r.len - fcsLen r.fcs2) r.taken r.ts with
    lane := (s.logicalOf p).getD p, dts := r.dts, lqi := r.lqi, rssi := r.rssi }

/-- FW_MD_CELL (Table 10.11). -/
def mdCell (s : State) : Word :=
  match cellOwner s (s.get FW_MD_SEL_CELL) with
  | none =>
    match rxOwner s (s.get FW_MD_SEL_CELL) with
    | some (_, r, i) => w32 (useRx * 2 ^ 29 + b2n (i + 1 == r.cells) * 2 ^ 28 + r.taken.getD (i + 1) 0)
    | none => 0
  | some (_, f, i) =>
    let last := i + 1 == f.cells.length
    w32 (f.use * 2 ^ 29 + b2n last * 2 ^ 28 + (if last then 0 else f.cells.getD (i + 1) 0))

/-- FW_QHEAD0 and FW_QHEAD1 (Table 10.11). -/
def qHead0 (s : State) : Word :=
  let q := s.queue (s.get FW_QSEL_Q)
  let n := (q.map fun c => match s.frame c with | some f => f.cells.length | none => 0).foldl (· + ·) 0
  w32 (q.length * 0x10000 + n)
def qHead1 (s : State) : Word :=
  let q := s.queue (s.get FW_QSEL_Q)
  w32 (heldCount s (s.get FW_QSEL_Q / 4) * 2 ^ 28 + q.getLastD 0 * 0x1000 + q.headD 0)

/-- A read of the frame store's registers. -/
def fsRead (s : State) (a : Nat) : Word :=
  if a = A_FW_FS_STAT then w32 (freeCells s * 0x10000 + sharedFill s)
  else if a = A_FW_FS_USE0 then
    w32 (usedCells s useRx * 0x10000 + usedCells s useRing)
  else if a = A_FW_FS_USE1 then w32 (usedCells s useRaw * 0x10000 + s.fw.nonbr)
  else if 0x40090450 ≤ a ∧ a < 0x40090460 then
    let k := (a - 0x40090450) / 4
    w32 (classFrames s k * 0x10000 + classCells s k)
  else if a = A_FW_QHEAD0 then qHead0 s
  else if a = A_FW_QHEAD1 then qHead1 s
  else if a = A_FW_MD_CELL then mdCell s
  else if 0x400904C0 ≤ a ∧ a < 0x400904E0 then
    let c := s.get FW_MD_SEL_CELL
    match s.frame c with
    | some f => metaWord s c f ((a - 0x400904C0) / 4)
    | none =>
      match rxOwner s c with
      | some (p, r, 0) =>
        let w := metaWord s c (rxFrame s p r) ((a - 0x400904C0) / 4)
        if a = 0x400904C0 then insertBits w 16 5 r.cells else w
      | _ => 0
  else s.reg a

end Sys2Proof.Machine
end

