-- ==== Sys2Proof/Machine/MacFrame.lean ====
section
/-! DEFINITION. Machine/MacFrame.lean: the fields of an IEEE 802.15.4 frame as the frame handler and the forwarding
engine read them (R207 to R210, R237, R248, R291, R293). The layouts that the spec takes from IEEE 802.15.4-2020
without restating them are PRESUMED (log entry 11). Frames are octets without their FCS. -/

namespace Sys2Proof.Machine

/-- Octet `i` of a string; 0 beyond its end. -/
def oct (d : List Byte) (i : Nat) : Nat := (d.getD i 0).toNat

/-- `n` octets from `i`, least significant first. -/
def leAt (d : List Byte) (i n : Nat) : Nat := (List.range n).foldl (fun a k => a + oct d (i + k) * 256 ^ k) 0

/-- Which PAN IDs are present (destination, source) in a version 2 frame, by addressing modes and PAN ID Compression;
none for a reserved combination or addressing mode 0b01 (R208). Modes: 0 none, 2 short, 3 extended. -/
def panFields (dm sm : Nat) (pic : Bool) : Option (Bool × Bool) :=
  if dm = 1 ∨ sm = 1 then none
  else if dm = 0 ∧ sm = 0 then some (pic, false)
  else if sm = 0 then some (!pic, false)
  else if dm = 0 then some (false, !pic)
  else if dm = 3 ∧ sm = 3 then some (!pic, false)
  else some (true, !pic)

def addrLen (m : Nat) : Nat := if m = 2 then 2 else if m = 3 then 8 else 0

/-- The MAC header of a frame. `hdr`: octets before the auxiliary security header; `aux`: octets of that header. -/
structure Mac where
  typ : Nat
  sec : Bool
  ar : Bool
  snSup : Bool
  ie : Bool
  ver : Nat
  dstMode : Nat
  srcMode : Nat
  ok : Bool
  seq : Nat
  dstPan : Option Nat
  dst : Nat
  srcPan : Option Nat
  src : Nat
  hdr : Nat
  level : Nat
  kim : Nat
  noCtr : Bool
  asn : Bool
  ctr : Nat
  kidx : Nat
  aux : Nat
  deriving DecidableEq, Repr

/-- The MAC header read from a frame's octets; `ok` where its addressing follows the table and it lies in the frame. -/
def readMac (d : List Byte) : Mac :=
  let fc := leAt d 0 2
  let sec := bitOf' fc 3
  let sup := bitOf' fc 8
  let dm := fc / 0x400 % 4
  let sm := fc / 0x4000 % 4
  let pf := panFields dm sm (bitOf' fc 6)
  let p := pf.getD (false, false)
  let i0 := if sup then 2 else 3
  let i1 := i0 + (if p.1 then 2 else 0)
  let i2 := i1 + addrLen dm
  let i3 := i2 + (if p.2 then 2 else 0)
  let i4 := i3 + addrLen sm
  let sc := oct d i4
  let noCtr := bitOf' sc 5
  let kim := sc / 8 % 4
  let ik := i4 + 1 + (if noCtr then 0 else 4)
  let kl := if kim = 0 then 0 else if kim = 1 then 1 else if kim = 2 then 5 else 9
  let aux := if sec then 1 + (if noCtr then 0 else 4) + kl else 0
  { typ := fc % 8, sec := sec, ar := bitOf' fc 5, snSup := sup, ie := bitOf' fc 9, ver := fc / 0x1000 % 4, dstMode := dm
    srcMode := sm, ok := pf.isSome && decide (i4 + aux ≤ d.length), seq := if sup then 0 else oct d 2
    dstPan := if p.1 then some (leAt d i0 2) else none, dst := leAt d i1 (addrLen dm)
    srcPan := if p.2 then some (leAt d i2 2) else none, src := leAt d i3 (addrLen sm), hdr := i4
    level := if sec then sc % 8 else 0, kim := kim, noCtr := noCtr, asn := bitOf' sc 6
    ctr := if noCtr then 0 else leAt d (i4 + 1) 4, kidx := if kim = 1 then oct d ik else 0, aux := aux }
where
  /-- Bit `i` of a number. -/
  bitOf' (n i : Nat) : Bool := n / 2 ^ i % 2 == 1

/-- Is the destination a broadcast one: 0x0FFF or 0xFFFF (R208)? -/
def Mac.bcast (m : Mac) : Bool := m.dstMode == 2 && (m.dst == 0x0FFF || m.dst == 0xFFFF)

/-- What the Header IE list gave (R210): sub-elements found, an error, payload IEs present, the offsets of the Header IEs
skipped, the end of the list, where the Payload IEs start. -/
structure Ies where
  err : Bool
  room : Option Nat
  ofs : Option Nat
  dly : Nat
  wake : Option Nat
  beacon : Option (List Byte)
  beaconAt : Nat
  bset : Option (List Byte)
  bsetAt : Nat
  payloadIe : Bool
  skipped : List Nat
  fin : Nat
  deriving DecidableEq, Repr

def Ies.none : Ies :=
  { err := false, room := Option.none, ofs := Option.none, dly := 0, wake := Option.none, beacon := Option.none,
    beaconAt := 0, bset := Option.none, bsetAt := 0, payloadIe := false, skipped := [], fin := 0 }

/-- Content length of a known sub-element (Tables 6.11, 7.6, 7.8, 7.16, 12.7, 12.16). -/
def subLen (id : Nat) : Option Nat :=
  match id with
  | 1 => some 1
  | 2 => some 5
  | 3 => some 3
  | 4 => some 14
  | 5 => some 11
  | 6 => some 12
  | 7 => some 12
  | _ => none

/-- The sub-elements of an Ihluno IE from offset `i` to `e`; `fuel` bounds them. R210 does not say what a kind
that stands twice means: the last counts (DESIGN CHOICE, log entry 63). -/
def readSubs (d : List Byte) (e : Nat) : Nat → Nat → Ies → Ies
  | 0, _, r => r
  | f + 1, i, r =>
    if e ≤ i then r
    else
      match subLen (oct d i) with
      | none => r
      | some n =>
        if e < i + 1 + n then { r with err := true }
        else
          let c := (d.drop (i + 1)).take n
          let r :=
            match oct d i with
            | 1 => { r with room := some (oct d (i + 1) % 16) }
            | 2 => { r with ofs := some (leAt d (i + 1) 4), dly := oct d (i + 5) % 128 }
            | 3 => { r with wake := some (leAt d (i + 1) 3) }
            | 4 => { r with beacon := some c, beaconAt := i + 1 }
            | 6 => { r with bset := some c, bsetAt := i + 1 }
            | _ => r
          readSubs d e f (i + 1 + n) r

/-- The Header IE list from offset `i` (R210): `oui` is LS_OUI. `fuel` bounds the IEs. -/
def readIes (d : List Byte) (oui : Nat) : Nat → Nat → Ies → Ies
  | 0, i, r => { r with fin := i }
  | f + 1, i, r =>
    if d.length ≤ i then { r with fin := i }
    else if d.length < i + 2 then { r with err := true }
    else
      let w := leAt d i 2
      let len := w % 128
      let id := w / 128 % 256
      if d.length < i + 2 + len then { r with err := true }
      else if id = 0x7E then { r with fin := i + 2 + len, payloadIe := true }
      else if id = 0x7F then { r with fin := i + 2 + len }
      else
        let isI := id == 0 && decide (3 ≤ len) &&
          (oct d (i + 2) * 0x10000 + oct d (i + 3) * 0x100 + oct d (i + 4) == oui)
        let r := if isI then readSubs d (i + 2 + len) len (i + 5) r else { r with skipped := r.skipped ++ [i] }
        if r.err then r else readIes d oui f (i + 2 + len) r

/-- The IEs of a frame with header `m`. -/
def frameIes (d : List Byte) (m : Mac) (oui : Nat) : Ies :=
  if m.ie then readIes d oui d.length (m.hdr + m.aux) Ies.none
  else { Ies.none with fin := m.hdr + m.aux }

/-- The fields of a mesh header (Table 9.3): class, hops, originator, destination; none where it is invalid (R293). -/
def readMesh (p : List Byte) (payloadIe : Bool) : Option (Nat × Nat × Nat × Nat) :=
  let w := leAt p 0 4
  let orig := w / 0x1000 % 0x1000
  let fdst := w % 0x1000
  if p.length < 4 ∨ payloadIe ∨ w / 2 ^ 30 ≠ 0 ∨ fdst = 0 ∨ fdst = 0xFFF ∨ orig = 0 ∨ orig = 0xFFF then none
  else some (w / 2 ^ 28 % 4, w / 2 ^ 24 % 16, orig, fdst)

end Sys2Proof.Machine
end

