-- ==== Sys2Proof/Machine/Forwarding.lean ====
section
/-! DEFINITION. Machine/Forwarding.lean: the forwarding engine, the neighbour and route tables, receive rings and
submissions (R281 to R312). -/

namespace Sys2Proof.Machine

/-! ### Causes (Table 9.4) -/

abbrev caOwn : Nat := 0x00
abbrev caBcast : Nat := 0x01
abbrev caCmd : Nat := 0x02
abbrev caUnsec : Nat := 0x03
abbrev caPassed : Nat := 0x04
abbrev caNoNbr : Nat := 0x05
abbrev caKey : Nat := 0x06
abbrev caAuthFail : Nat := 0x07
abbrev caReplay : Nat := 0x08
abbrev caDup : Nat := 0x09
abbrev caMhdr : Nat := 0x0A
abbrev caLeaf : Nat := 0x0B
abbrev caSrcBlk : Nat := 0x0C
abbrev caHopLim : Nat := 0x0D
abbrev caNoRoute : Nat := 0x0E
abbrev caDropRt : Nat := 0x0F
abbrev caExcRt : Nat := 0x10
abbrev caNhInvalid : Nat := 0x11
abbrev caLoop : Nat := 0x12
abbrev caLength : Nat := 0x13
abbrev caFcExh : Nat := 0x14
abbrev caNoCell : Nat := 0x15
abbrev caQFull : Nat := 0x16
abbrev caBadSub : Nat := 0x17

/-! ### The tables (R281 to R287, R305) -/

/-- Entries whose W0 has every bit of a mask set, in ascending order. -/
def entriesWith (s : State) (m : Nat) : List Nat :=
  s.regs.filterMap fun e =>
    if 0x40080000 ≤ e.1 ∧ e.1 < 0x40088000 ∧ e.1 % 0x40 = 0 ∧ e.2.toNat &&& m = m then some ((e.1 - 0x40080000) / 0x40)
    else none

/-- NB_CTL.CHILDREN (R284). -/
def childCount (s : State) : Nat := (entriesWith s 0xA0000000).length

/-- EUI-64 of entry `i`. -/
def nbEui (s : State) (i : Nat) : Nat := s.get (NB_W2_EUI_HI i) * 2 ^ 32 + s.get (NB_W1_EUI_LO i)

/-- The device's EUI-64. -/
def ownEui (s : State) : Nat := s.get LS_EUI_HI_EUI * 2 ^ 32 + s.get LS_EUI_LO_EUI

/-- A state that a write of entry words may not leave: a 129th child (R284), a valid entry with TXLVL 0 (R297). -/
def nbBad (_s u : State) (a : Nat) : Bool :=
  let o := a % 0x10000
  if o < 0x8000 ∧ (o % 0x40 = 0 ∨ o % 0x40 = 0x0C) then
    let i := o / 0x40
    u.on (NB_W0_VALID i) && (u.get (NB_W3_TXLVL i) == 0 || (u.on (NB_W0_CHILD i) && decide (128 < childCount u)))
  else false

/-- A table word has been written: VALID falling flushes the entry's queues (R326). -/
def nbWritten (old s : State) (a : Nat) : State :=
  let o := a % 0x10000
  if o < 0x8000 ∧ o % 0x40 = 0 ∧ old.on (NB_W0_VALID (o / 0x40)) ∧ !s.on (NB_W0_VALID (o / 0x40)) then
    flushEntry s (o / 0x40)
  else s

/-- A write to the neighbour table window that R305 lets through. ADM is not writable outside the Root profile (R307);
route entries 0x000 and 0xFFF ignore writes (R286). -/
def nbStore (staged : Bool) (s : State) (a : Nat) (v : Word) : State × WriteEnd :=
  let o := a % 0x10000
  if o = 0x8000 ∨ o = 0xBFFC then (s, .ok)
  else
    let r := fieldWrite s a v
    if !staged && nbBad s r.1 a then (s.raise FW_INT_STAT_RANGE, .ok) else (nbWritten s r.1 a, r.2)

/-- A write to the NB window (R305). -/
def nbWrite (acc : Acc) (s : State) (a : Nat) (v : Word) : State × WriteEnd :=
  if acc.ns && !acc.staged && !s.on NB_CTL_NS_WR then (s, .berr 0) else nbStore acc.staged s a v

/-- A read of the NB window, once R305 lets it through. -/
def nbRead (s : State) (a : Nat) : Word :=
  if a = A_NB_CTL then w32 ((s.reg A_NB_CTL).toNat % 0x10000 + min 128 (childCount s) * 0x10000) else s.reg a

/-- STN: word `k` of entry `i` (R187, R284, R297). Answers whether it was refused. -/
def stnStore (s : State) (i k : Nat) (v : Word) : Bool × State :=
  let a := A_NB_W0 (i % 512) + 4 * k
  let r := fieldWrite s a v
  if 14 ≤ k ∨ nbBad s r.1 a then (true, s) else (false, nbWritten s r.1 a)

/-! ### Finding and opening (R288 to R292) -/

/-- The sender's entry (R288). -/
def findSender (s : State) (m : Mac) : Option Nat × State :=
  if m.srcMode = 2 then
    if m.src = 0 ∨ 0x0FFF ≤ m.src ∨ !s.on (NB_ROUTE_NV m.src) then (none, s)
    else
      let i := s.get (NB_ROUTE_NBR m.src)
      if s.on (NB_W0_VALID i) && s.get (NB_W0_NODE_ID i) == m.src then (some i, s)
      else (none, s.raise FW_INT_STAT_MAPERR)
  else if m.srcMode = 3 then ((entriesWith s 0x80000000).find? fun i => nbEui s i == m.src, s)
  else (none, s)

/-- Does Table 6.10 send the frame to CCM*? -/
def Mac.ccm (m : Mac) : Bool := m.sec && decide (5 ≤ m.level) && decide (m.kim < 2) && !m.noCtr && !m.asn

/-- May the frame datapath use slot `n` (R346)? -/
def fwdSlot (s : State) (n : Nat) : Bool := s.on (CE_KS_ATTR_VALID n) && bitOf (s.get (CE_KS_ATTR_USAGE n)) 0

/-- The key slot that a frame's header names (R290). -/
def rxSlot (s : State) (m : Mac) (nb : Nat) : Option Nat :=
  let b := s.get FW_CFG_BCIDX
  if m.kim = 0 then some (s.get (NB_W3_RXKS nb))
  else if s.on (NB_W0_VALID b) && s.get (NB_W3_RXKIDX b) == m.kidx then some (s.get (NB_W3_RXKS b))
  else if s.on FW_KPREV_EN && s.get FW_KPREV_KIDX == m.kidx then some (s.get FW_KPREV_KS)
  else none

/-- The nonce of frame-mode CCM*: EUI-64, frame counter, level, most significant octet first (R291, log entry 11). -/
def frameNonce (eui ctr level : Nat) : List Nat := natBE 8 eui ++ natBE 4 ctr ++ [level]

/-- Octets of the MIC of a level (R291). -/
def micLen (level : Nat) : Nat := 4 * 2 ^ (level - 5)

/-- The payload of a frame opened with a key: plaintext where the tag verifies (R291). `off`: octets of header. -/
def ccmOpen (key : List Nat) (eui : Nat) (m : Mac) (off : Nat) (d : List Byte) : Option (List Byte) :=
  let n := micLen m.level
  if d.length < off + n then none
  else
    let nonce := frameNonce eui m.ctr m.level
    let ct := octets ((d.drop off).take (d.length - off - n))
    let pt := ccmCrypt key nonce ct
    if ccmTag key nonce (octets (d.take off)) pt n = octets (d.drop (d.length - n)) then some (bytesOf pt) else none

/-- The counter rules (R291): 0 accepted, else REPLAY or DUP. -/
def counterRule (s : State) (m : Mac) (nb : Nat) : Nat :=
  let next := s.get (NB_W4_FC_NEXT nb)
  if m.ctr = 0xFFFFFFFF ∨ m.ctr < next then
    if m.ctr + 1 = next ∧ !m.snSup ∧ m.seq = s.get (NB_W5_LSEQ nb) ∧ s.on (NB_W5_LSV nb) then caDup else caReplay
  else 0

/-- Bits of W5 that the counter rules write: LSEQ and LSV. -/
abbrev seqMask : Word := 0xFF800000

/-- A frame is accepted: FC_NEXT, LSEQ and LSV move. What R292 restores is kept while its acknowledgement is owed; what an
earlier frame of the same sender would restore is kept no longer. -/
def acceptCounter (s : State) (c nb : Nat) (m : Mac) (owed : Bool) : State :=
  let old4 := s.reg (A_NB_W4 nb)
  let old5 := s.reg (A_NB_W5 nb)
  let s := s.set (NB_W4_FC_NEXT nb) (m.ctr + 1)
  let s := (s.set (NB_W5_LSEQ nb) (if m.snSup then 0 else m.seq)).set (NB_W5_LSV nb) (b2n (!m.snSup))
  let u : CounterUndo := { cell := c, nb := nb, old4 := old4, old5 := old5 &&& seqMask }
  { s with fw := { s.fw with undo := (s.fw.undo.filter fun x => x.nb != nb) ++ if owed then [u] else [] } }

/-- The acknowledgement of frame `c` has been skipped or withheld: the sender's counter words return unless a later frame of
the sender has changed them (R292). -/
def undoCounter (s : State) (c : Nat) : State :=
  match s.fw.undo.find? fun u => u.cell == c with
  | none => s
  | some u =>
    let s := { s with fw := { s.fw with undo := s.fw.undo.filter fun x => x.cell != c } }
    (s.setReg (A_NB_W4 u.nb) u.old4).setReg (A_NB_W5 u.nb) ((s.reg (A_NB_W5 u.nb) &&& ~~~ seqMask) ||| u.old5)

/-- What R292 would restore for `c` is kept no longer. -/
def undoForget (s : State) (c : Nat) : State :=
  { s with fw := { s.fw with undo := s.fw.undo.filter fun u => u.cell != c } }

/-- FLQI and LASTRX after an accepted frame (Table 9.1). -/
def noteFrame (s : State) (nb lqi : Nat) : State :=
  let v := if s.fw.heard.contains nb then
      (((s.get (NB_W14_FLQI nb) : Int) + ((lqi : Int) - s.get (NB_W14_FLQI nb)) / 4)).toNat
    else lqi
  let s := (s.set (NB_W14_FLQI nb) v).set (NB_W15_LASTRX nb) (s.now / 2 ^ 14)
  if s.fw.heard.contains nb then s else { s with fw := { s.fw with heard := s.fw.heard ++ [nb] } }

/-! ### Delivery and discard (R294, R295, R301, R302) -/

/-- Address of the descriptor at HEAD of ring `k` (4: the submission ring). -/
def ringHead (s : State) (k : Nat) : Nat := s.get (FW_RING_BASE_BASE k) * 16 + 16 * s.get (FW_RING_HEAD_HEAD k)

/-- May the engine take the descriptor at HEAD: the ring enabled and OWN 1? -/
def ringReady (s : State) (k : Nat) : Bool :=
  s.on (FW_RING_CFG_EN k) && bitOf (s.memWord (ringHead s k + 4)).toNat 31

/-- HEAD advances, wrapping after COUNT − 1. -/
def ringAdvance (s : State) (k : Nat) : State :=
  let h := s.get (FW_RING_HEAD_HEAD k) + 1
  s.set (FW_RING_HEAD_HEAD k) (if s.get (FW_RING_CFG_COUNT k) ≤ h then 0 else h)

/-- A frame joins the frames of ring `k`; where the engine waits for a descriptor there, it waits too (R302). -/
def joinRing (s : State) (c k : Nat) : State :=
  let s := s.updFrame c fun f => { f with use := useRing, ring := k }
  let s := { s with fw := { s.fw with waiting := updAt s.fw.waiting k fun l => l ++ [c] } }
  if s.fw.stalled.contains k then s.raise FW_INT_STAT_RWAIT else s.ledgerAddFwe

/-- Cause `ca` is counted where it is selected (Table 9.11). -/
def countCause (s : State) (ca : Nat) : State := if s.get FW_XSEL_CAUSE = ca then s.bump FW_XCNT_COUNT else s

/-- A frame goes to a ring, or is discarded: at once, or once its own acknowledgement is decided (R295). -/
def settleFrame (s : State) (c : Nat) (ring : Option Nat) : State :=
  match s.frame c with
  | none => s
  | some f =>
    match ring with
    | some k => if f.apend then s.putFrame c { f with ring := k, fate := fateRing } else joinRing s c k
    | none => if f.apend then s.putFrame c { f with fate := fateDrop } else s.releaseFrame c

/-- The function exception(f, c). -/
def exceptionFrame (s : State) (c ca : Nat) : State :=
  let s := (countCause s ca).updFrame c fun f => { f with cause := ca }
  settleFrame s c (if bitOf (s.get FW_DISP_DISP * 4) ca then some (s.get FW_CFG_EXRING) else none)

/-- The function deliver(f, c). -/
def deliverFrame (s : State) (c ca cls : Nat) : State :=
  let s := (countCause s ca).updFrame c fun f => { f with cause := ca, cls := cls }
  settleFrame s c (some (s.get FW_CFG_RMAP / 4 ^ cls % 4))

/-- A copy to ring `k` is attempted for its oldest frame (R301, R302); `ecc`: the place of a cell whose read meets an
uncorrectable error (R327). It waits while a unit it accesses is scanned (R567). A buffer outside system SRAM counts as no descriptor (DESIGN CHOICE, log entry 20). -/
def ringCopy (s : State) (k : Nat) (ecc : Option Nat) : State :=
  match s.fw.waiting.getD k [] with
  | [] => s
  | c :: _ =>
    match s.frame c with
    | none => s
    | some f =>
      let d := ringHead s k
      let buf := (s.memWord d).toNat
      let w1 := (s.memWord (d + 4)).toNat
      let n := min f.len (w1 % 2048)
      if s.fw.stalled.contains k || !s.on FW_CTL_EN_ACK || sramWaits s d 16 || (ringReady s k && sramWaits s buf n) then s
      else if let some i := ecc then s.eccFrame c i
      else if !ringReady s k || !inSram buf n then
        ({ s with fw := { s.fw with stalled := s.fw.stalled ++ [k] } } : State).raise FW_INT_STAT_RWAIT
      else
        let s := (s.setBytes buf ((frameOctets s f).take n)).breakReservations none buf n
        let s := s.setMemWord (d + 12) (w32 f.ts.toNat)
        let s := s.setMemWord (d + 8) (w32 (f.cause * 2 ^ 26 + b2n f.auth * 2 ^ 25 + b2n (decide (w1 % 2048 < f.len)) * 2 ^ 24
          + f.lane * 2 ^ 20 + f.cls * 2 ^ 18 + f.snbr * 2 ^ 9 + b2n f.snbv * 2 ^ 8 + f.lqi))
        let s := (s.setMemWord (d + 4) (w32 (f.len * 2 ^ 16 + w1 % 2048))).breakReservations none (d + 4) 12
        let s := (ringAdvance s k).raiseBit FW_INT_STAT_RX k
        ((s.bump FW_CNT0_DELIVERED).emit (81 + k)).releaseFrame c

/-- The engine tries the descriptor at HEAD of ring `k` again (R302), with its ledger term (R40); frames that wait resume once it
is enabled (R309). -/
def ringRetry (s : State) (k : Nat) : State :=
  if !s.on FW_CTL_EN_ACK then s
  else
    let s := if (s.fw.waiting.getD k []).isEmpty then s else s.ledgerAddFwe
    ringCopy { s with fw := { s.fw with stalled := s.fw.stalled.filter (· != k) } } k none

/-- Every ring with waiting frames is tried again: the 1 ms retry (R302). -/
def ringRetryAll (s : State) : State := s.fw.stalled.foldl ringRetry s

/-! ### Sealing (R297, R298) -/

/-- Header of a sealed frame (Table 9.5): for entry `nh`, broadcast, command, AR. -/
def sealedHeader (s : State) (nh : Nat) (bc cmd ar : Bool) : List Byte :=
  let long := !bc && s.on (NB_W0_LONG nh)
  let fc := (if long then 0xAC49 else 0xA849) + (if ar && !bc then 0x20 else 0) + (if cmd then 2 else 0)
  let kim := s.on (NB_W3_TXKIM nh)
  natLE 2 fc ++ natLE 1 (s.get FW_SEQ_SEQ) ++ natLE 2 (s.get LS_FILT_CFG_PAN_ID) ++
    (if long then natLE 8 (nbEui s nh) else natLE 2 (if bc then 0xFFFF else s.get (NB_W0_NODE_ID nh))) ++
    natLE 2 (s.get LS_SHORT_NODE_ID) ++ natLE 1 (s.get (NB_W3_TXLVL nh) + 4 + b2n kim * 8) ++
    natLE 4 (s.get FW_FCTR_CTR) ++ (if kim then natLE 1 (s.get (NB_W3_TXKIDX nh)) else [])

/-- The cells of frame `c` grow or shrink to `n` (R298); the sender's charge follows (R325). -/
def resizeFrame (s : State) (c n : Nat) : State :=
  match s.frame c with
  | none => s
  | some f =>
    let h := f.cells.length
    let r := if h < n then s.takeCells (n - h) else ([], s)
    let before := freeCells s
    let s := if h < n then r.2.freeFell before else s.giveCells (f.cells.drop n)
    let s := if f.charged = 0 then s else s.chargeBy f.sender ((n : Int) - h)
    s.putFrame c { f with cells := f.cells.take n ++ r.1, charged := if f.charged = 0 then 0 else n }

/-- Payload `p` is sealed into frame `c` for entry `nh` and queued in class `k` (R297, R298, R320). Answers the cause,
0 where it was queued. A slot that frame-mode CCM* may not use gives KEY (DESIGN CHOICE, log entry 21). `flt`: 1 where the
read of the slot meets an uncorrectable error (R345), 2 where the link of the free list's head is lost (R327). -/
def sealQueue (s : State) (c nh k : Nat) (bc cmd ar : Bool) (p : List Byte) (flt : Nat) : Nat × State :=
  let ctr := s.get FW_FCTR_CTR
  let slot := s.get (NB_W3_TXKS nh)
  let level := s.get (NB_W3_TXLVL nh) + 4
  let hdr := sealedHeader s nh bc cmd ar
  let total := hdr.length + p.length + micLen level
  let have_ := match s.frame c with | some f => f.cells.length | none => 0
  let n := cellsFor total
  if ctr = 0xFFFFFFFF then (caFcExh, s.raise FW_INT_STAT_FCEXH)
  else
  let s := if flt = 1 then ksEcc s slot else if flt = 2 ∧ have_ < n then s.loseLink else s
  if !fwdSlot s slot || level == 4 then (caKey, s)
  else if 2043 < total then (caLength, s)
  else if freeCells s < n - have_ then (caNoCell, s)
  else
    let nonce := frameNonce (ownEui s) ctr level
    let pt := octets p
    let key := (s.slot slot).key
    let body := hdr ++ bytesOf (ccmCrypt key nonce pt ++ ccmTag key nonce (octets hdr) pt (micLen level))
    let s := (s.set FW_FCTR_CTR (ctr + 1)).set FW_SEQ_SEQ (s.get FW_SEQ_SEQ + 1)
    let s := if ctr + 1 = 0xFFFF0000 then s.raise FW_INT_STAT_FCWARN else s
    let r := queueTest s k nh n
    if !r.1 then (caQFull, r.2)
    else
      let s := resizeFrame r.2 c n
      let cells := match s.frame c with | some f => f.cells | none => []
      let s := (s.fillCells cells body).updFrame c fun f => { f with len := total, auth := false }
      (0, (enqueue s c k nh).bump FW_CNT0_RELAYED)

/-! ### The decision (R294, R296) -/

/-- Route learning: ORIG lies towards the sender's entry (R296). -/
def learnRoute (s : State) (orig nb : Nat) : State :=
  let rv := s.on (NB_ROUTE_RV orig)
  let le := s.on (NB_ROUTE_LEARNED orig)
  if orig = s.get LS_SHORT_NODE_ID ∨ (rv ∧ !le) then s
  else if le ∧ s.get (NB_ROUTE_NH orig) = nb then s.set (NB_ROUTE_AGE orig) 0
  else
    ((((s.set (NB_ROUTE_RV orig) 1).set (NB_ROUTE_LEARNED orig) 1).set (NB_ROUTE_NH orig) nb).set
      (NB_ROUTE_AGE orig) 0).bump FW_CNT1_LEARNED

/-- The next hop towards `dst`, or the cause that stops the frame. -/
def routeLookup (s : State) (dst : Nat) : Nat ⊕ Nat :=
  if s.on (NB_ROUTE_DROP dst) then .inl caDropRt
  else if s.on (NB_ROUTE_EXC dst) then .inl caExcRt
  else if s.on (NB_ROUTE_RV dst) then .inr (s.get (NB_ROUTE_NH dst))
  else if s.on FW_CTL_UPDEF && !s.on TB_DISC_STAT_MASTER && s.on TB_DISC_STAT_ACQ then .inr (s.get TB_DISC_STAT_PARENT)
  else .inl caNoRoute

/-- A table entry read meets an uncorrectable error (R311): `route` for route entry `i`, else word `word` of neighbour entry
`i`. -/
def tableEcc (s : State) (route : Bool) (i word : Nat) : State :=
  let s := if route then s.setReg (A_NB_ROUTE i) 0
    else if s.on (NB_W0_VALID i) then flushEntry (s.set (NB_W0_VALID i) 0) i else s
  let where_ := b2n route * 2 ^ 30 + i * 16 + if route then 0 else word
  let s := s.setReg A_FW_ECC_LOG (w32 (2 ^ 31 + where_))
  (s.raise FW_INT_STAT_ECC).fault 0xB 0 where_

/-- The frame's own acknowledgement learns the outcome of the CCM* check (R27): 1 passed or not required; it is no
longer owed where Table 9.4 says no. -/
def ackVerdict (s : State) (c : Nat) (ok : Bool) : State :=
  let acks := if ok then s.ls.acks.map fun a => if a.cell == c then { a with auth := 1 } else a
    else s.ls.acks.filter fun a => a.cell != c
  let s := { s with ls := { s.ls with acks := acks } }
  if ok then s else s.updFrame c fun f => { f with apend := false }

/-- The lookup result for the acknowledgement (Table 6.12, step 3): frame pending and room (R212, R329). -/
def ackLookup (s : State) (c : Nat) (nb : Option Nat) : State :=
  let fp := match nb with | some i => s.get (NB_W14_QCELLS i) != 0 | none => false
  let room := roomCode s nb
  let acks := s.ls.acks.map fun a => if a.cell == c then { a with nb := nb, fp := fp, room := room, known := true } else a
  { s with ls := { s.ls with acks := acks } }

/-- The part of `forward` from the mesh header on, for an opened payload `p` from entry `nb`. -/
def relayFrame (s : State) (c nb : Nat) (p : List Byte) (pie : Bool) (fault word : Nat) : State :=
  match readMesh p pie with
  | none => exceptionFrame s c caMhdr
  | some (cls, hops, orig, dst) =>
    let s := s.updFrame c fun f => { f with cls := cls }
    if dst = s.get LS_SHORT_NODE_ID then deliverFrame s c caOwn cls
    else if !s.on FW_CTL_RELAY || s.get LS_SHORT_NODE_ID == 0 then exceptionFrame s c caLeaf
    else if s.on (NB_W0_NOFWD nb) then exceptionFrame s c caSrcBlk
    else
      let s := if s.on FW_CTL_LEARN then
          learnRoute (if fault = 10 ∧ orig ≠ s.get LS_SHORT_NODE_ID then tableEcc s true orig 0 else s) orig nb
        else s
      if hops = 0 then exceptionFrame s c caHopLim
      else
        let s := if fault = 4 then tableEcc s true dst 0 else s
        match routeLookup s dst with
        | .inl ca => exceptionFrame s c ca
        | .inr nh =>
          let s := if fault = 6 then tableEcc s false nh word else s
          if !s.on (NB_W0_VALID nh) then exceptionFrame s c caNhInvalid
          else if nh = nb then exceptionFrame s c caLoop
          else
            let mesh := natLE 4 (cls * 2 ^ 28 + (hops - 1) * 2 ^ 24 + orig * 0x1000 + dst)
            let r := sealQueue s c nh cls false false true (mesh ++ p.drop 4) (fault - 7)
            if r.1 = 0 then r.2 else exceptionFrame r.2 c r.1

/-- The part of `forward` that opens a frame: header `m`, octets `d`, sender `nb`. -/
def openFrame (s : State) (c nb : Nat) (f : FrameS) (m : Mac) (d : List Byte) (fault word : Nat) : State :=
  let s := if fault = 7 ∧ m.kim ≠ 0 then tableEcc s false (s.get FW_CFG_BCIDX) word else s
  match rxSlot s m nb with
  | none => exceptionFrame (ackVerdict s c true) c caKey
  | some ks =>
    let s := if fault = 1 then ksEcc s ks else s
    if !fwdSlot s ks then exceptionFrame (ackVerdict s c true) c caKey
    else
      let ies := frameIes d m (s.get LS_OUI_OUI)
      match ccmOpen (s.slot ks).key (nbEui s nb) m ies.fin d with
      | none => exceptionFrame ((ackVerdict s c false).raise FW_INT_STAT_AUTHFAIL) c caAuthFail
      | some p =>
        let rule := counterRule s m nb
        if rule = caReplay then exceptionFrame ((ackVerdict s c false).raise FW_INT_STAT_REPLAY) c caReplay
        else if rule = caDup then exceptionFrame (ackVerdict s c true) c caDup
        else
          let s := ackVerdict (noteFrame (acceptCounter s c nb m f.apend) nb f.lqi) c true
          let plain := d.take ies.fin ++ p
          let s := (s.fillCells f.cells plain).updFrame c fun f => { f with auth := true, len := plain.length }
          if m.typ = 3 then exceptionFrame s c caCmd
          else if m.bcast then deliverFrame s c caBcast 0
          else relayFrame s c nb p ies.payloadIe fault word

/-- The entry whose word is read in the search for the sender, where `entry` is asked for: the one that the route entry of a
short address names, or any that an EUI-64 search comes to (R288). -/
def senderRead (s : State) (m : Mac) (entry : Nat) : Option Nat :=
  if m.srcMode = 2 then
    if m.src = 0 ∨ 0x0FFF ≤ m.src ∨ !s.on (NB_ROUTE_NV m.src) then none else some (s.get (NB_ROUTE_NBR m.src))
  else if m.srcMode = 3 ∧ entry ≤ (findSender s m).1.getD 511 then some entry
  else none

/-- The sender's entry, where the read of its route entry (`fault` 5) or of word `word` of an entry (`fault` 3) may meet an
uncorrectable error: the search goes on with the entry not valid (R288, R311). -/
def findSenderEcc (s : State) (m : Mac) (fault entry word : Nat) : Option Nat × State :=
  if fault = 5 ∧ m.srcMode = 2 ∧ 0 < m.src ∧ m.src < 0x0FFF then findSender (tableEcc s true m.src 0) m
  else if fault = 3 then
    match senderRead s m entry with
    | some i => findSender (tableEcc s false i word) m
    | none => findSender s m
  else findSender s m

/-- The procedure forward(f) for the oldest frame waiting for the engine (R294). `fault`, an uncorrectable error met in a
read: 1 the slot that opens the frame, 2 a cell, 3 an entry in the search for the sender (`entry`, where the search is for an
EUI-64), 4 the route entry of FDST, 5 that of the source, 6 the next hop's entry, 7 the broadcast entry, 8 the slot that seals
it, 9 the link of the free list's head, 10 the route entry of ORIG; `word`: the word of an entry, the place of a cell (R311,
R327, R345). -/
def fwForward (s : State) (fault entry word : Nat) : State :=
  match s.fw.work with
  | [] => s
  | c :: rest =>
    match s.frame c with
    | none => s
    | some f =>
      if !s.on FW_CTL_EN && !s.fw.inProc then s
      else
        let s := { s with fw := { s.fw with work := rest, inProc := false } }
        if fault = 2 then s.eccFrame c word
        else
          let d := frameOctets s f
          let m := readMac d
          let r := if f.passed then (none, s) else findSenderEcc s m fault entry word
          let nb := r.1
          let ch := chargeFrame r.2 c nb
          if !ch.1 then (ackVerdict ch.2 c false).releaseFrame c
          else
            let s := ackLookup ch.2 c nb
            if f.passed then exceptionFrame s c caPassed
            else if !m.sec then exceptionFrame (ackVerdict s c true) c (if m.typ = 3 then caCmd else caUnsec)
            else if !m.ccm then exceptionFrame s c caPassed
            else
              match nb with
              | none => exceptionFrame (ackVerdict s c true) c caNoNbr
              | some i => openFrame s c i f m d fault word

/-! ### After the acknowledgement (R215, R292, R295, R322) -/

/-- Acknowledgement `k` of frame `c` has been decided to launch: a frame that the engine has discarded is released now
(R295). Answers the cell that stands for it from then on. -/
def ackDecided (s : State) (k c : Nat) : Nat × State :=
  match s.frame c with
  | some f =>
    if f.fate = fateDrop then
      let undo := s.fw.undo.map fun u => if u.cell = c then { u with cell := 4096 + k } else u
      (4096 + k, ({ s with fw := { s.fw with undo := undo } } : State).releaseFrame c)
    else (c, s)
  | none => (c, s)

/-- Acknowledgement `k` of frame `c` has launched. What R292 would restore is kept until it has ramped down. -/
def ackLaunched (s : State) (k c : Nat) : State :=
  let undo := s.fw.undo.map fun u => if u.cell = c then { u with cell := 4096 + k } else u
  let s := { s with fw := { s.fw with undo := undo } }
  match s.frame c with
  | none => s
  | some f =>
    let s := s.putFrame c { f with apend := false }
    if f.fate = fateRing then joinRing s c f.ring
    else if f.fate = fateDrop then s.releaseFrame c
    else if f.fate = fateQueue then (s.updFrame c fun f => { f with fate := 0 }).linkFrame c
    else if f.fate = fateFlush then s.loseFrame c
    else s

/-- The acknowledgement of frame `c` has been skipped or withheld: the frame is discarded (R215). -/
def ackLost (s : State) (c : Nat) : State := (undoCounter s c).releaseFrame c

/-! ### Submissions (R303, R304) -/

/-- The class and FDST of a buffer's mesh header, which R303 tests no further: R294 is run from the route lookup onwards. A
buffer too short to hold one has none (cause MHDR; DESIGN CHOICE, log entry 57). -/
def submitMesh (p : List Byte) : Option (Nat × Nat) :=
  let w := leAt p 0 4
  if p.length < 4 then none else some (w / 2 ^ 28 % 4, w % 0x1000)

/-- A frame of `use` is made of octets from system SRAM (R321). Answers its first cell, if the store had room. -/
def submitCells (s : State) (use : Nat) (d : List Byte) : Option Nat × State :=
  let n := cellsFor d.length
  if freeCells s < n then (none, s)
  else
    let before := freeCells s
    let r := s.takeCells n
    let c := r.1.headD 0
    let s := (r.2.fillCells r.1 d).putFrame c (FrameS.fresh use d.length r.1 s.tb.now)
    (some c, s.freeFell before)

/-- What a submission descriptor asks for: the cause, the first cell of a RAW frame. `fault`, an uncorrectable error met in a
read: 2 the route entry of FDST, 3 word `word` of the entry it is sealed for, 4 that entry's slot, 5 the link of the free
list's head (R311, R327, R345). -/
def submitFrame (s : State) (w1 nbr : Nat) (d : List Byte) (fault word : Nat) : Nat × Nat × State :=
  let direct := bitOf w1 29
  let cmd := bitOf w1 28
  let ar := !bitOf w1 27
  let s := if fault = 5 then s.loseLink else s
  let flt := if fault = 4 then 1 else 0
  let entry := fun (s : State) (i : Nat) => if fault = 3 then tableEcc s false i word else s
  match submitCells s (if bitOf w1 30 then useRaw else useRx) d with
  | (none, s) => (caNoCell, 0, s)
  | (some c, s) =>
    let fail := fun (r : Nat × State) => if r.1 = 0 then (0, 0, r.2) else (r.1, 0, r.2.releaseFrame c)
    if bitOf w1 30 then (0, c, s)
    else if direct then
      let k := if cmd || decide (d.length < 4) then 0 else leAt d 0 4 / 2 ^ 28 % 4
      fail (sealQueue s c nbr k false cmd ar d flt)
    else
      match submitMesh d with
      | none => fail (caMhdr, s)
      | some (k, dst) =>
        if dst = 0xFFF then
          let b := s.get FW_CFG_BCIDX
          let s := entry s b
          if s.on (NB_W0_VALID b) then fail (sealQueue s c b k true false false d flt) else fail (caNhInvalid, s)
        else
          let s := if fault = 2 then tableEcc s true dst 0 else s
          match routeLookup s dst with
          | .inl ca => fail (ca, s)
          | .inr nh =>
            let s := entry s nh
            if s.on (NB_W0_VALID nh) then fail (sealQueue s c nh k false false ar d flt) else fail (caNhInvalid, s)

/-- One submission descriptor is processed (R303): while kicked, the engine enabled, no received frame ahead. `fault` as in
`submitFrame`; 1 where a read of system SRAM meets an uncorrectable error (R567, log entry 27). An entry that DIRECT names
and whose read fails is not valid, so BADSUB. -/
def fwSubmit (s : State) (fault word : Nat) : State :=
  if !s.on FW_CTL_EN || !s.fw.subWait || !s.fw.work.isEmpty then s
  else if !ringReady s 4 then { s with fw := { s.fw with subWait := false } }
  else
    let a := ringHead s 4
    let buf := (s.memWord a).toNat
    let w1 := (s.memWord (a + 4)).toNat
    let w2 := (s.memWord (a + 8)).toNat
    let len := w1 % 2048
    let nbr := w2 % 512
    let s := if fault = 3 ∧ bitOf w1 29 then tableEcc s false nbr word else s
    if sramWaits s a 16 || (inSram buf len && sramWaits s buf len) then s
    else
    let bad := fault == 1 || len == 0 || decide (2043 < len) || !inSram buf len || (bitOf w1 29 && !s.on (NB_W0_VALID nbr)) ||
      (bitOf w1 28 && !bitOf w1 29)
    let r := if bad then (caBadSub, 0, s) else submitFrame s w1 nbr (s.bytes buf len) fault word
    let s := r.2.2.setMemWord (a + 8) (w32 (r.1 * 2 ^ 26 + r.2.1 * 2 ^ 12 + nbr))
    let s := (s.setMemWord (a + 4) (w32 (w1 % 2 ^ 31))).breakReservations none (a + 4) 8
    (((ringAdvance s 4).raise FW_INT_STAT_SUB).bump FW_CNT1_SUBMITTED).emit 85

/-- A write of FW_SUB_FREE (R304): a RAW frame's cells are released. A TXF that holds the frame holds it no longer; the octets
its preparation has loaded stand (DESIGN CHOICE, log entry 56). -/
def subFree (s : State) (c : Nat) : State :=
  match s.frame c with
  | none => s
  | some f =>
    if f.use ≠ useRaw then s
    else
      let drop := fun x : TxfS => if x.cell = some c then { x with cell := none } else x
      ({ s with ls := { s.ls with threads := s.ls.threads.map fun h => { h with txf := h.txf.map drop } } } : State).releaseFrame c

/-! ### Keeping the tables (R306 to R308) -/

/-- Route entries that hold something, in ascending order. -/
def routesUsed (s : State) : List Nat :=
  s.regs.filterMap fun e =>
    if 0x40088000 ≤ e.1 ∧ e.1 < 0x4008C000 then some ((e.1 - 0x40088000) / 4) else none

/-- One aging period passes over every learned route (R306). -/
def ageRoutes (s : State) : State :=
  (routesUsed s).foldl (fun t x =>
    if t.on (NB_ROUTE_RV x) && t.on (NB_ROUTE_LEARNED x) then
      if t.get (NB_ROUTE_AGE x) = 15 then
        ((t.set (NB_ROUTE_RV x) 0).set (NB_ROUTE_LEARNED x) 0).set (NB_ROUTE_AGE x) 0
      else t.set (NB_ROUTE_AGE x) (t.get (NB_ROUTE_AGE x) + 1)
    else t) s

/-- Ticks of an aging period. -/
def agePeriod (s : State) : Nat := s.get FW_AGE_PERIOD * 200000000

/-- Is an aging period over? `ageNext` is the instant the running period began. -/
def ageDue (s : State) : Bool := agePeriod s != 0 && decide (s.fw.ageNext + agePeriod s ≤ s.now)

/-- The aging of one period that is over. -/
def routeAging (s : State) : State :=
  if ageDue s then ageRoutes { s with fw := { s.fw with ageNext := s.fw.ageNext + agePeriod s } } else s

/-- Aging periods that passed in a sleep, at most 16 of them (R306). -/
def agingCatchUp (s : State) : State :=
  if !ageDue s then s
  else
    let k := (s.now - s.fw.ageNext) / agePeriod s
    (List.range (min 16 k)).foldl (fun t _ => ageRoutes t)
      { s with fw := { s.fw with ageNext := s.fw.ageNext + k * agePeriod s } }

/-- FW_DOM_CMD (R307); a write of both is FREE, then ALLOC (DESIGN CHOICE, log entry 22). -/
def domCommand (s : State) (free alloc : Bool) (id : Nat) : State :=
  if s.profile ≠ 2 then s
  else
    let s := if free && id != 0 && id != 0xFFF then
        ((s.set (NB_ROUTE_ADM id) 0).set (NB_ROUTE_RV id) 0).set (NB_ROUTE_NV id) 0
      else s
    if !alloc then s
    else
      match ((List.range 0xFFE).map (· + 1)).find? fun x => (s.reg (A_NB_ROUTE x)).toNat &&& 0xC0020000 = 0 with
      | some x => (((s.set (NB_ROUTE_ADM x) 1).set FW_DOM_STAT_ID x).set FW_DOM_STAT_VALID 1).set FW_DOM_STAT_FULL 0
      | none => ((s.set FW_DOM_STAT_VALID 0).set FW_DOM_STAT_FULL 1).raise FW_INT_STAT_DOMFULL

/-- FW_DOM_STAT.COUNT: entries with ADM = 1. -/
def domCount (s : State) : Nat := ((routesUsed s).filter fun x => s.on (NB_ROUTE_ADM x)).length

/-- The hold of the previous key starts at a commit point that leaves it enabled, in the Root profile (R308). -/
def kprevHold (s : State) : State :=
  if s.profile = 2 ∧ s.on FW_KPREV_EN then
    { s with fw := { s.fw with kprevEnd := some (s.now + s.get FW_KPREV_HOLD * 3200000000) } }
  else s

/-- The key-epoch rollover of a Root (R308): one commit of FW_KPREV and the broadcast entry's W3. -/
def keyRollover (s : State) (w3 : Word) : State :=
  if s.profile ≠ 2 then s
  else
    let b := s.get FW_CFG_BCIDX
    let t := ((s.set FW_KPREV_KIDX (s.get (NB_W3_RXKIDX b))).set FW_KPREV_KS (s.get (NB_W3_RXKS b))).set FW_KPREV_EN 1
    let r := fieldWrite t (A_NB_W3 b) w3
    if nbBad t r.1 (A_NB_W3 b) then s else kprevHold r.1

/-- The hold ends (R308). -/
def kprevExpire (s : State) : State :=
  match s.fw.kprevEnd with
  | some e => if e ≤ s.now then { s.set FW_KPREV_EN 0 with fw := { s.fw with kprevEnd := none } } else s
  | none => s

/-! ### Registers (R309, R312, R338) -/

/-- Is a ring forbidden (R301)? -/
def ringBad (s : State) (k : Nat) : Bool :=
  let n := s.get (FW_RING_CFG_COUNT k)
  n == 0 || decide (1024 < n) || !inSram (s.get (FW_RING_BASE_BASE k) * 16) (16 * n)

/-- Does a write at `a` of ring `k`, from `s` to `u`, touch BASE or COUNT while EN is 1 (R312)? CFG holds EN and KICK beside
COUNT, so there a write touches COUNT where it changes it (DEDUCED, log entry 58). -/
def ringTouched (s u : State) (k a : Nat) : Bool :=
  s.on (FW_RING_CFG_EN k) && (a % 0x10 == 0 || s.get (FW_RING_CFG_COUNT k) != u.get (FW_RING_CFG_COUNT k))

/-- Does a write from `s` to `u` make ring `k` forbidden (R301, R312)? A ring that was so before is set up write by write,
and may only not be enabled (DEDUCED, log entry 58). -/
def ringSpoiled (s u : State) (k : Nat) : Bool := ringBad u k && (!ringBad s k || u.on (FW_RING_CFG_EN k))

/-- Forbidden values of FW (R312, R338). -/
def fwBad (s u : State) (a : Nat) : Bool :=
  let o := a % 0x10000
  if 0x100 ≤ o ∧ o < 0x150 ∧ o % 0x10 < 8 then
    let k := (o - 0x100) / 0x10
    ringTouched s u k a || ringSpoiled s u k
  else fsBad s u a

/-- KICK of the submission ring (R303): with it and the engine enabled, the engine works (R40). -/
def subKick (s : State) : State :=
  if !s.on (FW_RING_CFG_EN 4) then s
  else
    let s := { s with fw := { s.fw with subWait := true } }
    if s.on FW_CTL_EN then s.ledgerAddFwe else s

/-- A ring's CFG has been written: HEAD becomes 0 where EN rises; KICK acts (R302, R303). -/
def ringWritten (old s : State) (k : Nat) (v : Word) : State :=
  let s := if !old.on (FW_RING_CFG_EN k) && s.on (FW_RING_CFG_EN k) then s.set (FW_RING_HEAD_HEAD k) 0 else s
  if !bitOf v.toNat 30 then s
  else if k = 4 then subKick s
  else ringRetry s k

/-- FW_CTL has been written (R309); work that was held back resumes, with its ledger term (R40). -/
def fwControl (old s : State) : State :=
  if s.on FW_CTL_EN then
    let s := s.set FW_CTL_EN_ACK 1
    if s.fw.work.isEmpty && !s.fw.subWait then s else s.ledgerAddFwe
  else if old.on FW_CTL_EN then { s with fw := { s.fw with inProc := !s.fw.work.isEmpty } }
  else s

/-- Is a ring copy of a processed frame possible now, or once its own acknowledgement is decided? -/
def ringBusy (s : State) : Bool :=
  ((List.range 4).any fun k => !(s.fw.waiting.getD k []).isEmpty && !s.fw.stalled.contains k) ||
    s.fw.frames.any fun e => e.2.fate == fateRing && e.2.apend

/-- FW_CTL.EN_ACK clears once the frame in processing and the ring copies are done (R309). -/
def fwDisableDone (s : State) : State :=
  if s.on FW_CTL_EN || s.fw.inProc || ringBusy s then s else s.set FW_CTL_EN_ACK 0

/-- A write to the FW window. -/
def fwWrite (acc : Acc) (s : State) (a : Nat) (v : Word) : State × WriteEnd :=
  let o := a % 0x10000
  if 0x400 ≤ o then secureWrite acc none s fun s => guardWrite acc.staged fwBad FW_INT_STAT_RANGE s a v
  else if a = A_FW_FCTR then secureWrite acc none s fun s => fieldWrite s a v
  else if a = A_FW_CTL then
    let r := fieldWrite s a v
    (fwControl s r.1, r.2)
  else if a = A_FW_DISP then
    let r := fieldWrite s a v
    (r.1.setReg a ((r.1.reg a &&& 0xFFFFFC7F) ||| 0x800), r.2)
  else if a = A_FW_AGE then
    let r := fieldWrite s a v
    ({ r.1 with fw := { r.1.fw with ageNext := r.1.now } }, r.2)
  else if a = A_FW_DOM_CMD then (domCommand s (bitOf v.toNat 1) (bitOf v.toNat 0) (bitsOf v 16 12), .ok)
  else if a = A_FW_SUB_FREE then (subFree s (bitsOf v 0 12), .ok)
  else if a = A_FW_KPREV then
    let r := fieldWrite s a v
    (if acc.kind = .commit ∧ r.1.on FW_KPREV_EN then kprevHold r.1
     else if !r.1.on FW_KPREV_EN then { r.1 with fw := { r.1.fw with kprevEnd := none } } else r.1, r.2)
  else if 0x100 ≤ o ∧ o < 0x150 ∧ o % 0x10 < 8 then
    let k := (o - 0x100) / 0x10
    let r := fieldWrite s a v
    if !acc.staged && fwBad s r.1 a then (s.raise FW_INT_STAT_RANGE, .ok)
    else if o % 0x10 = 4 then (ringWritten s r.1 k v, r.2)
    else r
  else fieldWrite s a v

/-- A read of the FW window. -/
def fwRead (s : State) (a : Nat) : Word :=
  let o := a % 0x10000
  if 0x400 ≤ o then fsRead s a
  else if a = A_FW_DOM_STAT then w32 ((s.reg a).toNat / 0x1000 * 0x1000 + domCount s)
  else if 0x100 ≤ o ∧ o < 0x140 ∧ o % 0x10 = 0xC then
    let k := (o - 0x100) / 0x10
    w32 (if s.fw.stalled.contains k then min 0xFFFF (s.fw.waiting.getD k []).length else 0)
  else s.reg a

/-! ### The cipher engine's status -/

/-- Is the frame datapath of the cipher engine busy: with the frame in processing, where Table 6.10 sends it to CCM*, or with a
submission that is to be sealed (R303, R339, R360)? -/
def frameBusy (s : State) : Bool :=
  (s.on FW_CTL_EN || s.fw.inProc) &&
    match s.fw.work with
    | c :: _ => (match s.frame c with | some f => !f.passed && (readMac (frameOctets s f)).ccm | none => false)
    | [] => s.on FW_CTL_EN && s.fw.subWait && ringReady s 4 && !bitOf (s.memWord (ringHead s 4 + 4)).toNat 30

/-- CE_STATUS (Table 11.6). -/
def ceStatus (s : State) : Word :=
  let f := fun st : Nat => ((List.range 4).map fun c => b2n (s.get (CE_J_STAT_STATE c) == st) * 2 ^ c).foldl (· + ·) 0
  w32 (b2n (frameBusy s) * 256 + f jbQueued * 16 + f jbRun)

/-- A read of the CE window (R339, R341). -/
def ceRead (acc : Acc) (s : State) (a : Nat) : Word :=
  let o := a % 0x10000
  if a = A_CE_STATUS then ceStatus s
  else if a = A_CE_KS_VALID0 then w32 (ksValid s 0)
  else if a = A_CE_KS_VALID1 then w32 (ksValid s 32)
  else if 0x400 ≤ o ∧ o % 0x40 = 0 ∧ acc.ns ∧ s.on (CE_KS_ATTR_SEC ((o - 0x400) / 0x40)) then 0
  else s.reg a

/-- KICK of every enabled ring, as an event makes it (EVC109). -/
def kickAll (s : State) : State :=
  let s := (List.range 4).foldl (fun t k => if t.on (FW_RING_CFG_EN k) then ringRetry t k else t) s
  subKick s

end Sys2Proof.Machine
end

