-- ==== Sys2Proof/Machine/TimeBase.lean ====
section
/-! DEFINITION. Machine/TimeBase.lean: the time base, its calibration, its compares and the discipline of domain time
(R46 to R71, R599). -/

namespace Sys2Proof.Machine

/-- The counter a SEL bit selects: TB_NOW (0) or TB_DTIME (1). -/
def State.counter (s : State) (sel : Bool) : Nat := if sel then s.dtime else s.now

/-- Is this device the time master (R66)? -/
def isMaster (s : State) : Bool := s.on TB_DISC_STAT_MASTER

/-! ### Compares (R55 to R61) -/

/-- The target of compare `n`. -/
def cmpTarget (s : State) (n : Nat) : Nat := s.get64 (TB_CMP_TGT_LO_TGT n) (TB_CMP_TGT_HI_TGT n)

/-- The counter compare `n` selects. -/
def cmpCounter (s : State) (n : Nat) : Nat := s.counter (s.on (TB_CMP_CTL_SEL n))

/-- Is compare `n` armed with its target reached (R55)? -/
def cmpDue (s : State) (n : Nat) : Bool :=
  s.isLocked && s.on (TB_CMP_CTL_ARMED n) && decide (cmpTarget s n ≤ cmpCounter s n)

/-- The target after a periodic firing at counter `c`, and the periods skipped (R58). -/
def cmpNext (tgt per c : Nat) : Nat × Nat :=
  let t1 := (tgt + per) % 2 ^ 64
  if c < t1 then (t1, 0)
  else
    let k := (c - t1) / per + 1
    ((t1 + k * per) % 2 ^ 64, min k 15)

/-- Compare `n` fires (R55, R58, R464). SKIP keeps its value at a firing that adds no period (DESIGN CHOICE, log entry
50). -/
def cmpFire (s : State) (n : Nat) : State :=
  let c := cmpCounter s n
  let tgt := cmpTarget s n
  let per := s.get (TB_CMP_PERIOD_PERIOD n)
  let s := s.set (TB_CMP_LATE_LATE n) (min (c - tgt) 0xFFFFFFFF)
  let s := if tgt < c then s.set (TB_CMP_CTL_LATE n) 1 else s
  let s := (s.raiseBit TB_INT_STAT_CMP n).emit n
  if s.on (TB_CMP_CTL_PER n) ∧ per ≠ 0 then
    (s.set64 (TB_CMP_TGT_LO_TGT n) (TB_CMP_TGT_HI_TGT n) (cmpNext tgt per c).1).set (TB_CMP_CTL_SKIP n)
      (cmpNext tgt per c).2
  else s.set (TB_CMP_CTL_ARMED n) 0

/-- A write of TB_CMPn_CTL (R55, R56, R59): arming with the target reached fires at once; a disarm that meets a firing
loses to it. -/
def cmpControl (s : State) (n : Nat) (a : Nat) (v : Word) : State × WriteEnd :=
  let was := s.on (TB_CMP_CTL_ARMED n)
  let due := cmpDue s n
  if was && !bitOf v.toNat 0 && due then
    let r := fieldWrite (cmpFire s n) a v
    (r.1.set (TB_CMP_CTL_DISARM_LATE n) 1, r.2)
  else
    let r := fieldWrite s a v
    if !was && bitOf v.toNat 0 && cmpDue r.1 n then (cmpFire r.1 n, r.2) else r

/-- A write to the TB window (R60, R72). -/
def tbWrite (s : State) (a : Nat) (v : Word) : State × WriteEnd :=
  let o := a % 0x10000
  if 0x100 ≤ o ∧ o < 0x200 then
    let n := (o - 0x100) / 0x20
    if o % 0x20 = 0 then cmpControl s n a v
    else if o % 0x20 ≤ 0x0C ∧ s.on (TB_CMP_CTL_ARMED n) then (s.set (TB_CMP_CTL_WR_ARMED n) 1, .ok)
    else fieldWrite s a v
  else if o = 0x20 then
    let r := fieldWrite s a v
    (if r.1.on TB_CAL_CTL_EN then r.1
     else { r.1 with tb := { r.1.tb with calOpen := false, calTicks := 0, calSlow := 0 } }, r.2)
  else fieldWrite s a v

/-! ### Counters as registers (R47) -/

/-- The 64-bit counters and timestamps that are read as LO and HI words: address of the LO word, value. -/
def tsValue (s : State) (r : TsReg) : Nat :=
  match r with
  | .now => s.now
  | .slow => s.slow
  | .dtime => s.dtime
  | .rxts n => s.get64 (TB_RXTS_LO_TS n) (TB_RXTS_HI_TS n)
  | .cpt g => s.get64 (AC_G_CPT_LO_CPT g) (AC_G_CPT_HI_CPT g)

/-- Bus address of the LO word of a counter. -/
def tsLoAddr (r : TsReg) : Nat :=
  match r with
  | .now => A_TB_NOW_LO
  | .slow => A_TB_SLOW_LO
  | .dtime => A_TB_DTIME_LO
  | .rxts n => A_TB_RXTS_LO n
  | .cpt g => A_AC_G_CPT_LO g

/-- The counter whose LO word is at an address. -/
def tsAtLo (a : Nat) : Option TsReg :=
  if a = A_TB_NOW_LO then some .now
  else if a = A_TB_SLOW_LO then some .slow
  else if a = A_TB_DTIME_LO then some .dtime
  else if h : 0x40010200 ≤ a ∧ a < 0x40010300 ∧ a % 0x10 = 0 then some (.rxts ⟨(a - 0x40010200) / 0x10, by omega⟩)
  else if h : 0x40040100 ≤ a ∧ a < 0x40040300 ∧ a % 0x40 = 0x20 then
    some (.cpt ⟨(a - 0x40040100) / 0x40, by omega⟩)
  else none

/-- Is a read of a group's registers masked: a Non-secure read of a Secure group (R98)? -/
def acMasked (acc : Acc) (s : State) (a : Nat) : Bool :=
  let g := (a % 0x10000 - 0x100) / 0x40
  decide (0x40040100 ≤ a) && decide (a < 0x40040300) && acc.ns && s.get (AC_G_STAT_STATE g) != 0 && s.on (AC_G_STAT_ATTR g)

/-- Key of a master's shadow of a HI word: each core has its own (R47); the window and the debug port have theirs. -/
def shadowKey (acc : Acc) (hiAddr : Nat) : Nat :=
  hiAddr + 2 ^ 32 * (match acc.kind with | .core => acc.core | .debug => 5 | _ => 4)

/-- A read of a LO word: its value, the whole counter captured in the reader's shadow. A masked CPT reads 0 and captures
nothing (R98). -/
def tsReadLo (acc : Acc) (s : State) (r : TsReg) : Word × State :=
  if acMasked acc s (tsLoAddr r) then (0, s)
  else
  let v := tsValue s r
  let m := assocPut s.tb.shadow (shadowKey acc (tsLoAddr r + 4)) (w32 (v / 2 ^ 32))
  (w32 v, { s with tb := { s.tb with shadow := m } })

/-- A read of a HI word: the upper half of the reader's last capture. -/
def tsReadHi (acc : Acc) (s : State) (r : TsReg) : Word :=
  if acMasked acc s (tsLoAddr r) then 0
  else (assocGet s.tb.shadow (shadowKey acc (tsLoAddr r + 4))).getD 0

/-! ### The PLL, the slow clock and calibration (R46 to R53, R599) -/

/-- The PLL locks after a reset: TB_NOW starts from zero (R46). -/
def tbLock (s : State) : State :=
  if s.isLocked then s
  else
    let s := { s with tb := { s.tb with now := 0, sinceEdge := 0, edge := false, calOpen := false } }
    s.set TB_STATUS_LOCKED 1

/-- A calibration window of `m` ticks ends (R51). -/
def tbRatioUpdate (s : State) (m : Nat) : State :=
  if !s.isLocked || !s.on TB_CAL_CTL_EN then s
  else if 16 * m < 24960000 ∨ 25040000 < 16 * m then s.raise TB_INT_STAT_RATIO_RANGE
  else
    let old : Int := s.get TB_RATIO_VALUE
    let new : Int := if s.tb.firstAccepted then old + ((16 * m : Nat) - old) / 2 ^ s.get TB_CAL_CTL_FILT
      else (16 * m : Nat)
    let s := { s with tb := { s.tb with firstAccepted := true } }
    ((s.set TB_RATIO_VALUE (unsigned 32 new)).set TB_STATUS_CAL_VALID 1).raise TB_INT_STAT_CAL_DONE

/-- Has no slow-tick edge arrived for 65,536 ticks (R52)? -/
def slowFailDue (s : State) : Bool := s.isLocked && !s.on TB_STATUS_SLOW_FAIL && decide (65536 ≤ s.tb.sinceEdge)

/-- The 32.768 kHz crystal gives no edge: TB_SLOW stops (R599), and SLOW_FAIL is set once 65,536 ticks have passed without
one (R52). -/
def tbSlowFail (s : State) : State :=
  let due := slowFailDue s
  let s := { s with tb := { s.tb with xoStopped := true } }
  if due then (s.set TB_STATUS_SLOW_FAIL 1).raise TB_INT_STAT_SLOW_FAIL else s

/-- A slow-tick edge (R49, R52): the slow counter moves and SLOW_FAIL clears. -/
def tbSlowEdge (s : State) : State :=
  let s := { s with tb := { s.tb with slow := s.tb.slow + 1, sinceEdge := 0, edge := true, xoStopped := false } }
  s.set TB_STATUS_SLOW_FAIL 0

/-- A slow-tick edge beside the running PLL: the slow counter, and the calibration window (R51). Answers the ticks of a
window that has ended. -/
def slowEdgeAt (s : State) : Option Nat × State :=
  let s := tbSlowEdge s
  if !s.on TB_CAL_CTL_EN then (none, s)
  else if !s.tb.calOpen then
    (none, { s with tb := { s.tb with calOpen := true, calTicks := 0, calSlow := 0 } })
  else if s.tb.calSlow + 1 < 256 then (none, { s with tb := { s.tb with calSlow := s.tb.calSlow + 1 } })
  else (some s.tb.calTicks, { s with tb := { s.tb with calTicks := 0, calSlow := 0 } })

/-- The time base stops at a slow-tick edge (R53). -/
def tbStop (s : State) : State :=
  let s := { s with tb := { s.tb with t0 := s.tb.now, d0 := s.tb.dtime, s0 := s.tb.slow, calOpen := false,
                                      calTicks := 0, calSlow := 0 } }
  s.set TB_STATUS_LOCKED 0

/-- Elapsed ticks of a sleep of `n` slow ticks, and the new remainder (R53). -/
def catchUp (ratio frac n : Nat) : Nat × Nat :=
  let p := n * ratio + frac
  (p / 4096, p % 4096)

/-- The signed rate of domain time (R65). -/
def drate (s : State) : Int := s.getS TB_DRATE_RATE

/-- The time base restarts: TB_NOW and TB_DTIME are rebuilt (R53). Answers the elapsed ticks. The slew cadence goes on with
the ticks it had left, and the next calibration window opens at the next slow-tick edge (DESIGN CHOICE, log entry 50). -/
def tbRestart (s : State) : Nat × State :=
  let n := s.slow - s.tb.s0.toNat
  let r := catchUp (s.get TB_RATIO_VALUE) (s.get TB_CATCH_FRAC_FRAC) n
  let now := s.tb.t0 + BitVec.ofNat 64 r.1
  let q : Int := (r.1 : Int) * drate s + s.tb.dacc.toNat
  let d : Int := s.tb.d0.toNat + r.1 + q / 2 ^ 32
  let s := { s with tb := { s.tb with now := now, dtime := if isMaster s then now else BitVec.ofInt 64 d,
                                      dacc := BitVec.ofInt 32 (q % 2 ^ 32), sinceEdge := 0 } }
  (r.1, ((s.set TB_CATCH_FRAC_FRAC r.2).set TB_CATCH_SLOW_VALUE (min n 0xFFFFFFFF)).set TB_STATUS_LOCKED 1)

/-- Compares whose target the sleep passed fire once at the restart edge, marked missed (R57). A target equal to the
rebuilt counter counts as one that fell in the sleep; its lateness is 0 and LATE stays clear (DESIGN CHOICE, log entry
50). -/
def cmpMissed (s : State) : State :=
  (List.range 8).foldl (fun t n =>
    if cmpDue t n then (cmpFire t n).set (TB_CMP_CTL_MISSED_IN_SLEEP n) 1 else t) s

/-! ### Domain time (R65 to R70) -/

/-- One slew step of TB_DTIME towards the remainder (R65). -/
def slewStep (s : State) : State :=
  if s.tb.slewRem = 0 ∨ isMaster s then s
  else
    let u : Int := if s.tb.slewRem < 0 then -1 else 1
    { s with tb := { s.tb with dtime := s.tb.dtime + BitVec.ofInt 64 u, slewRem := s.tb.slewRem - u,
                               slewWait := 20000 } }

/-- The discipline of TB_DTIME by a beacon of the time parent (R67): phase error `e`, the parent's `depth`. A step
takes effect at the next tick. `interval` is taken on TB_NOW between the ticks at which the two beacons were disciplined
(DESIGN CHOICE, log entry 50). -/
def discipline (s : State) (domainTs prop rxDtime : Int) (depth : Nat) : State :=
  if isMaster s then s
  else
    let e := domainTs + prop - rxDtime
    let acq := s.on TB_DISC_STAT_ACQ
    let interval : Int := s.now - s.tb.beaconNow.toNat
    let s :=
      if !acq || decide ((s.get TB_DISC_CTL_STEP_THR : Int) < e.natAbs) then
        let s := { s with tb := { s.tb with stepPend := some e } }
        if acq then s
        else ((s.set TB_DISC_STAT_ACQ 1).set TB_DISC_STAT_NBCN 0).raise TB_INT_STAT_ACQ
      else
        let corr := Int.tdiv (e * 2 ^ 32) interval / 2 ^ min 8 (s.get TB_DISC_CTL_GAIN)
        let r := max (-429497) (min 429497 (drate s + corr))
        let s := s.set TB_DRATE_RATE (unsigned 32 r)
        { s with tb := { s.tb with slewRem := e, slewWait := 20000 } }
    let s := { s with tb := { s.tb with beaconNow := s.tb.now } }
    ((s.set TB_DISC_STAT_DEPTH (min (depth + 1) 15)).set TB_DISC_ERR_ERR
      (unsigned 32 (max (-2147483648) (min 2147483647 e)))).addSat TB_DISC_STAT_NBCN 1

/-- One tick of the counters (R46, R65): TB_NOW moves by one; TB_DTIME by one and the carry of the rate term; a pending
step takes effect. -/
def tbTick (s : State) : State :=
  if !s.isLocked then s
  else
    let now := s.tb.now + 1
    if isMaster s then { s with tb := { s.tb with now := now, dtime := now, stepPend := none, slewRem := 0 } }
    else
      let q : Int := s.tb.dacc.toNat + drate s
      let d : BitVec 64 := s.tb.dtime + BitVec.ofInt 64 (1 + q / 2 ^ 32)
      let acc : Word := BitVec.ofInt 32 (q % 2 ^ 32)
      match s.tb.stepPend with
      | some e =>
        let s := { s with tb := { s.tb with now := now, dtime := d + BitVec.ofInt 64 e, dacc := acc, slewRem := 0,
                                            slewWait := 20000, stepPend := none } }
        (s.raise TB_INT_STAT_STEP).emit 156
      | none => { s with tb := { s.tb with now := now, dtime := d, dacc := acc, slewWait := s.tb.slewWait - 1 } }

end Sys2Proof.Machine
end

