-- ==== Sys2Proof/Machine/Groups.lean ====
section
/-! DEFINITION. Machine/Groups.lean: the atomic commit unit's groups: commands, staging, ownership (R73 to R77, R93 to
R101, R103). Delivery and the commit point are in Commit.lean. -/

namespace Sys2Proof.Machine

/-- Group states (Table 3.1). -/
abbrev agFree : Nat := 0
abbrev agOpen : Nat := 1
abbrev agArming : Nat := 2
abbrev agArmed : Nat := 3
abbrev agDone : Nat := 4
abbrev agFailed : Nat := 5
abbrev agAborted : Nat := 6

/-- Failure reasons (Table 3.2). -/
abbrev arLocked : Nat := 1
abbrev arAttr : Nat := 2
abbrev arNotOwner : Nat := 3
abbrev arLateArm : Nat := 4
abbrev arBadAddr : Nat := 5
abbrev arOverflow : Nat := 6
abbrev arConflict : Nat := 7
abbrev arDomainOff : Nat := 8
abbrev arValue : Nat := 9
abbrev arDisabled : Nat := 0xA

def State.group (s : State) (g : Nat) : Group := s.groups.getD g .reset
def State.updGroup (s : State) (g : Nat) (f : Group → Group) : State := { s with groups := updAt s.groups g f }
def State.groupState (s : State) (g : Nat) : Nat := s.get (AC_G_STAT_STATE g)

/-- A group enters a state; its staging store and shadows are zeroed (R75). -/
def groupEnter (s : State) (g st : Nat) : State :=
  (s.updGroup g fun _ => Group.reset).set (AC_G_STAT_STATE g) st

/-- A group fails with a reason, and with the failing entry where one is named (R81, R85). -/
def groupFail (s : State) (g reason : Nat) (idx : Option Nat) : State :=
  let s := (groupEnter s g agFailed).set (AC_G_STAT_REASON g) reason
  let s := match idx with
    | some i => (s.set (AC_G_STAT_FAIL_IDX g) i).set (AC_G_STAT_IDX_VALID g) 1
    | none => s
  s.raiseBit AC_INT_STAT_FAIL g

/-- The records of a group that OPEN and RELEASE clear (Table 3.9). -/
def groupClear (s : State) (g : Nat) : State :=
  let s := groupEnter s g agFree
  let s := ((s.set (AC_G_STAT_REASON g) 0).set (AC_G_STAT_ABORT_LATE g) 0).set (AC_G_STAT_LATE g) 0
  ((s.set (AC_G_STAT_IDX_VALID g) 0).set (AC_G_STAT_FAIL_IDX g) 0).set (AC_G_STAT_COUNT g) 0

/-- Is the group in a final state? -/
def groupEnded (st : Nat) : Bool := st == agDone || st == agFailed || st == agAborted

/-- May this access open group `g` (R97)? The rules of groups speak of cores: a writer that is no core owns no group, so its
OPEN is refused, and the owner check does not bind it (DESIGN CHOICE, log entry 51). -/
def mayOpen (s : State) (acc : Acc) (g : Nat) : Bool :=
  acc.kind == .core && bitOf (s.get (AC_G_CFG_CORES g)) acc.core && (!acc.ns || s.on (AC_G_CFG_NS_OK g))

/-- Is the access not the owner's, is its attribute refused (R98)? -/
def notOwner (s : State) (acc : Acc) (g : Nat) : Bool :=
  acc.kind == .core && s.get (AC_G_STAT_OWNER g) != acc.core
def attrRefused (s : State) (acc : Acc) (g : Nat) : Bool := s.on (AC_G_STAT_ATTR g) && acc.ns

/-- OPEN (R96, R97, R100). -/
def groupOpen (acc : Acc) (s : State) (g : Nat) : State × WriteEnd :=
  if s.groupState g ≠ agFree ∧ !groupEnded (s.groupState g) then (s.raise AC_INT_STAT_BADCMD, .ok)
  else if !s.on AC_CTL_EN then (s.raise AC_INT_STAT_BADCMD, .ok)
  else if !mayOpen s acc g then (s.raise AC_INT_STAT_FOREIGN, .berrFree)
  else
    let s := (groupClear s g).set (AC_G_STAT_STATE g) agOpen
    ((s.set (AC_G_STAT_OWNER g) acc.core).set (AC_G_STAT_ATTR g) (b2n !acc.ns), .ok)

/-- COMMIT_NOW and COMMIT_AT (R80, R100). -/
def groupArm (s : State) (g : Nat) (timed sel : Bool) : State :=
  if s.groupState g ≠ agOpen ∨ !s.on AC_CTL_EN then s.raise AC_INT_STAT_BADCMD
  else
    let s := (s.updGroup g fun p => { p with timed := timed }).set (AC_G_STAT_STATE g) agArming
    if timed then s.set (AC_G_STAT_SEL g) (b2n sel) else s

/-- Has the selected counter of a timed armed group reached its target, so that its token passes (R89)? -/
def timedDue (s : State) (g : Nat) : Bool :=
  s.groupState g == agArmed && (s.group g).timed &&
    decide (s.get64 (AC_G_TGT_LO_TGT g) (AC_G_TGT_HI_TGT g) ≤ s.counter (s.on (AC_G_STAT_SEL g)))

/-- Is the token of group `g` ready to pass: a timed one when its counter has reached its target, an immediate one unless a
timed token is due, or has passed, in the tick in which it reaches the arbiter (R89, R91)? It reaches the arbiter in the tick of its
arming where it can pass then, and in the next tick if not (DESIGN CHOICE within the 100 ns of R91, log entry 51). -/
def tokenReady (s : State) (g : Nat) : Bool :=
  s.groupState g == agArmed &&
    (if (s.group g).timed then timedDue s g
     else decide ((s.group g).since + 1 < s.now) || (!((List.range 8).any fun k => timedDue s k) && s.tb.timedAt != some s.now))

/-- ABORT (R94): an abort that meets the token loses to the commit, which goes on (R95). -/
def groupAbort (s : State) (g : Nat) : State :=
  let st := s.groupState g
  if timedDue s g then s.set (AC_G_STAT_ABORT_LATE g) 1
  else if st = agOpen ∨ st = agArming ∨ st = agArmed then groupEnter s g agAborted
  else s.set (AC_G_STAT_ABORT_LATE g) 1

/-- RELEASE (R96). -/
def groupRelease (s : State) (g : Nat) : State :=
  let st := s.groupState g
  if st = agArming ∨ st = agArmed then s.raise AC_INT_STAT_BADCMD else groupClear s g

/-- A write of AC_Gn_CMD (R74, R96 to R98, Table 3.8). -/
def groupCommand (acc : Acc) (s : State) (g : Nat) (v : Word) : State × WriteEnd :=
  let cmd := v.toNat % 8
  if s.groupState g = agFree then
    if cmd = 1 then groupOpen acc s g else (s.raise AC_INT_STAT_BADCMD, .ok)
  else if attrRefused s acc g then (s.raise AC_INT_STAT_FOREIGN, .berr 0)
  else if notOwner s acc g then (s.raise AC_INT_STAT_FOREIGN, .berrFree)
  else
    match cmd with
    | 1 => groupOpen acc s g
    | 2 => (groupArm s g false false, .ok)
    | 3 => (groupArm s g true (bitOf v.toNat 8), .ok)
    | 4 => (groupAbort s g, .ok)
    | 5 => (groupRelease s g, .ok)
    | _ => (s.raise AC_INT_STAT_BADCMD, .ok)

/-- A push (R74, R76). -/
def groupPush (s : State) (g : Nat) (v : Word) : State :=
  if s.groupState g ≠ agOpen then s.raise AC_INT_STAT_BADCMD
  else if 64 ≤ s.get (AC_G_STAT_COUNT g) then groupFail s g arOverflow none
  else
    let a := s.get (AC_G_SADDR_ADDR g)
    let e : StageEntry := { addr := a * 4, mask := s.reg (A_AC_G_SMASK g), value := v }
    let s := s.updGroup g fun p => { p with entries := p.entries ++ [e] }
    let s := s.bump (AC_G_STAT_COUNT g)
    if s.on (AC_G_SADDR_INC g) then s.set (AC_G_SADDR_ADDR g) (a + 1) else s

/-- AC_CTL.EN is cleared (R100). -/
def acDisable (s : State) : State :=
  ((List.range 8).foldl (fun t g =>
    if t.groupState g = agArming ∨ (t.groupState g = agArmed ∧ !timedDue t g) then
      (groupEnter t g agAborted).set (AC_G_STAT_REASON g) arDisabled
    else t) s).set AC_CTL_EN_ACK 0

/-- A core restart frees every group in OPEN that the core owns (R101). -/
def acRestart (s : State) (c : Nat) : State :=
  (List.range 8).foldl (fun t g =>
    if t.groupState g = agOpen ∧ t.get (AC_G_STAT_OWNER g) = c then groupClear t g else t) s

/-- A write to the AC window (R98, R103). -/
def acWrite (acc : Acc) (s : State) (a : Nat) (v : Word) : State × WriteEnd :=
  let o := a % 0x10000
  if 0x100 ≤ o ∧ o < 0x300 then
    let g := (o - 0x100) / 0x40
    let q := o % 0x40
    if q = 0 ∨ 0x2C ≤ q then fieldWrite s a v
    else if q = 4 then groupCommand acc s g v
    else if s.groupState g = agFree ∧ (q < 0x0C ∨ 0x1C < q) then fieldWrite s a v
    else if s.groupState g = agFree ∨ notOwner s acc g then
      (s.raise AC_INT_STAT_FOREIGN, .berrFree)
    else if attrRefused s acc g then (s.raise AC_INT_STAT_FOREIGN, .berr 0)
    else if q = 0x14 then (groupPush s g v, .ok)
    else if (q = 0x18 ∨ q = 0x1C) ∧ (s.groupState g = agArming ∨ s.groupState g = agArmed) then
      (s.raise AC_INT_STAT_BADCMD, .ok)
    else fieldWrite s a v
  else if a = A_AC_CTL then
    let r := fieldWrite s a v
    (if s.on AC_CTL_EN && !r.1.on AC_CTL_EN then acDisable r.1
     else if r.1.on AC_CTL_EN then r.1.set AC_CTL_EN_ACK 1 else r.1, r.2)
  else fieldWrite s a v

/-- AC_STATUS (Table 3.5). -/
def acStatus (s : State) : Word :=
  w32 (((List.range 8).map fun g =>
    (b2n (s.groupState g != agFree) + 256 * b2n (s.groupState g == agArming || s.groupState g == agArmed)) * 2 ^ g).foldl
      (· + ·) 0)

/-- A read of the AC window. -/
def acRead (acc : Acc) (s : State) (a : Nat) : Word :=
  if a = A_AC_STATUS then acStatus s else if acMasked acc s a then 0 else s.reg a

end Sys2Proof.Machine
end

