-- ==== Sys2Proof/Machine/Timers.lean ====
section
/-! DEFINITION. Machine/Timers.lean: timers TM0 to TM7 (R516 to R530, R537). -/

namespace Sys2Proof.Machine

/-- Is timer `t` stopped by a debug halt (R528)? -/
def tmDebugStop (s : State) (t : Nat) : Bool :=
  (List.range 4).any fun c => bitOf (s.get (TM_CFG_DBGSTOP t)) c && s.coreState c == csDebug

/-- Is timer `t` counting (R516, R528)? -/
def tmCounting (s : State) (t : Nat) : Bool :=
  s.awake && s.on TM_CTL_EN && s.on (TM_STAT_RUN t) && !tmDebugStop s t

/-- Channel `k` of timer `t` matches (R520). -/
def tmMatch (s : State) (t k : Nat) : State :=
  (s.raiseBit (TM_INT_STAT_MATCH t) k).emit (98 + 4 * t + k)

/-- The compare channels match where the counter has moved into their CMP (R519). -/
def tmCompare (s : State) (t : Nat) : State :=
  (List.range 4).foldl (fun u k =>
    if u.get (TM_CH_CFG_MODE t k) = 1 ∧ u.get (TM_CH_CMP_CMP t k) = u.get (TM_COUNT_COUNT t) then tmMatch u t k
    else u) s

/-- A prescaler output: COUNT moves by one or wraps from TOP to 0 with OVF (R516, R517, R519). -/
def tmIncrement (s : State) (t : Nat) : State :=
  let s := s.set (TM_STAT_PREM t) 0
  if s.get (TM_COUNT_COUNT t) = s.get (TM_TOP_TOP t) then
    tmCompare (((s.set (TM_COUNT_COUNT t) 0).raise (TM_INT_STAT_OVF t)).emit (130 + t)) t
  else tmCompare (s.set (TM_COUNT_COUNT t) (s.get (TM_COUNT_COUNT t) + 1)) t

/-- START of timer `t` (R518). -/
def tmStart (s : State) (t : Nat) : State := (s.set (TM_STAT_RUN t) 1).set (TM_STAT_PREM t) 0

/-- STOP of timer `t` (R518). -/
def tmStop (s : State) (t : Nat) : State := s.set (TM_STAT_RUN t) 0

/-- The capture queue of channel `k` of timer `t`. -/
def State.caps (s : State) (t k : Nat) : List (Nat × Bool) := s.tm.caps.getD (4 * t + k) []

/-- The queue replaced, with QLVL and QEDGE shown (Table 18.5). -/
def State.setCaps (s : State) (t k : Nat) (q : List (Nat × Bool)) : State :=
  let s := { s with tm := { s.tm with caps := updAt s.tm.caps (4 * t + k) fun _ => q } }
  (s.set (TM_CH_STAT_QLVL t k) q.length).set (TM_CH_STAT_QEDGE t k)
    ((q.zipIdx.map fun e => if e.1.2 then 2 ^ e.2 else 0).foldl (· + ·) 0)

/-- A capture on channel `k` of timer `t` records COUNT (R521 to R524): an entry of the queue in normal service, the paired
registers in paired mode. -/
def tmRecord (s : State) (t k : Nat) (rising paired : Bool) : State :=
  let c := s.get (TM_COUNT_COUNT t)
  if paired then
    if rising then
      let u := if s.on (TM_CH_STAT_RISE_V t k) then s.set (TM_CH_STAT_POVR t k) 1 else s
      (u.set (TM_CH_RISE_RISE t k) c).set (TM_CH_STAT_RISE_V t k) 1
    else if s.on (TM_CH_STAT_RISE_V t k) then
      let m := s.get (TM_TOP_TOP t) + 1
      let w := (c + m - s.get (TM_CH_RISE_RISE t k) % m) % m
      ((((s.set (TM_CH_FALL_FALL t k) c).set (TM_CH_WIDTH_WIDTH t k) w).set (TM_CH_STAT_RISE_V t k) 0).set
        (TM_CH_STAT_WIDTH_V t k) 1).raiseBit (TM_INT_STAT_PAIR t) k
    else s
  else if (s.caps t k).length < 4 then s.setCaps t k (s.caps t k ++ [(c, rising)])
  else s.set (TM_CH_STAT_QOVF t k) 1

/-- Is paired capture in force for a capture of now: one in the same handshake as a change of mode falls under the mode before
it (R523)? -/
def tmPaired (s : State) : Bool := s.tm.pairedWas.getD (s.on TM_CTL_PAIRED)

/-- A capture on channel `k` of timer `t`. While an increment of the same tick may be to come, it waits for it, so that it
records the incremented value exactly where there is one (R518, R521). -/
def tmCapture (s : State) (t k : Nat) (rising : Bool) : State :=
  if s.tm.inTick || s.tm.due.contains t then { s with tm := { s.tm with taken := s.tm.taken ++ [(t, k, rising, tmPaired s)] } }
  else tmRecord s t k rising (tmPaired s)

/-- The captures of timer `t` that waited record COUNT. -/
def tmFlush (s : State) (t : Nat) : State :=
  (s.tm.taken.filter fun e => e.1 == t).foldl (fun u e => tmRecord u e.1 e.2.1 e.2.2.1 e.2.2.2)
    { s with tm := { s.tm with taken := s.tm.taken.filter fun e => e.1 != t } }

/-- Has the source of timer `t` an event at this tick: a tick, or an edge of its pin both of whose levels have lasted 20 ns
(R516)? -/
def tmEvent (s : State) (t : Nat) : Bool :=
  let src := s.get (TM_CFG_SRC t)
  src == 0 || s.tm.edges.any fun e => e.1 == s.get (TM_CFG_GSEL t) && decide (e.2.2 + 4 ≤ s.now) &&
    (src == 3 || src == (if e.2.1 then 1 else 2))

/-- May a START that a commit group holds for this tick let the stopped timer `t` count this tick's event: every event is a
prescaler output (R518)? -/
def tmStartable (s : State) (t : Nat) : Bool :=
  s.awake && s.on TM_CTL_EN && !s.on (TM_STAT_RUN t) && !tmDebugStop s t && s.get (TM_CFG_PRESC t) == 0

/-- The timers at a tick: at an event of its source the prescaler moves, or gives an output, which the row TIMER_INCREMENT takes
to COUNT (R516). It follows the events of the tick, so that a START or STOP among them comes first; `commits`: a commit point
is to come at this tick, whose START or STOP comes first as well (R518). -/
def tmTick (s : State) (commits : Bool) : State :=
  let u := (List.range 8).foldl (fun u t =>
    let runs := tmCounting u t
    if tmEvent u t && (runs || (commits && tmStartable u t)) then
      if !runs || u.get (TM_STAT_PREM t) == u.get (TM_CFG_PRESC t) then { u with tm := { u.tm with due := u.tm.due ++ [t] } }
      else tmFlush (u.set (TM_STAT_PREM t) (u.get (TM_STAT_PREM t) + 1)) t
    else tmFlush u t) { s with tm := { s.tm with due := [], inTick := false } }
  { u with tm := { u.tm with edges := u.tm.edges.filter fun e => decide (u.now < e.2.2 + 4) } }

/-- The prescaler output of timer `t` at this tick moves COUNT, where the timer still counts, and the captures of the tick
record it (R516, R518, R521). -/
def tmTakeOutput (s : State) (t : Nat) : State :=
  if s.tm.due.contains t then
    let u : State := { s with tm := { s.tm with due := s.tm.due.filter (· != t) } }
    tmFlush (if tmCounting u t then tmIncrement u t else u) t
  else s

/-- Does channel `k` of timer `t` capture this edge of its pin (R521, R524)? -/
def tmTakesEdge (s : State) (t k : Nat) (rising : Bool) : Bool :=
  s.get (TM_CH_CFG_MODE t k) == 2 && !s.on (TM_CH_CFG_EVT t k) &&
    (tmPaired s || bitOf (s.get (TM_CH_CFG_EDGE t k)) (if rising then 0 else 1))

/-- Does the event consumer of channel `k` of timer `t` refuse a capture (R525)? -/
def tmCaptureBusy (s : State) (t k : Nat) : Bool :=
  !s.on TM_CTL_EN || !(s.get (TM_CH_CFG_MODE t k) == 2 && s.on (TM_CH_CFG_EVT t k)) ||
    (!tmPaired s && decide (4 ≤ (s.caps t k).length))

/-- A filtered GPIO edge at every channel that captures it (R521). The timers count it once its level has lasted 20 ns, where
the level before it lasted as long; an edge waiting whose level ends sooner is not counted (R516; log entry 43). -/
def tmPinEdge (s : State) (pin : Nat) (rising : Bool) : State :=
  let wait := s.tm.edges.filter fun e => e.1 != pin || decide (e.2.2 + 4 ≤ s.now)
  let wait := if s.tm.pinAt.getD pin 0 + 4 ≤ s.now then wait ++ [(pin, rising, s.now)] else wait
  (List.range 32).foldl (fun v i =>
    if v.get (TM_CH_CFG_GSEL (i / 4) (i % 4)) == pin && tmTakesEdge v (i / 4) (i % 4) rising then tmCapture v (i / 4) (i % 4) rising
    else v) { s with tm := { s.tm with edges := wait } }

/-- Catch-up of timer `t` over `ct` ticks at the restart edge (R526). -/
def tmCatchUp (s : State) (t ct : Nat) : State :=
  if !s.on (TM_STAT_RUN t) || s.get (TM_CFG_SRC t) ≠ 0 || !s.on TM_CTL_EN then s
  else
    let p := s.get (TM_CFG_PRESC t) + 1
    let total := s.get (TM_STAT_PREM t) + ct
    let n := total / p
    let m := s.get (TM_TOP_TOP t) + 1
    let old := s.get (TM_COUNT_COUNT t)
    let s := s.set (TM_STAT_PREM t) (total - n * p)
    let s := (List.range 4).foldl (fun u k =>
      let cmp := u.get (TM_CH_CMP_CMP t k)
      if u.get (TM_CH_CFG_MODE t k) = 1 ∧ cmp < m then
        let d0 := (cmp + m - old % m) % m
        let d := if d0 = 0 then m else d0
        if 0 < n ∧ d ≤ n then (tmMatch u t k).set (TM_CH_STAT_MISSED_IN_SLEEP t k) 1 else u
      else u) s
    let s := if m ≤ old + n then ((s.raise (TM_INT_STAT_OVF t)).set (TM_STAT_OVF_SLEEP t) 1).emit (130 + t) else s
    s.set (TM_COUNT_COUNT t) ((old + n) % m)

/-- The level line of source 169 + t: a capture queue of TMt holds an entry (R522). -/
def tmQueueLine (s : State) (t : Nat) : Bool := (List.range 4).any fun k => !(s.caps t k).isEmpty

/-- Timer and channel that own offset `o` of the TM window. -/
def tmOf (o : Nat) : Nat := (o - 0x100) / 0x100
def tmChOf (o : Nat) : Nat := (o % 0x100 - 0x40) / 0x20

/-- Forbidden values of TM (R516, R517, R537): `s` before the write, `u` after it under the access codes. -/
def tmBad (s u : State) (a : Nat) : Bool :=
  let o := a % 0x10000
  if o < 0x100 then false
  else
    let t := tmOf o
    let k := tmChOf o
    if o % 0x100 = 0x04 then u.get (TM_CFG_SRC t) != 0 && decide (23 < u.get (TM_CFG_GSEL t))
    else if o % 0x100 = 0x0C then decide (u.get (TM_TOP_TOP t) < u.get (TM_COUNT_COUNT t))
    else if o % 0x100 = 0x10 then s.on (TM_STAT_RUN t) || decide (u.get (TM_TOP_TOP t) < u.get (TM_COUNT_COUNT t))
    else if 0x40 ≤ o % 0x100 ∧ o % 0x20 = 0 then
      let mode := u.get (TM_CH_CFG_MODE t k)
      mode == 3 || (mode == 2 && u.get (TM_CH_CFG_EDGE t k) == 0) ||
        (mode == 2 && !u.on (TM_CH_CFG_EVT t k) && decide (23 < u.get (TM_CH_CFG_GSEL t k)))
    else false

/-- A write to the TM window (R517 to R519, R523, R529, R537). -/
def tmWrite (staged : Bool) (s : State) (a : Nat) (v : Word) : State × WriteEnd :=
  let o := a % 0x10000
  if o = 0 then
    let r := fieldWrite s a v
    (((if r.1.on TM_CTL_EN then r.1.set TM_CTL_EN_ACK 1 else r.1.set TM_CTL_EN_ACK 0)).updPaired, r.2)
  else if o < 0x100 then fieldWrite s a v
  else
    let t := tmOf o
    let k := tmChOf o
    if o % 0x100 = 0 then
      let u := if bitOf v.toNat 0 then tmStart s t else s
      (if bitOf v.toNat 1 then tmStop u t else u, .ok)
    else if o % 0x100 = 0x10 ∧ !staged ∧ s.on (TM_STAT_RUN t) then (s.raise (TM_INT_STAT_BADCMD t), .ok)
    else
      let r := fieldWrite s a v
      if !staged && tmBad s r.1 a then (s.raise (TM_INT_STAT_RANGE t), .ok)
      else if o % 0x100 = 0x0C then (r.1.set (TM_STAT_PREM t) 0, r.2)
      else if 0x40 ≤ o % 0x100 ∧ o % 0x20 = 0x04 ∧ r.1.get (TM_CH_CMP_CMP t k) = r.1.get (TM_COUNT_COUNT t) then
        (r.1.set (TM_CH_STAT_CMP_EQ_WRITE t k) 1, r.2)
      else r

/-- A read of CHk_CAP pops the head entry; a read of CHk_WIDTH clears WIDTH_V (R522, R524). -/
def tmReadEffect (s : State) (a : Nat) : Word × State :=
  let o := a % 0x10000
  if 0x100 ≤ o ∧ 0x40 ≤ o % 0x100 ∧ o % 0x20 = 0x08 then
    match s.caps (tmOf o) (tmChOf o) with
    | [] => (0, s)
    | e :: q => (w32 e.1, s.setCaps (tmOf o) (tmChOf o) q)
  else if 0x100 ≤ o ∧ 0x40 ≤ o % 0x100 ∧ o % 0x20 = 0x18 then
    (s.reg a, s.set (TM_CH_STAT_WIDTH_V (tmOf o) (tmChOf o)) 0)
  else (s.reg a, s)

/-- An edge or event at channel `k` of timer `t` (R521, R525): an event counts as rising, and a consumer that is busy
takes none. -/
def tmCaptureAt (s : State) (t k : Nat) (rising : Bool) : State :=
  if !s.awake || s.get (TM_CH_CFG_MODE t k) != 2 then s
  else if s.on (TM_CH_CFG_EVT t k) then (if rising && !tmCaptureBusy s t k then tmCapture s t k true else s)
  else if tmTakesEdge s t k rising then tmCapture s t k rising
  else s

end Sys2Proof.Machine
end

