-- ==== Sys2Proof/Machine/Pins.lean ====
section
/-! DEFINITION. Machine/Pins.lean: the GP block (R588 to R592). -/

namespace Sys2Proof.Machine

/-- Is the supply that pin GPIOn references lost (R581, Table 21.1)? -/
def pinLost (s : State) (n : Nat) : Bool := s.pins.vioLost.getD (if n < 12 then 0 else 1) false

/-- The filtered level of GPIOn as GP_IN shows it: 0 while its input is disabled or its supply is lost (R581, R588). -/
def gpLevel (s : State) (n : Nat) : Bool :=
  s.on (GP_PAD_CFG_IEN n) && !pinLost s n && s.pins.gpio.getD n false

/-- GP_IN (R588). -/
def gpIn (s : State) : Nat := ((List.range 24).map fun n => b2n (gpLevel s n) * 2 ^ n).foldl (· + ·) 0

/-- The line of level source 136 + n: GP_IN[n] XOR LPOL (R589). -/
def gpLine (s : State) (n : Nat) : Bool := gpLevel s n != s.on (GP_PAD_CFG_LPOL n)

/-- Does an EDGE setting select an edge (Table 21.7)? -/
def edgeSel (e : Nat) (rising : Bool) : Bool := bitOf e (if rising then 0 else 1)

/-- When pin `n` last changed is kept (R516). -/
def gpKept (n : Nat) (s : State) : State := { s with tm := { s.tm with pinAt := updAt s.tm.pinAt n fun _ => s.now } }

/-- A filtered edge of GPIOn: the level changes; GP_EDGE_STAT, event producers, timers and captures follow (R516, R521,
R589, R590). In Sleep only GP_EDGE_STAT and its source follow; in Deep sleep and Off, or with the input disabled or its
supply lost, nothing does (R527, R581, R589). -/
def gpEdge (s : State) (n : Nat) (rising : Bool) : State :=
  if s.pins.gpio.getD n false == rising then s
  else
    let t := { s with pins := { s.pins with gpio := updAt s.pins.gpio n fun _ => rising } }
    gpKept n <| if !t.on (GP_PAD_CFG_IEN n) || pinLost t n || t.power == .deep || t.power == .off then t
    else
      let t := if edgeSel (t.get (GP_PAD_CFG_EDGE n)) rising then t.raiseBit GP_EDGE_STAT_EDGE n else t
      if !t.awake then t
      else
        let t := (List.range 8).foldl (fun u k =>
          if u.get (GP_EVP_PIN k) == n && edgeSel (u.get (GP_EVP_EDGE k)) rising then u.emit (138 + k) else u) t
        tmPinEdge t n rising

/-- Is GPIOn an output with its supply up (R581, R588)? -/
def gpOutput (s : State) (n : Nat) : Bool := bitOf (s.get GP_DIR_DIR) n && !pinLost s n

/-- The outputs drive their pins: a pin whose level was another makes an edge (R588, R589; log entry 44). -/
def gpDrive (s : State) : State :=
  (List.range 24).foldl (fun t n => if gpOutput t n then gpEdge t n (bitOf (t.get GP_OUT_OUT) n) else t) s

/-- The outside moves the level of GPIOn, which it can while the pin is no output (R588). -/
def gpInput (s : State) (n : Nat) (rising : Bool) : State := if gpOutput s n then s else gpEdge s n rising

/-- GP event consumer `k`: ACT on GP_OUT[PIN] (R590). -/
def gpConsume (s : State) (k : Nat) : State :=
  let f := GP_OUT_OUT.bit (s.get (GP_EVC_PIN k))
  match s.get (GP_EVC_ACT k) with
  | 1 => s.set f 1
  | 2 => s.set f 0
  | 3 => s.set f (1 - s.get f)
  | _ => s

/-- The pin bits closed to a Non-secure access, in every GP register but the pads' (R591). -/
def gpHidden (s : State) (acc : Acc) : Word := if acc.ns then w32 (s.get GP_SEC_SEC) else 0

/-- Forbidden values of GP (R591, Table 21.8). -/
def gpBad (_s u : State) (a : Nat) : Bool :=
  let o := a % 0x10000
  if 0x40 ≤ o ∧ o < 0x60 then decide (23 < u.get (GP_EVP_PIN ((o - 0x40) / 4)))
  else if 0x60 ≤ o ∧ o < 0x80 then decide (23 < u.get (GP_EVC_PIN ((o - 0x60) / 4)))
  else if 0x100 ≤ o then u.get (GP_PAD_CFG_PULL ((o - 0x100) / 4)) == 3
  else false

/-- A write to the GP window (R588, R591). -/
def gpWrite (acc : Acc) (s : State) (a : Nat) (v : Word) : State × WriteEnd :=
  let o := a % 0x10000
  let h := gpHidden s acc
  if o = 0x08 then (s.setReg A_GP_OUT (s.reg A_GP_OUT ||| (v &&& ~~~ h &&& 0xFFFFFF)), .ok)
  else if o = 0x0C then (s.setReg A_GP_OUT (s.reg A_GP_OUT &&& ~~~ (v &&& ~~~ h)), .ok)
  else if o = 0x14 then fieldWrite s a (v &&& ~~~ h)
  else if 0x100 ≤ o ∧ bitOf h.toNat ((o - 0x100) / 4) then (s, .ok)
  else
    let r := fieldWrite s a (if o < 0x100 then (s.reg a &&& h) ||| (v &&& ~~~ h) else v)
    if !acc.staged && gpBad s r.1 a then (s, .ok) else r

/-- A read of the GP window (R588, R591). -/
def gpRead (acc : Acc) (s : State) (a : Nat) : Word :=
  let o := a % 0x10000
  let h := gpHidden s acc
  if o = 0 then w32 (gpIn s) &&& ~~~ h
  else if o = 0x08 ∨ o = 0x0C then 0
  else if o < 0x100 then s.reg a &&& ~~~ h
  else if 0x100 ≤ o ∧ bitOf h.toNat ((o - 0x100) / 4) then 0
  else s.reg a

/-- The level at COEX_GNT. -/
def State.setGnt (s : State) (level : Bool) : State := { s with pins := { s.pins with gnt := level } }

end Sys2Proof.Machine
end

