-- ==== Sys2Proof/Machine/Keccak.lean ====
section
/-! DEFINITION. Machine/Keccak.lean: SHA3-256, SHAKE128 and SHAKE256 of FIPS 202 (R363, R374 to R395; log entry 12). -/

namespace Sys2Proof.Machine

/-- A 64-bit lane rotated left. -/
def rotl64 (x n : Nat) : Nat := (x * 2 ^ n + x / 2 ^ (64 - n)) % 2 ^ 64

/-- Rotation offsets of lane x + 5y (ρ). -/
def keccakRot : List Nat :=
  [0, 1, 62, 28, 27, 36, 44, 6, 55, 20, 3, 10, 43, 25, 39, 41, 45, 15, 21, 8, 18, 2, 61, 56, 14]

/-- Round constants (ι). -/
def keccakRc : List Nat :=
  [0x0000000000000001, 0x0000000000008082, 0x800000000000808A, 0x8000000080008000, 0x000000000000808B,
   0x0000000080000001, 0x8000000080008081, 0x8000000000008009, 0x000000000000008A, 0x0000000000000088,
   0x0000000080008009, 0x000000008000000A] ++
  [0x000000008000808B, 0x800000000000008B, 0x8000000000008089, 0x8000000000008003, 0x8000000000008002,
   0x8000000000000080, 0x000000000000800A, 0x800000008000000A, 0x8000000080008081, 0x8000000000008080,
   0x0000000080000001, 0x8000000080008008]

/-- One round of Keccak-f[1600] on 25 lanes. -/
def keccakRound (a : List Nat) (rc : Nat) : List Nat :=
  let c := (List.range 5).map fun x =>
    a.getD x 0 ^^^ a.getD (x + 5) 0 ^^^ a.getD (x + 10) 0 ^^^ a.getD (x + 15) 0 ^^^ a.getD (x + 20) 0
  let d := (List.range 5).map fun x => c.getD ((x + 4) % 5) 0 ^^^ rotl64 (c.getD ((x + 1) % 5) 0) 1
  let a := (List.range 25).map fun i => rotl64 (a.getD i 0 ^^^ d.getD (i % 5) 0) (keccakRot.getD i 0)
  let b := (List.range 25).map fun i => a.getD ((i % 5 + 3 * (i / 5)) % 5 + 5 * (i % 5)) 0
  let e := (List.range 25).map fun i =>
    let y := i / 5 * 5
    b.getD i 0 ^^^ ((b.getD (y + (i + 1) % 5) 0 ^^^ (2 ^ 64 - 1)) &&& b.getD (y + (i + 2) % 5) 0)
  match e with
  | [] => []
  | x :: xs => (x ^^^ rc) :: xs

/-- Keccak-f[1600]. -/
def keccakF (a : List Nat) : List Nat := keccakRc.foldl keccakRound a

/-- Octets, eight at a time, as lanes. -/
def lanesOfBytes : Nat → List Byte → List Nat
  | 0, _ => []
  | k + 1, d => ((d.take 8).foldr (fun b n => b.toNat + 256 * n) 0) :: lanesOfBytes k (d.drop 8)

/-- Lanes as octets. -/
def bytesOfLanes (a : List Nat) : List Byte :=
  (a.map fun x => (List.range 8).map fun i => BitVec.ofNat 8 (x / 256 ^ i)).foldl (· ++ ·) []

/-- `n` blocks of `r` octets are absorbed. -/
def absorb (r : Nat) : Nat → List Byte → List Nat → List Nat
  | 0, _, a => a
  | n + 1, d, a =>
    let l := lanesOfBytes (r / 8) (d.take r)
    absorb r n (d.drop r) (keccakF ((List.range 25).map fun i => a.getD i 0 ^^^ l.getD i 0))

/-- `n` blocks of `r` octets are squeezed. -/
def squeeze (r : Nat) : Nat → List Nat → List Byte
  | 0, _ => []
  | n + 1, a => (bytesOfLanes a).take r ++ squeeze r n (keccakF a)

/-- The sponge with rate `r` octets and domain suffix `suf`: `n` octets out. -/
def sponge (r suf n : Nat) (d : List Byte) : List Byte :=
  let q := r - d.length % r
  let pad : List Byte :=
    if q = 1 then [BitVec.ofNat 8 (suf + 0x80)]
    else BitVec.ofNat 8 suf :: (List.replicate (q - 2) 0 ++ [0x80])
  let m := d ++ pad
  (squeeze r ((n + r - 1) / r) (absorb r (m.length / r) m (List.replicate 25 0))).take n

def sha3 (d : List Byte) : List Byte := sponge 136 0x06 32 d
def shake128 (n : Nat) (d : List Byte) : List Byte := sponge 168 0x1F n d
def shake256 (n : Nat) (d : List Byte) : List Byte := sponge 136 0x1F n d

end Sys2Proof.Machine
end

