-- ==== Sys2Proof/Machine/Mldsa.lean ====
section
/-! DEFINITION. Machine/Mldsa.lean: ML-DSA-44 of FIPS 204, which the spec names and does not restate (R365 to R368, R395; log
entry 13). Coefficients are naturals below q; the rejection samplers read the octets that FIPS 204, appendix C, bounds them by. -/

namespace Sys2Proof.Machine

/-! ### Parameters (FIPS 204, table 1) -/

abbrev dsaQ : Nat := 8380417
abbrev dsaGamma1 : Nat := 131072
abbrev dsaGamma2 : Nat := 95232
abbrev dsaBeta : Nat := 78
abbrev dsaTau : Nat := 39
abbrev dsaOmega : Nat := 80

/-- A polynomial: 256 coefficients. -/
abbrev Poly := List Nat

/-- The size of a coefficient modulo q. -/
def dsaAbs (x : Nat) : Nat := min (x % dsaQ) (dsaQ - x % dsaQ)

/-- Coefficient by coefficient. -/
def polyAdd (a b : Poly) : Poly := (a.zip b).map fun e => (e.1 + e.2) % dsaQ
def polySub (a b : Poly) : Poly := (a.zip b).map fun e => (e.1 + dsaQ - e.2) % dsaQ
def polyMul (a b : Poly) : Poly := (a.zip b).map fun e => e.1 * e.2 % dsaQ
def polyScale (k : Nat) (a : Poly) : Poly := a.map fun x => k * x % dsaQ
def polyNorm (a : Poly) : Nat := a.foldl (fun m x => max m (dsaAbs x)) 0

/-- The number `n` of `w` bits with its bits reversed. -/
def bitRev : Nat → Nat → Nat
  | 0, _ => 0
  | w + 1, n => n % 2 * 2 ^ w + bitRev w (n / 2)

/-- ζ to the power BitRev8(m) (FIPS 204, 7.5), and its inverse. -/
def dsaZeta (m : Nat) : Nat := 1753 ^ bitRev 8 m % dsaQ
def dsaZetaInv (m : Nat) : Nat := 1753 ^ (512 - bitRev 8 m) % dsaQ

/-- NTT (algorithm 41): `d` levels below node `m`. -/
def nttAt : Nat → Nat → Poly → Poly
  | 0, _, w => w
  | d + 1, m, w =>
    let lo := w.take (2 ^ d)
    let hi := polyScale (dsaZeta m) (w.drop (2 ^ d))
    nttAt d (2 * m) (polyAdd lo hi) ++ nttAt d (2 * m + 1) (polySub lo hi)

/-- The inverse (algorithm 42), before its factor 1/256. -/
def nttInvAt : Nat → Nat → Poly → Poly
  | 0, _, w => w
  | d + 1, m, w =>
    let lo := nttInvAt d (2 * m) (w.take (2 ^ d))
    let hi := nttInvAt d (2 * m + 1) (w.drop (2 ^ d))
    polyAdd lo hi ++ polyScale (dsaZetaInv m) (polySub lo hi)

def ntt (w : Poly) : Poly := nttAt 8 1 w
def nttInv (w : Poly) : Poly := polyScale 8347681 (nttInvAt 8 1 w)

/-- A matrix times a vector in the NTT domain. -/
def matMul (a : List (List Poly)) (v : List Poly) : List Poly :=
  a.map fun row => (row.zip v).foldl (fun s e => polyAdd s (polyMul e.1 e.2)) (List.replicate 256 0)

/-! ### Bits and octets (FIPS 204, 7.1, 7.2) -/

/-- The `n` low bits of `x`, least significant first. -/
def bitsLE : Nat → Nat → List Nat
  | 0, _ => []
  | n + 1, x => x % 2 :: bitsLE n (x / 2)

/-- Bits, least significant first, as a number. -/
def natOfBits (l : List Nat) : Nat := l.foldr (fun b n => b + 2 * n) 0

/-- The list cut into `k` pieces of `n`. -/
def pieces {α : Type} (n : Nat) : Nat → List α → List (List α)
  | 0, _ => []
  | k + 1, l => l.take n :: pieces n k (l.drop n)

/-- Coefficients of `w` bits as octets (SimpleBitPack), and back. -/
def packBits (w : Nat) (a : List Nat) : List Byte :=
  let bits := (a.map (bitsLE w)).flatten
  (pieces 8 (bits.length / 8) bits).map fun l => BitVec.ofNat 8 (natOfBits l)
def unpackBits (w n : Nat) (d : List Byte) : List Nat :=
  (pieces w n (d.map fun b => bitsLE 8 b.toNat).flatten).map natOfBits

/-- BitPack with upper bound `b`: `b` minus the coefficient in `w` bits; and back. -/
def packSigned (w b : Nat) (a : Poly) : List Byte := packBits w (a.map fun x => (b + dsaQ - x) % dsaQ)
def unpackSigned (w b : Nat) (d : List Byte) : Poly := (unpackBits w 256 d).map fun x => (b + dsaQ - x) % dsaQ

/-- HintBitPack (algorithm 20). -/
def packHint (h : List Poly) : List Byte :=
  let at_ := h.map fun p => (List.range 256).filter fun j => p.getD j 0 == 1
  let ends := (List.range 4).map fun i => (at_.take (i + 1)).flatten.length
  let idx := at_.flatten
  (idx ++ List.replicate (dsaOmega - idx.length) 0 ++ ends).map (BitVec.ofNat 8)

/-- Do the values rise strictly? -/
def rises : List Nat → Bool
  | x :: y :: l => decide (x < y) && rises (y :: l)
  | _ => true

/-- HintBitUnpack (algorithm 21); a malformed hint gives none. -/
def unpackHint (d : List Byte) : Option (List Poly) :=
  let v := d.map (·.toNat)
  let ends := (List.range 4).map fun i => v.getD (dsaOmega + i) 0
  let at_ := (List.range 4).map fun i =>
    let a := if i = 0 then 0 else ends.getD (i - 1) 0
    (v.drop a).take (ends.getD i 0 - a)
  if (0 :: ends).zip ends |>.all (fun e => decide (e.1 ≤ e.2) && decide (e.2 ≤ dsaOmega)) then
    if at_.all rises && ((v.take dsaOmega).drop (ends.getD 3 0)).all (· == 0) then
      some (at_.map fun l => (List.range 256).map fun j => if l.contains j then 1 else 0)
    else none
  else none

/-! ### Sampling (FIPS 204, 7.3) -/

/-- A polynomial in the NTT domain from SHAKE128 of a seed (algorithm 30). -/
def rejNtt (seed : List Byte) : Poly :=
  ((pieces 3 336 (shake128 1008 seed)).filterMap fun t =>
    let z := (t.getD 0 0).toNat + 256 * (t.getD 1 0).toNat + 65536 * ((t.getD 2 0).toNat % 128)
    if z < dsaQ then some z else none).take 256

/-- A polynomial with coefficients of -2 to 2 from SHAKE256 of a seed (algorithm 31). -/
def rejBounded (seed : List Byte) : Poly :=
  (((shake256 544 seed).map fun b => [b.toNat % 16, b.toNat / 16]).flatten.filterMap fun n =>
    if n < 15 then some ((2 + dsaQ - n % 5) % dsaQ) else none).take 256

/-- The challenge polynomial of a hash (algorithm 29). -/
def sampleInBall (h : List Byte) : Poly :=
  let d := shake256 272 h
  let sign := unpackBits 1 64 (d.take 8)
  let step := fun (r : Poly × List Byte) (k : Nat) =>
    let i := 256 - dsaTau + k
    let rest := r.2.dropWhile fun b => decide (i < b.toNat)
    let j := (rest.headD 0).toNat
    ((r.1.set i (r.1.getD j 0)).set j (if sign.getD k 0 = 1 then dsaQ - 1 else 1), rest.drop 1)
  ((List.range dsaTau).foldl step (List.replicate 256 0, d.drop 8)).1

/-- The matrix of a public seed (algorithm 32). -/
def expandA (rho : List Byte) : List (List Poly) :=
  (List.range 4).map fun r => (List.range 4).map fun s => rejNtt (rho ++ [BitVec.ofNat 8 s, BitVec.ofNat 8 r])

/-- The mask of a round (algorithm 34). -/
def expandMask (rho : List Byte) (kappa : Nat) : List Poly :=
  (List.range 4).map fun r =>
    let n := kappa + r
    unpackSigned 18 dsaGamma1 (shake256 576 (rho ++ [BitVec.ofNat 8 n, BitVec.ofNat 8 (n / 256)]))

/-! ### Rounding (FIPS 204, 7.4) -/

/-- Power2Round: the high part and the low part modulo q. -/
def powerRound (x : Nat) : Nat × Nat :=
  let lo := x % 8192
  if lo ≤ 4096 then (x / 8192, lo) else (x / 8192 + 1, lo + dsaQ - 8192)

/-- Decompose: the high part and the low part modulo q. -/
def decompose (x : Nat) : Nat × Nat :=
  let r := x % (2 * dsaGamma2)
  let (hi, lo) := if r ≤ dsaGamma2 then (x - r, r) else (x - r + 2 * dsaGamma2, r + dsaQ - 2 * dsaGamma2)
  if hi = dsaQ - 1 then (0, (lo + dsaQ - 1) % dsaQ) else (hi / (2 * dsaGamma2), lo)

/-- MakeHint and UseHint. -/
def makeHint (z r : Nat) : Nat := if (decompose r).1 = (decompose ((r + z) % dsaQ)).1 then 0 else 1
def useHint (h r : Nat) : Nat :=
  let (hi, lo) := decompose r
  if h = 0 then hi else if 0 < lo ∧ lo ≤ dsaGamma2 then (hi + 1) % 44 else (hi + 43) % 44

/-- The high parts as octets (w1Encode). -/
def encodeW1 (w : List Poly) : List Byte := (w.map fun p => packBits 6 p).flatten

/-! ### Keys, signing and verifying (FIPS 204, algorithms 6 to 8) -/

/-- What KeyGen_internal makes of a seed: public key, K, tr, s1, s2, t0. -/
structure DsaKey where
  pk : List Byte
  k : List Byte
  tr : List Byte
  s1 : List Poly
  s2 : List Poly
  t0 : List Poly

def dsaKeyGen (seed : List Byte) : DsaKey :=
  let h := shake256 128 (seed ++ [4, 4])
  let rho := h.take 32
  let s := (List.range 8).map fun r => rejBounded ((h.drop 32).take 64 ++ [BitVec.ofNat 8 r, 0])
  let t := ((matMul (expandA rho) ((s.take 4).map ntt)).zip (s.drop 4)).map fun e => polyAdd (nttInv e.1) e.2
  let pk := rho ++ (t.map fun p => packBits 10 (p.map fun x => (powerRound x).1)).flatten
  { pk := pk, k := h.drop 96, tr := shake256 64 pk, s1 := s.take 4, s2 := s.drop 4,
    t0 := t.map fun p => p.map fun x => (powerRound x).2 }

/-- The message representative of pure ML-DSA with a context string (algorithms 2 and 3). -/
def dsaMu (tr ctx msg : List Byte) : List Byte := shake256 64 (tr ++ [0, BitVec.ofNat 8 ctx.length] ++ ctx ++ msg)

/-- One round of signing: the signature, or none where the round is rejected. -/
def dsaRound (key : DsaKey) (a : List (List Poly)) (mu rho : List Byte) (kappa : Nat) : Option (List Byte) :=
  let y := expandMask rho kappa
  let w := (matMul a (y.map ntt)).map nttInv
  let ct := shake256 32 (mu ++ encodeW1 (w.map fun p => p.map fun x => (decompose x).1))
  let c := ntt (sampleInBall ct)
  let times := fun v : List Poly => v.map fun p => nttInv (polyMul c (ntt p))
  let z := (y.zip (times key.s1)).map fun e => polyAdd e.1 e.2
  let r := (w.zip (times key.s2)).map fun e => polySub e.1 e.2
  let ct0 := times key.t0
  if z.any (fun p => decide (dsaGamma1 - dsaBeta ≤ polyNorm p)) ||
      r.any (fun p => decide (dsaGamma2 - dsaBeta ≤ polyNorm (p.map fun x => (decompose x).2))) then none
  else
    let h := (ct0.zip r).map fun e => (e.1.zip e.2).map fun x => makeHint ((dsaQ - x.1) % dsaQ) ((x.2 + x.1) % dsaQ)
    if ct0.any (fun p => decide (dsaGamma2 ≤ polyNorm p)) || decide (dsaOmega < (h.flatten.filter (· == 1)).length) then none
    else some (ct ++ (z.map (packSigned 18 dsaGamma1)).flatten ++ packHint h)

/-- At most `n` rounds of signing from `kappa` on: how many were rejected, and the signature if one was not. -/
def dsaRounds (key : DsaKey) (a : List (List Poly)) (mu rho : List Byte) : Nat → Nat → Nat × Option (List Byte)
  | 0, _ => (0, none)
  | n + 1, kappa =>
    match dsaRound key a mu rho kappa with
    | some s => (0, some s)
    | none => let r := dsaRounds key a mu rho n (kappa + 4); (r.1 + 1, r.2)

/-- The octets of the public key of a seed. -/
def mldsaPk (seed : List Byte) : List Byte := (dsaKeyGen seed).pk

/-- A signature by the private key of a seed, with random input, message and context string, in at most `most` rounds: the
rounds rejected, and the signature where one was accepted (R365 to R367). -/
def mldsaSign (most : Nat) (seed rnd msg ctx : List Byte) : Nat × Option (List Byte) :=
  let key := dsaKeyGen seed
  let mu := dsaMu key.tr ctx msg
  dsaRounds key (expandA (key.pk.take 32)) mu (shake256 64 (key.k ++ rnd ++ mu)) most 0

/-- Does a signature verify (R368)? -/
def mldsaVerify (pk msg ctx sig : List Byte) : Bool :=
  match unpackHint (sig.drop 2336) with
  | none => false
  | some h =>
    let z := (pieces 576 4 (sig.drop 32)).map (unpackSigned 18 dsaGamma1)
    let t1 := (pieces 320 4 (pk.drop 32)).map (unpackBits 10 256)
    let mu := dsaMu (shake256 64 pk) ctx msg
    let c := ntt (sampleInBall (sig.take 32))
    let w := ((matMul (expandA (pk.take 32)) (z.map ntt)).zip t1).map fun e =>
      nttInv (polySub e.1 (polyMul c (ntt (polyScale 8192 e.2))))
    let w1 := (h.zip w).map fun e => (e.1.zip e.2).map fun x => useHint x.1 x.2
    z.all (fun p => decide (polyNorm p < dsaGamma1 - dsaBeta)) && shake256 32 (mu ++ encodeW1 w1) == sig.take 32

end Sys2Proof.Machine
end

