-- ==== Sys2Proof/Machine/Pq.lean ====
section
/-! DEFINITION. Machine/Pq.lean: the signature and hash unit, its entropy source, the device identity and the OTP
operations (R362 to R381). -/

namespace Sys2Proof.Machine

/-! ### The identity area of OTP (R375 to R378) -/

/-- Codes of PQ_Jc_STAT (Table 12.15). -/
abbrev pqDone : Nat := 1
abbrev pqReject : Nat := 2
abbrev pqLength : Nat := 3
abbrev pqNoKey : Nat := 4
abbrev pqBus : Nat := 5
abbrev pqAborted : Nat := 6
abbrev pqDisabled : Nat := 7
abbrev pqParam : Nat := 8
abbrev pqDenied : Nat := 9
abbrev pqEntropy : Nat := 0xA
abbrev pqLimit : Nat := 0xB

/-- States of PQ_ENT_STAT (Table 12.12). -/
abbrev entStartup : Nat := 1
abbrev entOk : Nat := 2
abbrev entFail : Nat := 3

/-- Addresses of Table 12.4. -/
abbrev otpSeed : Nat := 0x1FFF1000
abbrev otpCert : Nat := 0x1FFF1020
abbrev otpRevoke : Nat := 0x1FFF1A80
abbrev otpOkh (k : Nat) : Nat := 0x1FFF1A00 + 32 * k
abbrev otpArb (k : Nat) : Nat := 0x1FFF1B00 + 8 * k

def allZero (l : List Byte) : Bool := l.all (· == 0)

/-- Was the slot at `a` damaged by a supply loss (R378, R380)? -/
def otpDamaged (s : State) (a : Nat) : Bool := s.fl.otpBad.contains a

/-- Is owner slot `k` EMPTY, REVOKED, PROGRAMMED (R377)? -/
def okhEmpty (s : State) (k : Nat) : Bool := allZero (s.bytes (otpOkh k) 32) && !otpDamaged s (otpOkh k)
def okhRevoked (s : State) (k : Nat) : Bool := bitOf (s.byte otpRevoke).toNat k
def okhProgrammed (s : State) (k : Nat) : Bool := !okhEmpty s k && !okhRevoked s k

/-- Is anti-rollback slot `k` used; the highest-numbered used slot that reads without error; the first unused slot
(R378, R379). -/
def arbUsed (s : State) (k : Nat) : Bool := !allZero (s.bytes (otpArb k) 8) || otpDamaged s (otpArb k)
def arbValue (s : State) : Nat :=
  match (List.range 64).reverse.find? fun k => arbUsed s k && !otpDamaged s (otpArb k) with
  | some k => leNat (s.bytes (otpArb k) 8)
  | none => 0
def arbFree (s : State) : Option Nat := (List.range 64).find? fun k => !arbUsed s k

/-- Bits 0 to 3 where `p` holds. -/
def fourBits (p : Nat → Bool) : Nat := b2n (p 0) + 2 * b2n (p 1) + 4 * b2n (p 2) + 8 * b2n (p 3)

/-! ### Jobs (R362 to R372) -/

def State.pqJob (s : State) (c : Nat) : PqJob := s.pq.jobs.getD c .reset
def State.updPqJob (s : State) (c : Nat) (f : PqJob → PqJob) : State :=
  { s with pq := { s.pq with jobs := updAt s.pq.jobs c f } }

/-- The seed of the private key that KSEL names (R364). -/
def pqKey (s : State) (ksel : Bool) : Option (List Byte) := if ksel then s.pq.pk1 else s.pq.pk0

/-- START (R362, R355, R358). -/
def pqStart (s : State) (c : Nat) (ns : Bool) : State :=
  let st := s.get (PQ_J_STAT_STATE c)
  if !s.on PQ_CTL_EN || st == jbQueued || st == jbRun then s.raise PQ_INT_STAT_BADCMD
  else
    let s := s.updPqJob c fun _ => { PqJob.reset with ns := ns }
    let s := ((s.set (PQ_J_STAT_STATE c) jbQueued).set (PQ_J_STAT_CODE c) 0).set (PQ_J_STAT_ABORT_LATE c) 0
    let s := s.set (PQ_J_STAT_ROUNDS c) 0
    { s with pq := { s.pq with queue := s.pq.queue ++ [c] } }

/-- A queue of contexts with those that joined it since it was `old` in ascending order (R355). -/
def startOrder (old new : List Nat) : List Nat :=
  new.filter old.contains ++ (List.range 4).filter fun c => new.contains c && !old.contains c

/-- The contexts that were started since `old`, in one handshake, queue in ascending order (R355, R362). -/
def startsInOrder (old s : State) : State :=
  { s with ce := { s.ce with queue := startOrder old.ce.queue s.ce.queue }
           pq := { s.pq with queue := startOrder old.pq.queue s.pq.queue } }

/-- PK1 is zeroed (R369). -/
def pqZeroPk1 (s : State) : State :=
  ({ s with pq := { s.pq with pk1 := none, clear1 := false } } : State).set PQ_STATUS_PK1V 0

/-- Does a running job use PK1 (R369)? -/
def pk1InUse (s : State) : Bool :=
  (List.range 4).any fun c => s.get (PQ_J_STAT_STATE c) == jbRun &&
    ((s.pqJob c).mode == 1 || ((s.pqJob c).ksel && ((s.pqJob c).mode == 2 || (s.pqJob c).mode == 8)))

/-- CLEAR1 (R369). -/
def pqClear1 (s : State) : State :=
  if pk1InUse s then { s with pq := { s.pq with clear1 := true } } else pqZeroPk1 s

/-- A job ends with a code. -/
def pqEnd (s : State) (c code : Nat) : State :=
  let s := { s with pq := { s.pq with queue := s.pq.queue.filter (· != c) } }
  let s := (s.ledgerStop (.pq c)).updPqJob c fun _ => PqJob.reset
  let s := (s.set (PQ_J_STAT_STATE c) jbEnd).set (PQ_J_STAT_CODE c) code
  let s := (if code = pqDone then s.raiseBit PQ_INT_STAT_DONE c else s.raiseBit PQ_INT_STAT_ERR c).emit (92 + c)
  if s.pq.clear1 && !pk1InUse s then pqZeroPk1 s else s

/-- The parameters of context `c` as its registers hold them. -/
def pqParams (s : State) (c : Nat) : PqJob :=
  { s.pqJob c with
    mode := s.get (PQ_J_CTL_MODE c), ksel := s.on (PQ_J_CTL_KSEL c), seedm := s.on (PQ_J_CTL_SEEDM c)
    det := s.on (PQ_J_CTL_DET c), src := s.get (PQ_J_SRC_ADDR c), dst := s.get (PQ_J_DST_ADDR c)
    sig := s.get (PQ_J_SIG_ADDR c), pk := s.get (PQ_J_PK_ADDR c), ctxa := s.get (PQ_J_CTXA_ADDR c)
    ctxl := s.get (PQ_J_OLEN_CTXL c), mlen := s.get (PQ_J_MLEN_MLEN c), olen := s.get (PQ_J_OLEN_OLEN c)
    now := s.now }

/-- The input ranges of a job (Table 12.1). -/
def pqInputs (j : PqJob) : List (Nat × Nat) :=
  match j.mode with
  | 1 => if j.seedm then [(j.src, 32)] else []
  | 2 => [(j.src, j.mlen), (j.ctxa, j.ctxl)]
  | 3 => [(j.src, j.mlen), (j.ctxa, j.ctxl), (j.pk, 1312), (j.sig, 2420)]
  | 7 => [(j.src, 32)]
  | 8 => []
  | _ => [(j.src, j.mlen)]

/-- The octets a job writes at DST (Table 12.1). -/
def pqOutLen (j : PqJob) : Nat :=
  match j.mode with
  | 1 => 1312
  | 2 => 2420
  | 3 => 0
  | 4 => 32
  | 7 => 2536
  | 8 => 1312
  | _ => j.olen

/-- Check 1 of R364. -/
def pqBadMode (s : State) (j : PqJob) : Bool :=
  decide (j.mode < 1) || decide (8 < j.mode) || (j.det && (j.mode != 2 || !s.on PQ_CTL_DETOK))

/-- Check 2 of R364: is the mode Secure (Table 12.1)? -/
def pqSecure (mode : Nat) : Bool := mode == 1 || mode == 2 || mode == 7

/-- Check 3 of R364. -/
def pqBadLength (j : PqJob) : Bool :=
  decide (4194304 < j.mlen) || ((j.mode == 5 || j.mode == 6) && j.olen == 0)

/-- Check 4 of R364. -/
def pqBadRange (j : PqJob) : Bool :=
  (pqInputs j).any (fun r => !(inFlash r.1 r.2 || inSram r.1 r.2) || overlap j.dst (pqOutLen j) r.1 r.2) ||
    !inSram j.dst (pqOutLen j)

/-- Check 5 of R364: the key the job uses, where it uses one. -/
def pqNeeds (j : PqJob) : Option Bool :=
  match j.mode with
  | 2 => some j.ksel
  | 8 => some j.ksel
  | 7 => some false
  | _ => none

/-- Does the job take a word of the entropy source (R363, R366, R381)? -/
def pqHedged (j : PqJob) : Bool :=
  (j.mode == 1 && !j.seedm) || (j.mode == 2 && !j.det) || j.mode == 7

/-- POOL shows the pool. -/
def poolSync (s : State) : State := s.set PQ_ENT_STAT_POOL s.pq.pool.length

/-- A running job that waits for a word takes the first of the pool (R366). -/
def pqTakeWord (s : State) (c : Nat) : State :=
  match s.pq.pool with
  | w :: rest => poolSync (({ s with pq := { s.pq with pool := rest } } : State).updPqJob c fun j => { j with rnd := some w })
  | [] => s

/-- Does the running job of context `c` wait for a word? -/
def pqWaits (s : State) (c : Nat) : Bool :=
  s.get (PQ_J_STAT_STATE c) == jbRun && pqHedged (s.pqJob c) && (s.pqJob c).rnd.isNone

/-- The head of the queue enters the datapath (R362, R364, R366). -/
def pqJobRun (s : State) (c : Nat) : State :=
  if s.get (PQ_J_STAT_STATE c) ≠ jbQueued ∨ s.pq.queue.head? ≠ some c ∨
      (List.range 4).any (fun k => s.get (PQ_J_STAT_STATE k) == jbRun) then s
  else
    let r := s.ledgerStart (.pq c)
    let s := r.2
    if !r.1 then s
    else
      let j := pqParams s c
      let key := (pqNeeds j).map (pqKey s)
      if pqBadMode s j then pqEnd s c pqParam
      else if pqSecure j.mode && j.ns then pqEnd s c pqDenied
      else if pqBadLength j then pqEnd s c pqLength
      else if pqBadRange j then pqEnd s c pqParam
      else if key == some none then pqEnd s c pqNoKey
      else if pqHedged j && s.get PQ_ENT_STAT_STATE == entFail then pqEnd s c pqEntropy
      else
        let s := s.updPqJob c fun _ =>
          { j with key := (key.getD none).getD [], reach := refusedAt s j.ns j.dst (pqOutLen j) }
        let s := { s with pq := { s.pq with queue := s.pq.queue.filter (· != c) } }
        let s := s.set (PQ_J_STAT_STATE c) jbRun
        if pqHedged j then pqTakeWord s c else s

/-- ASCII octets. -/
def ascii (t : List Char) : List Byte := t.map fun c => BitVec.ofNat 8 c.toNat

/-- A register's octets, least significant first. -/
def regLE (s : State) (a n : Nat) : List Byte :=
  ((List.range n).map fun k => natLE 4 (s.reg (a + 4 * k)).toNat).foldl (· ++ ·) []

/-- The attestation report (Table 12.6). -/
def pqReport (s : State) (j : PqJob) : List Byte :=
  [0x01, BitVec.ofNat 8 s.profile]
    ++ natLE 2 (s.get PQ_ID_STAT_DKEY + 2 * b2n (s.get PQ_ENT_STAT_STATE == entOk) + 4 * s.get PQ_CTL_DETOK
        + 8 * s.get PQ_CTL_OTP_EN)
    ++ regLE s A_BT_CHIP_ID 1 ++ regLE s A_LS_EUI_LO 2 ++ s.bytes (otpCert + 4) 8 ++ regLE s (A_PQ_MBD 0) 8
    ++ s.bytes j.src 32 ++ regLE s A_PQ_ARB_LO 2 ++ regLE s A_PQ_ARB_IMG_LO 2 ++ natLE 8 j.now
    ++ [BitVec.ofNat 8 (fourBits (okhProgrammed s) + 16 * fourBits (okhRevoked s)),
        BitVec.ofNat 8 (s.get PQ_ID_STAT_BKEY), 0, 0]

/-- The random input of a signature (R366). -/
def pqRandom (j : PqJob) : List Byte := if pqHedged j then j.rnd.getD [] else List.replicate 32 0

/-- PQ_CFG.MAXR, the rounds after which a SIGN ends (R367); 0 ends it with the first (DESIGN CHOICE, log entry 59). -/
def pqMaxr (s : State) : Nat := max 1 (s.get PQ_CFG_MAXR)

/-- The context string of an attestation (R381). -/
def attestContext : List Byte := ascii ['S', 'V', '8', '8', '-', 'A', 'T', 'T', 'E', 'S', 'T']

/-- The signature that a SIGN or an ATTEST makes: the rounds it rejects, and the signature where one of MAXR is accepted (R365 to
R367). -/
def pqSigned (s : State) (j : PqJob) : Nat × Option (List Byte) :=
  if j.mode = 2 then mldsaSign (pqMaxr s) j.key (pqRandom j) (s.bytes j.src j.mlen) (s.bytes j.ctxa j.ctxl)
  else if j.mode = 7 then mldsaSign (pqMaxr s) j.key (pqRandom j) (pqReport s j) attestContext
  else (0, none)

/-- The octets a job writes at DST (Table 12.1). -/
def pqOutput (s : State) (j : PqJob) : List Byte :=
  let msg := s.bytes j.src j.mlen
  match j.mode with
  | 1 => mldsaPk (if j.seedm then s.bytes j.src 32 else j.rnd.getD [])
  | 2 => (pqSigned s j).2.getD []
  | 3 => []
  | 4 => sha3 msg
  | 5 => shake128 j.olen msg
  | 6 => shake256 j.olen msg
  | 7 => pqReport s j ++ (pqSigned s j).2.getD []
  | _ => mldsaPk j.key

/-- A running job of context `c` stops before its completion point, with `code`: the DST octets it has written are zeroed, no
more than `most` of them and none from the first refused one on; how many it had written is open. Where one cannot be zeroed,
the code is BUS (R347, R353, R357, R372). A job that waits for its word has written none (R366). -/
def pqStop (s : State) (c code most : Nat) : State :=
  let j := s.pqJob c
  let most := if pqWaits s c then 0 else min most (max j.reach (refusedAt s j.ns j.dst (pqOutLen j)))
  let (x, s) := s.fresh
  let r := zeroOut s j.ns j.dst (min most (x.toNat % max 1 (pqOutLen j + b2n (j.mode == 1))))
  pqEnd r.2 c (if r.1 then pqBus else code)

/-- Each rejected round counts in ROUNDS, which saturates (R367). -/
def pqRounds (s : State) (c n : Nat) : State := s.set (PQ_J_STAT_ROUNDS c) (min n 255)

/-- A running job ends (R367 to R371), with BUS where an access failed, `rounds` of its rounds having been rejected by then. It
does not end while it waits for a word, for a flash bank or a scan, or is paused at throttle level 2 (R366, R44, R469, R567). An
ATTEST that reaches the limit of rounds zeroes the report it has written (R372, R381; DEDUCED, log entry 59). -/
def pqJobEnd (s : State) (c rounds : Nat) (bus : Bool) : State :=
  let j := s.pqJob c
  let done := refusedAt s j.ns j.dst (pqOutLen j)
  let waits := memBusy s j.dst (pqOutLen j) || (pqInputs j).any fun r => memBusy s r.1 r.2
  if s.get (PQ_J_STAT_STATE c) ≠ jbRun ∨ s.get PM_STAT_LEVEL = 2 ∨ pqWaits s c ∨ waits then s
  else if bus || (pqInputs j).any (fun r => jobRefused s j.ns r.1 r.2) then
    pqStop (pqRounds s c (min rounds (pqSigned s j).1)) c pqBus (pqOutLen j)
  else if j.mode = 7 ∧ done < 116 then pqEnd (zeroOut s j.ns j.dst done).2 c pqBus
  else
    let sign := j.mode == 2 || j.mode == 7
    let made := pqSigned s j
    let s := if sign then pqRounds s c made.1 else s
    if sign && made.2.isNone then pqEnd (if j.mode = 7 then (zeroOut s j.ns j.dst 116).2 else s) c pqLimit
    else if done < pqOutLen j then pqEnd (zeroOut s j.ns j.dst done).2 c pqBus
    else if j.mode = 3 then
      let ok := mldsaVerify (s.bytes j.pk 1312) (s.bytes j.src j.mlen) (s.bytes j.ctxa j.ctxl) (s.bytes j.sig 2420)
      pqEnd s c (if ok then pqDone else pqReject)
    else
      let seed := if j.seedm then s.bytes j.src 32 else j.rnd.getD []
      let out := pqOutput s j
      let s := (s.setBytes j.dst out).breakReservations none j.dst out.length
      let s := if j.mode = 1 then ({ s with pq := { s.pq with pk1 := some seed } } : State).set PQ_STATUS_PK1V 1 else s
      pqEnd s c pqDone

/-- ABORT, and what PQ_CTL.EN and a core restart do to a context (R372, R357 to R359). How many rounds had been rejected is
open (R367; log entry 59). -/
def pqAbort (s : State) (c code : Nat) : State :=
  let st := s.get (PQ_J_STAT_STATE c)
  if st = jbQueued then pqEnd s c code
  else if st = jbRun then
    let (x, t) := s.fresh
    pqStop (pqRounds t c (if pqWaits s c then 0 else x.toNat % ((pqSigned s (s.pqJob c)).1 + 1))) c code (pqOutLen (s.pqJob c))
  else if code = pqAborted then s.set (PQ_J_STAT_ABORT_LATE c) 1
  else s

/-- PQ_CTL.EN is cleared (R372). -/
def pqDisable (s : State) : State :=
  ((List.range 4).foldl (fun t c => pqAbort t c pqDisabled) s).set PQ_CTL_EN_ACK 0

/-! ### The entropy source (R373, R374) -/

/-- A health test fails (R374): the repetition count test, or else the adaptive proportion test. A job that waits for a word then
finds the source in FAIL and ends with ENTROPY. -/
def entropyFail (s : State) (rct : Bool) : State :=
  if s.get PQ_ENT_STAT_STATE = entFail ∨ !s.awake then s
  else
    let s := poolSync { s with pq := { s.pq with pool := [] } }
    let s := ((s.set PQ_ENT_STAT_STATE entFail).set PQ_ENT_STAT_RCT (b2n rct)).set PQ_ENT_STAT_APT (b2n !rct)
    let s := ((s.bump PQ_ENT_CNT_FAILS).raise PQ_INT_STAT_ENT_FAIL).fault 0xD (if rct then 1 else 2) 0
    match (List.range 4).find? (pqWaits s) with
    | some c => pqEnd s c pqEntropy
    | none => s

/-- Raw bits in the order they come; of each octet the least significant first (DESIGN CHOICE, log entry 64). -/
def rawBits (raw : List Byte) : List Bool := (raw.map fun b => (List.range 8).map (bitOf b.toNat)).flatten

/-- The longest and the last run of identical bits when `bits` follow `n` bits of value `b` (R373). -/
def longestRun (n : Nat) (b : Bool) (bits : List Bool) : Nat × Nat × Bool :=
  bits.foldl (fun r x => let k := if x == r.2.2 then r.2.1 + 1 else 1; (max r.1 k, k, x)) (n, n, b)

/-- The 1,024 raw bits of a word pass the tests, or one of them fails (R373, R374); a word is made where the pool has room. No
bits come outside OK, or asleep; the window of the adaptive proportion test is the word's (DESIGN CHOICE, log entry 64). -/
def entropyWord (s : State) (raw : List Byte) : State :=
  if s.get PQ_ENT_STAT_STATE ≠ entOk ∨ !s.awake then s
  else
    let bits := rawBits raw
    let run := longestRun s.pq.run s.pq.runBit bits
    let ones := (bits.filter id).length
    let s := { s with pq := { s.pq with run := run.2.1, runBit := run.2.2 } }
    if 41 ≤ run.1 then entropyFail s true
    else if 800 ≤ ones ∨ ones + 800 ≤ bits.length then entropyFail s false
    else if 4 ≤ s.pq.pool.length then s
    else
      let s := poolSync { s with pq := { s.pq with pool := s.pq.pool ++ [sha3 raw] } }
      let s := s.bump PQ_ENT_CNT_WORDS
      match (List.range 4).find? (pqWaits s) with
      | some c => pqTakeWord s c
      | none => s

/-- RESTART (R373). -/
def entropyRestart (s : State) : State :=
  ({ s with pq := { s.pq with run := 0, runBit := false } } : State).set PQ_ENT_STAT_STATE entStartup

/-- The start-up test passes (R373). -/
def startupTestEnd (s : State) : State :=
  if s.get PQ_ENT_STAT_STATE = entStartup ∧ s.awake then s.set PQ_ENT_STAT_STATE entOk else s

/-! ### OTP operations (R379, R380) -/

/-- RESULT of Table 12.14. -/
abbrev otpDone : Nat := 1
abbrev otpNotEmpty : Nat := 2
abbrev otpNotProg : Nat := 3
abbrev otpLastKey : Nat := 4
abbrev otpBadArb : Nat := 5
abbrev otpArbFull : Nat := 6
abbrev otpBadArg : Nat := 7

/-- The refusal of an OTP operation, or what it writes (Table 12.8). -/
def otpCheck (s : State) (op idx : Nat) : Nat × OtpOp :=
  let none' : OtpOp := { addr := 0, data := [], started := false }
  match op with
  | 1 =>
    let h := s.bytes (s.get PQ_OTP_SRC_ADDR) 32
    if !okhEmpty s idx then (otpNotEmpty, none')
    else if !inSram (s.get PQ_OTP_SRC_ADDR) 32 || allZero h then (otpBadArg, none')
    else (0, { addr := otpOkh idx, data := h, started := false })
  | 2 =>
    if !okhProgrammed s idx then (otpNotProg, none')
    else if !(List.range 4).any (fun k => k != idx && okhProgrammed s k) then (otpLastKey, none')
    else (0, { addr := otpRevoke, data := natLE 4 (leNat (s.bytes otpRevoke 4) + 2 ^ idx), started := false })
  | _ =>
    let arg := s.get64 PQ_OTP_ARG_LO_ARG PQ_OTP_ARG_HI_ARG
    if arg ≤ arbValue s ∨ s.get64 PQ_ARB_IMG_LO_IMG PQ_ARB_IMG_HI_IMG < arg then (otpBadArb, none')
    else
      match arbFree s with
      | none => (otpArbFull, none')
      | some k => (0, { addr := otpArb k, data := natLE 8 arg, started := false })

/-- An OTP operation that waits starts once no flash operation runs and the ledger admits it (R42, R379). -/
def otpStart (s : State) : State :=
  match s.pq.otp with
  | none => s
  | some o =>
    if o.started || decide (2 ≤ s.get FL_STAT_STATE) then s
    else
      let r := s.ledgerStart .prog
      if r.1 then { r.2 with pq := { r.2.pq with otp := some { o with started := true } } } else r.2

/-- An OTP operation ends with its RESULT. -/
def otpFinish (s : State) (result : Nat) : State :=
  ((s.set PQ_OTP_CMD_RESULT result).set PQ_OTP_CMD_BUSY 0).raise PQ_INT_STAT_OTP_DONE

/-- OTP operation `op` on slot `idx` (R379, Table 12.8). -/
def otpCommand (s : State) (op idx : Nat) : State :=
  if s.on PQ_OTP_CMD_BUSY then s.raise PQ_INT_STAT_BADCMD
  else
    let s := (s.set PQ_OTP_CMD_IDX idx).set PQ_OTP_CMD_RESULT 0
    match otpCheck s op idx with
    | (0, o) => otpStart (({ s with pq := { s.pq with otp := some o } } : State).set PQ_OTP_CMD_BUSY 1)
    | (r, _) => otpFinish s r

/-- A running OTP operation ends with DONE: its octets are written, and PQ_ARB follows the anti-rollback value
(R378, R379). -/
def otpOpEnd (s : State) : State :=
  match s.pq.otp with
  | none => s
  | some o =>
    if !o.started then s
    else
      let s := ((({ s with pq := { s.pq with otp := none } } : State).clearX o.addr o.data.length).setBytes o.addr o.data).ledgerStop .prog
      otpFinish (s.set64 PQ_ARB_LO_ARB PQ_ARB_HI_ARB (arbValue s)) otpDone

/-! ### The register window -/

/-- A write to the PQ window. -/
def pqWrite (acc : Acc) (s : State) (a : Nat) (v : Word) : State × WriteEnd :=
  let o := a % 0x10000
  if 0x100 ≤ o ∧ o < 0x200 then
    let c := (o - 0x100) / 0x40
    if !(acc.image || acc.core == c) then (s.raise PQ_INT_STAT_FOREIGN, .berrFree)
    else
      let r := fieldWrite s a v
      if o % 0x40 = 0 then
        let t := if bitOf v.toNat 0 then pqStart r.1 c acc.ns else r.1
        (if bitOf v.toNat 1 then pqAbort t c pqAborted else t, r.2)
      else r
  else if a = A_PQ_CTL then
    let r := fieldWrite s a v
    (if s.on PQ_CTL_EN && !r.1.on PQ_CTL_EN then pqDisable r.1
     else if r.1.on PQ_CTL_EN then r.1.set PQ_CTL_EN_ACK 1 else r.1, r.2)
  else if a = A_PQ_PK_CMD then
    secureWrite acc none s fun s => (if bitOf v.toNat 0 then pqClear1 s else s, .ok)
  else if a = A_PQ_ENT_CTL then (if bitOf v.toNat 0 then entropyRestart s else s, .ok)
  else if a = A_PQ_OTP_CMD then
    secureWrite acc (some PQ_INT_STAT_FOREIGN) s fun s =>
      if !s.on PQ_CTL_OTP_EN then (s.raise PQ_INT_STAT_FOREIGN, .ok)
      else if v.toNat % 4 = 0 then fieldWrite s a v
      else (otpCommand s (v.toNat % 4) (v.toNat / 16 % 4), .ok)
  else if a = A_PQ_OTP_SRC ∨ a = A_PQ_OTP_ARG_LO ∨ a = A_PQ_OTP_ARG_HI then
    secureWrite acc none s fun s => fieldWrite s a v
  else fieldWrite s a v

/-- A read of the PQ window (Tables 12.10 and 12.13). -/
def pqRead (s : State) (a : Nat) : Word :=
  if a = A_PQ_STATUS then
    w32 (s.get PQ_STATUS_PK1V * 256 + fourBits (fun c => s.get (PQ_J_STAT_STATE c) == jbQueued) * 16
      + fourBits (fun c => s.get (PQ_J_STAT_STATE c) == jbRun))
  else if a = A_PQ_ID_STAT then
    w32 (s.get PQ_ID_STAT_DKEY * 0x2000 + s.get PQ_ID_STAT_BKV * 0x1000 + s.get PQ_ID_STAT_BKEY * 0x400
      + fourBits (okhRevoked s) * 16 + fourBits (fun k => !okhEmpty s k))
  else s.reg a

end Sys2Proof.Machine
end

