-- ==== Sys2Proof/Machine/Serial.lean ====
section
/-! DEFINITION. Machine/Serial.lean: serial ports SP0 and SP1 (R491 to R515). -/

namespace Sys2Proof.Machine

/-- States of SPx_STAT.STATE (Table 17.6). -/
abbrev spIdle : Nat := 0
abbrev spRun : Nat := 1
abbrev spPaused : Nat := 2
abbrev spStalled : Nat := 3
abbrev spSelected : Nat := 4
abbrev spWindow : Nat := 5

/-- Codes of SPx_STAT.CODE (Table 17.6). -/
abbrev spDone : Nat := 1
abbrev spAborted : Nat := 2
abbrev spTimeout : Nat := 3
abbrev spDisabled : Nat := 4

def State.port (s : State) (x : Nat) : PortS := s.sp.getD x .reset
def State.updPort (s : State) (x : Nat) (f : PortS → PortS) : State := { s with sp := updAt s.sp x f }

/-- A word pushed into the receive FIFO; EVP147 or EVP149 where the level rises to the threshold (R515). -/
def spPushRx (s : State) (x : Nat) (v : Word) : State :=
  let t := s.updPort x fun p => { p with rx := p.rx ++ [v] }
  if (t.port x).rx.length = max 1 (s.get (SP_FIFOCFG_RXTHR x)) then t.emit (147 + 2 * x) else t

/-- The low WLEN + 1 bits of a word (R492). -/
def spTrim (s : State) (x : Nat) (v : Word) : Word := w32 (v.toNat % 2 ^ (s.get (SP_FMT_WLEN x) + 1))

/-- Does the master lack what its next word needs (R497)? -/
def spStarved (s : State) (x : Nat) : Bool :=
  (!s.on (SP_XFER_TXFILL x) && (s.port x).tx.isEmpty) ||
    (!s.on (SP_XFER_RXIGN x) && decide (64 ≤ (s.port x).rx.length))

/-- Bits of a word (R492). -/
def spWidth (s : State) (x : Nat) : Nat := s.get (SP_FMT_WLEN x) + 1

/-- Bit `i` of the word in hand in the order it is sent (R492). -/
def spBit (s : State) (x i : Nat) : Bool :=
  bitOf (s.port x).word.toNat (if s.on (SP_FMT_LSBF x) then i else s.get (SP_FMT_WLEN x) - i)

/-- DO takes bit `i` of the word in hand (R493). -/
def spPresent (s : State) (x i : Nat) : State := s.updPort x fun p => { p with dout := spBit s x i }

/-- The level of CLK as a master drives it (Table 17.2). -/
def spClk (s : State) (x : Nat) : Bool := s.on (SP_FMT_CPOL x) != (s.port x).away

/-- The length of one half-period: with SPREAD HALF - 1, HALF or HALF + 1, a free choice among them (R494, R495). -/
def spHalf (s : State) (x : Nat) : Nat × State :=
  let h := s.get (SP_CLKCFG_HALF x)
  if s.on (SP_CLKCFG_SPREAD x) then let (v, t) := s.fresh; (h - 1 + v.toNat % 3, t) else (h, s)

/-- The next word comes to hand: FILL, or the head of the transmit FIFO, which it stays until its last bit boundary (R497,
R502, R504). With CPHA = 0 its first bit is presented once the port is selected (R493). -/
def spLoad (s : State) (x : Nat) (fill : Bool) : State :=
  let q := (s.port x).tx
  let t := s.updPort x fun p =>
    { p with word := if fill then s.reg (A_SP_FILL x) else q.headD (s.reg (A_SP_FILL x))
             inHand := !fill && !q.isEmpty, bit := 0 }
  if !s.on (SP_FMT_CPHA x) && ((s.port x).selen || (s.port x).sel) then spPresent t x 0 else t

/-- The transfer will end with a code, TRAIL and GAP from tick `at_` (Table 17.3, R499, R500, R513). -/
def spConclude (s : State) (x code at_ : Nat) : State :=
  let f := at_ + max 1 (s.get (SP_TIM_TRAIL x))
  (s.updPort x fun p =>
    { p with left := 0, code := code, ending := 0, fallAt := f, endAt := f + max 1 (s.get (SP_TIM_GAP x)) }).set
    (SP_STAT_STATE x) spRun

/-- The clock starts from its idle level: the next word comes to hand where the last one is complete, and the first edge
falls HALF ticks later, at the start of a transfer not before SETUP and LEAD have passed (R496 to R498). -/
def spRestart (s : State) (x : Nat) : State :=
  let s := if (s.port x).bit = 0 then spLoad s x (s.on (SP_XFER_TXFILL x)) else s
  let h := spHalf s x
  (h.2.updPort x fun p => { p with edgeAt := max p.edgeAt (s.now + h.1) }).set (SP_STAT_STATE x) spRun

/-- Is START refused (R501, R513)? -/
def spStartBusy (s : State) (x : Nat) : Bool :=
  s.get (SP_STAT_STATE x) != spIdle || s.get (SP_XFER_COUNT x) == 0 || s.get (SP_CTL_MODE x) != 0 || !s.on (SP_CTL_EN x)

/-- A master transfer starts: the select code is driven, SELEN rises after SETUP, the first clock edge falls LEAD later
(R496); it stalls at once where its first word lacks what it needs (R497). -/
def spStart (s : State) (x : Nat) : State :=
  let n := s.get (SP_XFER_COUNT x)
  let c := s.get (SP_XFER_SEL x)
  let up := s.now + max 1 (s.get (SP_TIM_SETUP x))
  let s := s.updPort x fun p =>
    { p with left := n, code := 0, ending := 0, selen := false, selPins := c, away := false, bit := 0, selAt := up
             edgeAt := up + max 1 (s.get (SP_TIM_LEAD x)) }
  let s := ((s.set (SP_STAT_WORDS x) 0).set (SP_STAT_CODE x) 0).set (SP_STAT_ABORT_LATE x) 0
  if spStarved s x then s.set (SP_STAT_STATE x) spStalled
  else (spLoad s x (s.on (SP_XFER_TXFILL x))).set (SP_STAT_STATE x) spRun

/-- Has the last bit boundary of the word in hand passed, its received word yet to be taken? -/
def spWordOver (s : State) (x : Nat) : Bool := (s.port x).bit == spWidth s x

/-- ABORT (R500): a clock that stands ends the transfer at once, a running one at its next bit boundary. -/
def spAbort (s : State) (x : Nat) : State :=
  let p := s.port x
  if s.get (SP_CTL_MODE x) = 0 ∧ s.get (SP_STAT_STATE x) ≠ spIdle ∧ p.left ≠ 0 ∧ ¬(p.left = 1 ∧ spWordOver s x) then
    if s.get (SP_STAT_STATE x) = spRun ∨ spWordOver s x then s.updPort x fun p => { p with ending := spAborted }
    else spConclude s x spAborted s.now
  else s.set (SP_STAT_ABORT_LATE x) 1

/-- Does the port's supply stand (R581, Table 21.1)? -/
def spSupplied (s : State) (x : Nat) : Bool := !s.pins.vioLost.getD x false

/-- A master word completes at its last bit boundary, with the word that DI carried, zeros where its supply is lost (R497, R500,
R513, R581). The completion point of Table 17.3 is one half-period after the last return of CLK to its idle level; other ends count
from that return (log entry 61). -/
def spMasterWord (s : State) (x : Nat) (rx : Word) : State :=
  let p := s.port x
  if !(s.get (SP_STAT_STATE x) == spRun || s.get (SP_STAT_STATE x) == spPaused) || p.left == 0 || !spWordOver s x ||
      s.get (SP_CTL_MODE x) != 0 then s
  else
    let s := s.updPort x fun p =>
      { p with left := p.left - 1, bit := 0, inHand := false, tx := if p.inHand then p.tx.drop 1 else p.tx }
    let s := (if s.on (SP_XFER_RXIGN x) then s else spPushRx s x (if spSupplied s x then spTrim s x rx else 0)).addSat (SP_STAT_WORDS x) 1
    if p.ending ≠ 0 then spConclude s x p.ending p.boundAt
    else if p.left = 1 then spConclude s x spDone p.edgeAt
    else if !s.on (SP_CTL_EN x) then spConclude s x spDisabled p.boundAt
    else if s.get (SP_STAT_STATE x) = spPaused then s
    else if spStarved s x then s.set (SP_STAT_STATE x) spStalled
    else spLoad s x (s.on (SP_XFER_TXFILL x))

/-- The cause of a stall has cleared (R497). -/
def spStallClear (s : State) (x : Nat) : State :=
  if s.get (SP_STAT_STATE x) = spStalled ∧ !spStarved s x then spRestart s x else s

/-- The end of a transfer (Table 17.3, step 6). -/
def spEnd (s : State) (x : Nat) : State :=
  if s.get (SP_STAT_STATE x) = spIdle ∨ (s.port x).left ≠ 0 ∨ s.get (SP_CTL_MODE x) ≠ 0 then s
  else
    let s := (s.set (SP_STAT_CODE x) (s.port x).code).set (SP_STAT_STATE x) spIdle
    ((s.updPort x fun p => { p with selen := false }).raise (SP_INT_STAT_END x)).emit (146 + 2 * x)

/-- The level of RDY at a master: 0 while the supply is lost (R581). -/
def spRdy (s : State) (x : Nat) : Bool := spSupplied s x && s.pins.rdy.getD x false

/-- RDY falls at a master: the clock stops at the first bit boundary 15 ns or more later (R498). -/
def spRdyLow (s : State) (x : Nat) : State :=
  ({ s with pins := { s.pins with rdy := updAt s.pins.rdy x fun _ => false } } : State).updPort x fun p =>
    { p with rdyAt := s.now }

/-- RDY rises at a master: a paused transfer goes on, or stalls where its next word lacks what it needs (R497, R498). -/
def spRdyHigh (s : State) (x : Nat) : State :=
  let t := { s with pins := { s.pins with rdy := updAt s.pins.rdy x fun _ => true } }
  if s.get (SP_STAT_STATE x) ≠ spPaused ∨ !spSupplied s x then t
  else if (s.port x).bit = 0 ∧ spStarved s x then t.set (SP_STAT_STATE x) spStalled
  else spRestart t x

/-- A trailing clock edge: the end of a bit. With CPHA = 0 the next bit is presented. A pending end is taken unless the
word is complete, and RDY seen low 3 ticks before stops the clock, unless the transfer is complete (R493, R498, R500). -/
def spBoundary (s : State) (x : Nat) : State :=
  let s := s.updPort x fun p => { p with away := false, bit := p.bit + 1, boundAt := s.now }
  let p := s.port x
  let s := if !s.on (SP_FMT_CPHA x) && !spWordOver s x then spPresent s x p.bit else s
  if p.ending ≠ 0 ∧ !spWordOver s x then spConclude s x p.ending s.now
  else if p.left = 1 ∧ spWordOver s x then s
  else if s.on (SP_RDYCFG_RDYEN x) ∧ !spRdy s x ∧ p.rdyAt + 3 ≤ s.now then
    (s.updPort x fun p => { p with pauseAt := s.now }).set (SP_STAT_STATE x) spPaused
  else s

/-- A clock edge of a master (R493, R494): the leading one presents the bit with CPHA = 1. -/
def spEdge (s : State) (x : Nat) : State :=
  let h := spHalf s x
  let s := h.2.updPort x fun p => { p with edgeAt := s.now + h.1 }
  if (s.port x).away then spBoundary s x
  else
    let s := s.updPort x fun p => { p with away := true }
    if s.on (SP_FMT_CPHA x) then spPresent s x (s.port x).bit else s

/-- What a master does at a tick: SELEN rises, with the first bit where CPHA = 0; a clock edge falls; SELEN falls
(Table 17.3). -/
def spTick (s : State) (x : Nat) : State :=
  if s.get (SP_CTL_MODE x) ≠ 0 ∨ s.get (SP_STAT_STATE x) = spIdle then s
  else
    let p := s.port x
    let s :=
      if p.left ≠ 0 ∧ !p.selen ∧ p.selAt ≤ s.now then
        let t := s.updPort x fun p => { p with selen := true }
        if !s.on (SP_FMT_CPHA x) && s.get (SP_STAT_STATE x) == spRun then spPresent t x 0 else t
      else if p.left = 0 ∧ p.fallAt ≤ s.now then s.updPort x fun p => { p with selen := false }
      else s
    if s.get (SP_STAT_STATE x) = spRun ∧ p.left ≠ 0 ∧ !spWordOver s x ∧ p.edgeAt ≤ s.now then spEdge s x else s

/-- Has a pause lasted RDYTO (R499)? -/
def spTimeoutDue (s : State) (x : Nat) : Bool :=
  s.get (SP_STAT_STATE x) == spPaused && s.get (SP_RDYCFG_RDYTO x) != 0 && !spWordOver s x &&
    decide ((s.port x).pauseAt + s.get (SP_RDYCFG_RDYTO x) * 200 ≤ s.now)

/-- The pause ends the transfer with TIMEOUT (R499). -/
def spTimeoutEnd (s : State) (x : Nat) : State :=
  if s.get (SP_STAT_STATE x) = spPaused ∧ s.get (SP_RDYCFG_RDYTO x) ≠ 0 then
    ((spConclude s x spTimeout s.now).raise (SP_INT_STAT_TIMEOUT x)).raise (SP_INT_STAT_FRAG x)
  else s

/-- Base and size of a window space (Table 17.4); none for an invalid one. -/
def winSpace (n : Nat) : Option (Nat × Nat) :=
  match n with
  | 0 => some (0x00000000, 0x400000)
  | 1 => some (0x1FFF0000, 0x2000)
  | 2 => some (0x20000000, 0x100000)
  | 3 => some (0x24000000, 0x80000)
  | 4 => some (0x40000000, 0x170000)
  | _ => none

/-- The window address of SP1 (SP1_WIN). -/
def winAddr (p : PortS) : Nat :=
  match winSpace p.winSpace with
  | some (base, _) => base + p.winOff
  | none => 0

/-- Does SP1's window wait to read: the next word of a valid read command lies in a bank or unit that is closed (R469, R509,
R567)? -/
def windowReads (s : State) : Bool :=
  let p := s.port 1
  s.get (SP_STAT_STATE 1) == spWindow && p.winCmd && !p.winBad && !p.winOver && !p.winWrite && memBusy s (winAddr p) 4

/-- Is an access of SP1's window yet to complete, so that RDY is low (R509)? -/
def windowWaits (s : State) : Bool := windowReads s || (s.port 1).winHeld.isSome

/-- The slave drives RDY low (R503, R509, R514). -/
def spSlaveRdyLow (s : State) (x : Nat) : Bool :=
  decide (63 ≤ (s.port x).rx.length) || (s.on (SP_RDYCFG_TXSTR x) && (s.port x).tx.isEmpty) || !s.on (SP_CTL_EN x) ||
    !(s.get (SP_CTL_MODE x) == 1 || s.get (SP_CTL_MODE x) == 2) || !s.awake || (x == 1 && windowWaits s)

/-- A selection of an enabled, idle slave begins: as a slave its first bit is presented with CPHA = 0 (R493); what DO shows
during the command word of a window, in clock mode 0, is free (R502, R507). -/
def spOpen (s : State) (x : Nat) : State :=
  if s.on (SP_CTL_EN x) ∧ s.get (SP_STAT_STATE x) = spIdle ∧ s.awake then
    if s.get (SP_CTL_MODE x) = 1 then (spLoad s x false).set (SP_STAT_STATE x) spSelected
    else if s.get (SP_CTL_MODE x) = 2 then
      let (v, s) := s.fresh
      (s.updPort x fun p => { p with winCmd := false, winBad := false, winOver := false, dout := bitOf v.toNat 31 }).set
        (SP_STAT_STATE x) spWindow
    else s
  else s

/-- Is SELEN at its selected level, as a host drives it (R502)? A level that no host drives is the pull's, which is the other one
(R579). -/
def spAsserted (s : State) (x : Nat) : Bool :=
  match s.pins.selen.getD x none with
  | some level => level != s.on (SP_CTL_SSPOL x)
  | none => false

/-- A slave word starts: with CPHA = 1 it comes to hand then, with CPHA = 0 it has been in hand since its first bit was presented.
FILL goes out, with TXUDF, where no word of the transmit FIFO is in hand (R493, R504). -/
def spSlaveStart (s : State) (x : Nat) : State :=
  let s := if s.on (SP_FMT_CPHA x) then spLoad s x false else s
  if (s.port x).inHand then s else s.raise (SP_INT_STAT_TXUDF x)

/-- A selection ends with `bits` bits of a word counted: that word had started, and is discarded (R504, R505). -/
def spUnselect (s : State) (x bits : Nat) : State :=
  if s.get (SP_STAT_STATE x) = spSelected ∨ s.get (SP_STAT_STATE x) = spWindow then
    let t := if bits = 0 then s else s.raise (SP_INT_STAT_FRAG x)
    let t := if bits ≠ 0 ∧ s.get (SP_STAT_STATE x) = spSelected then spSlaveStart t x else t
    t.set (SP_STAT_STATE x) spIdle
  else s

/-- The port follows its select while it is a slave with its supply up and the device awake: a selection begins, or ends with `bits`
bits counted (R502, R505, R514, R581). -/
def spFollow (s : State) (x bits : Nat) : State :=
  if !s.awake ∨ !spSupplied s x then s
  else if s.get (SP_CTL_MODE x) = 0 then s.updPort x fun p => { p with sel := false }
  else if spAsserted s x then spOpen (s.updPort x fun p => { p with sel := true }) x
  else spUnselect (s.updPort x fun p => { p with sel := false }) x bits

/-- The level at which a host drives SELEN. -/
def State.setSelen (s : State) (x : Nat) (level : Bool) : State :=
  { s with pins := { s.pins with selen := updAt s.pins.selen x fun _ => some level } }

/-- The host asserts the slave select (R502, R507). -/
def spSelect (s : State) (x : Nat) : State := spFollow (s.setSelen x (!s.on (SP_CTL_SSPOL x))) x 0

/-- The host releases the slave select with `bits` bits of a word counted (R505). -/
def spDeselect (s : State) (x bits : Nat) : State := spFollow (s.setSelen x (s.on (SP_CTL_SSPOL x))) x bits

/-- A slave word starts and completes: the word received is discarded where the receive FIFO is full. DO then shows the first bit of
the next word with CPHA = 0, the last bit of this one else (R493, R502, R504, R513). -/
def spSlaveWord (s : State) (x : Nat) (rx : Word) : State :=
  if s.get (SP_STAT_STATE x) ≠ spSelected ∨ !spSupplied s x then s
  else
    let t := spSlaveStart s x
    let t := t.updPort x fun p => { p with inHand := false, tx := if p.inHand then p.tx.drop 1 else p.tx }
    let t := if 64 ≤ (s.port x).rx.length then t.raise (SP_INT_STAT_RXOVF x) else spPushRx t x (spTrim s x rx)
    let t := if s.on (SP_FMT_CPHA x) then spPresent t x (s.get (SP_FMT_WLEN x)) else spLoad t x false
    if s.on (SP_CTL_EN x) then t else t.set (SP_STAT_STATE x) spIdle

/-- The disable of a port is complete: a slave that is selected then ignores edges (R513). -/
def spDisableDone (s : State) (x : Nat) : State :=
  if s.on (SP_CTL_EN x) then s
  else if s.get (SP_STAT_STATE x) = spIdle then s.set (SP_CTL_EN_ACK x) 0
  else if s.get (SP_STAT_STATE x) = spSelected ∨ s.get (SP_STAT_STATE x) = spWindow then
    (s.set (SP_STAT_STATE x) spIdle).set (SP_CTL_EN_ACK x) 0
  else s

/-- Forbidden values of an SP port (R512). -/
def spBadValue (s u : State) (a : Nat) : Bool :=
  let o := a % 0x10000
  let x := a / 0x10000 % 2
  if o = 0x00 then u.get (SP_CTL_MODE x) == 3 || (u.get (SP_CTL_MODE x) == 2 && s.get (SP_CTL_MODE x) != 2)
  else if o = 0x04 then decide (u.get (SP_FMT_WLEN x) < 3)
  else if o = 0x08 then decide (u.get (SP_CLKCFG_HALF x) < 2) ||
    (u.on (SP_CLKCFG_SPREAD x) && decide (u.get (SP_CLKCFG_HALF x) < 4))
  else false

/-- Is a write to a configuration register refused because the port is in use (R512)? -/
def spBusyWrite (s u : State) (a : Nat) : Bool :=
  let o := a % 0x10000
  let x := a / 0x10000 % 2
  (s.get (SP_STAT_STATE x) != spIdle || (s.get (SP_CTL_MODE x) != 0 && spAsserted s x)) &&
    (o == 0x04 || o == 0x08 || o == 0x0C || o == 0x10 ||
      (o == 0 && (s.get (SP_CTL_MODE x) != u.get (SP_CTL_MODE x) || s.get (SP_CTL_SSPOL x) != u.get (SP_CTL_SSPOL x))))

/-- What fails a staged write of SP with VALUE (R512). -/
def spBad (s u : State) (a : Nat) : Bool := spBadValue s u a || spBusyWrite s u a

/-- EN of a port follows its CTL register: enabling sets EN_ACK, and a slave whose select is held is selected; clearing it
ends a transfer that stands between two words and lets the word in progress finish (R502, R513). -/
def spEnable (s : State) (x : Nat) : State :=
  let t := s.get (SP_STAT_STATE x)
  if s.on (SP_CTL_EN x) then
    spFollow (s.set (SP_CTL_EN_ACK x) 1) x 0
  else if t = spStalled ∨ (t = spPaused ∧ (s.port x).bit = 0) then spConclude s x spDisabled s.now
  else s

/-- The transmit FIFO is emptied: an unsent word of a slave leaves its hand too (R504, R515). -/
def spFlushTx (s : State) (x : Nat) : State :=
  let s := s.updPort x fun p => { p with tx := [], inHand := false }
  if s.get (SP_STAT_STATE x) = spSelected then spLoad s x false else s

/-- A write to an SP window (R496, R500, R501, R506, R512, R513, R515). What clears the cause of a stall restarts the clock (R497). -/
def spWrite (acc : Acc) (s : State) (a : Nat) (v : Word) : State × WriteEnd :=
  let o := a % 0x10000
  let x := a / 0x10000 % 2
  if o = 0x14 then
    let s := (fieldWrite s a v).1
    let s := if bitOf v.toNat 31 then (if spStartBusy s x then s.raise (SP_INT_STAT_BADCMD x) else spStart s x) else s
    (if bitOf v.toNat 30 then spAbort s x else spStallClear s x, .ok)
  else if o = 0x1C then
    let s := if bitOf v.toNat 31 then s.updPort x fun p => { p with rx := [] } else s
    (spStallClear (if bitOf v.toNat 30 then spFlushTx s x else s) x, .ok)
  else if o = 0x28 then
    (if (s.port x).tx.length < 64 then spStallClear (s.updPort x fun p => { p with tx := p.tx ++ [v] }) x
     else s.raise (SP_INT_STAT_TXOVF x), .ok)
  else if o = 0x00 ∧ x = 1 ∧ s.ivory ∧ (acc.kind = .window ∨ acc.kind = .debug) then
    (s.raise (SP_INT_STAT_WIN_BERR 1), .ok)
  else
    let r := fieldWrite s a v
    let busy := !acc.staged && spBusyWrite s r.1 a
    let t := if busy then s.raise (SP_INT_STAT_BADCMD x) else s
    if !acc.staged && spBadValue s r.1 a then (t.raise (SP_INT_STAT_RANGE x), .ok)
    else if busy then
      let s := t
      (if o = 0 then spEnable (s.set (SP_CTL_EN x) (b2n (bitOf v.toNat 0))) x else s, .ok)
    else if o = 0 then (spEnable r.1 x, r.2)
    else r

/-- Is a window command word valid (R508)? -/
def winValid (v : Word) : Bool :=
  match winSpace (bitsOf v 26 4) with
  | some (_, size) => bitsOf v 24 2 == 0 && bitsOf v 0 2 == 0 && decide (bitsOf v 0 24 < size)
  | none => false

/-- The end of the space that bounds an auto-increment from offset `off` (R511). -/
def winEnd (space off : Nat) : Nat :=
  if space = 4 then (off / 0x10000 + 1) * 0x10000
  else match winSpace space with
    | some (_, size) => size
    | none => 0

/-- A read of an SP window: the FIFO levels, the pop of RXD, SP1_WIN (R515). -/
def spRead (s : State) (a : Nat) : Word × State :=
  let o := a % 0x10000
  let x := a / 0x10000 % 2
  if o = 0x1C then (w32 ((s.port x).tx.length * 0x10000 + (s.port x).rx.length), s)
  else if o = 0x2C then
    match (s.port x).rx with
    | [] => (0, s.raise (SP_INT_STAT_RXUDF x))
    | w :: ws => (w, spStallClear (s.updPort x fun p => { p with rx := ws }) x)
  else if o = 0x38 then (if x = 1 then w32 (winAddr (s.port 1)) else 0, s)
  else (s.reg a, s)

/-- VIO_A (`b` false) or VIO_B falls below 1.0 V or returns (R581): no pin that it references makes an edge, and the port sees its
select again once it is back. -/
def State.setVio (s : State) (b lost : Bool) : State :=
  spFollow { s with pins := { s.pins with vioLost := updAt s.pins.vioLost (b2n b) fun _ => lost } } (b2n b) 0

/-- The level lines of sources 128 + 4x + i (R515). -/
def spLine (s : State) (x i : Nat) : Bool :=
  match i with
  | 0 => decide (max 1 (s.get (SP_FIFOCFG_RXTHR x)) ≤ (s.port x).rx.length) && bitOf (s.get (SP_INT_EN_THR x)) 0
  | 1 => decide ((s.port x).tx.length ≤ s.get (SP_FIFOCFG_TXTHR x)) && bitOf (s.get (SP_INT_EN_THR x)) 1
  | 2 => s.on (SP_INT_STAT_END x) && bitOf (s.get (SP_INT_EN_EN x)) 0
  | _ => s.get ⟨A_SP_INT_STAT x, 1, 10⟩ &&& (s.get (SP_INT_EN_EN x) / 2) != 0

end Sys2Proof.Machine
end

