-- ==== Sys2Proof/Machine/Interrupts.lean ====
section
/-! DEFINITION. Machine/Interrupts.lean: the cores as the interrupt controller sees them, their device CSRs, and the
interrupt controller (R417 to R442, R449). -/

namespace Sys2Proof.Machine

/-! ### Sources (R430 to R434) -/

/-- Is source `n` used (Table 14.5)? -/
def sourceUsed (n : Nat) : Bool := decide (n < 120) || (decide (128 ≤ n) && decide (n < 181))

/-- The line of level source `n` (Table 14.5). -/
def levelLine (s : State) (n : Nat) : Bool :=
  if n < 132 then spLine s 0 (n - 128)
  else if n < 136 then spLine s 1 (n - 132)
  else if n < 160 then gpLine s (n - 136)
  else if n = 160 then s.on FL_INT_STAT_END
  else if n = 161 then s.on FL_INT_STAT_ERR || s.on FL_INT_STAT_ECC_U
  else if n < 164 then s.pm.cmp.getD (n - 162) false
  else if n = 164 then s.get FC_STAT_LEVEL != 0
  else if n < 169 then s.fw.stalled.contains (n - 165) && !(s.fw.waiting.getD (n - 165) []).isEmpty
  else if n < 177 then tmQueueLine s (n - 169)
  else if n = 177 then s.get PQ_ENT_STAT_STATE == entFail
  else if n = 178 then s.get DC_STATUS_WARN != 0
  else if n = 179 then s.on LS_BCN_STAT_AMBER
  else if n = 180 then s.on LS_BCN_STAT_SUSP
  else false

/-- Is source `n` pending: an edge source's latch; a level source's line while it is not active (R431, R432)? -/
def srcPending (s : State) (n : Nat) : Bool :=
  if n < 128 then s.on (pendField n) else !s.on (actField n) && levelLine s n

def srcPrio (s : State) (n : Nat) : Nat := s.get (IC_SRC_CFG_PRIO n)
def srcSec (s : State) (n : Nat) : Bool := s.on (IC_SRC_CFG_SEC n)

/-- Is core `c` in the effective TGT of source `n` (R434)? -/
def srcTargets (s : State) (n c : Nat) : Bool :=
  bitOf (s.get (IC_SRC_CFG_TGT n)) c && !(srcSec s n && s.on (IC_CPU_STAT_NS c))

/-! ### Routing (R435 to R438) -/

def State.svprio (s : State) (c : Nat) : Nat := s.get (IC_CPU_STAT_RPRI c)

/-- The source assigned to core `c`, if any; mip.MEIP is set exactly while there is one. -/
def assigned (s : State) (c : Nat) : Option Nat :=
  if s.on (IC_CPU_STAT_ASG c) then some (s.get (IC_CPU_STAT_ASRC c)) else none

/-- May source `n` be offered, assigned or not: enabled, pending, not active, used, PRIO not 0 (R434, R436)? -/
def srcOffered (s : State) (n : Nat) : Bool :=
  s.on (enField n) && sourceUsed n && !s.on (actField n) && srcPending s n && srcPrio s n != 0

/-- Is core `c` eligible for source `n` (R436)? A core that an assignment has just taken out of WFI still counts as
idle for it (log entry 24). -/
def eligible (s : State) (n c : Nat) : Bool :=
  let st := s.coreState c
  let k := s.core c
  srcTargets s n c && (st == csRun || st == csIdle) && k.meie && (k.mie || k.user || st == csIdle || k.wasIdle) &&
    decide (s.svprio c < srcPrio s n) && decide (k.stack.length < 16)

/-- The assignment of core `c` is withdrawn (R437). -/
def withdraw (s : State) (c : Nat) : State :=
  ((s.set (IC_CPU_STAT_ASG c) 0).set (IC_CPU_STAT_ASRC c) 0).updCore c fun k => { k with wasIdle := false }

/-- Source `n` is assigned to core `c`; an idle core wakes from its WFI (R421, R436). -/
def assignTo (s : State) (n c : Nat) : State :=
  let s := ((s.set (IC_CPU_STAT_ASG c) 1).set (IC_CPU_STAT_ASRC c) n).set IC_STATUS_PTR ((c + 1) % 4)
  if s.coreState c = csIdle then
    ((s.updCore c fun k => { k with wasIdle := true }).set (IC_CPU_STAT_STATE c) csRun).relevel
  else s

/-- Does core `c` hold an assignment of priority `p` or more? -/
def holdsAbove (s : State) (c p : Nat) : Bool :=
  match assigned s c with
  | some t => decide (p ≤ srcPrio s t)
  | none => false

/-- The rank of a core (R436), idle cores lowest. -/
def coreRank (s : State) (c : Nat) : Nat := if s.coreState c = csIdle then 0 else s.svprio c + 1

/-- The core that source `n` goes to, if any (R436). -/
def routeTo (s : State) (n : Nat) : Option Nat :=
  let p := s.get IC_STATUS_PTR
  let e := ([p, (p + 1) % 4, (p + 2) % 4, (p + 3) % 4]).filter fun c =>
    eligible s n c && !holdsAbove s c (srcPrio s n)
  match e with
  | [] => none
  | c :: cs => some (cs.foldl (fun b d => if coreRank s d < coreRank s b then d else b) c)

/-- Is source `n` assigned? -/
def isAssigned (s : State) (n : Nat) : Bool := (List.range 4).any fun c => assigned s c == some n

/-- One turn of the procedure of R436. A core that an assignment woke stays so where another takes its place. -/
def routeOne (s : State) (n : Nat) : State :=
  if isAssigned s n then s
  else
    match routeTo s n with
    | none => s
    | some c =>
      let idle := (s.core c).wasIdle
      let t := assignTo (withdraw s c) n c
      if idle then t.updCore c fun k => { k with wasIdle := true } else t

/-- The offered sources, by descending PRIO, then ascending number. -/
def offeredSources (s : State) : List Nat :=
  let l := (List.range 192).filter (srcOffered s)
  (((List.range 15).reverse.map fun p => l.filter fun n => srcPrio s n == p + 1)).foldl (· ++ ·) []

/-- Assignments whose core stopped being eligible, or whose source stopped being a candidate, are withdrawn (R437). -/
def withdrawStale (s : State) : State :=
  (List.range 4).foldl (fun t c =>
    match assigned t c with
    | some n => if t.on IC_CTL_EN && srcOffered t n && eligible t n c then t else withdraw t c
    | none => t) s

/-- The controller re-evaluates (R436, R437). -/
def route (s : State) : State :=
  if !s.awake then s
  else
    let s := withdrawStale s
    if s.on IC_CTL_EN then (offeredSources s).foldl routeOne s else s

/-- Core `c` executes an illegal instruction: it takes the exception, and the controller re-evaluates (R422, R436). What mtval
holds of the instruction is a free value (log entry 28). -/
def illegalInsn (s : State) (c : Nat) : State :=
  let (x, t) := s.fresh
  route { t.trap c 2 x with resp := ⟨0, true⟩ }

/-- A claim by core `c`: what it gets (R438). An assignment whose source has stopped being a candidate, or whose core is no
longer eligible for it, is withdrawn first (R432, R437). -/
def claim (s : State) (c : Nat) : State :=
  match assigned s c with
  | none => s.respond 0
  | some n =>
    if !s.on IC_CTL_EN then s.respond 0
    else if !srcOffered s n || !eligible s n c then route ((withdraw s c).respond 0)
    else
      let p := s.svprio c
      let s := (withdraw s c).set (actField n) 1
      let s := if n < 128 then s.set (pendField n) 0 else s
      let s := s.updCore c fun k => { k with stack := p :: k.stack, active := n :: k.active }
      route ((s.set (IC_CPU_STAT_RPRI c) (srcPrio s n)).respond (w32 (2 ^ 31 + n)))

/-- svinfo of core `c` (Table 14.2). -/
def svinfo (s : State) (c : Nat) : Word :=
  w32 ((s.core c).stack.length * 0x10000 + s.get PM_STAT_LEVEL * 0x100 + s.get (IC_CPU_STAT_NS c) * 16 + c)

/-- A read of a device CSR by core `c` (R422, R435, R438). -/
def csrReadBy (s : State) (c : Nat) (csr : DeviceCsr) (plain : Bool) : State :=
  if (s.core c).user then illegalInsn s c
  else
    match csr with
    | .svprio => s.respond (w32 (s.svprio c))
    | .svinfo => s.respond (svinfo s c)
    | .svclaim => if plain then claim s c else illegalInsn s c

/-- The completion of source `v` by core `c` (R438). -/
def complete (s : State) (c : Nat) (v : Word) : State :=
  let n := v.toNat % 256
  if !(s.core c).active.contains n then s.raise IC_ERR_BADCPL
  else
    let p := (s.core c).stack.headD 0
    let s := (s.set (actField n) 0).updCore c fun k => { k with stack := k.stack.drop 1, active := k.active.erase n }
    route (s.set (IC_CPU_STAT_RPRI c) p)

/-- A write of svclaim by core `c` (R422, R438). -/
def completion (s : State) (c : Nat) (v : Word) (plain : Bool) : State :=
  if (s.core c).user || !plain then illegalInsn s c else (complete s c v).respond 0

/-- A write of svprio by core `c` (R435). -/
def svprioWrite (s : State) (c : Nat) (v : Word) : State :=
  if (s.core c).user then illegalInsn s c
  else route ((s.set (IC_CPU_STAT_RPRI c) v.toNat).respond 0)

/-! ### Cores (R418 to R421, R429, R441) -/

/-- The debug module's dmcontrol. -/
abbrev dmControl : Nat := 0x10

/-- The debug module's havereset and resumeack, kept beside its registers. -/
abbrev dmHaveReset : Nat := 0x100
abbrev dmResumeAck : Nat := 0x101

/-- The CSRs that count (R420). -/
abbrev csrInhibit : Nat := 0x320
abbrev csrMcycle : Nat := 0xB00
abbrev csrMcycleh : Nat := 0xB80
abbrev csrMinstret : Nat := 0xB02
abbrev csrMinstreth : Nat := 0xB82

/-- minstret after the core has run: the instructions it has retired are no commands, so that their number is a free value (R420;
log entry 25). -/
def State.instret (s : State) (c : Nat) : State :=
  if (s.core c).first || bitOf (s.csr c csrInhibit).toNat 2 then s
  else
    let (lo, s) := s.fresh
    let (hi, s) := s.fresh
    (s.setCsr c csrMinstret lo).setCsr c csrMinstreth hi

/-- Core `c` halts into its debug module (R446, R447) with a cause and the pc it would resume at. -/
def debugHalt (s : State) (c cause : Nat) (pc : Word) : State :=
  let k := s.core c
  let old := ((assocGet k.csr csrDcsr).getD (w32 0x40000003))
  let dcsr := insertBits (insertBits old 6 3 cause) 0 2 (if k.user then 0 else 3)
  let s := (s.instret c).setCsr c csrDpc pc |>.setCsr c csrDcsr dcsr
  let s := withdraw s c
  let s := (s.set (IC_CPU_STAT_STATE c) csDebug).set (IC_DBG_CTL_HALTED.bit c) 1
  s.relevel

/-- The register index of a watchdog: 0 to 3 the cores', 4 the system's. -/
def wdReg (w : Nat) : Nat := if w = 4 then 8 else w

/-- `s` with ELAPSED of watchdog `w` set, and OPEN with it (R532, Table 18.6). -/
def wdSet (s : State) (w n : Nat) : State :=
  (s.set (WD_STAT_ELAPSED (wdReg w)) n).set (WD_STAT_OPEN (wdReg w)) (b2n (decide (s.get (WD_WIN_WINDOW (wdReg w)) ≤ n)))

/-- OPEN of watchdog `w` follows WINDOW while it runs (Table 18.6). -/
def wdShow (s : State) (w : Nat) : State :=
  if s.on (WD_STAT_RUN (wdReg w)) then wdSet s w (s.get (WD_STAT_ELAPSED (wdReg w))) else s

/-- Watchdog `w` starts from 0, where it is enabled (R531). -/
def wdStart (s : State) (w : Nat) : State :=
  if s.on (WD_CFG_EN (wdReg w)) then
    let s := { s with tm := { s.tm with wdTicks := updAt s.tm.wdTicks w fun _ => 0 } }
    (wdSet s w 0).set (WD_STAT_RUN (wdReg w)) 1
  else s

/-- Core `c` goes to ENTRY in machine mode: mtvec holds ENTRY in direct mode, PMP and the other CSRs are at reset; with its
first instruction its watchdog starts (R419, R421, R531). A haltreq takes effect before that instruction (R446). -/
def coreRunAt (s : State) (c : Nat) : State :=
  let entry := s.reg (A_IC_CPU_ENTRY c)
  let dm := (s.core c).dm
  let halt := bitOf ((assocGet dm dmControl).getD 0).toNat 31
  let s := s.updCore c fun _ =>
    { CoreS.reset with csr := [(csrMtvec, entry &&& ~~~ 3#32), (csrDcsr, w32 0x40000003)], dm := dm, first := halt }
  let s := ((s.set (IC_CPU_STAT_STATE c) csRun).set (IC_CPU_STAT_RPRI c) 0).relevel
  if halt then debugHalt s c 3 entry
  else wdStart s c

/-- START (R429). -/
def coreStart (acc : Acc) (s : State) (c : Nat) : State × WriteEnd :=
  if acc.ns && !acc.staged then ((s.raise IC_ERR_BADCMD).raise IC_ERR_FOREIGN, .berr 0)
  else if s.coreState c ≠ csHeld then (s.raise IC_ERR_BADCMD, .ok)
  else (coreRunAt s c, .ok)

/-- WFI (R421): the core idles, unless an assignment is held. -/
def wfi (s : State) (c : Nat) : State :=
  if s.coreState c = csRun ∧ (assigned s c).isNone then
    route ((s.updCore c fun k => { k with wasIdle := false }).set (IC_CPU_STAT_STATE c) csIdle).relevel
  else s

/-- What the controller does when core `c` enters core restart (R441, R435). -/
def icRestart (s : State) (c : Nat) : State :=
  let act := (s.core c).active
  let s := withdraw s c
  let s := act.foldl (fun t n =>
    let t := t.set (actField n) 0
    if n < 128 then t.set (pendField n) 1 else t) s
  (s.updCore c fun k => { k with stack := [], active := [] }).set (IC_CPU_STAT_RPRI c) 0

/-! ### The source arrays as registers (R433, R434) -/

/-- The arrays IC_PENDk, IC_ENk and IC_WAKEk. -/
def arrAddr (arr k : Nat) : Nat := if arr = 0 then A_IC_PEND k else if arr = 1 then A_IC_EN k else A_IC_WAKE k

/-- The bits of array word `k` that an access sees: used sources, Secure ones hidden from a Non-secure access. -/
def arrMask (acc : Acc) (s : State) (k : Nat) : Word :=
  w32 (((List.range 32).map fun j =>
    b2n (sourceUsed (32 * k + j) && !(acc.ns && srcSec s (32 * k + j))) * 2 ^ j).foldl (· + ·) 0)

/-- The pending word `k`: latches, or lines of level sources. -/
def pendWord (s : State) (k : Nat) : Word :=
  if k < 4 then s.reg (A_IC_PEND k)
  else w32 (((List.range 32).map fun j => b2n (sourceUsed (32 * k + j) && srcPending s (32 * k + j)) * 2 ^ j).foldl (· + ·) 0)

/-- A read of an array word. -/
def arrRead (acc : Acc) (s : State) (arr k : Nat) : Word :=
  (if arr = 0 then pendWord s k else s.reg (arrAddr arr k)) &&& arrMask acc s k

/-- A write of an array word; `hw` are the edges that arrive in the same handshake (R433). -/
def arrWrite (acc : Acc) (s : State) (arr k : Nat) (v hw : Word) : State :=
  if arr = 0 ∧ 4 ≤ k then s
  else
    let m := arrMask acc s k
    let old := s.reg (arrAddr arr k)
    let w := (old &&& ~~~ m) ||| (v &&& m)
    let used := w32 (((List.range 32).map fun j => b2n (edgeUsed (32 * k + j)) * 2 ^ j).foldl (· + ·) 0)
    s.setReg (arrAddr arr k) (if arr = 0 then w ||| (hw &&& used) else w)

/-- The word an AMO stores (RV32A). -/
def amoValue (op : AmoOp) (old v : Word) : Word :=
  match op with
  | .swap => v
  | .add => old + v
  | .xor => old ^^^ v
  | .and => old &&& v
  | .or => old ||| v
  | .min => if old.toInt < v.toInt then old else v
  | .max => if old.toInt < v.toInt then v else old
  | .minu => if old < v then old else v
  | .maxu => if old < v then v else old

/-- The array word at `a` that an AMO of this operation may change: AMOAND.W, AMOOR.W and AMOSWAP.W to IC_PENDk, IC_ENk and
IC_WAKEk are the controller's (R433). -/
def arrOf (a : Nat) (op : AmoOp) : Option (Nat × Nat) :=
  let o := a % 0x10000
  if a / 0x10000 ≠ 0x4002 ∨ !(op == .and || op == .or || op == .swap) then none
  else if 0x100 ≤ o ∧ o < 0x118 then some (0, (o - 0x100) / 4)
  else if 0x140 ≤ o ∧ o < 0x158 then some (1, (o - 0x140) / 4)
  else if 0x1C0 ≤ o ∧ o < 0x1D0 then some (2, (o - 0x1C0) / 4)
  else none

/-- That AMO: one step, the old word returned (R433). -/
def arrAmo (acc : Acc) (s : State) (arr k : Nat) (op : AmoOp) (v : Word) : State :=
  let old := arrRead acc s arr k
  route ((arrWrite acc s arr k (amoValue op old v) 0).respond old)

/-- The operations of the row IC_AMO. -/
def icAmoOp (op : Fin 3) : AmoOp := if op = 0 then .and else if op = 1 then .or else .swap

/-- SWI (R431): bit `k` pulses source 111 + `k`. -/
def swiWrite (s : State) (mask : Nat) : State :=
  (List.range 4).foldl (fun t k => if bitOf mask k then t.edge (111 + k) else t) s

/-- IC_CTL.EN follows a write; a disable withdraws every assignment (R442). -/
def icEnable (s : State) (a : Nat) (v : Word) : State × WriteEnd :=
  let r := fieldWrite s a v
  if r.1.on IC_CTL_EN then (r.1.set IC_CTL_EN_ACK 1, r.2)
  else (((List.range 4).foldl withdraw r.1).set IC_CTL_EN_ACK 0, r.2)

/-- A write to the IC window (R429, R433, R434, R442, R449). -/
def icWrite (acc : Acc) (s : State) (a : Nat) (v : Word) : State × WriteEnd :=
  let o := a % 0x10000
  if a = A_IC_CTL then icEnable s a v
  else if a = A_IC_SWI then
    secureWrite acc (some IC_ERR_FOREIGN) s fun s => (swiWrite s (v.toNat % 16), .ok)
  else if 0x20 ≤ o ∧ o < 0x34 then secureWrite acc (some IC_ERR_FOREIGN) s fun s => fieldWrite s a v
  else if 0x40 ≤ o ∧ o < 0x50 then
    if acc.ns && !acc.staged then ((if bitOf v.toNat 0 then s.raise IC_ERR_BADCMD else s).raise IC_ERR_FOREIGN, .berr 0)
    else if bitOf v.toNat 0 then coreStart acc s ((o - 0x40) / 4)
    else (s, .ok)
  else if 0x100 ≤ o ∧ o < 0x118 then (arrWrite acc s 0 ((o - 0x100) / 4) v 0, .ok)
  else if 0x140 ≤ o ∧ o < 0x158 then (arrWrite acc s 1 ((o - 0x140) / 4) v 0, .ok)
  else if 0x1C0 ≤ o ∧ o < 0x1D0 then (arrWrite acc s 2 ((o - 0x1C0) / 4) v 0, .ok)
  else if 0x400 ≤ o ∧ o < 0x700 then
    let n := (o - 0x400) / 4
    if !sourceUsed n then (s, .ok)
    else if acc.ns && !acc.staged && (srcSec s n || bitOf v.toNat 31) then (s.raise IC_ERR_FOREIGN, .berr 0)
    else fieldWrite s a v
  else fieldWrite s a v

/-- A read of the IC window. -/
def icRead (acc : Acc) (s : State) (a : Nat) : Word :=
  let o := a % 0x10000
  if 0x100 ≤ o ∧ o < 0x118 then arrRead acc s 0 ((o - 0x100) / 4)
  else if 0x140 ≤ o ∧ o < 0x158 then arrRead acc s 1 ((o - 0x140) / 4)
  else if 0x180 ≤ o ∧ o < 0x198 then s.reg a &&& arrMask acc s ((o - 0x180) / 4)
  else if 0x1C0 ≤ o ∧ o < 0x1D0 then arrRead acc s 2 ((o - 0x1C0) / 4)
  else if 0x400 ≤ o ∧ o < 0x700 then (if sourceUsed ((o - 0x400) / 4) then s.reg a else 0)
  else s.reg a

/-! ### CSRs as the debug module reads and writes them (R417 to R422) -/

/-- The number under which the trigger CSR `n` is held: tdata1 and tdata2 are those of the trigger that tselect names
(R446). -/
def triggerKey (k : CoreS) (n : Nat) : Nat :=
  if n = 0x7A1 ∨ n = 0x7A2 then n + 0x1000 * (((assocGet k.csr 0x7A0).getD 0).toNat % 2) else n

/-- pmpaddr as a reader sees it under its configuration byte: with G = 3 the low two bits of a NAPOT region read ones, the low
three of another zero (R419). -/
def pmpShown (cfg v : Nat) : Nat := if cfg / 8 % 4 = 3 then v / 4 * 4 + 3 else v / 8 * 8

/-- The configuration byte of PMP region `i` of core `c`, and its pmpaddr as stored. -/
def pmpCfg (s : State) (c i : Nat) : Nat := (s.csr c (0x3A0 + i / 4)).toNat / 256 ^ (i % 4) % 256
def pmpAddr (s : State) (c i : Nat) : Nat := (s.csr c (0x3B0 + i)).toNat

/-- The octets that PMP region `i` of core `c` covers, from the first up to the second, if it is on (R419). -/
def pmpRange (s : State) (c i : Nat) : Option (Nat × Nat) :=
  match pmpCfg s c i / 8 % 4 with
  | 1 => some (if i = 0 then 0 else pmpAddr s c (i - 1) / 8 * 32, pmpAddr s c i / 8 * 32)
  | 3 =>
    let v := pmpShown 0x18 (pmpAddr s c i)
    let n := ((List.range 33).find? fun k => !bitOf v k).getD 32
    some (v / 2 ^ (n + 1) * 2 ^ (n + 1) * 4, v / 2 ^ (n + 1) * 2 ^ (n + 1) * 4 + 2 ^ (n + 3))
  | _ => none

/-- What an access needs of its PMP region: the bit of R, W or X. -/
abbrev pmpLoad : Nat := 0
abbrev pmpStore : Nat := 1
abbrev pmpFetch : Nat := 2

/-- The mode PMP judges an access in: that of MPP for a load or store in machine mode with MPRV set; a halted core's program buffer
runs in machine mode (the RISC-V privileged and External Debug Support specifications). -/
def pmpUser (s : State) (c use_ : Nat) : Bool :=
  let st := s.csr c csrMstatus
  s.coreState c != csDebug && ((s.core c).user || (use_ != pmpFetch && bitOf st.toNat 17 && bitsOf st 11 2 == 0))

/-- Does PMP let core `c` make an access to the `n` octets from `a`: the lowest-numbered region that covers any of them covers
all and gives the permission, or binds no machine mode; without one only machine mode is let through (R419)? -/
def pmpAllows (s : State) (c use_ a n : Nat) : Bool :=
  let user := pmpUser s c use_
  let hit := (List.range 16).findSome? fun i =>
    (pmpRange s c i).bind fun r => if r.1 < a + n ∧ a < r.2 then some (i, decide (r.1 ≤ a) && decide (a + n ≤ r.2)) else none
  match hit with
  | some (i, whole) => whole && ((!user && !bitOf (pmpCfg s c i) 7) || bitOf (pmpCfg s c i) use_)
  | none => !user

/-- CSR `n` of core `c` (Tables 14.1 and 14.2, R419, R420). The CSRs that only instructions change hold what was last written
(log entry 25). -/
def csrRead (s : State) (c n : Nat) : Word :=
  let k := s.core c
  let st := (assocGet k.csr (triggerKey k n)).getD 0
  if n = 0x301 then w32 0x40101105
  else if n = 0xF11 ∨ n = 0xF12 then 0
  else if n = 0xF13 then s.reg A_BT_CHIP_ID
  else if n = 0xF14 then w32 c
  else if n = 0x7C0 then w32 (s.svprio c)
  else if n = 0xFC0 then svinfo s c
  else if 0x3B0 ≤ n ∧ n < 0x3C0 then w32 (pmpShown (pmpCfg s c (n - 0x3B0)) st.toNat)
  else if n = 0xC01 then w32 s.now
  else if n = 0xC00 then (assocGet k.csr 0xB00).getD 0
  else if n = 0xC80 then (assocGet k.csr 0xB80).getD 0
  else if n = 0xC02 then (assocGet k.csr 0xB02).getD 0
  else if n = 0xC82 then (assocGet k.csr 0xB82).getD 0
  else if n = 0x344 then w32 (s.get (IC_CPU_STAT_ASG c) * 0x800)
  else if n = 0x300 then insertBits st 3 1 (b2n k.mie)
  else if n = 0x304 then insertBits 0 11 1 (b2n k.meie)
  else if n = csrDcsr then (assocGet k.csr n).getD (w32 0x40000003)
  else if n = 0x7A1 then st ||| 0x20000000
  else if n = 0x7A4 then 4
  else if 0xB03 ≤ n ∧ n < 0xB20 then 0
  else if 0xB83 ≤ n ∧ n < 0xBA0 then 0
  else if 0x323 ≤ n ∧ n < 0x340 then 0
  else st

/-- A PMP configuration byte as written: NA4 leaves A at OFF (R419), a locked region keeps its byte, and W without R, which is
reserved, is not taken (log entry 60). -/
def pmpByte (old v : Nat) : Nat :=
  if bitOf old 7 then old
  else
    let v := v % 256 - v % 128 + v % 32
    let v := if v / 8 % 4 = 2 then v - 16 else v
    if v % 4 = 2 then v - 2 else v

/-- Is pmpaddr `i` of core `c` locked: its region is, or the one above it, whose range begins at it (R419)? -/
def pmpHeld (s : State) (c i : Nat) : Bool :=
  bitOf (pmpCfg s c i) 7 || (i < 15 && bitOf (pmpCfg s c (i + 1)) 7 && pmpCfg s c (i + 1) / 8 % 4 == 1)

/-- `v` with a mode field of two bits from `lo` that is no mode of the core left as `old` has it: there is machine mode and user
mode (R417; log entry 60). -/
def legalMode (old v : Word) (lo : Nat) : Word :=
  if bitsOf v lo 2 = 1 ∨ bitsOf v lo 2 = 2 then insertBits v lo 2 (bitsOf old lo 2) else v

/-- A CSR write by the debug module (R417 to R421). Read-only CSRs keep. -/
def csrWrite (s : State) (c n : Nat) (v : Word) : State :=
  let k := s.core c
  if 0xC00 ≤ n ∨ n = 0x301 then s
  else if n = 0x7C1 then complete s c v
  else if n = 0x7C0 then s.set (IC_CPU_STAT_RPRI c) v.toNat
  else if n = 0x300 then
    (s.setCsr c n (legalMode (s.csr c n) v 11 &&& w32 0x221888)).updCore c fun k => { k with mie := bitOf v.toNat 3 }
  else if n = 0x304 then s.updCore c fun k => { k with meie := bitOf v.toNat 11 }
  else if n = csrMtvec then
    if v.toNat % 4 = 1 ∧ v.toNat % 64 = 1 then s.setCsr c n v else s.setCsr c n (v &&& ~~~ 3#32)
  else if 0x3A0 ≤ n ∧ n < 0x3A4 then
    let old := ((assocGet k.csr n).getD 0).toNat
    s.setCsr c n (w32 (((List.range 4).map fun i =>
      pmpByte (old / 256 ^ i % 256) (v.toNat / 256 ^ i % 256) * 256 ^ i).foldl (· + ·) 0))
  else if 0x3B0 ≤ n ∧ n < 0x3C0 then if pmpHeld s c (n - 0x3B0) then s else s.setCsr c n v
  else if n = csrDcsr then
    s.setCsr c n (w32 0x40000000 ||| (legalMode (s.csr c n) v 0 &&& w32 0x9E07) ||| (s.csr c n &&& w32 0x1C0))
  else if n = csrDpc ∨ n = csrMepc then s.setCsr c n (v &&& ~~~ 1#32)
  else if n = 0x306 then s.setCsr c n (v &&& 7)
  else if n = csrInhibit then s.setCsr c n (v &&& 5)
  else if n = 0x7A0 then s.setCsr c n (v &&& 1)
  else if n = 0x7A1 then s.setCsr c (triggerKey k n) (v &&& 0x0800104F)
  else if n = 0x7A2 then s.setCsr c (triggerKey k n) v
  else s.setCsr c n v

/-- The cores' mcycle counters over one tick: a core in RUN counts unless mcountinhibit.CY is 1 (R420). -/
def cycleTick (s : State) : State :=
  (List.range 4).foldl (fun t c =>
    if t.coreState c = csRun ∧ !bitOf (t.csr c csrInhibit).toNat 0 then
      let n := (t.csr c csrMcycleh).toNat * 2 ^ 32 + (t.csr c csrMcycle).toNat + 1
      (t.setCsr c csrMcycle (w32 n)).setCsr c csrMcycleh (w32 (n / 2 ^ 32))
    else t) s

end Sys2Proof.Machine
end

