-- ==== Sys2Proof/Machine/Budget.lean ====
section
/-! DEFINITION. Machine/Budget.lean: the duty-cycle accountant and coexistence (R255 to R280, R334). -/

namespace Sys2Proof.Machine

/-! ### Records (R255 to R258) -/

def State.bandRec (s : State) (n : Nat) : RecS := s.dc.recs.getD n .reset
def State.updRec (s : State) (n : Nat) (f : RecS → RecS) : State :=
  { s with dc := { s.dc with recs := updAt s.dc.recs n f } }

/-- Is record `n` of kind DWELL? -/
def recDwell (s : State) (n : Nat) : Bool := s.on (DC_REC_CFG_KIND n)

/-- The channel on which record `n` covers a transmission at `f` (100 Hz units); channel 0 for a DUTY record (R255). -/
def covers (s : State) (n f : Nat) : Option Nat :=
  let lo := s.get (DC_REC_LOW_LOW n)
  let hi := s.get (DC_REC_HIGH_HIGH n)
  let sp := s.get (DC_REC_PER_SPACING n)
  if recDwell s n then
    if sp ≠ 0 ∧ lo ≤ f + sp / 2 ∧ (f + sp / 2 - lo) / sp ≤ (hi - lo) / sp then some ((f + sp / 2 - lo) / sp) else none
  else if lo ≤ f ∧ f ≤ hi then some 0 else none

/-- The limit of record `n` in ticks (R256). -/
def recLimit (s : State) (n : Nat) : Nat :=
  if recDwell s n then s.get (DC_REC_CFG_LIMIT n) * 200000
  else s.get (DC_REC_PER_WINDOW n) * s.get (DC_REC_CFG_LIMIT n) * 2000

/-- Length of a bucket or quarter in ticks, and how many before the current one count (R257, R258). -/
def bucketTicks (s : State) (n : Nat) : Nat :=
  s.get (DC_REC_PER_WINDOW n) * (if recDwell s n then 50000000 else 6250000)
def bucketKeep (s : State) (n : Nat) : Nat := if recDwell s n then 4 else 32

/-- The index of the current bucket or quarter of record `n`. -/
def bucketNow (s : State) (n : Nat) : Nat := s.now / bucketTicks s n

/-- Usage of record `n` on channel `k` in ticks (R257, R258). -/
def usage (s : State) (n k : Nat) : Nat :=
  let c := bucketNow s n
  let live := fun i : Nat => decide (c ≤ i + bucketKeep s n)
  if recDwell s n then
    (((s.bandRec n).dwell.filter fun e => (e.1 == k || e.1 == 256) && live e.2.1).map (·.2.2)).foldl (· + ·) 0
  else (((s.bandRec n).duty.filter fun e => live e.1).map (·.2)).foldl (· + ·) 0

/-- Ticks reserved in record `n` on channel `k`. -/
def reservedTicks (s : State) (n k : Nat) : Nat :=
  ((s.dc.reserved.filter fun e => e.record == n && e.channel == k).map (·.ticks)).foldl (· + ·) 0

/-- Air placed in the current bucket of record `n`, channel `k` (R259, R264). -/
def placeAir (s : State) (n k t : Nat) : State :=
  let c := bucketNow s n
  s.updRec n fun r =>
    if recDwell s n then
      let old := (r.dwell.filter fun e => e.1 == k && e.2.1 == c).map (·.2.2)
      { r with dwell := (r.dwell.filter fun e => !(e.1 == k && e.2.1 == c)) ++ [(k, c, old.foldl (· + ·) 0 + t)] }
    else { r with duty := assocPut r.duty c ((assocGet r.duty c).getD 0 + t) }

/-- The history of record `n` is cleared, with the charge of the transmission under way, and its initial usage placed
(R264). -/
def recRestart (s : State) (n : Nat) : State :=
  let air := s.fe.air.map fun a => { a with paid := a.paid.filter fun e => e.1 != n }
  let s := ({ s with fe := { s.fe with air := air } } : State).updRec n fun _ => RecS.reset
  let s := s.set (DC_STATUS_WARN.bit n) 0
  if s.on (DC_REC_CFG_EN n) then placeAir s n 256 (recLimit s n * s.get (DC_REC_CFG_INIT n) / 16) else s

/-- The records that cover `f`, with the channel. -/
def covering (s : State) (f : Nat) : List (Nat × Nat) :=
  (List.range 8).filterMap fun n => if s.on (DC_REC_CFG_EN n) then (covers s n f).map fun k => (n, k) else none

/-- The limit of record `n` for a transmission whose pacing level is `plvl` (R334). -/
def pacedLimit (s : State) (n : Nat) (plvl : Option Nat) : Nat :=
  match plvl with
  | some p => if recDwell s n then recLimit s n else recLimit s n * (p + 1) / 16
  | none => recLimit s n

/-- The procedure budget_check (R260): does a transmission of `owner` at `f` for `t` ticks pass? -/
def budgetCheck (s : State) (owner f t : Nat) (plvl : Option Nat) : Bool × State :=
  if !s.on DC_CTL_EN then (true, s)
  else
    let cov := covering s f
    match cov.find? fun e => decide (pacedLimit s e.1 plvl < usage s e.1 e.2 + reservedTicks s e.1 e.2 + t) with
    | some e =>
      let s := ((s.bump (DC_REC_CNT_REFUSED e.1)).raiseBit DC_INT_STAT_REFUSE e.1).emit 78
      (false, if plvl.isSome && !recDwell s e.1 then s.bump FW_FS_CNT2_PACED else s)
    | none =>
      if cov.isEmpty && s.on DC_CTL_STRICT then
        (false, (s.bump DC_CNT1_UNMATCHED).raise DC_INT_STAT_UNMATCHED)
      else
        let rs := cov.map fun e => Reserve.mk owner e.1 e.2 t
        (true, { s with dc := { s.dc with reserved := s.dc.reserved ++ rs } })

/-- The warning level of record `n` in ticks (R263). -/
def warnLevel (s : State) (n : Nat) : Nat := recLimit s n * s.get (DC_REC_CFG_WARN n) / 16

/-- A reservation becomes a charge (R259, R263). -/
def chargeOne (s : State) (e : Reserve) : State :=
  let before := usage s e.record e.channel
  let s := (placeAir s e.record e.channel e.ticks).bump (DC_REC_CNT_CHARGED e.record)
  let lvl := warnLevel s e.record
  if s.get (DC_REC_CFG_WARN e.record) ≠ 0 ∧ before < lvl ∧ lvl ≤ before + e.ticks then
    ((s.set (DC_STATUS_WARN.bit e.record) 1).raiseBit DC_INT_STAT_WARN e.record).emit 77
  else s

/-- The reservations of `owner` are released (R259). -/
def releaseAir (s : State) (owner : Nat) : State :=
  { s with dc := { s.dc with reserved := s.dc.reserved.filter fun e => e.owner != owner } }

/-- The records, channels and buckets to which a ramp-up now charges the reservations of `owner`. -/
def airPaid (s : State) (owner : Nat) : List (Nat × Nat × Nat) :=
  (s.dc.reserved.filter fun e => e.owner == owner).map fun e => (e.record, e.channel, bucketNow s e.record)

/-- At the start of ramp-up the reservations of `owner` become charges (R259). -/
def chargeAir (s : State) (owner : Nat) : State :=
  (s.dc.reserved.filter fun e => e.owner == owner).foldl chargeOne (releaseAir s owner)

/-- DC_STATUS.WARN[n] clears where every channel of the record has fallen below its level, or the warning is disabled
(R263). -/
def warnSync (s : State) (n : Nat) : State :=
  let chans := 256 :: (s.bandRec n).dwell.map (·.1)
  if s.get (DC_REC_CFG_WARN n) = 0 ∨ chans.all (fun k => decide (usage s n k < warnLevel s n)) then
    s.set (DC_STATUS_WARN.bit n) 0
  else s

/-- The unused part of a charge is credited back where it was charged (R259). -/
def creditAir (s : State) (paid : List (Nat × Nat × Nat)) (t : Nat) : State :=
  paid.foldl (fun u e =>
    let u := u.updRec e.1 fun r =>
      if recDwell u e.1 then
        { r with dwell := r.dwell.map fun x => if x.1 == e.2.1 && x.2.1 == e.2.2 then (x.1, x.2.1, x.2.2 - t) else x }
      else { r with duty := r.duty.map fun x => if x.1 == e.2.2 then (x.1, x.2 - t) else x }
    warnSync u e.1) s

/-- A bucket or quarter boundary passes on record `n`: air that no longer counts is dropped (R257, R258, R263). -/
def bucketRetire (s : State) (n : Nat) : State :=
  let c := bucketNow s n
  let live := fun i : Nat => decide (c ≤ i + bucketKeep s n)
  warnSync (s.updRec n fun r => { duty := r.duty.filter fun e => live e.1, dwell := r.dwell.filter fun e => live e.2.1 }) n

/-- At a boundary of a record that is not enabled, its warning is judged too (R263). -/
def warnTick (s : State) : State :=
  (List.range 8).foldl (fun t n =>
    if t.on (DC_STATUS_WARN.bit n) && bucketTicks t n != 0 && t.now % bucketTicks t n == 0 then warnSync t n else t) s

/-! ### Registers (R265, R267, R277, R279) -/

/-- Forbidden values of a record (R265), judged on state `u`. -/
def recBad (u : State) (n : Nat) : Bool :=
  let lo := u.get (DC_REC_LOW_LOW n)
  let hi := u.get (DC_REC_HIGH_HIGH n)
  let lim := u.get (DC_REC_CFG_LIMIT n)
  let win := u.get (DC_REC_PER_WINDOW n)
  let sp := u.get (DC_REC_PER_SPACING n)
  u.on (DC_REC_CFG_EN n) &&
    (decide (lo < 4051000) || decide (9599000 < hi) || decide (hi < lo) || win == 0 || lim == 0 ||
      (if recDwell u n then decide (win * 1000 < lim) || decide (sp < 250) || decide (256 < (hi - lo) / sp + 1)
       else decide (100000 < lim)))

def dcBad (_s u : State) (a : Nat) : Bool :=
  let o := a % 0x10000
  if 0x100 ≤ o ∧ o % 0x20 < 0x10 then recBad u ((o - 0x100) / 0x20) else false

/-- Table 8.1: LOW, HIGH, KIND, LIMIT, WINDOW, SPACING. -/
def presetRow (p : Nat) : Option (Nat × Nat × Nat × Nat × Nat × Nat) :=
  match p with
  | 1 => some (8630000, 8680000, 0, 100, 3600, 0)
  | 2 => some (8650000, 8680000, 0, 1000, 3600, 0)
  | 3 => some (8680000, 8686000, 0, 1000, 3600, 0)
  | 4 => some (8687000, 8692000, 0, 100, 3600, 0)
  | 5 => some (8694000, 8696500, 0, 10000, 3600, 0)
  | 6 => some (8697000, 8700000, 0, 1000, 3600, 0)
  | 7 => some (9022000, 9278000, 1, 400, 20, 2000)
  | 8 => some (9024000, 9276000, 1, 400, 10, 4000)
  | _ => none

/-- A record has been written: `old` is the state before (R264, R265). -/
def recWritten (old s : State) (n : Nat) : State :=
  let same := fun f : Nat → Field => old.get (f n) == s.get (f n)
  if (!old.on (DC_REC_CFG_EN n) && s.on (DC_REC_CFG_EN n)) || !same DC_REC_LOW_LOW || !same DC_REC_HIGH_HIGH ||
      !same DC_REC_CFG_KIND || !same DC_REC_PER_SPACING || !same DC_REC_PER_WINDOW then recRestart s n
  else if same DC_REC_CFG_WARN && same DC_REC_CFG_LIMIT then s
  else warnSync s n

/-- A preset is loaded (R267). -/
def recPreset (s : State) (n p : Nat) : State :=
  if p = 0 then s
  else
    let locked := match findReg (A_DC_REC_CFG n) with
      | some d => lockedBits s d (A_DC_REC_CFG n) != 0
      | none => false
    match presetRow p, locked with
    | some (lo, hi, kind, lim, win, sp), false =>
      let u := (s.set (DC_REC_LOW_LOW n) lo).set (DC_REC_HIGH_HIGH n) hi
      let u := (u.set (DC_REC_CFG_KIND n) kind).set (DC_REC_CFG_LIMIT n) lim
      let u := (u.set (DC_REC_PER_WINDOW n) win).set (DC_REC_PER_SPACING n) sp
      let u := ((u.set (DC_REC_CFG_LBT n) 0).set (DC_REC_CFG_WARN n) 12).set (DC_REC_CFG_INIT n) 0
      recWritten s u n
    | _, _ => s.raise DC_INT_STAT_RANGE

/-- DC_CTL.EN_ACK clears once no reservation remains (R277). -/
def dcDisableDone (s : State) : State :=
  if s.on DC_CTL_EN || !s.dc.reserved.isEmpty then s else s.set DC_CTL_EN_ACK 0

/-- A write to the DC window. -/
def dcWrite (staged : Bool) (s : State) (a : Nat) (v : Word) : State × WriteEnd :=
  let o := a % 0x10000
  let n := (o - 0x100) / 0x20
  if o = 0 then
    let r := fieldWrite s a v
    (if r.1.on DC_CTL_EN then r.1.set DC_CTL_EN_ACK 1 else r.1, r.2)
  else if 0x100 ≤ o ∧ o % 0x20 = 0x10 then (recPreset s n (v.toNat % 16), .ok)
  else if 0x100 ≤ o then
    let r := fieldWrite s a v
    if !staged && dcBad s r.1 a then (s.raise DC_INT_STAT_RANGE, .ok) else (recWritten s r.1 n, r.2)
  else fieldWrite s a v

/-- Usage shown by DC_RECn_USED: 0 for a DWELL record. -/
def recUsed (s : State) (n : Nat) : Nat := if recDwell s n || bucketTicks s n == 0 then 0 else usage s n 0

/-- A read of the DC window. -/
def dcRead (s : State) (a : Nat) : Word :=
  let o := a % 0x10000
  let n := (o - 0x100) / 0x20
  if a = A_DC_DWQ_VAL then
    let r := s.get DC_DWQ_SEL_REC
    let k := s.get DC_DWQ_SEL_CH
    let sp := s.get (DC_REC_PER_SPACING r)
    if recDwell s r && sp != 0 && decide (k ≤ (s.get (DC_REC_HIGH_HIGH r) - s.get (DC_REC_LOW_LOW r)) / sp) then
      w32 (min (usage s r k) 0xFFFFFFFF)
    else 0
  else if 0x100 ≤ o ∧ o % 0x20 = 0x14 then w32 (recUsed s n)
  else if 0x100 ≤ o ∧ o % 0x20 = 0x18 then w32 (recUsed s n / 2 ^ 32)
  else s.reg a

/-! ### Coexistence (R271 to R278) -/

/-- The pins follow the requests: REQ while one is high, PRI the OR of their levels (R272, R278). -/
def cxSync (s : State) : State :=
  let hi := s.dc.coex.filter (·.high)
  { s with pins := { s.pins with req := !hi.isEmpty, pri := hi.any (·.pri) } }

/-- A request of `owner` at the level of bit `bit` of CX_PRI_MAP: step 1 is LEAD before `base`, no earlier than `floor`
(R271, R272). -/
def cxAsk (s : State) (owner bit base floor : Nat) : State :=
  if !s.on CX_CTL_EN then s
  else
    let q : CoexReq := { owner := owner, bit := bit, base := base, floor := floor, high := false, rose := 0, pri := false
                         gsamp := 0, ackrx := false, wdraw := false, sampled := false }
    { s with dc := { s.dc with coex := (s.dc.coex.filter fun e => e.owner != owner) ++ [q] } }

/-- The request of `owner` is withdrawn (R271). -/
def cxDrop (s : State) (owner : Nat) : State :=
  cxSync { s with dc := { s.dc with coex := s.dc.coex.filter fun e => e.owner != owner } }

/-- The instant of step 1, with the LEAD in force (R271, R276). -/
def riseAt (s : State) (e : CoexReq) : Nat := max e.floor (e.base - 200 * s.get CX_CFG_LEAD)

/-- Step 1 of a request: what CX_CFG and CX_PRI_MAP hold then holds for it (R276). -/
def cxRiseOne (s : State) (e : CoexReq) : CoexReq :=
  { e with high := true, rose := s.now, pri := bitOf (s.get CX_PRI_MAP_MAP) e.bit, gsamp := s.get CX_CFG_GSAMP,
           ackrx := s.on CX_CFG_ACKRX, wdraw := s.on CX_CFG_WDRAW }

/-- Requests whose instant has come drive the pins (R271). -/
def cxRise (s : State) : State :=
  let q := s.dc.coex.map fun e => if !e.high ∧ riseAt s e ≤ s.now then cxRiseOne s e else e
  cxSync { s with dc := { s.dc with coex := q } }

/-- COEX_GNT after its polarity (R273). -/
def cxGrant (s : State) : Bool := s.pins.gnt != s.on CX_CTL_POL_GNT

/-- A request of a receive window while RXREQ is 1 (R275). -/
def cxWindow (s : State) (opens : Bool) : State :=
  if opens && s.on CX_CFG_RXREQ then cxRise (cxAsk s 20 3 0 s.now) else cxDrop s 20

/-- CX_CTL.EN is cleared: unsampled requests are withdrawn (R278). -/
def cxControl (s : State) : State :=
  if s.on CX_CTL_EN then s.set CX_CTL_EN_ACK 1
  else
    let s := cxSync { s with dc := { s.dc with coex := s.dc.coex.filter (·.sampled) } }
    if s.dc.coex.isEmpty then s.set CX_CTL_EN_ACK 0 else s

/-- Once the last sampled request has run out after a disable, EN_ACK clears (R278). -/
def cxSettle (s : State) : State :=
  if !s.on CX_CTL_EN && s.dc.coex.isEmpty then s.set CX_CTL_EN_ACK 0 else s

/-- Forbidden values of CX (R276). -/
def cxBad (_s u : State) (a : Nat) : Bool :=
  a == A_CX_CFG && (decide (u.get CX_CFG_LEAD < u.get CX_CFG_GSAMP + 2) || decide (1000 < u.get CX_CFG_LEAD) ||
    decide (u.get CX_CFG_GSAMP < 2))

/-- A write to the CX window. -/
def cxWrite (staged : Bool) (s : State) (a : Nat) (v : Word) : State × WriteEnd :=
  if a = A_CX_CTL then
    let r := fieldWrite s a v
    (cxControl r.1, r.2)
  else guardWrite staged cxBad CX_INT_STAT_RANGE s a v

/-- A read of the CX window. -/
def cxRead (s : State) (a : Nat) : Word :=
  if a = A_CX_STATUS then w32 (b2n (cxGrant s) * 4 + b2n s.pins.pri * 2 + b2n s.pins.req) else s.reg a

end Sys2Proof.Machine
end

