-- ==== Sys2Proof/Machine/Analogue.lean ====
section
/-! DEFINITION. Machine/Analogue.lean: the control shell of the analogue core (R104 to R131, R157). -/

namespace Sys2Proof.Machine

/-! ### Values (R105 to R107, R121, R122) -/

/-- Is a value accepted by FE_WIN_CTL.FREQ (R106)? -/
def winOk (f : Nat) : Bool := decide (4082000 ≤ f) && decide (f ≤ 9568000)

/-- Centre of bin `k` for LO `f`, in 100 Hz units (R105). -/
def binCentre (f k : Nat) : Int := (f : Int) - 39000 + 2000 * k

/-- FE_SPUR for LO `f` (R107): usable bins whose centre lies within 100 kHz of 880 MHz or 920 MHz. -/
def spurBins (f : Nat) : Nat :=
  ((List.range 32).map fun i =>
    let c := binCentre f (i + 4)
    if (c - 8800000).natAbs ≤ 1000 ∨ (c - 9200000).natAbs ≤ 1000 then 2 ^ i else 0).foldl (· + ·) 0

/-- Is a value accepted by FE_TX_OFS (R121)? -/
def txOfsOk (v : Nat) : Bool :=
  let m := (signed 16 v).natAbs
  decide (1000 ≤ m) && decide (m ≤ 31000)

/-- Is preset `k` a permitted one (R122, Table 4.3)? -/
def presetOk (s : State) (k : Nat) : Bool :=
  if s.on (FE_TXP_OUT k) then s.on FE_CTL_HP_OK && decide (s.get (FE_TXP_LEVEL k) ≤ 24)
  else decide (s.get (FE_TXP_LEVEL k) ≤ 30)

/-- RAMP of preset `k` in ticks (R124). -/
def rampTicks (s : State) (k : Nat) : Nat := 800 * 2 ^ s.get (FE_TXP_RAMP k)

/-- The lead of preset `k` in ticks: from the anchor to the first preamble bit (R124). -/
def leadTicks (s : State) (k : Nat) : Nat := rampTicks s k + 300

/-- Is FE_TX_OFS closed to firmware: a TXF between preparation and the end of its ramp-down (R121)? -/
def txBusyWr (s : State) : Bool :=
  (match s.fe.air with | some a => !a.ack | none => false) ||
    s.ls.threads.any fun t => match t.txf with | some x => decide (x.phase < 3) | none => false

/-! ### Calibrations (R108 to R118) -/

/-- Chains that FE_CTL enables. -/
def enabledChains (s : State) : Nat := b2n (s.on FE_CTL_CHA_EN) + 2 * b2n (s.on FE_CTL_CHB_EN)

/-- FE_CAL_STAT.BUSY shows a running calibration (R112). -/
def feSync (s : State) : State := s.set FE_CAL_STAT_BUSY (b2n (s.fe.cal.isSome || s.on FE_RT_STAT_BUSY))

/-- A calibration that a command named. -/
abbrev calCmd (k m : Nat) : CalS := { kind := k, chains := m, cmd := true, auto := false }

/-- A calibration that another trigger asked for. -/
abbrev calAuto (k m : Nat) : CalS := { kind := k, chains := m, cmd := false, auto := true }

/-- Does a retune or a recovery make this calibration itself: SYN or DC? -/
def CalS.synDc (c : CalS) : Bool := decide (c.kind < 2) || c.kind == 5

/-- The next calibration to run starts where none runs; one that takes the transmitter waits for the end of a
transmission, and those behind it with it: it starts at the first tick after it (R112). -/
def feStart (s : State) : State :=
  if s.fe.cal.isSome || s.on FE_RT_STAT_BUSY then feSync s
  else
    match s.fe.queue with
    | [] => feSync s
    | c :: q =>
      if c.kind ≠ 1 ∧ c.kind ≠ 5 ∧ s.fe.air.isSome then feSync s
      else
        let m := if c.kind = 1 then enabledChains s else c.chains
        let t := { s with fe := { s.fe with cal := some { c with chains := m }, queue := q, synAgain := false } }
        feSync (t.loseChains true)

/-- Calibrations are inserted in the order of Table 4.2; one that waits already takes the new triggers. The DC of a chain
enabled again comes first, for R118 bounds it by 40 µs (DESIGN CHOICE, log entry 52). -/
def feInsert (q : List CalS) (c : CalS) : List CalS :=
  if c.kind = 5 then c :: q
  else if q.any (·.kind == c.kind) then
    q.map fun e => if e.kind = c.kind then { e with cmd := e.cmd || c.cmd, auto := e.auto || c.auto } else e
  else (q.filter fun e => e.kind == 5 || decide (e.kind < c.kind)) ++ [c] ++
    (q.filter fun e => e.kind != 5 && decide (c.kind < e.kind))

/-- A calibration command of the kinds set in `run` (R106, R112, R129). -/
def feCommand (s : State) (run : Nat) : State :=
  let bad := s.get FE_WIN_CTL_FREQ == 0 && (bitOf run 0 || bitOf run 1)
  let s := if bad then s.raise FE_INT_STAT_RANGE else s
  let kinds := (List.range 5).filter fun k => bitOf run k && !(bad && decide (k < 2))
  if !s.on FE_CTL_EN || kinds.isEmpty then s
  else feStart { s with fe := { s.fe with queue := kinds.foldl (fun q k => feInsert q (calCmd k 3)) s.fe.queue } }

/-- A transmission between the start of ramp-up and the end of ramp-down is cut: ramp-down starts at once, or goes on;
`shell`: by the shell, so that the blanking ends with it (R111, R115). -/
def feCut (s : State) (shell : Bool) : State :=
  match s.fe.air with
  | some a =>
    let b := if a.cut then a else { a with down := true, cut := true, lastBit := if a.down then a.lastBit + 100 else s.now }
    { s with fe := { s.fe with air := some { b with shell := a.shell || shell } } }
  | none => s

/-- The queue with the calibration that runs, stopped, returned to it. -/
def feRequeue (s : State) : List CalS :=
  match s.fe.cal with
  | some c => if c.kind = 5 then s.fe.queue else feInsert s.fe.queue c
  | none => s.fe.queue

/-- Calibrations after a stop: SYN and DC are not run again, the others return to the queue (R108). -/
def feStopCal (s : State) : State :=
  { s with fe := { s.fe with cal := none, queue := (feRequeue s).filter fun e => !e.synDc } }

/-- A retune starts (R108 to R111). -/
def feRetune (s : State) : State :=
  let s := if s.on FE_RT_STAT_BUSY then s.set FE_RT_STAT_RESTART 1 else s
  let s := (feStopCal (feCut s true)).set FE_RT_STAT_BUSY 1
  let s := { s with fe := { s.fe with rtStart := s.now, synAgain := false } }
  feSync (s.loseChains false)

/-- Temperature is measured: FE_TEMP, and the trigger of R113. -/
def feTemp (s : State) (temp : Nat) : State :=
  let s := (s.set FE_TEMP_TEMP temp).set FE_TEMP_VALID 1
  if 32 < (signed 16 temp - s.getS FE_CAL_STAT_LAST_T).natAbs then
    let s := if s.on FE_CAL_STAT_TEMP_DUE then s else { s with fe := { s.fe with dueAt := s.now } }
    ((s.set FE_CAL_STAT_TEMP_DUE 1).raise FE_INT_STAT_TEMP_DUE).emit 158
  else s

/-- Temperature and VBAT are measured (R113, R128). A measurement takes up its tick: its length is not given (log entry 23). -/
def feMeasure (s : State) (temp mv : Nat) : State :=
  let s := ((feTemp s temp).set FE_VBAT_MV mv).set FE_VBAT_VALID 1
  { s with fe := { s.fe with sensed := some s.now } }

/-- A measurement that FE_SENSE_CTL.NOW or its event asks for, with the period counted again from it (R128, R455): the levels are
free values. -/
def feSense (s : State) : State :=
  let (x, t) := s.fresh
  feMeasure { t with fe := { t.fe with senseNext := t.now } } (x.toNat % 0x10000) (x.toNat / 0x10000)

/-- A SYN has locked: TEMP_DUE clears, LAST_T takes the temperature (R113). -/
def feSynDone (s : State) (temp : Nat) : State :=
  (((s.set FE_CAL_STAT_LAST_T temp).set FE_CAL_STAT_TEMP_DUE 0).set FE_CAL_STAT_SYN_FAIL 0).set
    (FE_CAL_STAT_VALID.bit 0) 1

/-- Every recovery of the synthesiser in progress ends: one record each (R570, R572). -/
def feRecovered (s : State) (code : Nat) : State :=
  (s.fc.recov.filter fun r => r.code == 0x6).foldl (fun t _ => t.recovEnd 0x6 0 code id id)
    { s with fe := { s.fe with unlock := false } }

/-- A SYN has failed twice: SYN_FAIL is set (R115). -/
def feSynFail (s : State) : State := { s.set FE_CAL_STAT_SYN_FAIL 1 with fe := { s.fe with synAgain := false } }

/-- What follows at fault containment: fault code 0x7, and a system reset where FC_CFG says so (R115, R568, R572). Nothing is
written after such a reset (R15). -/
def feSynFault (s : State) : State :=
  let t := if s.fe.unlock then feRecovered s 0x7 else s.fault 0x7 0 (s.get FE_WIN_CTL_FREQ)
  if s.on FC_CFG_SYNFAIL_RST then systemReset t 0x6 0x7 else t

/-- A retune completes, or its SYN fails to lock (R109, R113, R115); a recovery that it overtook ends with it. -/
def feRetuneComplete (s : State) (ok : Bool) (temp : Nat) : State :=
  if !s.on FE_RT_STAT_BUSY || s.fe.air.isSome then s
  else
    let s := feTemp s temp
    if ok then
      let s := (feSynDone s temp).set (FE_CAL_STAT_VALID.bit 1) 1
      let s := (s.set FE_RT_STAT_BUSY 0).set FE_RT_STAT_DUR (min (s.now - s.fe.rtStart) 0xFFFF)
      let s := { s with fe := { s.fe with queue := s.fe.queue.filter fun e => e.kind != 5 } }
      let s := feStart (((s.raise FE_INT_STAT_RETUNE).emit 41).latchAll LS_T_PEND1_RETUNE)
      if s.fe.unlock then feRecovered s 0x6 else s
    else if !s.fe.synAgain then { s with fe := { s.fe with synAgain := true } }
    else feSynFault (feStart ((feSynFail s).set FE_RT_STAT_BUSY 0))

/-- The calibrations that run or wait. -/
def feWaiting (s : State) : List CalS := s.fe.cal.toList ++ s.fe.queue

/-- CAL_DONE where the last commanded calibration has ended; the end of the reset calibration (R112, R413). -/
def feDone (s : State) : State :=
  let w := feWaiting s
  let rest := s.fe.resetCal == 1 && !(w.any fun c => c.auto && !c.synDc)
  let last := s.fe.calDone && !(w.any (·.cmd))
  let t := { s with fe := { s.fe with resetCal := if rest then 2 else s.fe.resetCal, calDone := s.fe.calDone && !last } }
  if last then (t.raise FE_INT_STAT_CAL_DONE).emit 43 else t

/-- A running calibration finishes (R112, R113, R115). A DC that waits behind a SYN that has failed twice still runs; none
follows a SYN commanded alone that has failed (DESIGN CHOICE, log entry 52). -/
def feCalComplete (s : State) (ok : Bool) (temp : Nat) : State :=
  match s.fe.cal with
  | none => s
  | some c =>
    let off := fun (t : State) => ({ t with fe := { t.fe with cal := none, calDone := t.fe.calDone || c.cmd } } : State)
    if c.kind = 0 then
      let s := feTemp s temp
      if ok then
        let s := off (feSynDone s temp)
        feStart { s with fe := { s.fe with queue := feInsert s.fe.queue { c with kind := 1, auto := true } } }
      else if !s.fe.synAgain then { s with fe := { s.fe with synAgain := true } }
      else feSynFault (feDone (feStart (off (feSynFail s))))
    else
      let t := feDone (feStart (off (s.set (FE_CAL_STAT_VALID.bit (if c.kind = 5 then 1 else c.kind)) 1)))
      if s.fe.unlock && c.kind == 1 then feRecovered t 0x6 else t

/-- The reset calibration starts at the first setting of LOCKED after a reset (R112). -/
def feResetCal (s : State) : State :=
  if s.fe.resetCal = 0 then
    feStart { s with fe := { s.fe with resetCal := 1, queue := [calAuto 2 3, calAuto 3 3, calAuto 4 3] } }
  else s

/-- Is lock checked now (R115)? Not while SYN_FAIL is set: the synthesiser has no lock to lose (DESIGN CHOICE, log entry
52). -/
def feLockChecked (s : State) : Bool :=
  s.get FE_WIN_CTL_FREQ != 0 && s.on FE_CTL_EN && s.awake && s.fe.relocked && !s.on FE_RT_STAT_BUSY &&
    !s.on FE_CAL_STAT_SYN_FAIL && !(s.fe.cal.any (·.kind == 0))

/-- The synthesiser loses lock (R115, R570, R572). -/
def feUnlock (s : State) : State :=
  if !feLockChecked s then s
  else
    let s := (feCut s true).recovBegin 0x6 0 (s.get FE_WIN_CTL_FREQ)
    let q := (feRequeue s).filter fun e => e.kind != 5
    let s := { s with fe := { s.fe with cal := none, unlock := true, queue := feInsert (feInsert q (calAuto 1 3)) (calAuto 0 3) } }
    feStart (((s.raise FE_INT_STAT_UNLOCK).emit 42).loseChains true)

/-- The synthesiser relocks after a wake (R116); lanes that firmware has armed search again (R171). -/
def feRelock (s : State) : State :=
  if s.fe.relocked then s else { s with fe := { s.fe with relocked := true } }

/-- The forced recalibration (R114). -/
def feForced (s : State) : State :=
  let quiet := s.fe.air.isNone && s.ls.acks.isEmpty && (List.range 16).all fun p => s.laneState p != lnFrame
  if s.get FE_CAL_CTL_FORCE_T ≠ 0 ∧ s.on FE_CAL_STAT_TEMP_DUE ∧
      s.fe.dueAt + s.get FE_CAL_CTL_FORCE_T * 200000000 ≤ s.now ∧ quiet ∧ s.on FE_CTL_EN ∧
      s.get FE_WIN_CTL_FREQ ≠ 0 ∧ !s.on FE_CAL_STAT_BUSY ∧ !s.on FE_RT_STAT_BUSY then
    feStart { s with fe := { s.fe with queue := feInsert (feInsert s.fe.queue (calAuto 0 3)) (calAuto 1 3) } }
  else s

/-! ### Sensing (R128) -/

/-- Is a periodic measurement due, or the one after a return to Run? -/
def senseDue (s : State) : Bool :=
  s.awake && (s.fe.senseWake ||
    (s.get FE_SENSE_CTL_PERIOD != 0 && decide (s.fe.senseNext + s.get FE_SENSE_CTL_PERIOD * 200000 ≤ s.now)))

/-- A periodic measurement (R128): the period runs from the end of reset, or from the last write of FE_SENSE_CTL. -/
def fePeriod (s : State) (temp mv : Nat) : State :=
  if !senseDue s then s
  else
    let p := s.get FE_SENSE_CTL_PERIOD * 200000
    let n := if p = 0 then s.fe.senseNext else s.fe.senseNext + (s.now - s.fe.senseNext) / p * p
    feMeasure { s with fe := { s.fe with senseNext := n, senseWake := false } } temp mv

/-! ### Gain and levels (R119, R120, R126) -/

/-- The gain of chain `c` steps down or up (R119). -/
def feGain (s : State) (c : Nat) (down : Bool) : State :=
  let f := if c = 0 then FE_CHSTAT_GAIN_A else FE_CHSTAT_GAIN_B
  if down then s.set f (min 7 (s.get f + 1)) else s.set f (s.get f - 1)

/-- An RSSI in the reporting range (R126): −130 dBm to −10 dBm in units of 0.5 dB. -/
def clampRssi (x : Nat) : Nat := unsigned 16 (max (-260) (min (-20) (signed 16 x)))

/-- LQI from the SNR in units of 1/8 dB (R126): 8 × SNR + 32, clamped to 0 to 255. -/
def lqiOf (snr8 : Nat) : Nat := (max 0 (min 255 (signed 16 snr8 + 32))).toNat

/-- FE_LRPTn_NOW is refreshed: `a` and `b` are the levels on chains A and B (R126). -/
def feRssi (s : State) (p a b : Nat) : State :=
  let st := s.laneState p
  let d := s.get (CZ_LANE_CFG_DIV p)
  let v :=
    if d = 1 then a
    else if d = 2 then b
    else if s.on FE_CTL_SWDIV then a
    else if st = lnPreamble ∨ st = lnFrame then (if s.get (CZ_LANE_STAT_CHAIN p) = 0 then a else b)
    else if s.chainUp 0 && !s.chainUp 1 then a
    else if s.chainUp 1 && !s.chainUp 0 then b
    else if signed 16 a < signed 16 b then b else a
  s.set (FE_LRPT_NOW_RSSI p) (clampRssi v)

/-- Are more than one lane that uses chain A armed while the external switch is in use (R120, R146)? -/
def swMulti (s : State) : Bool :=
  s.on FE_CTL_SWDIV && decide (1 < ((List.range 16).filter fun p =>
    decide (1 ≤ s.laneState p) && decide (s.laneState p ≤ 5) && s.laneArmed p && decide (s.get (CZ_LANE_CFG_DIV p) < 2)).length)

/-- The symbols of a measurement, as DSPAN stood at the detection (R149, R151). -/
def measureSpan (s : State) (p : Nat) : Nat := 4 * 2 ^ bitsOf (s.lane p).dcfg (CZ_LANE_DCFG_DSPAN p).lo 2

/-- The shell watches the lanes that use the external switch: with more than one armed it holds position 0, lanes that
measure stop, and CHAIN of a lane that receives shows that position (R120, R152); a lane that has measured at position 0 for its
span goes on to position 1 (R152). -/
def swWatch (s : State) : State :=
  let m := swMulti s
  let sel := fun p => s.laneState p == lnDecide && s.get (CZ_LANE_CFG_DIV p) == 0
  let t := { s with fe := { s.fe with multi := m } }
  if m then
    let shows := fun p => s.get (CZ_LANE_CFG_DIV p) != 2 && decide (lnPreamble ≤ s.laneState p) && decide (s.laneState p ≤ lnFrame)
    let t := (List.range 16).foldl (fun t p =>
      let t := if shows p then t.set (CZ_LANE_STAT_CHAIN p) 0 else t
      if sel p then t.setLane p lnPreamble else t) { t with fe := { t.fe with swPos := 0 } }
    if s.fe.multi then t else t.raise FE_INT_STAT_SWDIV_MULTI
  else if s.on FE_CTL_SWDIV && (List.range 16).any fun p => sel p &&
      decide ((s.lane p).detAt + measureSpan s p * sym3 (s.get (CZ_LANE_CFG_MODE p)) / 3 ≤ s.now) then
    { t with fe := { t.fe with swPos := 1 } }
  else t

/-! ### Disable (R129) -/

/-- FE_CTL has been written: `old` is the state before (R117, R118, R129). A clear of EN discards the calibrations that
only a command asked for; a rise starts a retune, at once where a commit point makes it (R23, R88). -/
def feControl (atOnce : Bool) (old s : State) : State :=
  let rise := !old.on FE_CTL_EN && s.on FE_CTL_EN && s.get FE_WIN_CTL_FREQ != 0
  let s :=
    if old.on FE_CTL_EN && !s.on FE_CTL_EN then
      feDone { s with fe := { s.fe with queue := (s.fe.queue.filter (·.auto)).map fun c => { c with cmd := false } } }
    else if !old.on FE_CTL_EN && s.on FE_CTL_EN then s.set FE_CTL_EN_ACK 1
    else s
  let s := if rise && !atOnce then { s with ls := { s.ls with launches := s.ls.launches ++ [.retune] } } else s
  let s := if s.on FE_CTL_SWDIV then s else { s with fe := { s.fe with swPos := 0 } }
  let s := [(FE_CTL_CHA_EN, 1), (FE_CTL_CHB_EN, 2)].foldl (fun t e =>
    if !old.on e.1 && t.on e.1 && t.on FE_CTL_EN && t.get FE_WIN_CTL_FREQ != 0 then
      { t with fe := { t.fe with queue := feInsert t.fe.queue (calAuto 5 e.2) } }
    else t) s
  let s := feStart ((s.loseChains true).relevel)
  if rise && atOnce then feRetune s else s

/-- Transmissions and calibrations have ended after a disable: the chains go to standby (R129). -/
def feDisableDone (s : State) : State :=
  if s.on FE_CTL_EN || s.fe.air.isSome || !(feWaiting s).isEmpty || s.on FE_RT_STAT_BUSY then s
  else (s.set FE_CTL_EN_ACK 0).loseChains true

/-! ### Transmissions (R111, R123 to R125, R157) -/

/-- The power setting of preset `k` in units of 0.5 dBm (Table 4.3). -/
def txSetting (s : State) (k : Nat) : Int :=
  if s.on (FE_TXP_OUT k) then (s.get (FE_TXP_LEVEL k) : Int) + 16 else 2 * (s.get (FE_TXP_LEVEL k) : Int) - 32

/-- Ramp-up starts (step 1 of Table 4.4): the switch changes and every lane is blanked (R31), but for one whose frame has
arrived (R157). -/
def airStart (s : State) (a : AirS) : State :=
  let t := { s with fe := { s.fe with air := some a, blank := true } }
  (List.range 16).foldl (fun t p => if laneArrived t p then t else t.abandonLane p true) t

/-- The last bit has left; ramp-down starts (step 4). The output detector has read the transmission, which is a free value
in units of 0.5 dBm; more than 1 dB below the setting it sets PA_SAT (R123; DESIGN CHOICE, log entry 23). -/
def airLast (s : State) : State :=
  match s.fe.air with
  | some a =>
    let (w, t) := ({ s with fe := { s.fe with air := some { a with down := true } } } : State).fresh
    if signed 16 w.toNat + 2 < a.setting then t.raise FE_INT_STAT_PA_SAT else t
  | none => s

/-- Ramp-down ends (step 5); after a cut by the shell the blanking ends with it (R111). -/
def airEnd (s : State) : State :=
  { s with fe := { s.fe with air := none, blank := s.fe.blank && !(s.fe.air.any (·.shell)) } }

/-- The chains return to service (step 6): armed lanes resume (R157). -/
def airService (s : State) : State :=
  if s.fe.air.isSome || !s.fe.blank then s else { s with fe := { s.fe with blank := false } }

/-! ### Register writes -/

/-- Forbidden values of FE (R106, R121, R122): `u` is the state after the write. -/
def feBad (_s u : State) (a : Nat) : Bool :=
  if a = A_FE_WIN_CTL then !winOk (u.get FE_WIN_CTL_FREQ)
  else if a = A_FE_TX_OFS then !txOfsOk (u.get FE_TX_OFS_OFS)
  else if 0x40050020 ≤ a ∧ a < 0x40050030 then !presetOk u ((a - 0x40050020) / 4)
  else false

/-- A write of the FE window; `atOnce` where a commit point launches it (R88, R108). -/
def feWrite (atOnce : Bool) (s : State) (a : Nat) (v : Word) : State × WriteEnd :=
  if a = A_FE_CTL then
    let r := fieldWrite s a v
    (feControl atOnce s r.1, r.2)
  else if a = A_FE_WIN_CTL then
    let r := guardWrite atOnce feBad FE_INT_STAT_RANGE s a v
    if winOk (v.toNat % 2 ^ 24) then
      let t := r.1.set FE_SPUR_BINS (spurBins (r.1.get FE_WIN_CTL_FREQ))
      if !t.on FE_CTL_EN then (t, .ok)
      else if atOnce then (feRetune t, .ok)
      else ({ t with ls := { t.ls with launches := t.ls.launches ++ [.retune] } }, .ok)
    else r
  else if a = A_FE_TX_OFS then
    if txBusyWr s then (s.raise FE_INT_STAT_TX_BUSY_WR, .ok) else guardWrite atOnce feBad FE_INT_STAT_RANGE s a v
  else if 0x40050020 ≤ a ∧ a < 0x40050030 then guardWrite atOnce feBad FE_INT_STAT_RANGE s a v
  else if a = A_FE_CAL_CMD then (feCommand s (v.toNat % 32), .ok)
  else if a = A_FE_SENSE_CTL then
    let r := fieldWrite s a v
    (if bitOf v.toNat 31 then feSense r.1 else { r.1 with fe := { r.1.fe with senseNext := r.1.now } }, r.2)
  else fieldWrite s a v

end Sys2Proof.Machine
end

