-- ==== Sys2Proof/Machine/Channel.lean ====
section
/-! DEFINITION. Machine/Channel.lean: the channeliser and its lanes (R132 to R176). -/

namespace Sys2Proof.Machine

/-! ### Configuration (R148, R149) -/

/-- Does a lane with EN = 1 hold a forbidden combination, alone (Table 5.6)? -/
def laneBad (s : State) (p : Nat) : Bool :=
  let m := s.get (CZ_LANE_CFG_MODE p)
  let b := s.get (CZ_LANE_CFG_BIN p)
  if s.on CZ_CTL_PATH then !modeNarrow m || (m == 12 && !s.on CZ_NARROW_BW)
  else !modeBank m || decide (b < 4) || decide (35 < b)

/-- Do the CZ registers hold a forbidden combination other than the last row of Table 5.6? -/
def czForbidden (s : State) : Bool :=
  let on := (List.range 16).filter fun p => s.on (CZ_LANE_CFG_EN p)
  let ofs := (s.getS CZ_NARROW_OFS).natAbs
  on.any (laneBad s) ||
    (!s.on CZ_CTL_PATH && on.any fun p => on.any fun q => decide (p < q) &&
      s.get (CZ_LANE_CFG_BIN p) == s.get (CZ_LANE_CFG_BIN q) && s.get (CZ_LANE_CFG_MODE p) == s.get (CZ_LANE_CFG_MODE q)) ||
    (s.on CZ_CTL_PATH && decide (1 < on.length)) || decide (ofs < 3000) || decide (29000 < ofs) ||
    (List.range 16).any fun p => s.get (CZ_LANE_CFG_DIV p) == 3 || s.get (CZ_LANE_DCFG_DSPAN p) == 3

/-- EN = 1 on a lane in FAILED (the last row of Table 5.6). -/
def czFailedOn (s : State) : Bool :=
  (List.range 16).any fun p => s.laneState p == lnFailed && s.on (CZ_LANE_CFG_EN p)

/-- Forbidden values of CZ (R148): `u` is the state after the write. -/
def czBad (_s u : State) (a : Nat) : Bool :=
  let o := a % 0x10000
  if o = 0 ∨ o = 0x08 ∨ (0x100 ≤ o ∧ o % 0x100 < 0x08) then czForbidden u || czFailedOn u else false

/-! ### Bin-set choice (R164 to R169) -/

/-- Is a lane managed (R164)? -/
def managed (s : State) (p : Nat) : Bool :=
  s.on (CZ_LANE_CFG_BSC p) && s.on (CZ_LANE_CFG_EN p) && modeBank (s.get (CZ_LANE_CFG_MODE p)) && !s.on CZ_CTL_PATH

/-- The bins whose test holds, as a set word: bit k − 4 for BINk. -/
def binWord (f : Nat → Bool) : Nat := ((List.range 32).map fun i => b2n (f (i + 4)) * 2 ^ i).foldl (· + ·) 0

/-- Is bin `k` in the bin set (R164)? -/
def inSet (s : State) (k : Nat) : Bool :=
  (List.range 16).any fun p => managed s p && s.get (CZ_LANE_CFG_BIN p) == k

/-- CZ_BSC_SET and CZ_BSC_NEXT as they read (R164, R168). -/
def bscSet (s : State) : Nat := binWord (inSet s)
def bscNext (s : State) : Nat := if s.on CZ_BSC_STAT_PEND then s.get CZ_BSC_NEXT_NEXT else bscSet s

/-- Does an enabled lane hold bin `k`? -/
def binHeld (s : State) (k : Nat) : Bool :=
  (List.range 16).any fun p => s.on (CZ_LANE_CFG_EN p) && !s.on CZ_CTL_PATH && s.get (CZ_LANE_CFG_BIN p) == k

/-- Candidate bins in ascending order (R166). -/
def candidates (s : State) : List Nat := ((List.range 32).map (· + 4)).filter fun k => !binHeld s k

/-- Does bin-set choice run (R164)? -/
def bscRuns (s : State) : Bool := s.on CZ_BSC_CTL_EN && !s.on CZ_CTL_PATH

/-- The lane that surveys, while a survey may run (R166); none while CZ_CTL.EN is 0, which returns every lane to ATTACHED
or IDLE (R170; DEDUCED, log entry 52). -/
def surveyLane (s : State) : Option Nat :=
  let p := s.get CZ_BSC_CTL_SURVEY
  if bscRuns s && s.on CZ_CTL_EN && s.get CZ_BSC_CTL_PERIOD != 0 && (s.laneState p == lnIdle || s.laneState p == lnSurvey) &&
      !(candidates s).isEmpty && s.awake then some p else none

/-- The survey starts or ends as its conditions give (R166, R169). One that resumes starts again at the lowest candidate bin, with
a new 10 ms (DESIGN CHOICE, log entry 62: R169 does not say where). -/
def surveyUpdate (s : State) : State :=
  let s := (List.range 16).foldl (fun t p =>
    if t.laneState p = lnSurvey ∧ surveyLane t ≠ some p then t.setLane p lnIdle else t) s
  match surveyLane s with
  | some p =>
    if s.laneState p = lnSurvey then s
    else
      let b := (candidates s).headD 0
      let s := { s with cz := { s.cz with surveyNext := s.now + 2000000 } }
      ((s.setLane p lnSurvey).set CZ_BSC_STAT_SURV 1).set CZ_BSC_STAT_SBIN b
  | none => s.set CZ_BSC_STAT_SURV 0

/-- After 10 ms on a bin the survey lane moves to the next candidate, ascending and wrapping (R166). -/
def surveyStep (s : State) : State :=
  if s.on CZ_BSC_STAT_SURV && (surveyLane s).isSome then
    let b := s.get CZ_BSC_STAT_SBIN
    let c := candidates s
    let n := (c.find? fun k => decide (b < k)).getD (c.headD b)
    ({ s with cz := { s.cz with surveyNext := s.now + 2000000 } } : State).set CZ_BSC_STAT_SBIN n
  else s

/-- LOSS of the bin of a lane counts an HDR or FCS outcome; in the narrow path a lane is attached to no bin (R165). -/
def lossCount (s : State) (p : Nat) : State :=
  if s.on CZ_CTL_PATH then s else
  let k := s.get (CZ_LANE_CFG_BIN p)
  let n := (assocGet s.cz.loss k).getD 0
  { s with cz := { s.cz with loss := assocPut s.cz.loss k (min 255 (n + 1)) } }

/-- One sample of NF of bin `k` (R165). -/
def nfSample (s : State) (k x : Nat) : State :=
  let n := match assocGet s.cz.nf k with
    | none => x
    | some v => unsigned 16 (signed 16 v + (signed 16 x - signed 16 v) / 8)
  { s with cz := { s.cz with nf := assocPut s.cz.nf k n } }

/-- The lane whose level is the sample of a bin: a managed lane in ARMED on it (R165); of two the lowest-numbered (DESIGN CHOICE,
log entry 62: R165 names no one lane). -/
def sampleLane (s : State) (k : Nat) : Option Nat :=
  (List.range 16).find? fun p => managed s p && s.laneState p == lnArmed && s.get (CZ_LANE_CFG_BIN p) == k

/-- The samples taken once every 1 ms, one of each bin (R165). -/
def bscSample (s : State) : State :=
  let s := { s with cz := { s.cz with sampleNext := s.now + 200000 } }
  if bscRuns s && (s.chainUp 0 || s.chainUp 1) then
    let s := (List.range 40).foldl (fun t k =>
      match sampleLane s k with
      | some p => nfSample t k (s.get (FE_LRPT_NOW_RSSI p))
      | none => t) s
    match surveyLane s with
    | some p => if s.on CZ_BSC_STAT_SURV then nfSample s (s.get CZ_BSC_STAT_SBIN) (s.get (FE_LRPT_NOW_RSSI p)) else s
    | none => s
  else s

/-- The cost of bin `k` (R165). -/
def binCost (s : State) (k : Nat) : Int :=
  signed 16 ((assocGet s.cz.nf k).getD 0) + 2 * (min ((assocGet s.cz.loss k).getD 0) 63 : Nat)
    + 32 * (b2n (bitOf (s.get FE_SPUR_BINS) (k - 4)) : Nat)

/-- The first element of a list that no later one beats. -/
def bestOf (better : Nat → Nat → Bool) : List Nat → Option Nat
  | [] => none
  | x :: xs => some (xs.foldl (fun b y => if better y b then y else b) x)

/-- A bin-set decision (R167). -/
def bscDecide (s : State) : State :=
  let step := s.get CZ_BSC_CTL_PERIOD * 3200000000
  let s := { s with cz := { s.cz with decideNext := s.cz.decideNext + step } }
  if !bscRuns s || s.get CZ_BSC_CTL_PERIOD == 0 || s.on CZ_BSC_STAT_PEND then s
  else
    let w := ((List.range 32).map (· + 4)).filter fun k => inSet s k && !bitOf (s.get CZ_BSC_KEEP_KEEP) (k - 4)
    let b := (candidates s).filter fun k => (assocGet s.cz.nf k).isSome
    let t := { s with cz := { s.cz with loss := [] } }
    match bestOf (fun x y => decide (binCost s y < binCost s x)) w, bestOf (fun x y => decide (binCost s x < binCost s y)) b with
    | some out, some inn =>
      if (s.get CZ_BSC_CTL_HYST : Int) ≤ binCost s out - binCost s inn then
        let t := t.set CZ_BSC_NEXT_NEXT (binWord fun k => (inSet s k && k != out) || k == inn)
        let t := t.set64 CZ_BSC_EFF_LO_EFF CZ_BSC_EFF_HI_EFF (t.dtime + max 1 (t.get CZ_BSC_CTL_LEAD) * 3200000000)
        (((t.set CZ_BSC_STAT_PEND 1).set CZ_BSC_STAT_OUT out).set CZ_BSC_STAT_IN inn).raise CZ_INT_STAT_BSC
      else t
    | _, _ => t

/-- Is the pending bin change due (R168)? -/
def bscDue (s : State) : Bool :=
  s.on CZ_BSC_STAT_PEND && decide (s.get64 CZ_BSC_EFF_LO_EFF CZ_BSC_EFF_HI_EFF ≤ s.dtime)

/-- A lane takes a bin, with the effect of R149. -/
def laneTakeBin (s : State) (p b : Nat) : State :=
  let s := (s.updLane p fun l => { l with move := none }).abandonLane p false
  (s.set (CZ_LANE_CFG_BIN p) b).settleLane p

/-- The pending bin change takes effect or is dropped (R168). -/
def bscChange (s : State) : State :=
  if !bscDue s then s
  else
    let out := s.get CZ_BSC_STAT_OUT
    let inn := s.get CZ_BSC_STAT_IN
    let s := s.set CZ_BSC_STAT_PEND 0
    if binHeld s inn || !inSet s out || s.on CZ_CTL_PATH then s.raise CZ_INT_STAT_BSC
    else
      let s := (List.range 16).foldl (fun t p =>
        if managed s p && s.get (CZ_LANE_CFG_BIN p) == out then
          if t.laneState p = lnFrame then t.updLane p fun l => { l with move := some inn }
          else laneTakeBin t p inn
        else t) s
      (s.bump CZ_BSC_CNT_SWAPS).raise CZ_INT_STAT_BSC

/-! ### Self-check and spares (R159 to R163) -/

/-- A periodic test starts on each lane in IDLE, ATTACHED or SURVEY (R160, R169). -/
def selfStart (s : State) : State :=
  let s := { s with cz := { s.cz with selfNext := s.cz.selfNext + s.get CZ_SELF_CTL_PERIOD * 20000000 } }
  if s.on CZ_SELF_CTL_EN && s.get CZ_SELF_CTL_PERIOD != 0 && s.awake then
    (List.range 16).foldl (fun t p =>
      let st := t.laneState p
      if st = lnIdle ∨ st = lnAttached ∨ st = lnSurvey then t.setLane p lnSelftest else t) s
  else s

/-- The first instant after now of the grid of `step` ticks that `next` lies on. -/
def gridAfter (now next step : Nat) : Nat := if step = 0 ∨ now < next then next else next + ((now - next) / step + 1) * step

/-- The periods of the self-test that fell in a sleep run no test (R160); no decision is made for those of the bin set
(R167; DEDUCED, log entry 36). -/
def czCatchUp (s : State) : State :=
  { s with cz := { s.cz with
      selfNext := gridAfter s.now s.cz.selfNext (s.get CZ_SELF_CTL_PERIOD * 20000000)
      decideNext := gridAfter s.now s.cz.decideNext (s.get CZ_BSC_CTL_PERIOD * 3200000000) } }

/-- The decisions of the bin set that come due while it does not run are none, and the next keeps the grid of
PERIOD × 16 s (R167). -/
def czGrid (s : State) : State :=
  if bscRuns s && s.get CZ_BSC_CTL_PERIOD != 0 then s
  else { s with cz := { s.cz with decideNext := gridAfter s.now s.cz.decideNext (s.get CZ_BSC_CTL_PERIOD * 3200000000) } }

/-- A lane fails a check (R161, R162, R570). -/
def laneFail (s : State) (p : Nat) (periodic : Bool) : State :=
  if s.laneState p = lnFailed then s
  else
    let on := s.on (CZ_LANE_CFG_EN p)
    let armed := s.get (CZ_LANE_STAT_ARMED_FW p)
    let s := (s.recovBegin 0x5 (b2n periodic) p).abandonLane p false
    let cfg := s.reg (A_CZ_LANE_CFG p)
    let s := s.setLane p lnFailed
    let s := (s.set (CZ_LANE_CFG_EN p) 0).set (CZ_LANE_STAT_ARMED_FW p) 0
    let spare := (List.range 16).find? fun q => s.laneState q == lnIdle || s.laneState q == lnSurvey
    let take := on && s.on CZ_SELF_CTL_SPARE
    let q := spare.getD 0
    let moved := take && spare.isSome
    let s := s.setReg A_CZ_FAIL_LOG (w32 (0x400 + b2n periodic * 0x200 + b2n moved * 0x100 + (if moved then q * 16 else 0) + p))
    let s := s.raise CZ_INT_STAT_LANE_FAIL
    let where_ := b2n moved * 0x100 + (if moved then q * 16 else 0) + p
    let s :=
      if moved then
        let lp := s.logicalOf p
        let lq := s.logicalOf q
        let s := (s.setReg (A_CZ_LANE_CFG q) cfg).setReg (A_CZ_LANE_DCFG q) (s.reg (A_CZ_LANE_DCFG p))
        let s := s.set (CZ_LANE_STAT_ARMED_FW q) armed
        let s := match lp with | some l => s.setMap l q | none => s
        let s := match lq with | some l => s.setMap l p | none => s
        s.setLane q (s.restState q)
      else if take then s.raise CZ_INT_STAT_NOSPARE
      else s
    let s := s.recovEnd 0x5 p 0x5 id (fun _ => where_)
    if take && spare.isNone && s.on FC_CFG_NOSPARE_RST then systemReset s 0x6 0x5 else s

/-- A lane's stored-vector test completes (R160, R161). -/
def selfEnd (s : State) (p : Nat) (ok : Bool) : State :=
  if s.laneState p ≠ lnSelftest then s
  else if ok then s.setLane p (s.restState p)
  else laneFail s p true

/-! ### Register writes (R146, R148, R149, R170) -/

/-- A field of a word. -/
def Field.ofWord (f : Field) (w : Word) : Nat := bitsOf w f.lo f.w

/-- A write that took CFG of a lane from `old` to `new` has its effect on the lane (R149, R160): a change of attachment
loses the reception, and the external switch leaves a position that a lane with DIV = 0 had chosen. A lane that was to take
another bin at its frame end takes it now, unless the write names a bin (R168). -/
def laneConfig (s : State) (p : Nat) (old new : Word) : State :=
  let same := fun f : Nat → Field => (f p).ofWord old == (f p).ofWord new
  let st := s.laneState p
  if old = new ∨ st = lnFailed then s
  else
    let s := if st = lnSelftest then s.setLane p (s.restState p) else s
    if same CZ_LANE_CFG_BIN && same CZ_LANE_CFG_MODE && same CZ_LANE_CFG_DIV && same CZ_LANE_CFG_EN then s
    else
      let held := (CZ_LANE_CFG_DIV p).ofWord old == 0 && (st == lnPreamble || st == lnDecide || st == lnFrame)
      let s := if held then { s with fe := { s.fe with swPos := 0 } } else s
      let s := if same CZ_LANE_CFG_BIN then s else s.updLane p fun l => { l with move := none }
      let s := s.abandonLane p false
      if s.on (CZ_LANE_CFG_EN p) then (if st = lnSurvey ∨ st = lnIdle then s.setLane p (s.restState p) else s.settleLane p)
      else if st = lnSurvey then s
      else s.setLane p lnIdle

/-- CZ_CTL.EN is cleared: every lane goes to ATTACHED or IDLE (R170). -/
def czDisable (s : State) : State :=
  let s := s.abandonAll false
  let ws := s.cz.windows.map fun w => { w with voided := true }
  let s := { s with cz := { s.cz with windows := ws } }
  let s := (List.range 16).foldl (fun t p =>
    let t := t.set (CZ_LANE_STAT_ARMED_FW p) 0
    if t.laneState p = lnFailed then t else t.setLane p (t.restState p)) s
  s.set CZ_CTL_EN_ACK 0

/-- The path has changed (R149). -/
def pathChange (s : State) : State := (s.abandonAll false).relevel

/-- `s` with an action that the time base launches at the first tick after the write (R23). -/
def State.launch (s : State) (l : Launch) : State := { s with ls := { s.ls with launches := s.ls.launches ++ [l] } }

/-- CZ_CTL has been written (R149, R170); a change of the path acts at once where a commit point makes it, else at the
next tick (R23). -/
def czControl (atOnce : Bool) (old s : State) : State :=
  let s := if old.on CZ_CTL_EN && !s.on CZ_CTL_EN then czDisable s
    else if s.on CZ_CTL_EN then s.set CZ_CTL_EN_ACK 1 else s
  if old.get CZ_CTL_PATH = s.get CZ_CTL_PATH then s else if atOnce then pathChange s else s.launch .path

/-- A lane command (R146): the flag follows at once; the lane too at a commit point, else at the next tick (R23). -/
def laneCommand (atOnce : Bool) (s : State) (p v : Nat) : State :=
  let st := s.laneState p
  if bitOf v 1 then
    let s := s.set (CZ_LANE_STAT_ARMED_FW p) 0
    if atOnce then s.settleLane p else s.launch (.disarm p)
  else if bitOf v 0 && s.on CZ_CTL_EN && decide (1 ≤ st) && decide (st ≤ 5) then
    let s := s.set (CZ_LANE_STAT_ARMED_FW p) 1
    if atOnce then s.settleLane p else s.launch (.arm p)
  else s

/-- A write to the CZ window; `staged`: by a commit point, so that it acts at once (R88, R149). Of two rows of Table 5.6
that a direct write breaks, the last decides the flag (DESIGN CHOICE, log entry 52). A rise of CZ_BSC_CTL.EN forgets every NF:
CZ_BSC_COST.NF reads 0 until the bin is sampled (DESIGN CHOICE, log entry 62: R176 names the resets alone). -/
def czWrite (staged : Bool) (s : State) (a : Nat) (v : Word) : State × WriteEnd :=
  let o := a % 0x10000
  let p := (o - 0x100) / 0x100
  if 0x100 ≤ o ∧ o % 0x100 = 0x08 then (laneCommand staged s p v.toNat, .ok)
  else
    let r := fieldWrite s a v
    if (o = 0 ∨ o = 0x08 ∨ (0x100 ≤ o ∧ o % 0x100 < 0x08)) ∧ !staged ∧ czFailedOn r.1 then (s.raise CZ_INT_STAT_FAILED_WR, .ok)
    else if !staged && czBad s r.1 a then (s.raise CZ_INT_STAT_RANGE, .ok)
    else if o = 0 then (surveyUpdate (czControl staged s r.1), r.2)
    else if 0x100 ≤ o ∧ o % 0x100 = 0 then 
      let old := s.reg (A_CZ_LANE_CFG p)
      let new := r.1.reg (A_CZ_LANE_CFG p)
      (surveyUpdate (if staged then laneConfig r.1 p old new else if old = new then r.1 else r.1.launch (.attach p old new)), r.2)
    else if o = 0x0C then
      let t := r.1
      ({ t with cz := { t.cz with selfNext := t.now + t.get CZ_SELF_CTL_PERIOD * 20000000 } }, r.2)
    else if o = 0x28 then
      let t := r.1
      let t := if !s.on CZ_BSC_CTL_EN && t.on CZ_BSC_CTL_EN then { t with cz := { t.cz with nf := [] } } else t
      (surveyUpdate { t with cz := { t.cz with decideNext := t.now + t.get CZ_BSC_CTL_PERIOD * 3200000000 } }, r.2)
    else r

/-- A read of the CZ window. CZ_BSC_COST of a bin that is not usable reads 0 (DESIGN CHOICE, log entry 62: R176 does not say). -/
def czRead (s : State) (a : Nat) : Word :=
  if a = A_CZ_STATUS then czStatus s
  else if a = A_CZ_BSC_SET then w32 (bscSet s)
  else if a = A_CZ_BSC_NEXT then w32 (bscNext s)
  else if a = A_CZ_BSC_COST then
    let k := s.get CZ_BSC_SEL_BIN
    w32 ((assocGet s.cz.loss k).getD 0 * 2 ^ 24 + b2n (assocGet s.cz.nf k).isSome * 2 ^ 23 + (assocGet s.cz.nf k).getD 0)
  else s.reg a

/-- A launched arming or disarming (R23, R146). -/
def laneLaunch (s : State) (p : Nat) : State := s.settleLane p

/-! ### Reception (R147, R150 to R155) -/

/-- A lane detects a preamble on chain `c` (R150, R153): every window open on it has seen one, and every thread latches
PRE for its logical lane. -/
def preambleDetect (s : State) (p c : Nat) : State :=
  if s.laneState p ≠ lnArmed ∨ !s.laneUses p c ∨ !s.chainUp c then s
  else
    let sw := s.get (CZ_LANE_CFG_DIV p) == 0 && s.on FE_CTL_SWDIV && !swMulti s
    let both := s.get (CZ_LANE_CFG_DIV p) == 0 && !s.on FE_CTL_SWDIV && s.chainUp 0 && s.chainUp 1
    let s := s.setLane p (if both || sw then lnDecide else lnPreamble)
    let s := s.set (CZ_LANE_STAT_CHAIN p) (if s.on FE_CTL_SWDIV && s.get (CZ_LANE_CFG_DIV p) != 2 then s.fe.swPos else c)
    let opening := s.armOpening p
    let called := s.calledBy p
    let dcfg := s.reg (A_CZ_LANE_DCFG p)
    let s := s.updLane p fun l => { l with first := c, armed := opening, called := called, detAt := s.now, dcfg := dcfg }
    let ws := s.cz.windows.map fun w => if s.physOf w.lane == p then { w with pre := true } else w
    let s := { s with cz := { s.cz with windows := ws } }
    let s := match s.logicalOf p with
      | some l => s.latchAll fun n => (LS_T_PEND0_PRE n).bit l
      | none => s
    s.emit (44 + p)

/-- The procedure choose_chain (R150, R152), with DHYST as it stood at the detection (R149). -/
def chooseChain (s : State) (p ma mb : Nat) : Nat :=
  let h := (CZ_LANE_DCFG_DHYST p).ofWord (s.lane p).dcfg
  if mb + h < ma then 0 else if ma + h < mb then 1 else (s.lane p).first

/-- The measurement span ends (R150, R152); a lane that must share the switch receives at position 0 (R120). -/
def diversityDecision (s : State) (p ma mb : Nat) : State :=
  if s.laneState p ≠ lnDecide then s
  else if swMulti s then (s.set (CZ_LANE_STAT_CHAIN p) 0).setLane p lnPreamble
  else
    let c := chooseChain s p ma mb
    let s := s.setReg (A_CZ_LANE_DIVM p) (w32 ((s.lane p).first % 2 * 0x10000 + mb % 256 * 256 + ma % 256))
    let s := (s.set (CZ_LANE_STAT_CHAIN p) c).setLane p lnPreamble
    if s.on FE_CTL_SWDIV then { s with fe := { s.fe with swPos := c } } else s

/-- A lane that searches for its sync word gives up (R147). -/
def searchEnd (s : State) (p : Nat) : State :=
  if s.laneState p = lnPreamble ∨ s.laneState p = lnDecide then swReturn (s.setLane p (s.restState p)) p else s

/-- Has the sync timeout of a lane expired: STO × 64 symbols from the detection, with STO as it stood then; 0 sets none
(R147, R149)? -/
def syncDue (s : State) (p : Nat) : Bool :=
  let sto := (CZ_LANE_DCFG_STO p).ofWord (s.lane p).dcfg
  (s.laneState p == lnPreamble || s.laneState p == lnDecide) && sto != 0 &&
    decide ((s.lane p).detAt + sto * 64 * sym3 (s.get (CZ_LANE_CFG_MODE p)) / 3 ≤ s.now)

/-- The sync timeout expires (R147). -/
def syncTimeout (s : State) (p : Nat) : State := if syncDue s p then searchEnd s p else s

/-- A lane detects the sync word (R62, R126, R139, R206). -/
def syncDetect (s : State) (p rssi snr8 cfo : Nat) (coded : Bool) : State :=
  if s.laneState p ≠ lnPreamble ∨ !s.chainUp (s.laneChain p) then s
  else
    let m := s.get (CZ_LANE_CFG_MODE p)
    let gd := seenDelay s m
    let ts := s.tb.now - BitVec.ofInt 64 gd
    let dts := s.tb.dtime - BitVec.ofInt 64 gd
    let ch := s.get (CZ_LANE_STAT_CHAIN p)
    let rx : Reception :=
      { ts := ts, dts := dts, seen := s.now, opened := (s.lane p).armed, coded := coded && m != 3, mode := m, rssi := clampRssi rssi,
        lqi := lqiOf snr8, phr := false, len := 0, fcs2 := false, dw := false, adm := 0, cells := 0, taken := [], fend := 0 }
    let s := s.set64 (TB_RXTS_LO_TS p) (TB_RXTS_HI_TS p) ts.toNat
    let s := s.set (TB_RXTS_INFO_SEQ p) (s.get (TB_RXTS_INFO_SEQ p) + 1)
    let s := ((s.set (TB_RXTS_INFO_MODE p) m).set (TB_RXTS_INFO_CHAIN p) (s.laneChain p)).set (TB_RXTS_INFO_VALID p) 1
    let s := s.setReg (A_FE_LRPT_FRM p) (w32 (lqiOf snr8 * 2 ^ 24 + ch * 2 ^ 16 + clampRssi rssi))
    let s := s.set (CZ_LANE_FRM_CFO p) cfo
    (s.updLane p fun l => { l with rx := some rx }).setLane p lnFrame

/-- A lane sees the end of the PHR (R138, R144, R154, R317): header errors, then the admission decision. -/
def phrEnd (s : State) (p phr : Nat) : State :=
  match (s.lane p).rx with
  | none => s
  | some r =>
    if s.laneState p ≠ lnFrame ∨ r.phr then s
    else
      match readPhr r.mode phr with
      | none =>
        let s := lossCount (s.bump (CZ_LANE_CNT1_HDR p)) p
        let s := s.set (CZ_LANE_FRM_LEN p) (if r.mode = 3 then phr / 16 % 256 else phr % 2048)
        let s := (swReturn s p).applyMove p
        (s.dropRx p).setLane p (s.restState p)
      | some (len, fcs2, dw) =>
        let s := s.set (CZ_LANE_FRM_LEN p) len
        let n := cellsFor (len - fcsLen fcs2)
        let fend := r.ts.toNat + bodyTicks r.mode len r.coded
        let before := freeCells s
        let ok := decide (s.get FW_ADM0_RXMIN + n ≤ before)
        let r := { r with phr := true, len := len, fcs2 := fcs2, dw := dw, adm := if ok then 1 else 2, cells := n, fend := fend }
        let s := s.updLane p fun l => { l with rx := some r }
        if ok then s.freeFell before
        else
          let s := (s.bump (CZ_LANE_CNT2_REFUSED p)).bump FW_FS_CNT0_RXFULL
          (s.raise FW_FS_INT_STAT_RXFULL).emit 86

/-- A lane leaves its frame at the frame end: back to ARMED or ATTACHED, on the bin it was to take (R155, R168). -/
def leaveFrame (s : State) (p : Nat) : State :=
  let s := s.updLane p fun l => { l with lastEnd := match l.rx with | some r => r.fend | none => l.lastEnd }
  let s := (swReturn (s.dropRx p) p).applyMove p
  (s.setLane p (s.restState p)).emit (60 + p)

/-! ### Sleep (R171) -/

/-- Lanes at sleep entry: searching lanes return to ATTACHED without counting, and the switch to position 0 (R152); the survey
stops. -/
def czSleep (s : State) : State :=
  let s := { s with cz := { s.cz with windows := [] } }
  (List.range 16).foldl (fun t p =>
    let st := t.laneState p
    if st = lnArmed ∨ st = lnPreamble ∨ st = lnDecide then ((swReturn t p).dropRx p).setLane p lnAttached
    else if st = lnSurvey then (t.setLane p lnIdle).set CZ_BSC_STAT_SURV 0
    else t) s

/-- Lanes that firmware has armed are armed again after a wake (R171). -/
def czWake (s : State) : State :=
  surveyUpdate ((List.range 16).foldl (fun t p => t.settleLane p) s)

end Sys2Proof.Machine
end

