-- ==== Sys2Proof/Machine/Rendezvous.lean ====
section
/-! DEFINITION. Machine/Rendezvous.lean: drift models, sniffs, data windows, the beacon tracker and the parent's bin set
(R69, R219 to R254). -/

namespace Sys2Proof.Machine

/-! ### The drift model (R219 to R221, R236) -/

abbrev rsSync : Nat := 1
abbrev rsRetry3 : Nat := 4
abbrev rsFallback : Nat := 5

/-- Is an entry tracked: SYNC, RETRY1, RETRY2 or RETRY3? -/
def tracked (s : State) (i : Nat) : Bool :=
  decide (rsSync ≤ s.get (NB_W6_RSTATE i)) && decide (s.get (NB_W6_RSTATE i) ≤ rsRetry3)

/-- ANCHOR of an entry. -/
def nbAnchor (s : State) (i : Nat) : Nat := s.get64 (NB_W7_ANCHOR_LO i) (NB_W8_ANCHOR_HI i)

/-- The nominal length of `k` partner intervals in ticks. -/
def spOf (s : State) (i k : Nat) : Nat := k * s.get (NB_W6_SNIFF i) * 25000000 / 4096

/-- An entry takes a new RSTATE, reported in LS_RDV_LAST (R236, R251). -/
def rdvState (s : State) (i st : Nat) : State :=
  ((s.set (NB_W6_RSTATE i) st).set LS_RDV_LAST_IDX i).set LS_RDV_LAST_RSTATE st

/-- The procedure drift: predicted instant, guard, and the state it leaves (R220). -/
def driftPredict (s : State) (i n : Nat) : Nat × Nat × State :=
  if !tracked s i then (n, 0xFFFFFFFF, s)
  else
    let e : Int := (n : Int) - nbAnchor s i
    let p : Int := (n : Int) - Int.tdiv (s.getS (NB_W9_DRIFT i) * e) 1000000000
    let b := max (s.get (NB_W10_RESID i) / 2) (s.get LS_RDV_CFG_BMIN)
    let g := (2 * b * e.natAbs / 1000000000 + 12000) * 2 ^ (s.get (NB_W6_RSTATE i) - 1)
    if s.get (NB_W6_SNIFF i) ≠ 0 ∧ spOf s i 1 ≤ 2 * g then
      (n, 0xFFFFFFFF, (rdvState s i rsFallback).raise LS_RDV_INT_STAT_FALLBACK)
    else (unsigned 64 p, min g 0xFFFFFFFE, s)

/-- The entry's model is set from a sniff opening `m` (the last lines of drift_update); a transition to SYNC is reported in
LS_RDV_LAST (R254, Table 7.12). -/
def driftSeed (s : State) (i : Nat) (m : Int) : State :=
  let s := s.set64 (NB_W7_ANCHOR_LO i) (NB_W8_ANCHOR_HI i) (unsigned 64 m)
  let s := s.set (NB_W6_NSYNC i) (min (s.get (NB_W6_NSYNC i) + 1) 255)
  if s.get (NB_W6_RSTATE i) = rsSync then s else rdvState s i rsSync

/-- The model of a tracked entry moves to a sniff opening `m` (R221). -/
def driftTrack (s : State) (i : Nat) (m : Int) : State :=
  let q : Int := s.get (NB_W6_SNIFF i) * 25000000
  let anchor : Int := nbAnchor s i
  let d := m - anchor
  let k := Int.tdiv (8192 * d + q) (2 * q)
  if k < 1 then s
  else
    let drift := s.getS (NB_W9_DRIFT i)
    let sp := k * q / 4096
    let err := m - (anchor + sp - Int.tdiv (drift * sp) 1000000000)
    let raw := Int.tdiv ((sp - d) * 1000000000) d
    let drift := if s.get (NB_W6_NSYNC i) = 1 then raw else drift + (raw - drift) / 2 ^ s.get LS_RDV_CFG_FILT
    let r := s.get (NB_W10_RESID i)
    let resid := min 200000 (max (Int.tdiv (2 * ((err.natAbs : Int) + 400) * 1000000000) d) ((r - r / 4 : Nat) : Int))
    (s.set (NB_W9_DRIFT i) (unsigned 32 drift)).set (NB_W10_RESID i) resid.toNat

/-- The procedure drift_update for the destination of an ACK_OK (R221). -/
def driftUpdate (s : State) (i sEnd ofs : Nat) : State :=
  let s := s.set (NB_W11_LOFS i) ofs
  if s.get (NB_W6_SNIFF i) = 0 ∨ ofs = 0x7FFFFFFF ∨ ofs = 0x80000000 then s
  else
    let m : Int := (sEnd : Int) + s.get (NB_W5_PROP i) - signed 32 ofs
    if tracked s i then driftSeed (driftTrack s i m) i m
    else
      let fb := s.get (NB_W6_RSTATE i) == rsFallback
      let s := if fb then s else s.set (NB_W9_DRIFT i) 0
      let s := (s.set (NB_W10_RESID i) (s.get LS_RDV_SEED_RSEED)).set (NB_W6_NSYNC i) 0
      if fb then (driftSeed s i m).raise LS_RDV_INT_STAT_RESEED else driftSeed s i m

/-- A missed rendezvous (R236, Table 7.7). -/
def rdvMiss (s : State) (i : Nat) : State :=
  if !tracked s i then s
  else
    let st := s.get (NB_W6_RSTATE i) + 1
    let s := (s.bump (NB_W10_RMISS i))
    (rdvState s i st).raise (if st = rsFallback then LS_RDV_INT_STAT_FALLBACK else LS_RDV_INT_STAT_RETRY)

/-- Preamble of an acknowledgement or a beacon in a mode (R211, R237). -/
def stdPreamble (m : Nat) : Nat := if m = 3 then 32 else 8

/-- The propagation delay from an acknowledgement's round trip (R69, R198): its timestamp, the instant the frame's last
bit left, DLY. The eighth of a negative difference is rounded towards minus infinity (DESIGN CHOICE, log entry 50). -/
def propUpdate (s : State) (i ts te dly m : Nat) : State :=
  let rt : Int := (ts : Int) - te - (200000 + 5000 * dly : Nat) - headTicks m (stdPreamble m)
  let half : Int := max 0 (min 40000 (rt / 2))
  let old : Int := s.get (NB_W5_PROP i)
  let v := if s.on (NB_W5_PMEAS i) then old + (half - old) / 8 else half
  (s.set (NB_W5_PROP i) v.toNat).set (NB_W5_PMEAS i) 1

/-! ### Receive windows of this chapter -/

/-- Is a window of this chapter open (R275)? -/
def rdvOpen (s : State) : Bool :=
  s.cz.windows.any fun w => match w.owner with
    | .sniff => true
    | .data _ => true
    | .beacon => true
    | .beaconAlt => true
    | _ => false

/-- The coexistence request follows the open windows (R275). -/
def rdvCoex (s : State) : State := cxWindow s (rdvOpen s)

/-- Mode of a logical lane. -/
def lgMode (s : State) (l : Nat) : Nat := s.get (CZ_LANE_CFG_MODE (s.physOf l))

/-- Does a window of the device's own on logical lane `l` use the long allowance (R225)? -/
def ownLong (s : State) (l : Nat) : Bool := s.on FE_CTL_SWDIV && s.get (CZ_LANE_DCFG_DSPAN (s.physOf l)) == 2

/-- Is a lane receiving: PREAMBLE, DECIDE or FRAME? -/
def laneBusy (s : State) (p : Nat) : Bool :=
  decide (lnPreamble ≤ s.laneState p) && decide (s.laneState p ≤ lnFrame)

/-! ### Sniffs (R222 to R228) -/

/-- LS_SNF_NEXT. -/
def snfNext (s : State) : Nat := s.get64 LS_SNF_NEXT_LO_NEXT LS_SNF_NEXT_HI_NEXT
def snfSetNext (s : State) (v : Nat) : State := s.set64 LS_SNF_NEXT_LO_NEXT LS_SNF_NEXT_HI_NEXT (v % 2 ^ 48)

/-- Logical lanes set in a mask. -/
def lanesOf (m : Nat) : List Nat := (List.range 16).filter fun l => bitOf m l

/-- Are the chains held out of service by a retune or a calibration (R226)? -/
def chainsOut (s : State) : Bool :=
  !s.chainUp 0 && !s.chainUp 1 && (s.on FE_RT_STAT_BUSY || s.fe.cal.isSome)

/-- Does a sniff open at this slow-tick edge (R222)? -/
def sniffDue (s : State) : Bool :=
  s.awake && s.isLocked && s.get LS_SNF_INT_INT != 0 && snfNext s == s.slow

/-- TB_SLOW has reached LS_SNF_NEXT (R222, R224 to R226, R228, R252). -/
def sniffOpen (s : State) : State :=
  if !sniffDue s then s
  else
    let s := snfSetNext s (snfNext s + s.get LS_SNF_INT_INT)
    let s := { s with rdv := { s.rdv with refs := (s.now :: s.rdv.refs).take 2 } }
    let s := { s with pm := { s.pm with sniffWake := s.pm.sniffWake && !s.pm.sniffUsed, sniffUsed := true } }
    if !s.on LS_CTL_EN then s
    else if s.fe.air.isSome || chainsOut s then s.bump LS_SNF_CNT1_SKIP
    else
      let ls := lanesOf (s.get LS_SNF_CFG_LMASK)
      let len := s.get LS_SNF_CFG_LEN * 4000
      let least := (ls.map fun l => sniffMin (lgMode s l)).foldl max 0
      let s := if len < least then s.raise LS_RDV_INT_STAT_RANGE else s
      let len := max len least
      let s := ls.foldl (fun t l => t.openWindow .sniff l (some len)) s
      let s := { s with rdv := { s.rdv with sniff := 1, lanes := ls, sniffDet := false, sniffClose := s.now + len } }
      (rdvCoex s).emit 34

/-- A preamble in the sniff that the wake opened for, or an accepted wake frame (R548). -/
def sniffCause (s : State) : State :=
  if s.pm.sniffWake then s.set PM_WAKE_CAUSE_CAUSE (s.get PM_WAKE_CAUSE_CAUSE ||| 32) else s

/-- A preamble has been detected on physical lane `p` in a sniff (R224). -/
def sniffDetect (s : State) (p : Nat) : State :=
  if s.rdv.sniff ≠ 0 ∧ !s.rdv.sniffDet ∧ (s.cz.windows.any fun w => w.owner == .sniff && s.physOf w.lane == p) then
    sniffCause ((({ s with rdv := { s.rdv with sniffDet := true } } : State).bump LS_SNF_CNT0_DET).raise
      LS_RDV_INT_STAT_SNF_DET |>.emit 35)
  else s

/-- Has the sniff's window reached its length? -/
def sniffOver (s : State) : Bool := s.rdv.sniff != 0 && decide (s.rdv.sniffClose ≤ s.now)

/-- A sniff window closes: it is extended on energy on the lanes it opened on, or the sniff ends; no extension opens while the sequencer is disabled
(R224, R252). -/
def sniffClose (s : State) : State :=
  if !sniffOver s then s
  else
    let ls := s.rdv.lanes
    let loud := ls.any fun l => decide (s.getS LS_SNF_ED_THR ≤ s.getS (FE_LRPT_NOW_RSSI (s.physOf l)))
    let ext := s.get LS_SNF_CFG_EXT * 20000
    let s := s.closeWindows false fun w => w.owner == .sniff
    if s.on LS_CTL_EN ∧ s.rdv.sniff = 1 ∧ !s.rdv.sniffDet ∧ loud then
      let s := ls.foldl (fun t l => t.openWindow .sniff l (some ext)) (s.bump LS_SNF_CNT0_ED)
      rdvCoex { s with rdv := { s.rdv with sniff := 2, sniffClose := s.now + ext } }
    else rdvCoex { s with rdv := { s.rdv with sniff := 0, lanes := [] } }

/-- The reference of the Timing IE of a frame received on a sniff lane (R228). -/
def sniffReference (s : State) (p : Nat) : State :=
  match s.logicalOf p, (s.lane p).rx with
  | some l, some r =>
    if s.get LS_SNF_INT_INT ≠ 0 ∧ bitOf (s.get LS_SNF_CFG_LMASK) l then
      match s.rdv.refs.find? fun t => decide (t ≤ r.ts.toNat) with
      | some t => s.updLane p fun x => { x with rx := some { r with opened := some t } }
      | none => s
    else s
  | _, _ => s

/-! ### Data windows (R234) -/

/-- A wake frame from short address `src` with CD `cd`, received on logical lane `l` at `ts` (R234). -/
def wakeAccept (s : State) (src l cd ts : Nat) : State :=
  let c : Nat := ts + cd * 2000
  let m : Nat := 12000 + cd * 2000 / 2 ^ 14
  if !s.on LS_CTL_EN then s
  else if s.rdv.data.any fun w => w.src == src && decide (w.opens + w.margin ≤ c + m) &&
      decide (c ≤ w.opens + w.margin + m) then s
  else
    let s := sniffCause (((s.bump LS_SNF_CNT1_WAKE).raise LS_RDV_INT_STAT_WAKE).emit 36)
    if 4 ≤ s.rdv.data.length then (s.bump LS_SNF_CNT2_WAKE_OVF).raise LS_RDV_INT_STAT_WAKE_OVF
    else
      let w : DataWin := { id := s.rdv.dataNext, src := src, lane := l, opens := c - m
                           closes := c + m + detTicks (lgMode s l) (ownLong s l), margin := m, opened := false }
      { s with rdv := { s.rdv with data := s.rdv.data ++ [w], dataNext := s.rdv.dataNext + 1 } }

/-- The held data window that is to open next. -/
def dataDue (s : State) : Option DataWin := s.rdv.data.find? fun w => !w.opened && decide (w.opens ≤ s.now)

/-- A held data window opens on the lane that received its wake frame (R234, R252). -/
def dataOpen (s : State) : State :=
  match dataDue s with
  | none => s
  | some w =>
    let rest := s.rdv.data.filter (· != w)
    if !s.on LS_CTL_EN then { s with rdv := { s.rdv with data := rest } }
    else
      let s := { s with rdv := { s.rdv with data := rest ++ [{ w with opened := true }] } }
      rdvCoex (s.openWindow (.data w.id) w.lane (some (w.closes - s.now)))

/-- The data window whose length is over. -/
def dataOver (s : State) : Option DataWin := s.rdv.data.find? fun w => w.opened && decide (w.closes ≤ s.now)

/-- A data window closes; without a preamble it counts WAKE_LOST (R234). One that a disable of the sequencer closed before is
not counted (R216, R252). -/
def dataClose (s : State) : State :=
  match dataOver s with
  | none => s
  | some w =>
    let mine := fun x : Window => x.owner == .data w.id
    let lost := s.cz.windows.any fun x => mine x && !x.pre
    let s := { s with rdv := { s.rdv with data := s.rdv.data.filter (· != w) } }
    let s := rdvCoex (s.closeWindows false mine)
    if lost then s.bump LS_SNF_CNT2_WAKE_LOST else s

/-! ### The beacon tracker (R239 to R247) -/

/-- LS_BCN_NEXT. -/
def bcnNext (s : State) : Nat := s.get64 LS_BCN_NEXT_LO_NEXT LS_BCN_NEXT_HI_NEXT
def bcnSetNext (s : State) (v : Nat) : State := s.set64 LS_BCN_NEXT_LO_NEXT LS_BCN_NEXT_HI_NEXT v

/-- A beacon interval code in ticks: 2^k s (R237). -/
def bcnTicks (k : Nat) : Nat := 2 ^ k * 200000000

/-- The time parent's entry. -/
def parentOf (s : State) : Nat := s.get TB_DISC_STAT_PARENT

/-- Does the tracker run (R239)? -/
def trackerOn (s : State) : Bool := s.on LS_BCN_CFG_EN && !isMaster s && !s.on CZ_CTL_PATH

/-- Opening and close, on TB_DTIME, of the window for a beacon expected at `b` (R240, Table 7.9). -/
def bcnWindowAt (s : State) (b : Int) : Int × Int :=
  let par := parentOf s
  let e := (b - s.rdv.last).natAbs
  let bb := max (s.get (NB_W10_RESID par) / 2) (s.get LS_RDV_CFG_BMIN)
  let g := (2 * bb * e / 1000000000 + 12000) * 2 ^ s.get LS_BCN_STAT_MISS
  let l := s.get LS_BCN_CFG_LANE
  let m := lgMode s l
  let at_ := b - headTicks m (stdPreamble m)
  (at_ - g, at_ + g + detTicks m (ownLong s l))

/-- Opening and close of the window for the next beacon. -/
def bcnWindow (s : State) : Int × Int := bcnWindowAt s (bcnNext s)

/-- Opening of the next window that the tracker is to open: beacons that EVERY passes over have none (R240, R253). -/
def bcnAlarm (s : State) : Int :=
  (bcnWindowAt s (bcnNext s + (s.get LS_BCN_CFG_EVERY - s.rdv.skipped) * bcnTicks (s.get (NB_W10_BINT (parentOf s))))).1

/-- Is a beacon window due? -/
def bcnDue (s : State) : Bool :=
  s.awake && s.isLocked && s.on LS_BCN_CFG_EN && !isMaster s && s.rdv.has && !s.on LS_BCN_STAT_UMBER &&
    !s.rdv.tracking && decide (s.get LS_BCN_STAT_MISS < 3) && decide ((bcnWindow s).1 ≤ s.dtime)

/-- A lane takes a bin with the effect of a LANE instruction; false where Table 5.6 forbids it (R240). -/
def takeBin (s : State) (l b : Nat) : Bool × State :=
  let p := s.physOf l
  if s.get (CZ_LANE_CFG_BIN p) = b then (true, s)
  else
    let u := s.set (CZ_LANE_CFG_BIN p) b
    if czForbidden u then (false, s) else (true, laneTakeBin s p b)

/-- LS_BCN_NEXT moves on by the parent's interval. -/
def bcnAdvance (s : State) : State := bcnSetNext s (bcnNext s + bcnTicks (s.get (NB_W10_BINT (parentOf s))))

/-- The tracker opens its window for an expected beacon, or passes it over by EVERY; none is opened while the sequencer
is disabled or PATH is 1 (R239, R240, R252). The window is timed on TB_DTIME, and `bcnMiss` closes it. -/
def bcnOpen (s : State) : State :=
  if !bcnDue s then s
  else if !s.on LS_CTL_EN || s.on CZ_CTL_PATH then bcnAdvance s
  else if s.rdv.skipped < s.get LS_BCN_CFG_EVERY then
    bcnAdvance { s with rdv := { s.rdv with skipped := s.rdv.skipped + 1 } }
  else
    let closes := (bcnWindow s).2
    let alt := s.get LS_BCN_STAT_MISS == 2
    let l := s.get LS_BCN_CFG_LANE
    let l2 := s.get LS_BCN_CFG_LANE2
    let r := takeBin s l (s.get LS_BCN_CFG_BIN)
    let s := if r.1 then r.2 else r.2.raise LS_RDV_INT_STAT_RANGE
    let r := if alt then takeBin s l2 (s.get LS_BCN_CFG_ABIN) else (true, s)
    let s := if r.1 then r.2 else r.2.raise LS_RDV_INT_STAT_RANGE
    let s := s.openWindow .beacon l none
    let s := if alt then s.openWindow .beaconAlt l2 none else s
    let rdv := { s.rdv with tracking := true, blanked := s.fe.blank, closes := closes, skipped := 0 }
    rdvCoex { s with rdv := rdv }

/-- Lanes are blanked: a beacon window in progress notes it (R241). -/
def bcnBlank (s : State) : State := { s with rdv := { s.rdv with blanked := s.rdv.blanked || s.rdv.tracking } }

/-- The beacon windows close. -/
def bcnShut (s : State) : State :=
  rdvCoex (({ s with rdv := { s.rdv with tracking := false } } : State).closeWindows false fun w =>
    w.owner == .beacon || w.owner == .beaconAlt)

/-! #### Umber (R243, R244) -/

/-- Logical lanes that Umber uses. -/
def umberLanes (s : State) : List Nat :=
  (lanesOf (s.get LS_BCN_UMASK_UMASK)).filter fun l => s.on (CZ_LANE_CFG_EN (s.physOf l))

/-- The bins searched: less any bin held in the same mode by an enabled lane outside UMASK. -/
def umberBins (s : State) : List Nat :=
  let ls := umberLanes s
  let modes := ls.map (lgMode s)
  let others := ((List.range 16).filter fun l => !bitOf (s.get LS_BCN_UMASK_UMASK) l && s.on (CZ_LANE_CFG_EN (s.physOf l)))
  ((List.range 32).map (· + 4)).filter fun b =>
    !(others.any fun l => s.get (CZ_LANE_CFG_BIN (s.physOf l)) == b && modes.contains (lgMode s l))

/-- Number of groups of a cycle; at least one. -/
def umberGroups (s : State) : Nat :=
  let m := (umberLanes s).length
  if m = 0 then 1 else max 1 (((umberBins s).length + m - 1) / m)

/-- The Umber lanes attach to a group of bins and stay armed (R243). A lane that joins later keeps the BIN it then holds
(log entry 37). -/
def umberAttach (s : State) (g : Nat) : State :=
  let ls := umberLanes s
  let bins := (umberBins s).drop (g * ls.length)
  let fresh := ls.filter fun l => !(s.rdv.saved.any fun e => e.1 == l)
  let saved := s.rdv.saved ++ fresh.map fun l => (l, s.get (CZ_LANE_CFG_BIN (s.physOf l)))
  let s := { s with rdv := { s.rdv with saved := saved } }
  let s := (ls.zip bins).foldl (fun t e =>
    (laneTakeBin t (t.physOf e.1) e.2).openWindow .umber e.1 none) s
  let step := bcnTicks (s.get LS_BCN_INFO_BINT) * 3 / 2
  ({ s with rdv := { s.rdv with umberNext := s.now + step } } : State).set LS_BCN_STAT_UGRP g

/-- BHEARD is cleared at the start of a cycle (R244). -/
def umberClear (s : State) : State :=
  s.regs.foldl (fun t e =>
    if 0x40080000 ≤ e.1 ∧ e.1 < 0x40088000 ∧ e.1 % 0x40 = 0x34 then t.set (NB_W13_BHEARD ((e.1 - 0x40080000) / 0x40)) 0
    else t) s

/-- Umber starts (R241, R243). -/
def umberStart (s : State) : State :=
  umberAttach (umberClear (({ s with rdv := { s.rdv with saved := [] } } : State).set LS_BCN_STAT_UMBER 1)) 0

/-- Umber ends: its windows close and each lane gets back its bin (R243). -/
def umberEnd (s : State) : State :=
  if !s.on LS_BCN_STAT_UMBER then s
  else
    let s := s.closeWindows false fun w => w.owner == .umber
    let s := s.rdv.saved.foldl (fun t e => laneTakeBin t (t.physOf e.1) e.2) s
    ({ s with rdv := { s.rdv with saved := [] } } : State).set LS_BCN_STAT_UMBER 0

/-- Amber and Umber end. -/
def amberEnd (s : State) : State := (umberEnd s).set LS_BCN_STAT_AMBER 0

/-- The instant nearest below `now` whose bits [41:10] are `b` and whose bits [9:0] are zero (R246); below zero while
TB_DTIME has not come so far. -/
def blastTime (now b : Nat) : Int := (now : Int) - ((now : Int) - (b * 1024 : Nat)) % 2 ^ 42

/-- A re-parent to entry `i` (R246); `ev` is LASTEV. -/
def reparent (s : State) (i ev : Nat) : State :=
  let old := parentOf s
  let t := blastTime s.dtime (s.get (NB_W12_BLAST i))
  let step : Int := bcnTicks (s.get (NB_W10_BINT i))
  let s := bcnShut (amberEnd s)
  let s := (s.set TB_DISC_STAT_PARENT i).set LS_BCN_STAT_MISS 0
  let s := s.set LS_BCN_CFG_BIN (s.get (NB_W13_BBIN i))
  let s := bcnSetNext s (t + ((s.dtime - t) / step + 1) * step).toNat
  let s := { s with rdv := { s.rdv with last := t, has := true, lost := none, choice := [], skipped := 0 } }
  let s := s.setReg A_LS_BCN_INFO (w32 (s.get (NB_W10_BINT i) * 2 ^ 28 + ev * 2 ^ 18 + old * 2 ^ 9 + i))
  let s := (s.set LS_BSET_STAT_PEND 0).set LS_BSET_STAT_VALID 0
  (s.raise LS_RDV_INT_STAT_REPARENT).emit 40

/-- May entry `i` be taken as parent, but for BHEARD (R244)? -/
def mayParent (s : State) (i : Nat) : Bool :=
  s.on (NB_W0_VALID i) && s.on (NB_W10_BCN i) && decide (s.get (NB_W13_BDEPTH i) ≤ 14) && !s.on (NB_W10_BHOLD i) &&
    s.get (NB_W13_BPAR i) != s.get LS_SHORT_NODE_ID && s.rdv.lost != some i

/-- The entry R244 chooses: highest BLQI, then lowest BDEPTH, then lowest index. -/
def umberChoice (s : State) : Option Nat :=
  bestOf (fun x y => decide (s.get (NB_W13_BLQI y) < s.get (NB_W13_BLQI x)) ||
      (s.get (NB_W13_BLQI x) == s.get (NB_W13_BLQI y) && decide (s.get (NB_W13_BDEPTH x) < s.get (NB_W13_BDEPTH y))))
    ((entriesWith s 0x80000000).filter fun i => mayParent s i && s.on (NB_W13_BHEARD i))

/-- Is the Umber search to start: the tracker runs, and no parent has been taken (R239)? -/
def umberWanted (s : State) : Bool :=
  trackerOn s && s.isLocked && s.awake && s.on LS_CTL_EN && !s.on LS_BCN_STAT_UMBER &&
    (!s.rdv.has || s.get LS_BCN_STAT_MISS == 3)

/-- Is the next Umber step due? -/
def umberDue (s : State) : Bool :=
  umberWanted s || (trackerOn s && s.isLocked && s.on LS_CTL_EN && s.on LS_BCN_STAT_UMBER &&
    decide (s.rdv.umberNext ≤ s.now))

/-- The Umber lanes move on; at the end of a cycle a parent is chosen (R243, R244). -/
def umberStep (s : State) : State :=
  if !umberDue s then s
  else if !s.on LS_BCN_STAT_UMBER then umberStart s
  else
    let g := s.get LS_BCN_STAT_UGRP + 1
    if g < umberGroups s then umberAttach s g
    else
      match umberChoice s with
      | some i => reparent s i 2
      | none => umberAttach (umberClear ((s.raise LS_RDV_INT_STAT_UMBER_EMPTY).emit 159)) 0

/-! #### The miss ladder (R241, R242) -/

/-- Has the beacon window ended: its close reached, and no lane of it still receiving what it detected? -/
def bcnOver (s : State) : Bool :=
  s.rdv.tracking && decide (s.rdv.closes ≤ s.dtime) &&
    !(s.cz.windows.any fun w => (w.owner == .beacon || w.owner == .beaconAlt) && w.pre && laneBusy s (s.physOf w.lane))

/-- Amber starts, where domain time had been acquired, and Umber (R239, R241). -/
def amberStart (s : State) : State :=
  let s := { s with rdv := { s.rdv with lost := some (parentOf s), amberAt := s.now } }
  let s := if s.on TB_DISC_STAT_ACQ then
      (((s.set LS_BCN_STAT_AMBER 1).set LS_BCN_STAT_AMBER_S 0).raise LS_RDV_INT_STAT_AMBER).emit 39
    else s
  umberStart s

/-- A beacon window ends without a beacon from the parent (R241); one that a disable closed, or that ends while the tracker
does not run, is no miss (R239, R252). -/
def bcnMiss (s : State) : State :=
  if !bcnOver s then s
  else
    let blank := s.rdv.blanked
    let open_ := s.windowOpen .beacon
    let s := bcnShut s
    if !s.on LS_CTL_EN || !trackerOn s || !open_ then bcnAdvance s
    else
      let n := min 3 (s.get LS_BCN_STAT_MISS + 1)
      let s := if blank then s.raise LS_RDV_INT_STAT_BCN_BLANK else s
      let s := (((s.bump LS_BCN_CNT_MISSED).set LS_BCN_STAT_MISS n).raise LS_RDV_INT_STAT_BCN_MISS).emit 38
      let s := if n = 2 then s.raise LS_RDV_INT_STAT_BCN_ALT else s
      if n = 3 then amberStart s else bcnAdvance s

/-- Is a second of Amber over? -/
def amberDue (s : State) : Bool := s.on LS_BCN_STAT_AMBER && decide (s.rdv.amberAt + 200000000 ≤ s.now)

/-- A second of Amber passes (R242). -/
def amberSecond (s : State) : State :=
  if !amberDue s then s
  else
    let s := ({ s with rdv := { s.rdv with amberAt := s.rdv.amberAt + 200000000 } } : State).bump LS_BCN_STAT_AMBER_S
    if s.get LS_BCN_HOLD_LIMIT ≠ 0 ∧ s.get LS_BCN_STAT_AMBER_S = s.get LS_BCN_HOLD_LIMIT then
      (s.set LS_BCN_STAT_SUSP 1).raise LS_RDV_INT_STAT_HOLD_EXP
    else s

/-! #### Beacons (R238, R244, R245, R247, R249) -/

/-- The TB_DTIME instant whose bits [41:10] are `b`, bits [9:0] zero, nearest to `now` (R249). The counter has no instant
below zero, and of two equally near the earlier is taken (DESIGN CHOICE, log entry 55). -/
def nearTime (now b : Nat) : Nat :=
  let t := blastTime now b
  (if 0 ≤ t ∧ now - t ≤ t + 2 ^ 42 - now then t else t + 2 ^ 42).toNat

/-- The Bin set sub-element of a disciplined beacon (R249). -/
def bsetReceive (s : State) (c : List Byte) : State :=
  let cur := leAt c 0 4
  let nxt := leAt c 4 4
  let s := (s.set LS_BSET_CUR_CUR cur).set LS_BSET_STAT_VALID 1
  if nxt = cur then s
  else
    ((s.set LS_BSET_NXT_NXT nxt).set LS_BSET_STAT_PEND 1).set64 LS_BSET_EFF_LO_EFF LS_BSET_EFF_HI_EFF
      (nearTime s.dtime (leAt c 8 4))

/-- Is the parent's pending bin set due? -/
def bsetDue (s : State) : Bool :=
  s.on LS_BSET_STAT_PEND && decide (s.get64 LS_BSET_EFF_LO_EFF LS_BSET_EFF_HI_EFF ≤ s.dtime)

/-- The parent's next bin set becomes current (R249). -/
def bsetEffect (s : State) : State :=
  if bsetDue s then
    ((s.set LS_BSET_CUR_CUR (s.get LS_BSET_NXT_NXT)).set LS_BSET_STAT_PEND 0).raise LS_RDV_INT_STAT_BSET
  else s

/-- The parent's RESID after a beacon with error `e` over `interval` (R238). -/
def bcnResid (s : State) (i : Nat) (e : Int) (interval : Nat) : State :=
  if interval = 0 then s
  else
    let r := s.get (NB_W10_RESID i)
    s.set (NB_W10_RESID i) (min 200000 (max (2 * (e.natAbs + 400) * 1000000000 / interval) (r - r / 4)))

/-- A beacon of the time parent that is disciplined (R67, R238, R241, R245, R249): content `c`, bin, TB_DTIME of its
sync-word end. One heard on ABIN exchanges the two bins, in Umber too. Where TB_DTIME steps, that instant is held as the stepped counter has it, for R240 measures e on it. -/
def parentBeacon (s : State) (i : Nat) (c : List Byte) (bset : Option (List Byte)) (bin dts : Nat) : State :=
  let domain := leAt c 0 8
  let prop := s.get (NB_W5_PROP i)
  let interval := if s.on TB_DISC_STAT_ACQ then s.now - s.tb.beaconNow.toNat else 0
  let e : Int := (domain : Int) + prop - dts
  let wasUmber := s.on LS_BCN_STAT_UMBER
  let alt := bin == s.get LS_BCN_CFG_ABIN && bin != s.get LS_BCN_CFG_BIN
  let s := (s.bump LS_BCN_CNT_HEARD).emit 37
  let s := bcnResid (discipline s domain prop dts (oct c 8 % 16)) i e interval
  let s := amberEnd (bcnShut s)
  let s := if alt then
      let b := s.get LS_BCN_CFG_BIN
      ((s.set LS_BCN_CFG_BIN (s.get LS_BCN_CFG_ABIN)).set LS_BCN_CFG_ABIN b).set LS_BCN_STAT_ALT
        (b2n (!s.on LS_BCN_STAT_ALT))
    else s
  let s := if wasUmber then
      let s := (s.set LS_BCN_CFG_BIN bin).raise LS_RDV_INT_STAT_RESYNC
      ((s.set LS_BCN_INFO_LASTEV 1).set LS_BCN_INFO_OLD i).set LS_BCN_INFO_NEW i
    else s
  let k := oct c 9 % 16
  let s := ((s.set LS_BCN_STAT_MISS 0).set LS_BCN_STAT_SUSP 0).set LS_BCN_INFO_BINT k
  let s := bcnSetNext s (domain + bcnTicks k)
  let last : Int := if s.tb.stepPend.isSome then domain + prop else dts
  let s := { s with rdv := { s.rdv with last := last, has := true, lost := none } }
  match bset with
  | some b => bsetReceive s b
  | none => s

/-- Parent choice while beacons are heard, the tracker runs and the device is not in Amber (R239, R247): entry `i` has sent a
beacon. R247 exempts only the command from R244's BHEARD. -/
def parentChoice (s : State) (i : Nat) : State :=
  let beats := decide (s.get (NB_W13_BLQI (parentOf s)) + s.get LS_BCN_HOLD_PHYST ≤ s.get (NB_W13_BLQI i))
  let n := if beats then (assocGet s.rdv.choice i).getD 0 + 1 else 0
  let s := { s with rdv := { s.rdv with choice := if n = 0 then assocDel s.rdv.choice i else assocPut s.rdv.choice i (min n 8) } }
  if s.on LS_BCN_CFG_PCHOICE && trackerOn s && s.rdv.has && !s.on LS_BCN_STAT_AMBER &&
      decide (8 ≤ n) && mayParent s i && s.on (NB_W13_BHEARD i) then reparent s i 3
  else s

/-- A beacon with a correct FCS: header `m`, elements `ies`, heard on bin `bin` with LQI `lqi`, its sync-word end at TB_DTIME
`dts` (R238). -/
def beaconReceive (s : State) (m : Mac) (ies : Ies) (bin lqi dts : Nat) : State :=
  let pan := s.get LS_FILT_CFG_PAN_ID
  let inPan := m.srcPan == some pan || (m.srcPan.isNone && m.dstPan == some pan)
  match ies.beacon, (findSender s m).1 with
  | some c, some i =>
    if m.sec || m.srcMode != 2 || !inPan then s
    else
      let q := if s.on (NB_W10_BCN i) then
          ((s.get (NB_W13_BLQI i) : Int) + ((lqi : Int) - s.get (NB_W13_BLQI i)) / 4).toNat
        else lqi
      let s := (s.set (NB_W10_BCN i) 1).set (NB_W10_BHOLD i) (b2n (bitOf (oct c 8) 4))
      let s := (s.set (NB_W10_BINT i) (oct c 9 % 16)).set (NB_W12_BLAST i) (dts / 1024)
      let s := (s.set (NB_W13_BDEPTH i) (oct c 8 % 16)).set (NB_W13_BPAR i) (leAt c 11 2)
      let s := (s.set (NB_W13_BBIN i) bin).set (NB_W13_BLQI i) q
      let s := if s.on LS_BCN_STAT_UMBER then s.set (NB_W13_BHEARD i) 1 else s
      if isMaster s then s
      else if s.rdv.has && i == parentOf s then
        if oct c 8 % 16 = 15 then s else parentBeacon s i c ies.bset bin dts
      else parentChoice s i
  | _, _ => s

/-! ### Registers (R223, R247, R254) -/

/-- Forbidden values of the rendezvous registers, judged on state `u`. -/
def rdvBad (s u : State) (a : Nat) : Bool :=
  let int := u.get LS_SNF_INT_INT
  let bin := fun n : Nat => decide (n < 4) || decide (35 < n)
  if a = A_LS_RDV_CFG then u.get LS_RDV_CFG_SEG == 0 || decide (1000 < u.get LS_RDV_CFG_SEG)
  else if a = A_LS_SNF_INT then (int != 0 && decide (int < 656)) || decide (1966080 < int)
  else if a = A_LS_SNF_NEXT_LO ∨ a = A_LS_SNF_NEXT_HI then s.get LS_SNF_INT_INT != 0
  else if a = A_LS_BCN_CFG then
    (u.on LS_BCN_CFG_EN && u.get LS_BCN_CFG_LANE == u.get LS_BCN_CFG_LANE2) || bin (u.get LS_BCN_CFG_BIN) ||
      bin (u.get LS_BCN_CFG_ABIN)
  else false

/-- INT has been written: from zero, whole intervals are added to NEXT until it lies beyond TB_SLOW (R222). -/
def snfWritten (old s : State) : State :=
  let i := s.get LS_SNF_INT_INT
  if old.get LS_SNF_INT_INT = 0 ∧ i ≠ 0 ∧ snfNext s ≤ s.slow then
    snfSetNext s (snfNext s + ((s.slow - snfNext s) / i + 1) * i)
  else s

/-- LS_BCN_CMD (R247): in every profile, a Root's too. -/
def bcnCommand (s : State) (i : Nat) : State :=
  if s.on (NB_W10_BCN i) && mayParent s i then reparent s i 3 else s.raise LS_RDV_INT_STAT_BADCMD

/-- A write to the rendezvous registers that the owner and attribute rules let through. -/
def rdvWrite (staged : Bool) (s : State) (a : Nat) (v : Word) : State × WriteEnd :=
  if a = A_LS_BCN_CMD then (if bitOf v.toNat 31 then bcnCommand s (bitsOf v 0 9) else s, .ok)
  else
    let r := fieldWrite s a v
    if !staged && rdvBad s r.1 a then (s.raise LS_RDV_INT_STAT_RANGE, .ok)
    else if a = A_LS_SNF_INT then (snfWritten s r.1, r.2)
    else if a = A_LS_BCN_CFG ∧ !r.1.on LS_BCN_CFG_EN then (umberEnd (bcnShut r.1), r.2)
    else r

/-- PSUSP: the tracker would run but for the narrow path (R239). -/
def trackerSuspended (s : State) : Bool := s.on LS_BCN_CFG_EN && !isMaster s && s.on CZ_CTL_PATH

/-- A read of the rendezvous registers. -/
def rdvRead (s : State) (a : Nat) : Word :=
  if a = A_LS_BCN_STAT then insertBits (s.reg a) 26 1 (b2n (trackerSuspended s)) else s.reg a

end Sys2Proof.Machine
end

