-- ==== Sys2Proof/Machine/Events.lean ====
section
/-! DEFINITION. Machine/Events.lean: the event matrix (R450 to R466). -/

namespace Sys2Proof.Machine

/-! ### Consumers (R454, R455, Table 15.4) -/

/-- Is consumer `k` marked S, producer `p` marked S, `k` or `p` not used (Tables 15.3 and 15.4)? -/
def consSecure (k : Nat) : Bool := decide (98 ≤ k) && decide (k < 106)
def prodSecure (p : Nat) : Bool := (decide (88 ≤ p) && decide (p < 96)) || p == 154 || p == 155

/-- Does consumer `k` drop an event of a channel with attribute SEC = `sec`: busy, or its resource refuses the attribute
(R454, R455)? -/
def consumerBusy (s : State) (sec : Bool) (k : Nat) : Bool :=
  if k < 16 then s.on ((LS_T_PEND1_EVT (k / 4)).bit (k % 4)) || (!sec && !s.on (LS_T_CFG_NS_OK (k / 4)))
  else if k < 24 then s.on (pendField (102 + (k - 16))) || (!sec && srcSec s (102 + (k - 16)))
  else if k < 32 then s.groupState (k - 24) != agOpen || (!sec && s.on (AC_G_STAT_ATTR (k - 24)))
  else if k < 40 then s.groupState (k - 32) == agFree || (!sec && s.on (AC_G_STAT_ATTR (k - 32)))
  else if k < 72 then tmCaptureBusy s ((k - 40) / 4) ((k - 40) % 4)
  else if k < 88 then false
  else if k < 96 then !sec && bitOf (s.get GP_SEC_SEC) (s.get (GP_EVC_PIN (k - 88)))
  else if k < 98 then spStartBusy s (k - 96)
  else if k < 102 then !sec || s.get (CE_J_STAT_STATE (k - 98)) == jbQueued || s.get (CE_J_STAT_STATE (k - 98)) == jbRun
  else if k < 106 then !sec || s.get (PQ_J_STAT_STATE (k - 102)) == jbQueued || s.get (PQ_J_STAT_STATE (k - 102)) == jbRun
  else if k = 106 then s.fe.sensed == some s.now
  else if k = 107 then s.get FL_STAT_STATE != 3
  else if k = 108 then s.fl.susp.isNone
  else false

/-- Consumer `k` acts (Table 15.4). -/
def consume (s : State) (k : Nat) : State :=
  if k < 16 then s.set ((LS_T_PEND1_EVT (k / 4)).bit (k % 4)) 1
  else if k < 24 then s.edge (102 + (k - 16))
  else if k < 32 then groupArm s (k - 24) false false
  else if k < 40 then groupAbort s (k - 32)
  else if k < 72 then tmCapture s ((k - 40) / 4) ((k - 40) % 4) true
  else if k < 80 then tmStart s (k - 72)
  else if k < 88 then tmStop s (k - 80)
  else if k < 96 then gpConsume s (k - 88)
  else if k < 98 then spStart s (k - 96)
  else if k < 102 then ceStart s (k - 98) false
  else if k < 106 then pqStart s (k - 102) false
  else if k = 106 then feSense s
  else if k = 107 then flSuspend s false
  else if k = 108 then flResumeCmd s
  else if k = 109 then kickAll s
  else s

/-- An event reaches consumer `k`: a busy one drops it with its overrun bit (R454). -/
def deliver (sec : Bool) (s : State) (k : Nat) : State :=
  if consumerBusy s sec k then
    let f := (EV_OVR_OVR (k / 32)).bit (k % 32)
    if s.on f then s else (s.set f 1).raise EV_INT_STAT_OVR
  else consume s k

/-! ### Channels (R450 to R453) -/

/-- Does channel `n` forward, and is producer `p` in its row? -/
def channelOn (s : State) (n : Nat) : Bool := s.on (EV_CH_CFG_EN n) && bitOf (s.get EV_GRP_EN_EN) (n / 8)
def channelTakes (s : State) (n p : Nat) : Bool := bitOf (s.get (EV_CH_PROD_PROD n (p / 32))) (p % 32)

/-- The consumers of channel `n`. -/
def channelConsumers (s : State) (n : Nat) : List Nat :=
  (List.range 110).filter fun k => bitOf (s.get (EV_CH_CONS_CONS n (k / 32))) (k % 32)

/-- The deliveries of a batch of events: channel and consumers, the lower-numbered channel first (R454). -/
def deliveries (s : State) (batch : List Nat) : List (Nat × List Nat) :=
  ((List.range 64).map fun n =>
    if channelOn s n then (batch.filter (channelTakes s n)).map fun _ => (n, channelConsumers s n) else []).foldl (· ++ ·) []

/-- Group switching by a batch of events, as the configuration of `c` names them (R456). -/
def switchGroups (c s : State) (batch : List Nat) : State :=
  (List.range 8).foldl (fun t g =>
    if batch.contains (c.get (EV_GRP_CFG_OFF g)) then t.set (EV_GRP_EN_EN.bit g) 0
    else if batch.contains (c.get (EV_GRP_CFG_ON g)) then t.set (EV_GRP_EN_EN.bit g) 1
    else t) s

/-- The deliveries of a batch, each with the SEC of its channel, are made: consumer by consumer, and at each the lower-numbered
channel first (R454, R590). -/
def deliverAll (s : State) (ds : List (Nat × Bool × List Nat)) : State :=
  (List.range 110).foldl (fun t k => ds.foldl (fun t d => if d.2.2.contains k then deliver d.2.1 t k else t) t)
    (ds.foldl (fun t d => t.bump (EV_CH_CNT_FIRED d.1)) s)

/-- The deliveries of a batch with the SEC of each channel, by the configuration as it stands. -/
def routePlan (s : State) (batch : List Nat) : List (Nat × Bool × List Nat) :=
  (deliveries s batch).map fun d => (d.1, s.on (EV_CH_CFG_SEC d.1), d.2)

/-- The state as the event matrix sees it while the events of a commit point's tick are routed: with the configuration before
that point (R460). -/
def evView (s : State) : State :=
  match s.evWas with
  | some l => { s with regs := s.regs.filter (fun e => e.1 / 0x10000 != 0x4003) ++ l }
  | none => s

/-- The event matrix's registers that do not read as their reset words. -/
def evRegs (s : State) : List (Nat × Word) := s.regs.filter fun e => e.1 / 0x10000 == 0x4003

/-- The events emitted since the last routing are forwarded, by the configuration as it stands, or as it stood before the commit
point of the tick (R450, R456, R460). -/
def routeEvents (s : State) : State :=
  if s.emitted.isEmpty then s
  else
    startsInOrder s (deliverAll (switchGroups (evView s) { s with emitted := [] } s.emitted) (routePlan (evView s) s.emitted))

/-- The tick of a commit point is over: what it emitted is forwarded, and the new configuration holds (R460). -/
def evSettle (s : State) : State := if s.evWas.isSome then { routeEvents s with evWas := none } else s

/-! ### Writing (R457 to R459, R466) -/

/-- The channels whose ownership governs a staged write: the register's own, for EV_GRP_EN those of the bits that the mask
covers (R457, R459). -/
def evChannels (a : Nat) (mask : Word) : List Nat :=
  if 0x1000 ≤ a % 0x10000 then [(a % 0x10000 - 0x1000) / 0x40]
  else (List.range 8).filterMap fun g => if bitOf mask.toNat g then some (8 * g) else none

/-- Is the register written only by commit groups, image records and window access (R458)? -/
def evStaged (a : Nat) : Bool :=
  a == A_EV_GRP_EN || (decide (0x1000 ≤ a % 0x10000) && decide (a % 0x10000 < 0x2000) && decide (a % 0x40 < 0x28))

/-- Does channel `n` refuse a group with this owner core, with this attribute (R457)? -/
def evOwnerBad (s : State) (acc : Acc) (n : Nat) : Bool :=
  s.get (EV_CH_CFG_OWNER n) == 0 || !bitOf (s.get (EV_CH_CFG_CORES n)) acc.core
def evAttrBad (s : State) (acc : Acc) (n : Nat) : Bool := (s.get (EV_CH_CFG_OWNER n) == 2) != acc.ns

/-- The number of ones in the producer row of channel `n`. -/
def rowCount (s : State) (n : Nat) : Nat :=
  ((List.range 160).filter fun p => channelTakes s n p).length

/-- Is the configuration of channel `n` forbidden (R451, R457)? -/
def channelBad (s : State) (n : Nat) : Bool :=
  decide (1 < rowCount s n) || bitOf (s.get (EV_CH_CONS_CONS n 3)) 14 || bitOf (s.get (EV_CH_CONS_CONS n 3)) 15 ||
    s.get (EV_CH_CFG_OWNER n) == 3 || (s.get (EV_CH_CFG_OWNER n) == 2 && s.on (EV_CH_CFG_SEC n)) ||
    (!s.on (EV_CH_CFG_SEC n) &&
      ((List.range 160).any (fun p => channelTakes s n p && prodSecure p) || (channelConsumers s n).any consSecure))

/-- Forbidden values of EV (R451, R457, Table 15.7). -/
def evBad (_s u : State) (a : Nat) : Bool :=
  let o := a % 0x10000
  let bad := fun v : Nat => decide (160 ≤ v) && v != 255
  if 0x1000 ≤ o then channelBad u ((o - 0x1000) / 0x40)
  else if 0x40 ≤ o ∧ o < 0x60 then bad (u.get (EV_GRP_CFG_OFF ((o - 0x40) / 4))) || bad (u.get (EV_GRP_CFG_ON ((o - 0x40) / 4)))
  else false

/-- A write to the EV window (R458, R459, R466). The events emitted before it are routed first (R460). -/
def evWrite (acc : Acc) (s : State) (a : Nat) (v : Word) : State × WriteEnd :=
  let s := if acc.kind = .commit then s else routeEvents s
  if a = A_EV_CTL then
    secureWrite acc (some EV_INT_STAT_DIRECT) s fun s =>
      let r := fieldWrite s a v
      (r.1.set EV_CTL_EN_ACK (r.1.get EV_CTL_EN), r.2)
  else if evStaged a then
    match acc.kind with
    | .core => (s.raise EV_INT_STAT_DIRECT, .berrFree)
    | .commit => fieldWrite s a v
    | .boot => let r := fieldWrite s a v; if evBad s r.1 a then (s, .berrFree) else r
    | _ =>
      let r := fieldWrite s a v
      if !s.ivory then (s.raise EV_INT_STAT_DIRECT, .berrFree)
      else if evBad s r.1 a then (s.raise EV_INT_STAT_WINVAL, .ok)
      else r
  else
    let r := fieldWrite s a v
    if !acc.staged && evBad s r.1 a then (s, .ok) else r

/-- A read of the EV window (R461). -/
def evRead (acc : Acc) (s : State) (a : Nat) : Word :=
  let o := a % 0x10000
  if acc.ns ∧ 0x1000 ≤ o ∧ s.on (EV_CH_CFG_SEC ((o - 0x1000) / 0x40)) then 0 else s.reg a

end Sys2Proof.Machine
end

