-- ==== Sys2Proof/Machine/Threads.lean ====
section
/-! DEFINITION. Machine/Threads.lean: the registers, states and checkpoints of the sequencer threads (R177 to R181,
R202, R203). -/

namespace Sys2Proof.Machine

/-! ### States (Table 6.1) and halt causes (Table 6.21) -/

abbrev thHalted : Nat := 0
abbrev thReady : Nat := 1
abbrev thWaitT : Nat := 2
abbrev thWaitE : Nat := 3
abbrev thTx : Nat := 4
abbrev thReplay : Nat := 5

abbrev hcInsn : Nat := 1
abbrev hcCmd : Nat := 2
abbrev hcIllegal : Nat := 3
abbrev hcStack : Nat := 4
abbrev hcDisable : Nat := 5
abbrev hcEcc : Nat := 6
abbrev hcReplay : Nat := 7

def State.thread (s : State) (n : Nat) : ThreadS := s.ls.threads.getD n .reset
def State.updThread (s : State) (n : Nat) (f : ThreadS → ThreadS) : State :=
  { s with ls := { s.ls with threads := updAt s.ls.threads n f } }

def State.thState (s : State) (n : Nat) : Nat := s.get (LS_T_STAT_STATE n)

/-- A thread leaves a wait or a TXF for state `st`; one that replays takes it at the end of its replay (R203). -/
def State.setThState (s : State) (n st : Nat) : State :=
  match (s.thread n).replay with
  | some (_, img) => s.updThread n fun t => { t with replay := some (st, img) }
  | none => s.set (LS_T_STAT_STATE n) st

/-! ### Registers, pairs, flags, stack (R177, R186) -/

def State.sreg (s : State) (n k : Nat) : Nat := s.get (LS_T_S_VALUE n k)

/-- Register sk of thread `n` takes a value; while the thread replays, also in the state it will return to. -/
def State.setSreg (s : State) (n k v : Nat) : State :=
  let s := s.updThread n fun t => { t with replay := t.replay.map fun r =>
    (r.1, { r.2 with gpr := updAt r.2.gpr k fun _ => w32 v }) }
  s.set (LS_T_S_VALUE n k) v

/-- The 64-bit value of pair `k` (R177). -/
def State.spair (s : State) (n k : Nat) : Nat := s.sreg n (k + 1) * 2 ^ 32 + s.sreg n k
def State.setSpair (s : State) (n k v : Nat) : State := (s.setSreg n k v).setSreg n (k + 1) (v / 2 ^ 32)

def State.thPc (s : State) (n : Nat) : Nat := s.get (LS_T_PC_PC n)
def State.setThPc (s : State) (n pc : Nat) : State := s.set (LS_T_PC_PC n) pc

/-- The flags L, Z, N, C, V as bits of LS_Tn_STAT (Table 6.21). -/
abbrev flagV (n : Nat) : Field := (LS_T_STAT_FLAGS n).bit 0
abbrev flagC (n : Nat) : Field := (LS_T_STAT_FLAGS n).bit 1
abbrev flagN (n : Nat) : Field := (LS_T_STAT_FLAGS n).bit 2
abbrev flagZ (n : Nat) : Field := (LS_T_STAT_FLAGS n).bit 3
abbrev flagL (n : Nat) : Field := (LS_T_STAT_FLAGS n).bit 4

/-- Flag L of thread `n`; while the thread replays, also in the state it will return to (R186, R203). -/
def State.setFlagL (s : State) (n : Nat) (b : Bool) : State :=
  let s := s.updThread n fun t => { t with replay := t.replay.map fun r =>
    (r.1, { r.2 with flags := r.2.flags % 16 + 16 * b2n b }) }
  s.set (flagL n) (b2n b)

/-- The return stack of thread `n`, shown in DEPTH. -/
def State.setThStack (s : State) (n : Nat) (l : List Nat) : State :=
  (s.updThread n fun t => { t with stack := l }).set (LS_T_STAT_DEPTH n) l.length

/-! ### Checkpoints (R202, R203) -/

/-- What a checkpoint of thread `n` holds, with the PC given. -/
def threadImage (s : State) (n pc : Nat) : ThreadImage :=
  { pc := pc, flags := s.get (LS_T_STAT_FLAGS n), gpr := (List.range 16).map fun k => w32 (s.sreg n k)
    stack := (s.thread n).stack, pend0 := s.reg (A_LS_T_PEND0 n), pend1 := s.reg (A_LS_T_PEND1 n) }

/-- A checkpoint is saved (R202). -/
def checkpoint (s : State) (n pc : Nat) : State :=
  let img := threadImage s n pc
  (s.updThread n fun t => { t with image := img, since := 0 }).set (LS_T_STAT_CKPT_PC n) pc

/-- Thread `n` takes back what an image holds; pending bits latched since are kept where `keep` (R193, R203). -/
def restoreImage (s : State) (n : Nat) (img : ThreadImage) (keep : Bool) : State :=
  let s := (s.setThPc n img.pc).set (LS_T_STAT_FLAGS n) img.flags
  let s := (List.range 16).foldl (fun t k => t.set (LS_T_S_VALUE n k) (img.gpr.getD k 0).toNat) s
  let s := s.setThStack n img.stack
  let o := fun (x : Word) (a : Nat) => if keep then x ||| s.reg a else x
  (s.setReg (A_LS_T_PEND0 n) (o img.pend0 (A_LS_T_PEND0 n))).setReg (A_LS_T_PEND1 n) (o img.pend1 (A_LS_T_PEND1 n))

/-- What a halt with a cause does to the thread itself (R179, R184, R185). -/
def haltOnly (s : State) (n cause : Nat) : State :=
  let s := s.updThread n fun t => { t with wait := none, haltReq := false, replay := none }
  ((s.set (LS_T_STAT_STATE n) thHalted).set (LS_T_STAT_CAUSE n) cause).emit 157

/-- A thread halts with a cause; one that replays ends its recovery with it (R572), which may reset the device (R570) and so
comes last. -/
def haltThread (s : State) (n cause : Nat) : State :=
  let t := haltOnly s n cause
  if (s.thread n).replay.isSome then t.recovEnd 0x1 n 0x1 id id else t

/-- A thread halts for a fault: its FAULT bit is set (R185, R203). -/
def faultThread (s : State) (n cause : Nat) : State := (haltOnly s n cause).raiseBit LS_INT_STAT_FAULT n

/-- A WAITE or a TXF completes: a checkpoint is saved and the thread is READY, or it halts where a HALT waits for it. A
thread that replays meanwhile saves, and goes on from, the state it is to return to (R179, R202, R203). -/
def resumeThread (s : State) (n : Nat) : State :=
  let s := s.updThread n fun t => { t with wait := none }
  let s := match (s.thread n).replay with
    | some (_, img) =>
      let img := { img with pend0 := s.reg (A_LS_T_PEND0 n), pend1 := s.reg (A_LS_T_PEND1 n) }
      (s.updThread n fun t => { t with image := img, since := 0, replay := some (thReady, img) }).set (LS_T_STAT_CKPT_PC n) img.pc
    | none => checkpoint s n (s.thPc n)
  if (s.thread n).haltReq then
    let s := match (s.thread n).replay with
      | some (_, img) => restoreImage s n { img with pend0 := 0, pend1 := 0 } true
      | none => s
    haltThread s n hcCmd
  else s.setThState n thReady

end Sys2Proof.Machine
end

