-- ==== Sys2Proof/Machine/Flags.lean ====
section
/-! DEFINITION. Machine/Flags.lean: results and flags of ADD, SUB and CMP, and the conditions of JCC (R186, Table
6.4). -/

namespace Sys2Proof.Machine

/-- A result of `w` bits with its flags. -/
structure AluOut where
  val : Nat
  z : Bool
  n : Bool
  c : Bool
  v : Bool
  deriving DecidableEq, Repr

/-- ADD on `w` bits: C the carry out, V signed overflow. -/
def aluAdd (w a b : Nat) : AluOut :=
  let r := (a + b) % 2 ^ w
  let e : Int := signed w a + signed w b
  { val := r, z := r == 0, n := bitOf r (w - 1), c := decide (2 ^ w ≤ a % 2 ^ w + b % 2 ^ w), v := decide (signed w r ≠ e) }

/-- SUB and CMP on `w` bits: C is 1 when no borrow occurs, V signed overflow. -/
def aluSub (w a b : Nat) : AluOut :=
  let r := (a % 2 ^ w + 2 ^ w - b % 2 ^ w) % 2 ^ w
  let e : Int := signed w a - signed w b
  { val := r, z := r == 0, n := bitOf r (w - 1), c := decide (b % 2 ^ w ≤ a % 2 ^ w), v := decide (signed w r ≠ e) }

/-- Z, N, C and V of thread `n` follow a result; L keeps. -/
def setFlags (s : State) (n : Nat) (o : AluOut) : State :=
  (((s.set (flagZ n) (b2n o.z)).set (flagN n) (b2n o.n)).set (flagC n) (b2n o.c)).set (flagV n) (b2n o.v)

/-- Does condition `d` hold for thread `n` (Table 6.4)? -/
def condHolds (s : State) (n d : Nat) : Bool :=
  match d with
  | 0 => s.on (flagZ n)
  | 1 => !s.on (flagZ n)
  | 2 => s.on (flagC n)
  | 3 => !s.on (flagC n)
  | 4 => s.on (flagN n) == s.on (flagV n)
  | 5 => s.on (flagN n) != s.on (flagV n)
  | 6 => s.on (flagL n)
  | 7 => !s.on (flagL n)
  | _ => false

end Sys2Proof.Machine
end

