-- ==== Sys2Proof/Machine/Txf.lean ====
section
/-! DEFINITION. Machine/Txf.lean: transmissions by TXF: preparation, the checks of R30, ramp-up to ramp-down, the
acknowledgement wait, wake trains and the status word (R194 to R200, R229 to R236, R269 to R274). -/

namespace Sys2Proof.Machine

/-! ### Codes (Table 6.7) -/

abbrev txAckOk : Nat := 0x00
abbrev txSent : Nat := 0x01
abbrev txNoAck : Nat := 0x02
abbrev txLate : Nat := 0x03
abbrev txBudget : Nat := 0x04
abbrev txLbt : Nat := 0x05
abbrev txCoex : Nat := 0x06
abbrev txCut : Nat := 0x07
abbrev txBusy : Nat := 0x08
abbrev txEmpty : Nat := 0x09
abbrev txHeld : Nat := 0x0A
abbrev txAborted : Nat := 0x0B
abbrev txBadDesc : Nat := 0x0C

/-! ### The descriptor (Table 6.6) -/

def TxfS.ofs (x : TxfS) : Nat := bitsOf x.desc0 16 16
def TxfS.mode (x : TxfS) : Nat := bitsOf x.desc0 12 4
def TxfS.preset (x : TxfS) : Nat := bitsOf x.desc0 10 2
def TxfS.fec (x : TxfS) : Bool := bitsOf x.desc0 9 1 == 1
def TxfS.fcs2 (x : TxfS) : Bool := bitsOf x.desc0 8 1 == 1
def TxfS.dw (x : TxfS) : Bool := bitsOf x.desc0 7 1 == 1
def TxfS.src (x : TxfS) : Nat := bitsOf x.desc0 4 3
def TxfS.alane (x : TxfS) : Nat := bitsOf x.desc0 0 4
def TxfS.pre (x : TxfS) : Nat := bitsOf x.desc1 16 16
def TxfS.tgt (x : TxfS) : Nat := bitsOf x.desc1 0 12

/-- Does a descriptor hold a value forbidden by Table 6.6, R121 or R122 (R195)? -/
def descBad (s : State) (x : TxfS) : Bool :=
  !modeOk x.mode || (x.fec && x.mode == 3) || !presetOk s x.preset || decide (5 < x.src) ||
    decide (x.pre < (if x.mode = 3 then 16 else 4)) || bitsOf x.desc1 12 4 != 0 ||
    (decide (x.src < 5) && decide (512 ≤ x.tgt)) || !txOfsOk x.ofs

/-- Transmit centre in units of 100 Hz (R121). -/
def txFreq (s : State) (ofs : Nat) : Nat := ((s.get FE_WIN_CTL_FREQ : Int) + signed 16 ofs).toNat

/-- Is logical lane `l` attached to the bin and mode of a transmission at `f` in mode `m` (R198)? -/
def attachedTo (s : State) (l f m : Nat) : Bool :=
  let p := s.physOf l
  let lo := s.get FE_WIN_CTL_FREQ
  s.on (CZ_LANE_CFG_EN p) && s.get (CZ_LANE_CFG_MODE p) == m &&
    (if modeNarrow m then s.on CZ_CTL_PATH && decide ((((lo : Int) + s.getS CZ_NARROW_OFS - f).natAbs) ≤ 1000)
     else s.get (CZ_LANE_CFG_BIN p) == nearestBin lo f)

/-! ### Time -/

def State.txf (s : State) (n : Nat) : Option TxfS := (s.thread n).txf
def State.updTxf (s : State) (n : Nat) (f : TxfS → TxfS) : State :=
  s.updThread n fun t => { t with txf := t.txf.map f }

/-- Ticks from now to the ramp-up anchor; negative once it has passed (R194). -/
def txLeft (s : State) (x : TxfS) : Int :=
  if x.fixed then (x.anchor : Int) - s.now
  else (x.inst : Int) - leadTicks s x.preset - s.counter x.sel

/-- The ramp-up anchor on TB_NOW. -/
def txAnchor (s : State) (x : TxfS) : Nat := ((s.now : Int) + txLeft s x).toNat

/-- The request of an owner. -/
def cxOf (s : State) (owner : Nat) : Option CoexReq := s.dc.coex.find? fun e => e.owner == owner

/-- The coexistence sample lead of an owner in ticks (R269): GSAMP as it stood at step 1 of its request (R276). -/
def sampleLead (s : State) (owner : Nat) : Nat :=
  match cxOf s owner with
  | some q => 200 * (if q.high then q.gsamp else s.get CX_CFG_GSAMP)
  | none => if s.on CX_CTL_EN then 200 * s.get CX_CFG_GSAMP else 400

/-- The listen span in ticks (R269). -/
def listenSpan (s : State) : Nat := 4000 * s.get DC_LBT_CFG_LISTEN

/-- Airtime of a transmission from the start of ramp-up to the end of ramp-down (R259). -/
def airOf (s : State) (preset ppdu : Nat) : Nat := ppdu + 400 + 2 * rampTicks s preset

/-- Three times the ticks of one unit of preamble: an octet, or a bit period in Slate. -/
def preUnit3 (m : Nat) : Nat := if m = 3 then sym3 m else 8 * sym3 m

/-- Preamble units that last at least `t` ticks. -/
def preUnits (m t : Nat) : Nat := (3 * t + preUnit3 m - 1) / preUnit3 m

/-! ### The end of a TXF (R199) -/

/-- What a TXF of thread `n` held is given back as its code says. Answers whether its frame was dropped. -/
def txfRelease (s : State) (n code : Nat) (x : TxfS) : Bool × State :=
  let r := match x.cell with
    | some c => disposeFrame s c code
    | none => (false, s)
  let s := cxDrop (releaseAir r.2 n) n
  let s := (s.unpostTx n).closeWindows false fun w => w.owner == .ack n
  (r.1, s.updThread n fun t => { t with txf := none })

/-- A TXF ends: its status is written. `fp` and `defer` are the bits of Table 6.7. -/
def txfEnd (s : State) (n code : Nat) (fp defer : Bool) : State :=
  match s.txf n with
  | none => s
  | some x =>
    let r := txfRelease s n code x
    let st := min x.late 0xFFFF * 2 ^ 16 + b2n r.1 * 2 ^ 11 + b2n defer * 2 ^ 10 + b2n x.abortLate * 2 ^ 9 + b2n fp * 2 ^ 8 + code
    let s := (r.2.setSreg n x.dest st).set (LS_T_TXS_STATUS n) st
    let s := s.setFlagL n (decide (0 < x.late) || code == txLate)
    resumeThread (s.emit (28 + n)) n

/-- A TXF ends without a transmission. -/
def txfFail (s : State) (n code : Nat) : State := txfEnd s n code false false

/-- A TXF ends late by `late` ticks. -/
def txfTooLate (s : State) (n : Nat) (late : Nat) : State :=
  txfFail (s.updTxf n fun x => { x with late := max late x.late }) n txLate

/-- A TXF on TB_DTIME ends while the tracker has suspended them (R242). -/
def txfSuspended (s : State) (n : Nat) : State := txfTooLate s n 0xFFFF

/-! ### The TXF instruction (R43, R194, R197) -/

/-- TXF executes: the transmit term is posted and preparation begins; an instant already passed by more than TXTOL ends
it, as does SUSP on TB_DTIME (R242). -/
def txfStart (s : State) (n : Nat) (sel : Bool) (inst : Nat) (d0 d1 : Word) (dest : Nat) : State :=
  let x : TxfS :=
    { phase := 0, desc0 := d0, desc1 := d1, sel := sel, inst := inst, dest := dest, fixed := false, anchor := 0, anchor0 := 0
      late := 0, cell := none, nb := none, cls := 0, psdu := [], seq := 0, preamble := 0, air := 0, want := false, tries := 0
      lbt := false, heard := false, granted := false, wd := false, abortLate := false, te := 0, laneOk := false, ackBy := 0
      preSeen := false, train := none, phr := 0, levels := [] }
  let x := { x with levels := [(s.now, s.getS (FE_LRPT_NOW_RSSI (s.physOf x.alane)))] }
  let s := (s.updThread n fun t => { t with txf := some x }).setThState n thTx
  let s := s.postTx n (s.on (FE_TXP_OUT x.preset))
  if sel && s.on LS_BCN_STAT_SUSP then txfSuspended s n
  else if inst + s.get (LS_T_CFG_TXTOL n) < s.counter sel then
    txfTooLate s n (s.counter sel - (inst - leadTicks s x.preset))
  else s

/-! ### Preparation (R195 to R197, R229 to R233, R323, R331) -/

/-- The head frame a TXF takes: frames whose lifetime is over are dropped on the way, at most `fuel` of them (R323). Answers
with it how many more may be dropped. -/
def takeFrame (s : State) (nb src : Nat) : Nat → Option (Nat × Nat) × State
  | 0 => (none, s)
  | k + 1 =>
    match nextFrame s nb src with
    | none => (none, s)
    | some c =>
      match s.frame c with
      | none => (none, s)
      | some f => if lifeOver s f then takeFrame (s.loseFrame c) nb src k else (some (c, k + 1), s)

/-- The frame of a TXF, by its SRC: none for EMPTY; SRC 0 to 4 find none while the engine is disabled (R196, R309). A frame
in whose cell `ecc` the preparation meets an uncorrectable error is dropped, and the next is taken (R327), within the four
drops by lifetime of one TXF (R323). -/
def sourceFrame (s : State) (x : TxfS) (ecc : Option Nat) : Option Nat × State :=
  if x.src = 5 then
    match s.frame x.tgt with
    | some f =>
      if f.use ≠ useRaw ∨ f.busy then (none, s)
      else
        match ecc with
        | some k => (none, s.eccFrame x.tgt k)
        | none => (some x.tgt, s)
    | none => (none, s)
  else if !s.on FW_CTL_EN then (none, s)
  else
    match takeFrame s x.tgt x.src 4, ecc with
    | (some (c, left), s), some k =>
      let r := takeFrame (s.eccFrame c k) x.tgt x.src left
      (r.1.map (·.1), r.2)
    | r, _ => (r.1.map (·.1), r.2)

/-- The octets of a wake frame to entry `i` with countdown `cd` (Table 7.6). -/
def wakeFrame (s : State) (i cd : Nat) (fcs2 : Bool) : List Byte :=
  let oui := s.get LS_OUI_OUI
  let b := natLE 2 0xAB41 ++ natLE 2 (s.get LS_FILT_CFG_PAN_ID) ++ natLE 2 (s.get (NB_W0_NODE_ID i)) ++
    natLE 2 (s.get LS_SHORT_NODE_ID) ++ natLE 2 0x0007 ++ natLE 1 (oui / 0x10000) ++ natLE 1 (oui / 0x100) ++ natLE 1 oui ++
    natLE 1 0x03 ++ natLE 3 cd
  b ++ fcsOf fcs2 b

/-- CD of wake frame `j` of a segment of `n`, each `tw` thirds of a tick long (R233): from the end of its sync word to the data
frame's first bit. -/
def wakeCd (m tw n j : Nat) : Nat := ((n - j) * tw - headThirds m (if m = 3 then 16 else 4)) / 6000

/-- Preamble, ticks of the PPDU with its wake frames, and the train of a TXF in the form of Table 7.5. Where SEG × 10 ms is
shorter than one wake frame, R232's n is 0 and its m has no first wake frame to come from: the model sends one (DESIGN CHOICE,
log entry 63). -/
def txForm (s : State) (x : TxfS) (len : Nat) : Nat × Nat × Option TrainS :=
  let m := x.mode
  let plain := (x.pre, ppduTicks m x.pre len x.fec, none)
  match x.nb with
  | none => plain
  | some i =>
    let sniff := s.get (NB_W6_SNIFF i)
    if x.src = 5 ∨ sniff = 0 ∨ tracked s i then plain
    else
      let interval := spOf s i 1
      let det := detTicks m (s.on (NB_W0_LDET i))
      if 100 * sniff ≤ min 8 (s.get LS_RDV_CFG_LPMAX) * 32768 then
        let p := max x.pre (preUnits m (interval + det))
        (p, ppduTicks m p len x.fec, none)
      else
        let tw := ppduThirds m (if m = 3 then 16 else 4) (17 + fcsLen x.fcs2) x.fec
        let k := max 1 (s.get LS_RDV_CFG_SEG * 6000000 / tw)
        let cd := wakeCd m tw k 0
        let mm := 12000 + cd * 2000 / 2 ^ 14
        let p := max x.pre (preUnits m (2 * mm + det))
        (p, (k * tw + ppduThirds m p len x.fec) / 3,
          some { limit := 3 * (interval + det) + tw, tw := tw, wakes := k, sent := 0, later := false })

/-- The octets of wake frame `j` of the segment on the air, for a TXF that wakes its partner (R232, R233). -/
def airWakeFrame (s : State) (j : Nat) : Option (List Byte) :=
  match s.fe.air with
  | some a =>
    match s.txf a.thread with
    | some x =>
      match x.train, x.nb with
      | some t, some i =>
        if !a.ack && decide (j < t.wakes) then some (wakeFrame s i (wakeCd x.mode t.tw t.wakes j) x.fcs2) else none
      | _, _ => none
    | none => none
  | none => none

/-- The bit of CX_PRI_MAP for a TXF's request (R272). -/
def txPriority (x : TxfS) : Nat :=
  if x.train.isSome then 2
  else if x.src = 5 then (if leAt x.psdu 0 2 % 8 = 0 ∧ leAt x.psdu 0 2 / 0x1000 % 4 = 2 then 1 else 4)
  else 4 + x.cls

/-- The air of the TXF of thread `n` whose grant has been sampled and which is to ramp up: nothing stops it any more (R273). -/
def grantedAir (s : State) (n : Nat) : Option (Nat × Nat) :=
  match s.txf n with
  | some x =>
    if x.phase = 1 ∧ (cxOf s n).any (·.sampled) then
      let a := max s.now (txAnchor s x)
      some (a, a + airOf s x.preset x.air)
    else none
  | none => none

/-- Does `[a, b)` overlap a transmission under way or the air of an owed acknowledgement (R197, R211), or that of another thread
whose grant has been sampled (R273; DEDUCED, log entry 53)? `n`: the thread that asks. -/
def airTaken (s : State) (n a b : Nat) : Bool :=
  (match s.fe.air with | some t => decide (a < t.planned) | none => false) ||
    (s.ls.acks.any fun k => decide (k.phase < 2) && decide (k.anchor < b) && decide (a < k.anchor + k.air)) ||
    (List.range 4).any fun k => k != n && (grantedAir s k).any fun g => decide (g.1 < b) && decide (a < g.2)

/-- The checks of R30 that do not wait: the budget; what listen-before-talk and the coexistence grant wait for is set
up. At the end of a preparation, and at each later segment of a wake train (R235, R260). -/
def txChecks (s : State) (n : Nat) : State :=
  match s.txf n with
  | none => s
  | some x =>
    let f := txFreq s x.ofs
    let a := airOf s x.preset x.air
    let plvl := if s.on DC_CTL_PACE ∧ x.src < 5 then some (s.get (FW_CLS_CFG_PLVL x.cls)) else none
    let r := budgetCheck s n f a plvl
    if !r.1 then txfFail r.2 n txBudget
    else
      let s := r.2
      let lbt := s.on DC_CTL_EN && (covering s f).any fun e => s.on (DC_REC_CFG_LBT e.1)
      let cx := s.on CX_CTL_EN
      let s := s.updTxf n fun x => { x with phase := 1, lbt := lbt, heard := false, granted := !cx, tries := 0, wd := false }
      let anchor := txAnchor s x
      let ls := if lbt then listenSpan s else 0
      let s := if cx then cxAsk s n (txPriority x) (anchor - ls) s.now else s
      if !lbt && !cx && airTaken s n anchor (anchor + a) then txfFail s n txBusy else s

/-- Does SUSP end the TXF of thread `n` now: it counts on TB_DTIME and none of it is on the air or awaits its
acknowledgement (R242)? -/
def txfSusp (s : State) (n : Nat) : Bool :=
  match s.txf n with
  | some x => s.on LS_BCN_STAT_SUSP && x.sel && x.phase != 2 && x.phase != 3
  | none => false

/-- Preparation of the TXF of thread `n` completes (R195 to R197). A Slate frame of more than 255 octets ends it with BAD_DESC:
R195 gives the limit and names no outcome (DESIGN CHOICE, log entry 63). -/
def txfPrepared (s : State) (n : Nat) (ecc : Option Nat) : State :=
  match s.txf n with
  | none => s
  | some x =>
    if x.phase ≠ 0 then s
    else if txfSusp s n then txfSuspended s n
    else if s.get FE_WIN_CTL_FREQ = 0 then txfFail (s.set (LS_T_STAT_RADIO_ERR n) 1) n txBadDesc
    else if descBad s x then txfFail s n txBadDesc
    else
      match sourceFrame s x ecc with
      | (none, s) => txfFail s n txEmpty
      | (some c, s) =>
        match s.frame c with
        | none => txfFail s n txEmpty
        | some f =>
          let h := if x.src < 5 then holdBack s x.tgt f.cells.length else (true, s)
          if !h.1 then txfFail h.2 n txHeld
          else
            let s := h.2.putFrame c { f with busy := true }
            let d := frameOctets s f
            let m := readMac d
            let len := f.len + fcsLen x.fcs2
            let nb := if x.src < 5 then some x.tgt
              else (findSender s { m with srcMode := m.dstMode, src := m.dst }).1
            let want := m.ar && !m.bcast && m.dstMode != 0
            let x := { x with cell := some c, nb := nb, cls := f.cls, psdu := d, seq := m.seq, want := want }
            let fm := txForm s x len
            let x := { x with preamble := fm.1, air := fm.2.1, train := fm.2.2, phr := buildPhr x.mode len x.fcs2 x.dw }
            let s := (s.set FE_TX_OFS_OFS x.ofs).updTxf n fun _ => x
            if x.mode = 3 ∧ 255 < len then txfFail s n txBadDesc
            else
              let left := txLeft s x
              if 0 ≤ left then txChecks s n
              else if (s.get (LS_T_CFG_TXTOL n) : Int) < -left then txfTooLate s n (-left).toNat
              else
                let a0 := txAnchor s x
                txChecks (s.updTxf n fun x => { x with fixed := true, anchor := s.now, anchor0 := a0 }) n

/-! ### Listen-before-talk and the grant (R269 to R274) -/

/-- Is the TXF of thread `n` listening, or about to, and how far is its anchor? -/
def listenLeft (s : State) (n : Nat) : Option (TxfS × Int) :=
  match s.txf n with
  | some x => if x.phase < 2 ∧ !x.heard then some (x, txLeft s x - sampleLead s n) else none
  | none => none

/-- The level of ALANE is noted where it has changed (R269). -/
def levelTick (s : State) (n : Nat) : State :=
  match s.txf n with
  | some x =>
    let v := s.getS (FE_LRPT_NOW_RSSI (s.physOf x.alane))
    if (x.levels.head?.map (·.2)) = some v then s else s.updTxf n fun y => { y with levels := (s.now, v) :: y.levels }
  | none => s

/-- Sum of the levels over the ticks `[a, b)`, and the number of ticks: levels the latest first. -/
def levelSum : List (Nat × Int) → Nat → Nat → Int × Nat
  | [], _, _ => (0, 0)
  | (t, v) :: l, a, b =>
    let k := b - max a t
    let r := levelSum l a (min b t)
    (r.1 + v * (k : Nat), r.2 + k)

/-- Is the listen of thread `n` due to end? -/
def listenDue (s : State) (n : Nat) : Bool :=
  match listenLeft s n with
  | some (x, left) => x.phase == 1 && x.lbt && decide (left ≤ 0)
  | none => false

/-- Is the channel busy: the mean over the span is at or above THR (R269)? Ticks of the span from before the TXF executed are
left out, and where none is left the present level stands for the mean (DEDUCED, log entry 53). -/
def listenBusy (s : State) (n : Nat) (x : TxfS) : Bool :=
  let e := ((s.now : Int) + (txLeft s x - sampleLead s n)).toNat
  let m := levelSum x.levels (e - listenSpan s) e
  if m.2 = 0 then decide (s.getS DC_LBT_CFG_THR ≤ s.getS (FE_LRPT_NOW_RSSI (s.physOf x.alane)))
  else decide (s.getS DC_LBT_CFG_THR * (m.2 : Nat) ≤ m.1)

/-- The listen of thread `n` ends (R269, R270). `draw` is the draw of a retry, which the spec leaves open. -/
def listenEnd (s : State) (n : Nat) (draw : Word) : State :=
  match s.txf n with
  | none => s
  | some x =>
    if !listenDue s n then s
    else if !attachedTo s x.alane (txFreq s x.ofs) x.mode then
      txfFail (s.raise DC_INT_STAT_LBT_NOLANE) n txLbt
    else if !listenBusy s n x then s.updTxf n fun x => { x with heard := true }
    else
      let s := (s.bump DC_CNT_LBT_BUSY).raise DC_INT_STAT_LBT_BUSY
      if s.get DC_LBT_CFG_NTRY ≤ x.tries then txfFail s n txLbt
      else
        let r := 1 + draw.toNat % (max 1 (s.get DC_LBT_CFG_BOMAX) * 10)
        let a := txAnchor s x
        let a0 := if x.fixed then x.anchor0 else a
        let s := s.updTxf n fun x => { x with fixed := true, anchor := a + 20000 * r, anchor0 := a0, tries := x.tries + 1
                                              granted := !s.on CX_CTL_EN }
        let q := s.dc.coex.map fun e => if e.owner = n then { e with sampled := false } else e
        { s with dc := { s.dc with coex := q } }

/-- The request of an owner has been sampled. -/
def cxSampled (s : State) (owner : Nat) : State :=
  let q := s.dc.coex.map fun e => if e.owner = owner then { e with sampled := true } else e
  { s with dc := { s.dc with coex := q } }

/-- Is COEX_GNT to be sampled for thread `n`, the listen ended or ending now (R271, R273)? -/
def grantSoon (s : State) (n : Nat) : Bool :=
  match s.txf n, cxOf s n with
  | some x, some q =>
    x.phase == 1 && !q.sampled && q.high && (!x.lbt || x.heard || listenDue s n) && decide (q.rose + 400 ≤ s.now) &&
      decide (txLeft s x ≤ sampleLead s n)
  | _, _ => false

/-- Is it to be sampled at once? -/
def grantDue (s : State) (n : Nat) : Bool :=
  grantSoon s n && (match s.txf n with | some x => !x.lbt || x.heard | none => false)

/-- COEX_GNT is sampled for the TXF of thread `n` (R273); ramp-up follows no sooner than GSAMP. The overlap of R197 is
judged here, for nothing of it may stop ramp-up after step 3 (DEDUCED, log entry 53). -/
def grantSampleTx (s : State) (n : Nat) : State :=
  if !grantDue s n then s
  else if cxGrant s then
    let s := ((cxSampled s n).bump CX_CNT1_GRANTED).emit 79
    match s.txf n with
    | none => s
    | some x =>
      let a := txAnchor s x
      let e := s.now + sampleLead s n
      let up := max a e
      if airTaken s n up (up + airOf s x.preset x.air) then txfFail s n txBusy
      else if a < e then
        s.updTxf n fun x => { x with granted := true, anchor0 := if x.fixed then x.anchor0 else a, fixed := true, anchor := e }
      else s.updTxf n fun x => { x with granted := true }
  else txfFail ((s.bump CX_CNT0_DENIED).raise CX_INT_STAT_DENIED) n txCoex

/-! ### Ramp-up (R27, R31, R197, R237, R248, R259) -/

/-- May the shell transmit now (R108, R112, R115, R129)? -/
def shellReady (s : State) : Bool :=
  s.awake && s.on FE_CTL_EN && s.get FE_WIN_CTL_FREQ != 0 && !s.on FE_RT_STAT_BUSY && !s.on FE_CAL_STAT_SYN_FAIL &&
    s.fe.relocked && !s.fe.unlock && !(s.fe.cal.any fun c => c.kind != 1 && c.kind != 5)

/-- TB_DTIME `k` ticks from now, with the rate and the slew in force (R65, R67). -/
def dtimeAfter (s : State) (k : Nat) : Nat :=
  if isMaster s then s.dtime + k
  else
    let r : Int := ((s.tb.dacc.toNat : Int) + (k : Nat) * drate s) / (2 ^ 32 : Nat)
    let steps : Nat := if k < s.tb.slewWait then 0 else 1 + (k - s.tb.slewWait) / 20000
    let sl : Int := min s.tb.slewRem.natAbs steps
    ((s.dtime : Int) + (k : Nat) + r + (if s.tb.slewRem < 0 then -sl else sl)).toNat

/-- `d` with octets `b` from place `i`. -/
def spliceAt (d : List Byte) (i : Nat) (b : List Byte) : List Byte := d.take i ++ b ++ d.drop (i + b.length)

/-- A beacon's fields as the launch writes them (R237, R248): `dts` at the end of its sync word. -/
def launchBeacon (s : State) (d : List Byte) (dts : Nat) : List Byte :=
  let m := readMac d
  if m.typ ≠ 0 ∨ m.ver ≠ 2 then d
  else
    let e := frameIes d m (s.get LS_OUI_OUI)
    let hold := s.on LS_BCN_STAT_AMBER || (s.rdv.has && !isMaster s && s.on (NB_W10_BHOLD (parentOf s)))
    let d := match e.beacon with
      | some _ => spliceAt d e.beaconAt (natLE 8 dts ++ natLE 1 (s.get TB_DISC_STAT_DEPTH + 16 * b2n hold))
      | none => d
    match e.bset with
    | some _ =>
      let eff := if s.on CZ_BSC_STAT_PEND then s.get64 CZ_BSC_EFF_LO_EFF CZ_BSC_EFF_HI_EFF / 1024 % 2 ^ 32 else 0
      spliceAt d e.bsetAt (natLE 4 (bscSet s) ++ natLE 4 (bscNext s) ++ natLE 4 eff)
    | none => d

/-- Is the TXF of thread `n` to launch now? -/
def txfDue (s : State) (n : Nat) : Bool :=
  match s.txf n with
  | some x => txfSusp s n ||
      (x.phase == 1 && decide (txLeft s x ≤ 0) && (!x.lbt || x.heard) && (x.granted || (cxOf s n).isNone))
  | none => false

/-- Does the air end the TXF of thread `n` at its ramp-up (R197)? Once its grant has been sampled it does not (R273). -/
def launchBusy (s : State) (n total : Nat) : Bool :=
  !(cxOf s n).any (·.sampled) && airTaken s n s.now (s.now + total)

/-- A transmission whose grant has been withdrawn between step 3 and ramp-up is cut as it starts (R274). -/
def withdrawnCut (s : State) : State :=
  let s := feCut s false
  { s with fe := { s.fe with air := s.fe.air.map fun a => { a with wd := true } } }

/-- Ramp-up of the TXF of thread `n` starts, or the TXF ends: late where the shell is not ready within TXTOL, which is
judged at the first segment of a wake train only (R235), busy where the air is taken (R197). One whose grant has been sampled
waits for a transmission that still runs, which step 3 did not see coming (DEDUCED, log entry 53). -/
def txfLaunch (s : State) (n : Nat) : State :=
  match s.txf n with
  | none => s
  | some x =>
    let late := (-(txLeft s x)).toNat
    let total := airOf s x.preset x.air
    let later := x.train.any (·.later)
    if txfSusp s n then txfSuspended s n
    else if !shellReady s then (if s.get (LS_T_CFG_TXTOL n) < late && !later then txfTooLate s n late else s)
    else if launchBusy s n total then txfFail s n txBusy
    else if s.fe.air.isSome then s
    else
      let first := s.now + leadTicks s x.preset
      let d := if x.src = 5 then launchBeacon s x.psdu (dtimeAfter s (leadTicks s x.preset + headTicks x.mode x.preamble))
        else x.psdu
      let hp := s.on (FE_TXP_OUT x.preset)
      let lastBit := first + x.air
      let ramp := rampTicks s x.preset
      let a : AirS :=
        { ack := false, thread := n, hp := hp, setting := txSetting s x.preset, down := false, cut := false, wd := false
          shell := false, start := s.now, lastBit := lastBit, ramp := ramp, planned := lastBit + 100 + ramp
          freq := txFreq s x.ofs, wakes := (match x.train with | some t => t.wakes | none => 0), paid := airPaid s n
          mode := x.mode, pre := x.preamble, coded := x.fec, phr := x.phr, dw := x.dw, psdu := d ++ fcsOf x.fcs2 d }
      let lateness := if later then x.late
        else if x.fixed then s.now - x.anchor0 else late
      let s := chargeAir s n
      let s := (bcnBlank (airStart s a)).emit (24 + n)
      let s := s.updTxf n fun x => { x with phase := 2, late := lateness, te := lastBit
                                            train := x.train.map fun t => { t with sent := t.sent + t.wakes * t.tw } }
      if x.wd then withdrawnCut s else s

/-! ### The acknowledgement wait and after (R198, R232, R235, R236, R332) -/

/-- Ticks from the last bit to the latest sync word of the acknowledgement (R198). -/
def ackSpan (s : State) (x : TxfS) : Nat :=
  200000 + (match x.nb with | some i => if s.on (NB_W0_IHLUNO i) then 400000 else 0 | none => 0) +
    headTicks x.mode (stdPreamble x.mode) + 100000

/-- At TE the lane for the acknowledgement is tested (R198). -/
def laneTest (s : State) (n : Nat) : State :=
  match s.txf n with
  | some x =>
    if x.phase = 2 ∧ x.te = s.now then s.updTxf n fun y => { y with laneOk := attachedTo s x.alane (txFreq s x.ofs) x.mode }
    else s
  | none => s

/-- What a tick does to the TXF of thread `n` without a row: the level of its lane is noted, a request that has not been made
follows an anchor on TB_DTIME (R271), and at TE the lane is tested. -/
def txfTick (s : State) (n : Nat) : State :=
  let s := levelTick s n
  let s := match s.txf n with
    | some x =>
      if x.phase = 1 ∧ !x.fixed then
        let base := txAnchor s x - if x.lbt then listenSpan s else 0
        let q := s.dc.coex.map fun e => if e.owner = n ∧ !e.high then { e with base := base } else e
        { s with dc := { s.dc with coex := q } }
      else s
    | none => s
  laneTest s n

/-- A TXF ends with NO_ACK; a partner that is tracked and was not heard has been missed (R236). -/
def txfNoAck (s : State) (n : Nat) : State :=
  match s.txf n with
  | none => s
  | some x =>
    let s := match x.nb with
      | some i => if x.preSeen then s else rdvMiss s i
      | none => s
    txfFail s n txNoAck

/-- The transmission of the TXF of thread `n` has ramped down: it was `cut`, its grant was withdrawn up to the end of ramp-down
(`wd`), or it was sent (R111, R198, R271, R274). -/
def txfDown (s : State) (n : Nat) (cut wd : Bool) : State :=
  match s.txf n with
  | none => s
  | some x =>
    let s := s.unpostTx n
    if cut || wd then txfFail s n (if wd then txCoex else txCut)
    else if !x.want then txfFail s n txSent
    else if !x.laneOk then txfNoAck (s.set (LS_T_STAT_RADIO_ERR n) 1) n
    else
      let s := if (cxOf s n).any (!·.ackrx) then cxDrop s n else s
      let by_ := x.te + ackSpan s x
      s.updTxf n fun x => { x with phase := 3, ackBy := by_, preSeen := false }

/-- Is the window of the acknowledgement to open (R198)? -/
def ackWindowDue (s : State) (n : Nat) : Bool :=
  match s.txf n with
  | some x => x.phase == 3 && decide (x.te + 198000 ≤ s.now) && !s.windowOpen (.ack n)
  | none => false

/-- The window of the acknowledgement opens. -/
def ackWindowOpen (s : State) (n : Nat) : State :=
  match s.txf n with
  | some x => if ackWindowDue s n then s.openWindow (.ack n) x.alane none else s
  | none => s

/-- Has the acknowledgement wait run out: the latest sync word passed, and no frame that began in time in progress? -/
def ackOver (s : State) (n : Nat) : Bool :=
  match s.txf n with
  | some x =>
    x.phase == 3 && decide (x.ackBy < s.now) &&
      (match (s.lane (s.physOf x.alane)).rx with
        | some r => !(s.laneState (s.physOf x.alane) == lnFrame && decide (r.seen ≤ x.ackBy) && decide (x.te ≤ r.seen))
        | none => true)
  | none => false

/-- The acknowledgement wait ends without one (R198, R235). -/
def ackTimeout (s : State) (n : Nat) : State :=
  match s.txf n with
  | none => s
  | some x =>
    if !ackOver s n then s
    else
      match x.train with
      | some t =>
        if t.limit ≤ t.sent || x.abortLate then txfNoAck s n
        else
          let s := (cxDrop s n).closeWindows false fun w => w.owner == .ack n
          s.updTxf n fun x => { x with phase := 4, fixed := true, anchor := s.now
                                       train := x.train.map fun t => { t with later := true } }
      | none => txfNoAck s n

/-- The next segment of a wake train: its ledger term is posted and the checks of R30 are made (R235). -/
def trainSegment (s : State) (n : Nat) : State :=
  match s.txf n with
  | none => s
  | some x => if x.phase ≠ 4 then s else if txfSusp s n then txfSuspended s n else txChecks (s.postTx n (s.on (FE_TXP_OUT x.preset))) n

/-- The thread whose wait an acknowledgement ends: received on physical lane `p`, sync word seen at `seen`, sequence
number `seq` (R198). -/
def ackWaiter (s : State) (p seen seq : Nat) : Option Nat :=
  (List.range 4).find? fun n =>
    match s.txf n with
    | some x => x.phase == 3 && s.physOf x.alane == p && x.seq == seq && decide (seen ≤ x.ackBy) && decide (x.te < seen)
    | none => false

/-- An acknowledgement is accepted for thread `n` (R69, R198, R220, R221, R331, R332). -/
def ackAccept (s : State) (n : Nat) (fp : Bool) (e : Ies) (ts : Nat) : State :=
  match s.txf n with
  | none => s
  | some x =>
    let s := match x.nb with
      | none => s
      | some i =>
        let s := (s.set (NB_W15_ROOM_IN i) (e.room.getD 0)).setHeld i 0
        let s := match e.ofs with
          | some o => driftUpdate s i (x.te - bodyTicks x.mode (x.psdu.length + fcsLen x.fcs2) x.fec) o
          | none => s
        propUpdate s i ts x.te e.dly x.mode
    let w := s.get FW_FC_CFG_FPWIN
    let s := txfEnd s n txAckOk fp (decide (0 < e.dly))
    if fp && w != 0 then s.openWindow .pending x.alane (some (w * 200000)) else s

/-! ### ABORT_TX (R200) -/

/-- Does ramp-up of thread `n` start in this handshake: it is due, the air is free, and no acknowledgement and no thread before
it is due (R200, R262)? -/
def rampUpNow (s : State) (n : Nat) : Bool :=
  match s.txf n with
  | some x => txfDue s n && !txfSusp s n && shellReady s && s.fe.air.isNone && !launchBusy s n (airOf s x.preset x.air) &&
      !(s.ls.acks.any fun a => a.phase == 1 && decide (a.anchor ≤ s.now)) && !((List.range n).any fun k => txfDue s k)
  | none => false

/-- ABORT_TX on thread `n`. -/
def abortTx (s : State) (n : Nat) : State :=
  match s.txf n with
  | none => s
  | some x =>
    if x.phase = 2 ∨ x.phase = 3 ∨ rampUpNow s n then s.updTxf n fun x => { x with abortLate := true }
    else txfFail s n txAborted

end Sys2Proof.Machine
end

