-- ==== Sys2Proof/Machine/FrameHandler.lean ====
section
/-! DEFINITION. Machine/FrameHandler.lean: received frames from their end on, and acknowledgements (R155, R204 to
R215, R261, R271 to R274, R329, R333). -/

namespace Sys2Proof.Machine

/-! ### The frame end (R155, R207 to R211) -/

/-- Does a data or command frame pass the filter (R208)? -/
def filterPass (s : State) (m : Mac) : Bool :=
  let pan := s.get LS_FILT_CFG_PAN_ID
  let nid := s.get LS_SHORT_NODE_ID
  let own := nid != 0 && nid != 0x0FFF
  m.ok &&
    (match m.dstPan with | some q => q == pan || q == 0xFFFF | none => true) &&
    (if m.dstMode = 2 then (own && m.dst == nid) || m.dst == 0x0FFF || m.dst == 0xFFFF
     else if m.dstMode = 3 then m.dst == ownEui s
     else s.on LS_FILT_CFG_COORD && m.srcPan.getD pan == pan) &&
    !(m.srcMode == 2 && own && m.src == nid) && !(m.srcMode == 3 && m.src == ownEui s)

/-- Is an acknowledgement owed for a frame that passed the filter (R209, R211, R216)? -/
def ackDue (s : State) (m : Mac) : Bool :=
  s.on LS_CTL_EN && m.ar && m.dstMode != 0 && !m.bcast && !m.snSup && (!m.sec || m.ccm)

/-- A received frame, whose octets its cells hold, waits for the forwarding engine (R210, R314, R316); refused while the
engine is disabled (R309). Answers its first cell. -/
def storeFrame (s : State) (l : Nat) (r : Reception) (d : List Byte) (e : Ies) (passed owed : Bool) : Option Nat × State :=
  if !s.on FW_CTL_EN then (none, s)
  else
    let c := r.taken.headD 0
    let f : FrameS :=
      { FrameS.fresh useRx d.length r.taken r.ts with
        lane := l, dts := r.dts, lqi := r.lqi, rssi := r.rssi, apend := owed, passed := passed
        ieSkip := e.skipped, ieAt := if e.payloadIe then some e.fin else none }
    let s := s.putFrame c f
    (some c, ({ s with fw := { s.fw with work := s.fw.work ++ [c] } } : State).ledgerAddFwe)

/-- A frame is passed as an exception (R207). -/
def passFrame (s : State) (l : Nat) (r : Reception) (d : List Byte) : State :=
  (storeFrame (s.bump LS_FH_CNT2_PASSED) l r d Ies.none true false).2

/-- OFS of an acknowledgement (R212, R228). -/
def ackOfs (r : Reception) : Nat :=
  match r.opened with
  | none => 0x80000000
  | some o =>
    let d : Int := (r.ts.toNat : Int) - o
    if 0x7FFFFFFE < d then 0x7FFFFFFF else unsigned 32 d

/-- Frequency of an acknowledgement for a frame received on physical lane `p` (R211). -/
def ackFreq (s : State) (p : Nat) : Nat :=
  let lo := s.get FE_WIN_CTL_FREQ
  (if s.on CZ_CTL_PATH then (lo : Int) + s.getS CZ_NARROW_OFS else binCentre lo (s.get (CZ_LANE_CFG_BIN p))).toNat

/-- Owner number of acknowledgement `k` in reservations and requests. -/
abbrev ackOwner (k : Nat) : Nat := 32 + k

/-- An acknowledgement becomes owed for frame `c` (R211, R213, R271). -/
def oweAck (s : State) (p l c freq : Nat) (r : Reception) (m : Mac) : State :=
  let k := s.get LS_ACK_CFG_PRESET
  let ppdu := ppduTicks r.mode (stdPreamble r.mode) (16 + fcsLen r.fcs2) r.coded
  let anchor := r.fend + 200000 - leadTicks s k
  let a : AckS :=
    { id := s.ls.ackNext, phase := 0, logical := l, phys := p, mode := r.mode, freq := freq, fend := r.fend, seq := m.seq, opened := r.opened
      ofs := ackOfs r, dly := 0, fcs2 := r.fcs2, dw := r.dw, coded := r.coded, nb := none, fp := false, room := 0, known := false
      cell := c, auth := if m.ccm then 0 else 1, anchor := anchor, air := airOf s k ppdu, wd := false }
  let s := { s with ls := { s.ls with acks := s.ls.acks ++ [a], ackNext := s.ls.ackNext + 1 } }
  cxAsk s (ackOwner a.id) 0 anchor (r.fend + 20000)

/-- A data or command frame (R208 to R211, R234). -/
def handleData (s : State) (p l freq : Nat) (r : Reception) (m : Mac) (d : List Byte) : State :=
  let e := frameIes d m (s.get LS_OUI_OUI)
  if !filterPass s m || e.err then s.bump LS_FH_CNT2_FILT_DROP
  else
    let s := s.latchAll fun n => (LS_T_PEND0_FRAME n).bit l
    match (if m.typ = 1 then e.wake else none) with
    | some cd => wakeAccept s m.src l cd r.ts.toNat
    | none =>
      if m.sec && decide (m.level < 5) then s.bump LS_FH_CNT3_SECLVL
      else
        let s := if m.sec && !m.ccm then s.bump LS_FH_CNT2_PASSED else s
        let owed := ackDue s m
        match storeFrame s l r d e false owed with
        | (none, s) => s
        | (some c, s) => if owed then oweAck s p l c freq r m else s

/-- An acknowledgement frame: it ends a wait, or is stray (R198, R207). -/
def handleAck (s : State) (p : Nat) (r : Reception) (m : Mac) (d : List Byte) : State :=
  let e := frameIes d m (s.get LS_OUI_OUI)
  if e.err then s.bump LS_FH_CNT2_FILT_DROP
  else
    match (if m.snSup then none else ackWaiter s p r.seen m.seq) with
    | some n => ackAccept s n (bitOf (leAt d 0 2) 4) e r.ts.toNat
    | none => s.bump LS_FH_CNT3_ACK_STRAY

/-- A frame with a correct FCS (Table 6.9), heard on bin `bin` of its lane; while PROMISC is 1 every one is passed (R208).
A beacon of version 0b10 with reserved addressing is dropped and counted in FILT_DROP, as a data frame is: R207 names no
outcome for it (DESIGN CHOICE, log entry 63). -/
def handleFrame (s : State) (p l freq bin : Nat) (r : Reception) (d : List Byte) : State :=
  let m := readMac d
  if s.on LS_FILT_CFG_PROMISC then passFrame s l r d
  else if m.ver = 2 ∧ m.typ = 2 then handleAck s p r m d
  else if m.ver = 3 then s
  else if m.ver ≠ 2 then (if s.on LS_FILT_CFG_PASS_OLD then passFrame s l r d else s)
  else if 4 ≤ m.typ then (if s.on LS_FILT_CFG_PASS_OTHER then passFrame s l r d else s)
  else if m.typ = 0 then
    let e := frameIes d m (s.get LS_OUI_OUI)
    if !m.ok || e.err then s.bump LS_FH_CNT2_FILT_DROP else beaconReceive s m e bin r.lqi r.dts.toNat
  else handleData s p l freq r m d

/-- The cells of a frame at its end: those of the frame store that a frame now holds stay with it, the others join the free
list (R318). -/
def keepOrGive (s : State) (cells : List Nat) : State :=
  if (s.frame (cells.headD 4096)).isSome then s else s.giveCells cells

/-- The frame end on physical lane `p` with the PSDU received, as it was before de-whitening (R143, R155, R205, R206, R314,
R317). A frame that admission refused only leaves its lane. -/
def frameEnd (s : State) (p : Nat) (psdu : List Byte) : State :=
  match ((s.takeRx p 16).lane p).rx with
  | none => s
  | some r =>
    if s.laneState p ≠ lnFrame ∨ !r.phr ∨ psdu.length ≠ r.len then s
    else if r.adm ≠ 1 then leaveFrame s p
    else
      let d := if r.dw then whiten psdu else psdu
      let body := d.take (d.length - fcsLen r.fcs2)
      let l := (s.logicalOf p).getD p
      let freq := ackFreq s p
      let bin := s.get (CZ_LANE_CFG_BIN p)
      let s := (s.takeRx p 16).fillCells r.taken body
      let s := s.updLane p fun l => { l with rx := some { r with taken := [] } }
      if !fcsOk r.fcs2 d then (leaveFrame (lossCount (s.bump (CZ_LANE_CNT0_FCS p)) p) p).giveCells r.taken
      else
        let s := leaveFrame (s.bump (CZ_LANE_CNT0_OK p)) p
        keepOrGive (handleFrame s p l freq bin r body) r.taken

/-! ### Owed acknowledgements (R213 to R215, R261, R273) -/

/-- Acknowledgement `k`. -/
def ackOf (s : State) (k : Nat) : Option AckS := s.ls.acks.find? fun a => a.id == k

def State.updAck (s : State) (k : Nat) (f : AckS → AckS) : State :=
  { s with ls := { s.ls with acks := s.ls.acks.map fun a => if a.id == k then f a else a } }

/-- Acknowledgement `k` is owed no longer; what it held is given back. -/
def ackGone (s : State) (k : Nat) : State :=
  let s := { s with ls := { s.ls with acks := s.ls.acks.filter fun a => a.id != k } }
  (cxDrop (releaseAir s (ackOwner k)) (ackOwner k)).unpostTx (ackOwner k)

/-- What acknowledgements held that are owed no longer, as where the CCM* check has failed (R27). -/
def ackSweep (s : State) : State :=
  let owners := (s.dc.coex.map (·.owner) ++ s.dc.reserved.map (·.owner) ++ s.pm.tx.map (·.1)).filter fun o => decide (32 ≤ o)
  owners.foldl (fun t o => if (ackOf t (o - 32)).isNone then ackGone t (o - 32) else t) s

/-- An acknowledgement is skipped: its frame is discarded (R215). -/
def ackSkip (s : State) (a : AckS) : State :=
  ackLost (ackGone ((s.bump LS_FH_CNT1_ACK_SKIP).raise LS_INT_STAT_ACK_SKIP) a.id) a.cell

/-- An acknowledgement is withheld: the CCM* check has not completed (R29, R215). -/
def ackWithhold (s : State) (a : AckS) : State :=
  let s := (s.bump LS_FH_CNT1_ACK_WITHHELD).raise LS_INT_STAT_ACK_WITHHELD
  (ackLost (ackGone s a.id) a.cell).fault 0xE 0 a.logical

/-- The acknowledgement whose snapshot is due: the earliest frame end, then the lowest lane (R213). -/
def snapshotDue (s : State) : Option AckS :=
  let lead := leadTicks s (s.get LS_ACK_CFG_PRESET)
  let due := s.ls.acks.filter fun a => a.phase == 0 && decide (a.fend + 200000 ≤ s.now + lead + 200)
  match due with
  | [] => none
  | a :: as => some (as.foldl (fun b x => if x.fend < b.fend ∨ (x.fend = b.fend ∧ x.phys < b.phys) then x else b) a)

/-- The latest of a list of instants. -/
def latest : List Nat → Option Nat
  | [] => none
  | x :: xs => some (xs.foldl max x)

/-- The procedure ack_decision: DLY, or none for a skip (R214). A transmission whose grant has been sampled counts as under way
(R273; DEDUCED, log entry 53); a sender whose lookup has not completed counts as one without IHLUNO (DESIGN CHOICE, log entry
63). -/
def ackDecision (s : State) (a : AckS) : Option Nat :=
  let lead := leadTicks s (s.get LS_ACK_CFG_PRESET)
  let nom := a.fend + 200000
  let r := nom - lead
  let pm := s.get LS_ACK_CFG_PMARGIN * 200
  let e := latest ((List.range 16).filterMap fun p =>
    match (s.lane p).rx with
    | some x => if s.laneState p = lnFrame ∧ p ≠ a.phys ∧ x.phr then some x.fend else none
    | none => none)
  let busy := latest ((match s.fe.air with | some t => [t.planned] | none => []) ++
    (List.range 4).filterMap (fun n => (grantedAir s n).map (·.2)) ++
    s.ls.acks.filterMap fun x => if x.phase = 1 then some (x.anchor + x.air) else none)
  let free := match busy with | some b => decide (b ≤ r) | none => true
  let clear := match e with | some t => decide (t + pm ≤ r) | none => true
  let pol := bitsOf (s.reg A_LS_ACK_POL) (2 * a.logical) 2
  if free && clear then some 0
  else if pol == 0 && free then some 0
  else if pol == 2 && (match a.nb with | some i => s.on (NB_W0_IHLUNO i) | none => false) then
    let t := (latest ((match e with | some x => [x + pm] | none => []) ++
      (match busy with | some b => [b] | none => []))).getD 0 + lead
    let d := (t + 4999 - nom) / 5000
    if d ≤ 80 then some d else none
  else none

/-- The policy snapshot of the acknowledgement that is due (R213, R214, R260, R261). -/
def ackSnapshot (s : State) : State :=
  match snapshotDue s with
  | none => s
  | some a =>
    match ackDecision s a with
    | none => ackSkip s a
    | some d =>
      let k := s.get LS_ACK_CFG_PRESET
      let ppdu := ppduTicks a.mode (stdPreamble a.mode) (16 + fcsLen a.fcs2) a.coded
      let air := airOf s k ppdu
      let b := budgetCheck s (ackOwner a.id) a.freq air none
      if !b.1 then ackSkip (b.2.bump DC_CNT_ACK_REFUSED) a
      else
        let s := b.2.postTx (ackOwner a.id) (b.2.on (FE_TXP_OUT k))
        let anchor := a.fend + 200000 - leadTicks s k + 5000 * d
        let r := ackDecided s a.id a.cell
        r.2.updAck a.id fun x => { x with phase := 1, dly := d, air := air, anchor := anchor, cell := r.1 }

/-- Is COEX_GNT to be sampled for acknowledgement `a` (R271, R273)? It is sampled once, also where the acknowledgement is
then deferred. -/
def grantDueFor (s : State) (a : AckS) : Bool :=
  match cxOf s (ackOwner a.id) with
  | some q =>
    decide (a.phase < 2) && !q.sampled && q.high &&
      decide (max (a.anchor - sampleLead s (ackOwner a.id)) (q.rose + 400) ≤ s.now)
  | none => false

/-- The acknowledgement of lane `p` for which it is to be sampled. -/
def grantAckOn (s : State) (p : Nat) : Option AckS := s.ls.acks.find? fun a => a.phys == p && grantDueFor s a
def grantDueAck (s : State) (p : Nat) : Bool := (grantAckOn s p).isSome

/-- COEX_GNT is sampled for the acknowledgement of lane `p` (R273). -/
def grantSampleAck (s : State) (p : Nat) : State :=
  match grantAckOn s p with
  | none => s
  | some a =>
    if cxGrant s then ((cxSampled s (ackOwner a.id)).bump CX_CNT1_GRANTED).emit 79
    else ackSkip ((s.bump CX_CNT1_ACK_DENIED).raise CX_INT_STAT_ACK_DENIED) a

/-- A grant sample for an owner: a thread, or the acknowledgement of a lane. -/
def grantSample (s : State) (owner : Nat) : State :=
  if owner < 4 then grantSampleTx s owner else grantSampleAck s (owner - 4)

/-! ### The acknowledgement on the air (R27, R29, R211, R212, R333) -/

/-- The acknowledgement that is due to launch. -/
def ackLaunchDue (s : State) : Option AckS :=
  s.ls.acks.find? fun a => a.phase == 1 && decide (a.anchor ≤ s.now) &&
    (match cxOf s (ackOwner a.id) with | some q => q.sampled | none => true)

/-- The octets of an acknowledgement without its FCS (Table 6.11). -/
def ackBody (s : State) (a : AckS) (fp : Bool) (room : Nat) : List Byte :=
  let oui := s.get LS_OUI_OUI
  natLE 2 (if fp then 0x2212 else 0x2202) ++ natLE 1 a.seq ++ natLE 2 0x000B ++ natLE 1 (oui / 0x10000) ++
    natLE 1 (oui / 0x100) ++ natLE 1 oui ++ natLE 1 0x01 ++ natLE 1 (room % 16) ++ natLE 1 0x02 ++ natLE 4 a.ofs ++
    natLE 1 (a.dly % 128)

/-- The sender's entry of an acknowledgement: what the lookup gave, or the entry that has the sender's address where the
lookup is late (R29, R333). -/
def ackSender (s : State) (a : AckS) : Option Nat :=
  if a.known then a.nb
  else (s.frame a.cell).bind fun f => (findSender s (readMac (frameOctets s f))).1

/-- The room code last advertised to a sender (R29, R328). Where none has been, as after reset, or the sender has no entry,
the spec gives no last value and the model sends 15 (DESIGN CHOICE, log entry 51). -/
def lastRoom (s : State) (nb : Option Nat) : Nat :=
  match nb with
  | some i => if s.get (NB_W15_ROOM_OUT i) = 0 then 15 else s.get (NB_W15_ROOM_OUT i)
  | none => 15

/-- The acknowledgement launches, is withheld or is skipped (R27, R29, R211 to R213, R333). One whose grant has been sampled
waits for a transmission that still runs (R273; DEDUCED, log entry 53). Frame pending is pulsed for a sender without an entry
too. -/
def ackLaunch (s : State) (a : AckS) : State :=
  let k := s.get LS_ACK_CFG_PRESET
  let ofs := (a.freq : Int) - s.get FE_WIN_CTL_FREQ
  if a.auth = 0 then ackWithhold s a
  else if s.fe.air.isSome && (cxOf s (ackOwner a.id)).any (·.sampled) then s
  else if s.fe.air.isSome || !shellReady s || decide (ofs.natAbs < 1000) || decide (31000 < ofs.natAbs) then ackSkip s a
  else
    let fp := !a.known || a.fp
    let nb := ackSender s a
    let room := if a.known then a.room else lastRoom s nb
    let body := ackBody s a fp room
    let ppdu := ppduTicks a.mode (stdPreamble a.mode) (body.length + fcsLen a.fcs2) a.coded
    let lastBit := s.now + leadTicks s k + ppdu
    let ramp := rampTicks s k
    let t : AirS :=
      { ack := true, thread := a.id, hp := s.on (FE_TXP_OUT k), setting := txSetting s k, down := false, cut := false
        wd := false, shell := false, start := s.now, lastBit := lastBit, ramp := ramp, planned := lastBit + 100 + ramp
        freq := a.freq, wakes := 0, paid := airPaid s (ackOwner a.id), mode := a.mode, pre := stdPreamble a.mode
        coded := a.coded, phr := buildPhr a.mode (body.length + fcsLen a.fcs2) a.fcs2 a.dw, dw := a.dw
        psdu := body ++ fcsOf a.fcs2 body }
    let s := chargeAir s (ackOwner a.id)
    let s := (bcnBlank (airStart s t)).emit 32
    let s := match nb with | some i => s.set (NB_W15_ROOM_OUT i) room | none => s
    let s := match fp, nb with
      | true, some i => (s.set FW_FP_LAST_IDX i).set FW_FP_LAST_VALID 1
      | _, _ => s
    let s := if fp then s.emit 33 else s
    let s := ackLaunched (s.updAck a.id fun x => { x with phase := 2, cell := 4096 + a.id }) a.id a.cell
    if a.wd then withdrawnCut s else s

/-- An acknowledgement has ramped down (R215, R274): sent, or cut. One whose grant was withdrawn counts as skipped, and the
sender's counters return (R292). -/
def ackDown (s : State) (k : Nat) (cut wd : Bool) : State :=
  match ackOf s k with
  | none => s
  | some a =>
    let s := ackGone s k
    if wd then undoCounter ((s.bump LS_FH_CNT1_ACK_SKIP).raise LS_INT_STAT_ACK_SKIP) (4096 + k)
    else
    let s := undoForget s (4096 + k)
    if cut then s
    else
      let s := s.bump LS_FH_CNT0_ACK_SENT
      if a.dly = 0 then s else s.bump LS_FH_CNT0_ACK_DEFERRED

/-! ### Ramp-up to ramp-down (R31, R111, R124, R259, R274) -/

/-- Is any transmission due to ramp up? -/
def rampDue (s : State) : Bool := (ackLaunchDue s).isSome || (List.range 4).any fun n => txfDue s n

/-- Ramp-up starts: an acknowledgement first, then threads in ascending order (R262). -/
def rampUp (s : State) : State :=
  match ackLaunchDue s with
  | some a => ackLaunch s a
  | none =>
    match (List.range 4).find? fun n => txfDue s n with
    | some n => txfLaunch s n
    | none => s

/-- Is the last bit of the transmission under way leaving (Table 4.4, step 4)? -/
def lastBitDue (s : State) : Bool :=
  match s.fe.air with
  | some a => !a.down && decide (a.lastBit + 100 ≤ s.now)
  | none => false

/-- The last bit has left the output pin; ramp-down starts. -/
def lastBit (s : State) : State :=
  match s.fe.air with
  | some _ => if lastBitDue s then airLast s else s
  | none => s

/-- Does ramp-down end now? A cut starts it at once (R111, R115). -/
def rampEndDue (s : State) : Bool :=
  match s.fe.air with
  | some a => a.down && decide ((if a.cut then a.lastBit else a.lastBit + 100) + a.ramp ≤ s.now)
  | none => false

/-- Ramp-down ends (steps 5 and 6 of Table 4.4): the unused air of a cut transmission is credited (R259). -/
def rampEnd (s : State) : State :=
  match s.fe.air with
  | none => s
  | some a =>
    if !rampEndDue s then s
    else
      let s := if a.cut then creditAir s a.paid (a.planned - s.now) else s
      let s := airEnd s
      if a.ack then ackDown s a.thread a.cut a.wd else txfDown s a.thread a.cut a.wd

/-- COEX_GNT falls between step 3 and the end of ramp-down (R274): a request whose WDRAW was 1 at step 1 is cut, will be as it
ramps up, or ends as cut where it ramps down already. -/
def grantWithdrawn (s : State) : State :=
  let live := s.dc.coex.filter fun q => q.sampled &&
    (if q.owner < 4 then (match s.txf q.owner with | some x => x.phase == 1 || x.phase == 2 | none => false)
     else decide (32 ≤ q.owner) && (ackOf s (q.owner - 32)).isSome)
  if cxGrant s || live.isEmpty then s
  else
    let s := ((s.bump CX_CNT0_WITHDRAWN).raise CX_INT_STAT_WITHDRAWN).emit 80
    (live.filter (·.wdraw)).foldl (fun t q =>
      let t := if q.owner < 4 then t.updTxf q.owner fun x => { x with wd := true }
        else t.updAck (q.owner - 32) fun x => { x with wd := true }
      match t.fe.air with
      | some a =>
        if q.owner ≠ (if a.ack then ackOwner a.thread else a.thread) then t
        else if !a.down then withdrawnCut t
        else if a.cut then t
        else { t with fe := { t.fe with air := some { a with wd := true } } }
      | none => t) s

/-! ### The duplicated frame handler (R203, R204) -/

/-- A mismatch is recorded in LS_PAIR_STAT (R203). -/
def pairNote (s : State) (fh : Bool) (n : Nat) : State :=
  let s := ((s.bump LS_PAIR_STAT_ROLLBACKS).set LS_PAIR_STAT_VALID 1).set LS_PAIR_STAT_FH (b2n fh)
  if fh then s else s.set LS_PAIR_STAT_THREAD n

/-- A mismatch in the frame handler: the frame ending on physical lane `p`, or the acknowledgement owed for it, is
abandoned (R204). -/
def fhMismatch (s : State) (p : Nat) (ack : Bool) : State :=
  let l := (s.logicalOf p).getD p
  let note := fun (t : State) =>
    let t := ((pairNote t true 0).raise LS_INT_STAT_FH_MISMATCH).bump LS_FH_CNT1_ACK_WITHHELD
    (t.recovBegin 0x2 0 l).recovEnd 0x2 0 0x2 id id
  if ack then
    match s.ls.acks.find? fun a => a.phys == p && decide (a.phase < 2) with
    | some a => note (ackLost (ackGone s a.id) a.cell)
    | none => s
  else if s.laneState p = lnFrame ∧ (s.lane p).rx.any (·.phr) then note (leaveFrame s p)
  else s

/-! ### The commands of reception -/

/-- A preamble on physical lane `p`: the sniff and the acknowledgement waits note it (R150, R198, R224). -/
def preambleSeen (s : State) (p c : Nat) : State :=
  let t := preambleDetect s p c
  if t.laneState p = s.laneState p then t
  else
    (List.range 4).foldl (fun u n =>
      match u.txf n with
      | some x => if x.phase = 3 ∧ u.physOf x.alane = p ∧ x.te + 198000 ≤ u.now then u.updTxf n fun x => { x with preSeen := true } else u
      | none => u) (sniffDetect t p)

/-- A sync word on physical lane `p` (R62, R228). -/
def syncSeen (s : State) (p rssi snr8 cfo : Nat) (coded : Bool) : State :=
  let t := syncDetect s p rssi snr8 cfo coded
  if t.laneState p = s.laneState p then t else sniffReference t p

end Sys2Proof.Machine
end

