-- ==== Sys2Proof/Machine/Operands.lean ====
section
/-! DEFINITION. Machine/Operands.lean: the fields and operand forms of sequencer instructions (R184, R185, Tables 6.2 to
6.4). -/

namespace Sys2Proof.Machine

/-! ### Fields (Table 6.2) -/

def insnOp (w : Word) : Nat := bitsOf w 27 5
def insnD (w : Word) : Nat := bitsOf w 23 4
def insnA (w : Word) : Nat := bitsOf w 19 4
def insnS (w : Word) : Bool := bitsOf w 18 1 == 1
def insnI (w : Word) : Bool := bitsOf w 17 1 == 1
def insnB (w : Word) : Nat := bitsOf w 13 4
def insnImm (w : Word) : Int := signed 17 (bitsOf w 0 17)
def insnK (w : Word) : Nat := bitsOf w 0 13
/-- H and IMM16 of MOVI. -/
def insnH (w : Word) : Bool := bitsOf w 22 1 == 1
def insnImm16 (w : Word) : Nat := bitsOf w 0 16

/-! ### Opcodes (Table 6.3) -/

abbrev opMov : Nat := 0x00
abbrev opMovi : Nat := 0x01
abbrev opAdd : Nat := 0x02
abbrev opSub : Nat := 0x03
abbrev opCmp : Nat := 0x04
abbrev opJmp : Nat := 0x05
abbrev opJcc : Nat := 0x06
abbrev opCall : Nat := 0x07
abbrev opRet : Nat := 0x08
abbrev opYield : Nat := 0x09
abbrev opHalt : Nat := 0x0A
abbrev opLdt : Nat := 0x0B
abbrev opWaitt : Nat := 0x0C
abbrev opWaite : Nat := 0x0D
abbrev opTune : Nat := 0x0E
abbrev opLane : Nat := 0x0F
abbrev opArmrx : Nat := 0x10
abbrev opDisrx : Nat := 0x11
abbrev opTxf : Nat := 0x12
abbrev opAckpol : Nat := 0x13
abbrev opDrift : Nat := 0x14
abbrev opLdn : Nat := 0x15
abbrev opStn : Nat := 0x16
abbrev opSig : Nat := 0x17

/-! ### Legal words (R184, R185) -/

/-- Bits of D, A, S, I with B or IMM, B, and of K up to a largest value. -/
abbrev bitD : Nat := 0x07800000
abbrev bitA : Nat := 0x00780000
abbrev bitS : Nat := 0x00040000
abbrev bitB : Nat := 0x0001E000
def bitsOp2 (w : Word) : Nat := if insnI w then 0x0003FFFF else bitB

/-- The bits below the opcode that a word's instruction uses; the constant K of LDT, LDN, STN, WAITE, ACKPOL and SIG has
only the values of Table 6.3. -/
def usedBits (w : Word) : Nat :=
  match insnOp w with
  | 0x00 => bitD + bitS + bitsOp2 w
  | 0x01 => bitD + 0x0040FFFF
  | 0x02 => bitD + bitA + bitS + bitsOp2 w
  | 0x03 => bitD + bitA + bitS + bitsOp2 w
  | 0x04 => bitA + bitS + bitsOp2 w
  | 0x05 => 0x1FFF
  | 0x06 => bitD + 0x1FFF
  | 0x07 => 0x1FFF
  | 0x0B => bitD + (if insnK w < 2 then 0 else bitA) + 0x3
  | 0x0C => bitD + bitA + bitS
  | 0x0D => bitD + bitS + (if insnS w then bitA else 0) + bitB + 0xF
  | 0x0E => bitA
  | 0x0F => bitA + bitB
  | 0x10 => bitA + bitB
  | 0x11 => bitA
  | 0x12 => bitD + bitA + bitS + bitB
  | 0x13 => bitA + 0x3
  | 0x14 => bitD + bitA + bitB
  | 0x15 => bitD + bitA + 0xF
  | 0x16 => bitA + bitB + 0xF
  | 0x17 => 0x107
  | _ => 0

/-- The registers that a word names as pairs. -/
def pairRegs (w : Word) : List Nat :=
  let op2 := if insnI w then [] else [insnB w]
  match insnOp w with
  | 0x00 => if insnS w then insnD w :: op2 else []
  | 0x02 => if insnS w then insnD w :: insnA w :: op2 else []
  | 0x03 => if insnS w then insnD w :: insnA w :: op2 else []
  | 0x04 => if insnS w then insnA w :: op2 else []
  | 0x0B => [insnD w]
  | 0x0C => [insnA w]
  | 0x0D => if insnS w then [insnA w] else []
  | 0x12 => [insnA w, insnB w]
  | 0x14 => [insnD w, insnA w]
  | _ => []

/-- Is a word a legal instruction (R185)? -/
def legalWord (w : Word) : Bool :=
  decide (insnOp w ≤ opSig) && (w.toNat % 2 ^ 27 &&& usedBits w) == w.toNat % 2 ^ 27 &&
    (pairRegs w).all (fun r => r % 2 == 0) && !(insnOp w == opJcc && decide (7 < insnD w)) &&
    !(insnOp w == opWaite && decide (5 < bitsOf w 0 4)) && !(insnOp w == opDrift && decide (12 < insnD w)) &&
    !(insnOp w == opAckpol && bitsOf w 0 2 == 3)

/-- Is a word one of the five that a launch bundle holds (R189)? -/
def bundled (w : Word) : Bool :=
  legalWord w && (insnOp w == opTune || insnOp w == opLane || insnOp w == opArmrx || insnOp w == opDisrx || insnOp w == opAckpol)

/-! ### Operands -/

/-- The width of a word's operation in bits: 64 with S = 1. -/
def insnWidth (w : Word) : Nat := if insnS w then 64 else 32

/-- A register or pair of thread `n` as a word's width names it. -/
def operandReg (s : State) (n : Nat) (w : Word) (r : Nat) : Nat := if insnS w then s.spair n r else s.sreg n r

/-- The second operand: IMM sign-extended, or register or pair B (Table 6.2). -/
def operand2 (s : State) (n : Nat) (w : Word) : Nat :=
  if insnI w then unsigned (insnWidth w) (insnImm w) else operandReg s n w (insnB w)

/-- A result goes to register or pair D. -/
def writeD (s : State) (n : Nat) (w : Word) (v : Nat) : State :=
  if insnS w then s.setSpair n (insnD w) v else s.setSreg n (insnD w) v

/-- Address and content of word `pc` of the instruction memory (R183). -/
def imemAddr (pc : Nat) : Nat := 0x40078000 + 4 * (pc % 8192)
def imemWord (s : State) (pc : Nat) : Word := s.reg (imemAddr pc)

/-- The launch bundle that follows the WAITT at `pc`: words with the values of their registers, at most `fuel`. -/
def readBundle (s : State) (n : Nat) : Nat → Nat → List (Word × Word × Word)
  | 0, _ => []
  | k + 1, pc =>
    let w := imemWord s pc
    if bundled w then (w, w32 (s.sreg n (insnA w)), w32 (s.sreg n (insnB w))) :: readBundle s n k (pc + 1) else []

end Sys2Proof.Machine
end

