-- ==== Sys2Proof/Machine/Sequencer.lean ====
section
/-! DEFINITION. Machine/Sequencer.lean: the four threads of the link sequencer: commands, instructions, launches,
replay, disable and register writes (R177 to R203, R216 to R218). -/

namespace Sys2Proof.Machine

/-! ### Commands (R179, R193, R200, R216) -/

/-- START: a HALTED thread becomes READY with its stack empty; refused while LS_CTL.EN is 0. -/
def startThread (s : State) (n : Nat) : State :=
  if s.thState n = thHalted ∧ s.on LS_CTL_EN then
    let s := (s.setThStack n []).updThread n fun t => { t with since := 0, haltReq := false }
    s.set (LS_T_STAT_STATE n) thReady
  else s

/-! ### Launches (R189 to R192) -/

/-- The effect of a TUNE, LANE, ARMRX, DISRX or ACKPOL of thread `n` at its tick: `a` and `b` are sA and sB. A forbidden value
sets RADIO_ERR and none of the flags that a direct write of it sets in FE or CZ: R191 names only the first (DESIGN CHOICE, log
entry 63). -/
def launchInsn (s : State) (n : Nat) (w a b : Word) : State :=
  match insnOp w with
  | 0x0E =>
    if winOk (a.toNat % 2 ^ 24) then (feWrite true s A_FE_WIN_CTL a).1 else s.set (LS_T_STAT_RADIO_ERR n) 1
  | 0x0F =>
    if s.on LS_BCN_STAT_UMBER && (umberLanes s).contains (a.toNat % 16) then s.set (LS_T_STAT_RADIO_ERR n) 1 else
    let r := A_CZ_LANE_CFG (s.physOf (a.toNat % 16))
    let t := (fieldWrite s r b).1
    if czFailedOn t || czBad s t r then s.set (LS_T_STAT_RADIO_ERR n) 1 else (czWrite true s r b).1
  | 0x10 =>
    (lanesOf a.toNat).foldl (fun t l =>
      let t := ((t.set ((LS_T_PEND0_PRE n).bit l) 0).set ((LS_T_PEND0_FRAME n).bit l) 0).set ((LS_T_PEND1_WEND n).bit l) 0
      t.openWindow .thread l (if b = 0 then none else some b.toNat)) s
  | 0x11 => s.closeWindows true fun x => x.owner == .thread && bitOf a.toNat x.lane
  | 0x13 =>
    (lanesOf a.toNat).foldl (fun t l => t.set ⟨A_LS_ACK_POL, 2 * l, 2⟩ (insnK w % 4)) s
  | _ => s

/-- The launches that the time base makes at a tick, in the order in which they were requested (R23). -/
def runLaunches (s : State) : State :=
  s.ls.launches.foldl (fun t l =>
    match l with
    | .retune => if t.on FE_CTL_EN then feRetune t else t
    | .attach p old new => laneConfig t p old new
    | .path => pathChange t
    | .arm p => laneLaunch t p
    | .disarm p => laneLaunch t p
    | .insn n w a b => launchInsn t n w a b) { s with ls := { s.ls with launches := [] } }

/-! ### Executing (R180, R184, R185, R202) -/

/-- The thread whose issue turn it is: the READY threads take turns in rotation, from the one after the last that issued
(R180). -/
def issueTurn (s : State) : Option Nat :=
  ((List.range 4).map fun k => (s.ls.turn + 1 + k) % 4).find? fun n => s.thState n == thReady

/-- May thread `n` issue now: it is READY, the device runs and the turn is its own? -/
def mayIssue (s : State) (n : Nat) : Bool := s.awake && issueTurn s == some n

/-- Thread `n` has had its turn. -/
def State.turned (s : State) (n : Nat) : State := { s with ls := { s.ls with turn := n } }

/-- One instruction of thread `n` with opcode `op`: it is the thread's turn, the word at its PC is legal and has that opcode.
The PC moves on before `body`, which may move it again; after 1,024 instructions a checkpoint is saved. -/
def issue (s : State) (n op : Nat) (body : State → Word → State) : State :=
  let pc := s.thPc n
  let w := imemWord s pc
  if mayIssue s n ∧ insnOp w = op ∧ legalWord w then
    let t := body (((s.turned n).setThPc n (pc + 1)).updThread n fun t => { t with since := t.since + 1 }) w
    if 1024 ≤ (t.thread n).since then checkpoint t n (t.thPc n) else t
  else s

/-- An illegal word at the PC of a READY thread halts it; the PC keeps its address (R185). -/
def issueIllegal (s : State) (n : Nat) : State :=
  if mayIssue s n ∧ !legalWord (imemWord s (s.thPc n)) then faultThread (s.turned n) n hcIllegal else s

/-- A fetch meets an uncorrectable error (R183, R568). -/
def fetchEcc (s : State) (n : Nat) : State :=
  if mayIssue s n then
    let s := (faultThread (s.turned n) n hcEcc).fault 0x4 0 (s.thPc n * 2 ^ 16 + n)
    if s.on FC_CFG_IMEM_RST then systemReset s 0x6 0x4 else s
  else s

def insnMov (s : State) (n : Nat) (w : Word) : State := writeD s n w (operand2 s n w)

def insnMovi (s : State) (n : Nat) (w : Word) : State :=
  let d := insnD w
  s.setSreg n d (if insnH w then insnImm16 w * 2 ^ 16 + s.sreg n d % 2 ^ 16 else insnImm16 w)

/-- ADD, SUB and CMP: the flags follow the result, which `write` stores. -/
def insnAlu (s : State) (n : Nat) (w : Word) (f : Nat → Nat → Nat → AluOut) (write : Bool) : State :=
  let o := f (insnWidth w) (operandReg s n w (insnA w)) (operand2 s n w)
  setFlags (if write then writeD s n w o.val else s) n o

def insnJmp (s : State) (n : Nat) (w : Word) : State := s.setThPc n (insnK w)

def insnJcc (s : State) (n : Nat) (w : Word) : State := if condHolds s n (insnD w) then s.setThPc n (insnK w) else s

/-- CALL pushes the PC after it; with two entries in use it halts with STACK at its own address. -/
def insnCall (s : State) (n : Nat) (w : Word) : State :=
  let st := (s.thread n).stack
  if 2 ≤ st.length then faultThread (s.setThPc n (s.thPc n + 8191)) n hcStack
  else (s.setThStack n (s.thPc n :: st)).setThPc n (insnK w)

/-- RET pops; with no entry it halts with STACK at its own address. -/
def insnRet (s : State) (n : Nat) : State :=
  match (s.thread n).stack with
  | [] => faultThread (s.setThPc n (s.thPc n + 8191)) n hcStack
  | r :: st => (s.setThStack n st).setThPc n r

/-- HALT: HALTED with CAUSE HALT_INSN, and the HALT bit. -/
def insnHalt (s : State) (n : Nat) : State := (haltThread s n hcInsn).raiseBit LS_INT_STAT_HALT n

/-- LDT (Table 6.3). -/
def insnLdt (s : State) (n : Nat) (w : Word) : State :=
  let p := s.physOf (s.sreg n (insnA w) % 16)
  let v := match insnK w with
    | 0 => s.now
    | 1 => s.dtime
    | 2 => s.get64 (TB_RXTS_LO_TS p) (TB_RXTS_HI_TS p)
    | _ => (s.lane p).lastEnd
  s.setSpair n (insnD w) v

/-- WAITT: the bundle is prepared, a checkpoint of the WAITT is saved, and the thread waits; while LS_CTL.EN is 0 it
halts with DISABLE (R189, R190, R202, R216). -/
def insnWaitt (s : State) (n : Nat) (w : Word) : State :=
  let pc := s.thPc n + 8191
  if !s.on LS_CTL_EN then haltThread (s.setThPc n pc) n hcDisable
  else
    let b := readBundle s n 4 (s.thPc n)
    let inst := s.spair n (insnA w)
    let s := checkpoint s n (pc % 8192)
    let ws : WaitS := { sel := insnS w, inst := inst, dest := insnD w, bundle := b, cond := 0, mask := 0, tmo := none,
                        prepared := decide (s.counter (insnS w) < inst) }
    ((s.updThread n fun t => { t with wait := some ws }).setThPc n (s.thPc n + b.length)).setThState n thWaitT

/-- Is the WAITT of thread `n` to release? -/
def waittDue (s : State) (n : Nat) : Bool :=
  match (s.thread n).wait with
  | some w => s.thState n == thWaitT && decide (w.inst ≤ s.counter w.sel)
  | none => false

/-- The WAITT releases: its bundle takes effect in program order as one launch (R189, R190). -/
def waittRelease (s : State) (n : Nat) : State :=
  match (s.thread n).wait with
  | none => s
  | some w =>
    if !waittDue s n then s
    else
      let late := if w.prepared then 0 else min (s.counter w.sel - w.inst) 0xFFFFFFFF
      let s := w.bundle.foldl (fun t e => launchInsn t n e.1 e.2.1 e.2.2) s
      let s := (s.setSreg n w.dest late).set (LS_T_LATE_LATE n) late
      let s := s.setFlagL n !w.prepared
      (s.updThread n fun t => { t with wait := none }).setThState n thReady

/-- HALT: at once, or once a TXF has written its status; a WAITT that releases in the same handshake does so first. -/
def haltCommand (s : State) (n : Nat) : State :=
  let s := if waittDue s n then waittRelease s n else s
  if s.thState n = thHalted then s
  else if (s.txf n).isSome then s.updThread n fun t => { t with haltReq := true }
  else haltThread s n hcCmd

/-- A write of LS_Tn_CMD: START with HALT acts as HALT. -/
def threadCommand (s : State) (n v : Nat) : State :=
  let s := if bitOf v 3 then s.set (LS_T_PEND1_MAIL n) 1 else s
  let s := if bitOf v 2 then abortTx s n else s
  if bitOf v 1 then haltCommand s n else if bitOf v 0 then startThread s n else s

/-- WAITE: the thread waits for a condition (R193). -/
def insnWaite (s : State) (n : Nat) (w : Word) : State :=
  let ws : WaitS :=
    { sel := false, inst := 0, dest := insnD w, bundle := [], cond := insnK w % 16, mask := s.sreg n (insnB w)
      tmo := if insnS w then some (s.spair n (insnA w)) else none, prepared := true }
  (s.updThread n fun t => { t with wait := some ws }).setThState n thWaitE

/-- The pending bits of condition `k` of thread `n` (Table 6.5). -/
def pendBits (n k : Nat) : Field :=
  match k with
  | 0 => LS_T_PEND1_MAIL n
  | 1 => LS_T_PEND0_PRE n
  | 2 => LS_T_PEND0_FRAME n
  | 3 => LS_T_PEND1_WEND n
  | 4 => LS_T_PEND1_EVT n
  | _ => LS_T_PEND1_RETUNE n

/-- The matching pending bits of the WAITE of thread `n`; 0 where it is not waiting. -/
def waiteHits (s : State) (n : Nat) : Nat :=
  match (s.thread n).wait with
  | some w => if s.thState n = thWaitE then s.get (pendBits n w.cond) &&& w.mask % 2 ^ 16 else 0
  | none => 0

/-- A WAITE completes on its condition: the bits it reports are cleared (R193). -/
def waiteDone (s : State) (n : Nat) : State :=
  let h := waiteHits s n
  match (s.thread n).wait with
  | none => s
  | some w =>
    if h = 0 then s
    else
      let f := pendBits n w.cond
      let s := s.set f (s.get f - (s.get f &&& h))
      resumeThread (s.setSreg n w.dest (w.cond * 2 ^ 28 + h)) n

/-- Has the WAITE of thread `n` timed out? -/
def waiteLate (s : State) (n : Nat) : Bool :=
  match (s.thread n).wait with
  | some w => s.thState n == thWaitE && (match w.tmo with | some t => decide (t ≤ s.now) | none => false)
  | none => false

/-- A WAITE times out; the condition wins in the same tick (R193). -/
def waiteTimeout (s : State) (n : Nat) : State :=
  match (s.thread n).wait with
  | none => s
  | some w =>
    if !waiteLate s n then s
    else if waiteHits s n ≠ 0 then waiteDone s n
    else resumeThread (s.setSreg n w.dest (0xF * 2 ^ 28)) n

/-- TUNE, LANE, ARMRX, DISRX or ACKPOL outside a bundle: its effect falls at the next tick (R191). -/
def insnLaunch (s : State) (n : Nat) (w : Word) : State :=
  let l := Launch.insn n w (w32 (s.sreg n (insnA w))) (w32 (s.sreg n (insnB w)))
  { s with ls := { s.ls with launches := s.ls.launches ++ [l] } }

/-- TXF (R194). -/
def insnTxf (s : State) (n : Nat) (w : Word) : State :=
  txfStart s n (insnS w) (s.spair n (insnA w)) (w32 (s.sreg n (insnB w))) (w32 (s.sreg n (insnB w + 1))) (insnD w)

/-- DRIFT (R187, R220). -/
def insnDrift (s : State) (n : Nat) (w : Word) : State :=
  let r := driftPredict s (s.sreg n (insnB w) % 512) (s.spair n (insnA w))
  (r.2.2.setSpair n (insnD w) r.1).setSreg n (insnD w + 2) r.2.1

/-- LDN (R187). -/
def insnLdn (s : State) (n : Nat) (w : Word) : State :=
  s.setSreg n (insnD w) (s.reg (A_NB_W0 (s.sreg n (insnA w) % 512) + 4 * (insnK w % 16))).toNat

/-- STN (R187). -/
def insnStn (s : State) (n : Nat) (w : Word) : State :=
  let r := stnStore s (s.sreg n (insnA w) % 512) (insnK w % 16) (w32 (s.sreg n (insnB w)))
  if r.1 then s.set (LS_T_STAT_NB_RO n) 1 else r.2

/-- SIG (Table 6.3). -/
def insnSig (s : State) (w : Word) : State :=
  let k := insnK w % 8
  if bitOf (insnK w) 8 then s.emit (16 + k) else s.raiseBit LS_INT_STAT_SIG k

/-! ### Replay (R203) -/

/-- The two copies of thread `n` disagree: it goes back to its checkpoint, or halts where it was replaying. The pending
bits are not taken back, so that none that is latched in the replay is lost. A TXF in progress at a REPLAY_FAIL is cut, and its
frame released as by ABORTED, with no status written: R203 does not say (DESIGN CHOICE, log entry 63). -/
def pairMismatch (s : State) (n : Nat) : State :=
  let st := s.thState n
  if st = thHalted then s
  else
    let s := (pairNote s false n).raise LS_INT_STAT_ROLLBACK
    if st = thReplay then
      let s := match s.txf n with
        | some x => (txfRelease (if x.phase = 2 then feCut s false else s) n txAborted x).2
        | none => s
      let s := (faultThread s n hcReplay).recovEnd 0x1 n 0x3 id id
      if s.on FC_CFG_REPLAY_RST then systemReset s 0x6 0x3 else s
    else
      let img := threadImage s n (s.thPc n)
      let s := s.recovBegin 0x1 0 (s.get (LS_T_STAT_CKPT_PC n) * 2 ^ 16 + n)
      let ck := (s.thread n).image
      let s := restoreImage s n { ck with pend0 := 0, pend1 := 0 } true
      (s.updThread n fun t => { t with replay := some (st, img) }).set (LS_T_STAT_STATE n) thReplay

/-- The replay of thread `n` reaches the state it would have had. A WAITT is executed again, with what it finds then: it halts
the thread while LS_CTL.EN is 0, and is late where its instant has been reached (R190, R203, R216). -/
def replayComplete (s : State) (n : Nat) : State :=
  match (s.thread n).replay with
  | none => s
  | some (st, img) =>
    if st = thWaitT ∧ !s.on LS_CTL_EN then haltThread s n hcDisable
    else
    let s := if st = thWaitT then
        s.updThread n fun t => { t with wait := t.wait.map fun w => { w with prepared := decide (s.counter w.sel < w.inst) } }
      else s
    let s := restoreImage s n { img with pend0 := 0, pend1 := 0 } true
    let s := (s.updThread n fun t => { t with replay := none }).set (LS_T_STAT_STATE n) st
    s.recovEnd 0x1 n 0x1 id id

/-! ### Disable (R216) -/

/-- LS_CTL.EN is cleared: threads that wait halt. -/
def lsDisable (s : State) : State :=
  (List.range 4).foldl (fun t n =>
    if t.thState n = thWaitT ∨ t.thState n = thWaitE then haltThread t n hcDisable else t) s

/-- Every thread is HALTED and no acknowledgement is owed: the windows close and EN_ACK clears. -/
def lsDisableDone (s : State) : State :=
  if s.on LS_CTL_EN || !s.on LS_CTL_EN_ACK || !s.ls.acks.isEmpty || !(List.range 4).all (fun n => s.thState n == thHalted) then s
  else rdvCoex ((s.closeWindows true fun _ => true).set LS_CTL_EN_ACK 0)

/-! ### Registers (R181 to R183, R218) -/

/-- The thread whose register at offset `o` only its owners may write: CMD, PC, CFG, S0 to S15 (R182). -/
def threadReg (o : Nat) : Option (Nat × Nat) :=
  if 0x100 ≤ o ∧ o < 0x300 then
    let q := o % 0x80
    if q = 0 ∨ q = 4 ∨ q = 8 ∨ 0x40 ≤ q then some ((o - 0x100) / 0x80, q) else none
  else none

/-- Is a write of offset `o` refused, and for its attribute (R182), which is judged first (R81)? -/
def lsRefused (acc : Acc) (s : State) (o : Nat) : Option Bool :=
  match threadReg o with
  | some (n, _) =>
    if acc.ns && !acc.staged && !s.on (LS_T_CFG_NS_OK n) then some true
    else if acc.kind = .core ∧ !bitOf (s.get (LS_T_CFG_CORES n)) acc.core then some false
    else none
  | none => if acc.ns && !acc.staged then some true else none

/-- Forbidden values of LS (R181, Table 6.16), judged on state `u` after the write. -/
def lsBad (s u : State) (a : Nat) : Bool :=
  let o := a % 0x10000
  match threadReg o with
  | some (n, q) => (q == 4 || decide (0x40 ≤ q)) && s.thState n != thHalted
  | none =>
    if a = A_LS_ACK_POL then (List.range 16).any fun l => bitsOf (u.reg a) (2 * l) 2 == 3
    else rdvBad s u a

/-- A write to the LS window that the owner and attribute rules let through. -/
def lsStore (staged : Bool) (s : State) (a : Nat) (v : Word) : State × WriteEnd :=
  let o := a % 0x10000
  if 0x8000 ≤ o then (if s.on LS_CTL_IMEM_LK then (s, .berrFree) else (s.setReg a v, .ok))
  else
    match threadReg o with
    | some (n, q) =>
      if q = 0 then (threadCommand s n v.toNat, .ok)
      else if !staged && lsBad s s a then (s.raise LS_INT_STAT_WR_RUN, .ok)
      else fieldWrite s a v
    | none =>
      if a = A_LS_CTL then
        let r := fieldWrite s a v
        (if s.on LS_CTL_EN && !r.1.on LS_CTL_EN then lsDisable r.1
         else if r.1.on LS_CTL_EN then r.1.set LS_CTL_EN_ACK 1 else r.1, r.2)
      else if a = A_LS_ACK_POL then
        let r := fieldWrite s a v
        if !staged && lsBad s r.1 a then (s, .ok) else r
      else if 0x400 ≤ o then rdvWrite staged s a v
      else fieldWrite s a v

/-- A write to the LS window (R182). -/
def lsWrite (acc : Acc) (s : State) (a : Nat) (v : Word) : State × WriteEnd :=
  match lsRefused acc s (a % 0x10000) with
  | some attr => (s.raise LS_INT_STAT_FOREIGN, if attr then .berr 0 else .berrFree)
  | none => lsStore acc.staged s a v

/-- A read of the LS window. -/
def lsRead (s : State) (a : Nat) : Word :=
  if a = A_LS_STATUS then
    w32 (b2n (!s.ls.acks.isEmpty) * 2 ^ 16 + ((List.range 4).map fun n => s.thState n * 16 ^ n).foldl (· + ·) 0)
  else if 0x400 ≤ a % 0x10000 ∧ a % 0x10000 < 0x8000 then rdvRead s a
  else s.reg a

end Sys2Proof.Machine
end

