-- ==== Sys2Proof/Machine/Power.lean ====
section
/-! DEFINITION. Machine/Power.lean: the power manager, sleep and wake, droop, comparators, and the regulator link (R45,
R53, R61, R539 to R561). -/

namespace Sys2Proof.Machine

def State.asleep (s : State) : Bool := s.power == .sleep || s.power == .deep

/-! ### Waits and domains (R540, R544) -/

/-- Is TXP ON: from a TXF's preparation or a decided acknowledgement to the end of ramp-down, and during PALP and PAHP
(Table 19.2)? -/
def txpOn (s : State) : Bool :=
  s.fe.air.isSome || s.ls.threads.any (fun t => match t.txf with | some x => x.phase != 3 | none => false) ||
    s.ls.acks.any (fun k => k.phase != 0) ||
    (s.fe.cal.any fun c => c.kind == 3 || c.kind == 4)

/-- Is the engine processing a frame, a ring copy or a submission (R310)? -/
def fwBusy (s : State) : Bool := (s.on FW_CTL_EN || s.fw.inProc) && (!s.fw.work.isEmpty || s.fw.subWait) || ringBusy s

/-- PM_STAT.WAIT (Table 19.4). -/
def pmWait (s : State) : Nat :=
  let core := (List.range 4).any fun c =>
    s.coreState c == csRun || s.coreState c == csRestart || s.coreState c == csDebug || (assigned s c).isSome
  let lane := (List.range 16).any fun p => s.laneState p == lnFrame
  let ls := (List.range 4).any (fun n => s.thState n == thReady || s.thState n == thReplay || s.thState n == thTx) ||
    !s.ls.acks.isEmpty
  let fe := s.on FE_CAL_STAT_BUSY || s.on FE_RT_STAT_BUSY || txpOn s
  let job := fun st : Nat => st == jbQueued || st == jbRun
  let sec := (List.range 4).any (fun c => job (s.get (CE_J_STAT_STATE c)) || job (s.get (PQ_J_STAT_STATE c))) ||
    s.pq.otp.isSome
  let nvm := s.get FL_STAT_STATE != 0
  let port := (List.range 2).any fun x => decide (1 ≤ s.get (SP_STAT_STATE x)) && decide (s.get (SP_STAT_STATE x) ≤ 4)
  b2n core + 2 * b2n lane + 4 * b2n ls + 8 * b2n fe + 16 * b2n (fwBusy s) + 32 * b2n sec + 64 * b2n nvm
    + 128 * b2n port + 256 * b2n (s.windowOpen .pending) + 512 * s.get LS_BCN_STAT_UMBER + 1024 * b2n (s.pm.vrWait != 0)

/-- Is a lane receiving what it detected in a window of the rendezvous logic (R147, R224)? -/
def calledLane (s : State) : Bool :=
  (List.range 16).any fun p => (s.laneState p == lnPreamble || s.laneState p == lnDecide) && (s.lane p).called

/-- Does work of the rendezvous logic go on that ends before the device is free to return to sleep: a sniff, data or beacon window, or
the reception it has led to (R227, R548; log entry 26)? It is no wait and no reason to refuse: the attempt goes on. -/
def pmHeld (s : State) : Bool := rdvOpen s || calledLane s

/-- PM_DOM (Table 19.2). -/
def pmDom (s : State) : Nat :=
  let on := if s.awake then 3 else if s.power == .sleep then 2 else 1
  let cpu := fun c : Nat => if s.coreState c = csHeld then 0 else on
  let rxb := if s.awake && (s.on FE_CTL_CHB_EN || s.fe.cal.any (·.kind == 2)) then 3 else 0
  let txp := if s.awake && txpOn s then 3 else 0
  let l := [3, on, cpu 0, cpu 1, cpu 2, cpu 3, on, on, on, on, rxb, txp, on]
  l.foldr (fun m n => m + 4 * n) 0

/-! ### Wake alarms (R61, R102, R217, R227, R253) -/

/-- The alarm of R61 for a target on a counter. -/
def alarmFor (s : State) (sel : Bool) (target : Nat) : Int :=
  let d : Int := (target : Int) - (s.counter sel : Nat)
  (s.slow : Int) + Int.tdiv (d * 4096) (s.get TB_RATIO_VALUE : Nat) - (s.get TB_CTL_WAKE_LEAD : Nat)

/-- Every wake alarm at sleep entry. -/
def pmAlarms (s : State) : List Int :=
  let cmps := (List.range 8).filterMap fun n =>
    if s.on (TB_CMP_CTL_ARMED n) && s.on (TB_CMP_CTL_WAKE n) then
      some (alarmFor s (s.on (TB_CMP_CTL_SEL n)) (cmpTarget s n)) else none
  let groups := (List.range 8).filterMap fun g =>
    if s.groupState g == agArmed && (s.group g).timed then
      some (alarmFor s (s.on (AC_G_STAT_SEL g)) (s.get64 (AC_G_TGT_LO_TGT g) (AC_G_TGT_HI_TGT g))) else none
  let threads := (List.range 4).filterMap fun n =>
    match (s.thread n).wait with
    | some w => if s.thState n == thWaitT then some (alarmFor s w.sel w.inst) else none
    | none => none
  let sniff : List Int :=
    if s.get LS_SNF_INT_INT = 0 then [] else [(snfNext s : Int) - (s.get TB_CTL_WAKE_LEAD : Nat)]
  let data := s.rdv.data.filterMap fun w =>
    if w.opened || !s.on LS_CTL_EN then none else some (alarmFor s false w.opens)
  let bcn : List Int :=
    if trackerOn s && s.on LS_CTL_EN && s.rdv.has && !s.rdv.tracking && decide (s.get LS_BCN_STAT_MISS < 3) then
      [alarmFor s true (bcnAlarm s).toNat] else []
  let pm : List Int :=
    if s.on PM_ALARM_HI_EN then [((s.get64 PM_ALARM_LO_SLOW PM_ALARM_HI_SLOW : Nat) : Int)] else []
  cmps ++ groups ++ threads ++ sniff ++ data ++ bcn ++ pm

/-- The edge sources whose blocks lie in AON: PM and VR, 100 and 101, in the registers of sources 96 to 127 (Table 14.7). -/
def aonSources (k : Nat) : Word := if k = 3 then 0x30 else 0

/-- Is an IC edge source latched with its enable and wake bits set, in Deep sleep or on the way there one of AON (R440, Table 19.7)? -/
def icWakes (s : State) : Bool :=
  let deep := if s.awake then s.on PM_SLEEP_TARGET else s.power == .deep
  (List.range 4).any fun k =>
    s.reg (A_IC_PEND k) &&& s.reg (A_IC_EN k) &&& s.reg (A_IC_WAKE k) &&& (if deep then aonSources k else 0xFFFFFFFF) != 0

/-- Is an enabled wake source of Table 19.7 active already? -/
def wakeActive (s : State) : Bool := (s.pins.wake && s.on PM_WAKE_EN_PIN) || (icWakes s && s.on PM_WAKE_EN_IC)

/-! ### The regulator link (R554 to R556) -/

/-- Ticks that the last frame has run, at the least: exact where the time base has run since it began; else what the slow counter
shows, a slow tick being 390,625 / 64 ticks (log entry 45). -/
def vrElapsed (s : State) : Nat :=
  max ((s.slow - s.pm.vrSlow - 1) * 390625 / 64) (match s.pm.vrStart with | some t => s.now - t | none => 0)

/-- Is the last frame past its last fall, step 3 of Table 19.10? -/
def vrOver (s : State) : Bool := decide (32 * s.get VR_CFG_HALF ≤ vrElapsed s)

/-- May it be past it already, as the time base stands and a slow tick is longer than the frame? -/
def vrMaybe (s : State) : Bool :=
  (s.pm.vrStart.isNone || !s.awake || !s.isLocked) && decide (64 * 32 * s.get VR_CFG_HALF ≤ (s.slow - s.pm.vrSlow + 1) * 390625)

/-- A frame that has no acknowledgement is in flight until its last fall (Table 19.16); 200 µs after that of a RELEASE the internal
buck takes over, and then EN_ACK clears (R554, R556). -/
def vrTick (s : State) : State :=
  let s := if s.on VR_STAT_BUSY && s.pm.vrWait == 0 && vrOver s then s.set VR_STAT_BUSY 0 else s
  if s.pm.buckWait && decide (32 * s.get VR_CFG_HALF + 40000 ≤ vrElapsed s) then
    ({ s with pm := { s.pm with buckWait := false } } : State).set VR_CTL_EN_ACK 0
  else s

/-- The rising edge that acknowledges a frame (R554, R556). -/
def vrReached (s : State) : State :=
  let s := if s.pm.vrWait = 1 ∧ s.on VR_CTL_EN then s.set VR_CTL_EN_ACK 1 else s
  let s := s.set VR_STAT_VALUE (s.get VR_STAT_LAST / 32)
  (({ s with pm := { s.pm with vrWait := 0 } } : State).set VR_STAT_BUSY 0).raise VR_INT_STAT_ACK

/-- A rising VRQ_ACK after a frame; one before its last fall is not accepted (R554). Which side of it the edge falls within one slow
tick, while no tick is counted, is free (log entry 45). -/
def vrAck (s : State) : State :=
  if s.pm.vrWait = 0 then s
  else if vrOver s then vrReached s
  else if vrMaybe s then let (x, t) := s.fresh; if bitOf x.toNat 0 then vrReached t else t
  else s

/-- Have 2 ms passed since the last fall of a frame that awaits its acknowledgement (R555)? -/
def vrLate (s : State) : Bool := s.pm.vrWait != 0 && decide (32 * s.get VR_CFG_HALF + 400000 ≤ vrElapsed s)

/-- No acknowledgement within 2 ms (R555). -/
def vrTimeout (s : State) : State :=
  if !vrLate s then s
  else
    let s := s.vrSend 3 0x14
    (((s.set VR_CTL_EN 0).set VR_CTL_EN_ACK 0).set VR_CTL_FALLBACK 1).raise VR_INT_STAT_TIMEOUT

/-- Forbidden values of VR (R561). -/
def vrBad (_s u : State) (a : Nat) : Bool := a == A_VR_CFG && decide (u.get VR_CFG_HALF < 20)

/-- A write to the VR window (R556, R561). -/
def vrWrite (acc : Acc) (s : State) (a : Nat) (v : Word) : State × WriteEnd :=
  if a = A_VR_CTL then
    secureWrite acc none s fun s =>
      let r := fieldWrite s a v
      if !s.on VR_CTL_EN && r.1.on VR_CTL_EN then ((r.1.set VR_CTL_FALLBACK 0).vrSend 1 (s.get PM_VCORE_RUN), r.2)
      else if s.on VR_CTL_EN && !r.1.on VR_CTL_EN then (r.1.vrSend 3 0x14, r.2)
      else r
  else if a = A_VR_CFG ∧ s.on VR_STAT_BUSY then (s.raise VR_INT_STAT_RANGE, .ok)
  else guardWrite acc.staged vrBad VR_INT_STAT_RANGE s a v

/-! ### Sleep entry (R53, R545, R546) -/

/-- An attempt is refused (R545). -/
def pmRefuse (s : State) (code : Nat) : State :=
  let new := s.pm.lastRefuse != code
  let s := ({ s with pm := { s.pm with lastRefuse := code, attempt := false } } : State).set PM_STAT_REFUSE code
  if new then (s.bump PM_SCNT_REFUSED).raise PM_INT_STAT_REFUSE else s

/-- Steps 3 to 5 of Table 19.6. -/
def pmEnter (s : State) : State :=
  let deep := s.on PM_SLEEP_TARGET
  let al := (pmAlarms s).foldl (fun m a => match m with | some b => some (min b a.toNat) | none => some a.toNat) none
  let s := if s.on VR_CTL_EN then s.vrSend 2 0x14 else s
  let s := tbStop (routeEvents (evSettle s))
  let s := czSleep s
  let s := { s with
    power := if deep then .deep else .sleep
    pm := { s.pm with alarm := al, lastRefuse := 0, attempt := false, waking := 0 }
    fe := { s.fe with relocked := false }
    pins := { s.pins with antsw := s.get FE_ASW_SLEEP, antSel := 0 } }
  (s.set PM_STAT_PREV (if deep then 3 else 2)).bump PM_SCNT_SLEEPS

/-- Step 2 of Table 19.6: the reasons of Table 19.5 in order, then entry. -/
def pmJudge (s : State) : State :=
  if s.on TB_STATUS_SLOW_FAIL then pmRefuse s 1
  else if (pmAlarms s).any fun a => decide (a ≤ (s.slow : Int) + 1) then pmRefuse s 2
  else if (List.range 8).any fun g => s.groupState g == agArming then pmRefuse s 3
  else if wakeActive s then pmRefuse s 4
  else if pmWait s != 0 || s.pm.abandoned then pmRefuse s 5
  else if pmHeld s then s
  else pmEnter s

/-- Step 1: with ARM at 1 and no wait the attempt begins, refused at once for SLOW_FAIL (R545). -/
def pmAnchor (s : State) : State :=
  if !s.awake || !s.isLocked || !s.on PM_SLEEP_ARM then s
  else if s.pm.attempt then (if pmWait s != 0 then { s with pm := { s.pm with abandoned := true } } else s)
  else if pmWait s != 0 then s
  else if s.on TB_STATUS_SLOW_FAIL then pmRefuse s 1
  else { s with pm := { s.pm with attempt := true, abandoned := false } }

/-- An entry attempt (R545, R546): step 1 at any time, step 2 at a slow-tick edge. -/
def pmAttempt (s : State) : State :=
  let s := pmAnchor s
  if !s.tb.edge then s
  else if s.awake && s.isLocked && s.on PM_SLEEP_ARM && s.pm.attempt then pmJudge s
  else { s with pm := { s.pm with attempt := false } }

/-! ### Waking (R53, R547 to R549, R599) -/

/-- Step 1 of Table 19.8: wake sources with these cause bits are recognised. -/
def recognise (s : State) (bits : Nat) : State :=
  if !s.asleep || s.pm.waking != 0 || bits == 0 then s
  else
    let s := s.set PM_WAKE_CAUSE_CAUSE (s.get PM_WAKE_CAUSE_CAUSE ||| bits)
    let snf := bits == 16 && s.get LS_SNF_INT_INT != 0 &&
      s.pm.alarm == some ((snfNext s : Int) - (s.get TB_CTL_WAKE_LEAD : Nat)).toNat
    { s with pm := { s.pm with waking := 1, sniffWake := snf, sniffUsed := false } }

/-- Cause bits of the sources that are active (Table 19.7). -/
def wakeBits (s : State) : Nat := b2n (s.pins.wake && s.on PM_WAKE_EN_PIN) + 2 * b2n (icWakes s && s.on PM_WAKE_EN_IC)

/-- The wake starts (steps 1 and 2): the regulator is asked for the Run value where it supplies the rail. -/
def wakeStart (s : State) : State :=
  let s := recognise s (wakeBits s)
  if s.asleep && s.pm.waking == 1 then
    let s := { s with pm := { s.pm with waking := 2 } }
    if s.on VR_CTL_EN then s.vrSend 1 (s.get PM_VCORE_RUN) else s
  else s

/-- A slow-counter alarm or PM_ALARM (R61, R548; EVP150 in Run and Idle). -/
def slowAlarm (s : State) : State :=
  if s.asleep then
    match s.pm.alarm with
    | some a => if a ≤ s.slow then recognise s 16 else s
    | none => s
  else if s.tb.edge ∧ s.on PM_ALARM_HI_EN ∧ s.get64 PM_ALARM_LO_SLOW PM_ALARM_HI_SLOW = s.slow then s.emit 150
  else s

/-- The PLL locks on a wake (step 5). With the regulator link in use the rail must have been acknowledged, or the internal
buck have taken over (R554, R555). -/
def wakeLock (s : State) : State :=
  if s.asleep && s.pm.waking == 2 && s.pm.vrWait == 0 && !s.pm.buckWait then
    { s with pm := { s.pm with waking := 3 }, tb := { s.tb with edge := false } }
  else s

/-- Steps 6 and 7, at the slow-tick edge after lock: the time base restarts with catch-up; timers, duty history, route aging and compares are brought up
to date; the serial ports see their selects again; the device is in Idle (R53, R57, R266, R306, R526, R548). -/
def wakeRestart (s : State) : State :=
  if !(s.asleep && s.pm.waking == 3 && s.tb.edge) then s
  else
    let r := tbRestart s
    let s := { r.2 with power := .active, pm := { r.2.pm with waking := 0, alarm := none } }
    let s := (List.range 8).foldl (fun t i => tmCatchUp t i r.1) s
    let s := (List.range 8).foldl (fun t n => if t.on (DC_REC_CFG_EN n) then bucketRetire t n else t) s
    let s := cmpMissed (bscChange (czCatchUp (agingCatchUp s)))
    let s := spFollow (spFollow s 0 0) 1 0
    ({ s with fe := { s.fe with senseWake := true } } : State).raise PM_INT_STAT_WAKE

/-- No slow-tick edge for 65,536 ticks after the lock of a wake (R599). -/
def wakeNoEdge (s : State) : State :=
  if !(s.asleep && s.pm.waking == 3) then s
  else
    let s := { s with tb := { s.tb with xoStopped := true, edge := true } }
    wakeRestart ((s.set TB_STATUS_SLOW_FAIL 1).raise TB_INT_STAT_SLOW_FAIL)

/-! ### Pin, comparators, Off (R550 to R552) -/

/-- Off: everything outside flash and OTP is lost. A suspended erase is lost, its block left incomplete (R489). The aerial
switch keeps the isolation code (R125). -/
def enterOff (s : State) : State :=
  let t := { resetTo s [] with power := .off }
  { t with pins := { t.pins with antsw := if s.pins.antSel = 0 then s.pins.antsw else s.get FE_ASW_SLEEP } }

/-- Off waits for a flash or OTP operation (R552). -/
def offDue (s : State) : Bool := s.pm.offPend && s.get FL_STAT_STATE == 0 && s.fl.op.isNone && s.pq.otp.isNone
def offCommand (s : State) : State :=
  let s := { s with pm := { s.pm with offPend := true } }
  if offDue s then enterOff s else s

/-- WAKE has been high for 50 µs, or is low (R550). -/
def wakePin (s : State) (high : Bool) : State :=
  let rise := high && !s.pins.wake
  let s := { s with pins := { s.pins with wake := high } }
  if !rise then s
  else if s.power == .off then powerOnReset s 8
  else if s.awake then s.raise PM_INT_STAT_WAKEPIN
  else if s.on PM_WAKE_EN_PIN then recognise s 1
  else s

/-- A comparator's output changes (R551). -/
def comparatorChange (s : State) (x : Nat) (out : Bool) : State :=
  if s.power == .off || !s.on (PM_CMP_CFG_EN x) || s.pm.cmp.getD x false == out then s
  else
    let s := ({ s with pm := { s.pm with cmp := updAt s.pm.cmp x fun _ => out } } : State).set (PM_CMP_CFG_OUT x) (b2n out)
    let s := s.emit (151 + x)
    if edgeSel (s.get (PM_CMP_CFG_EDGE x)) out then
      let s := s.raise (if x = 0 then PM_INT_STAT_CMPA else PM_INT_STAT_CMPB)
      if s.on (if x = 0 then PM_WAKE_EN_CMPA else PM_WAKE_EN_CMPB) then recognise s (4 * 2 ^ x) else s
    else s

/-! ### Droop (R45, R557) -/

/-- The droop sensor requires a level. -/
def droop (s : State) (level : Nat) : State :=
  if !s.awake || level ≤ s.get PM_STAT_DLVL then s
  else
    let s := (s.set PM_STAT_DLVL level).applyLevel
    (s.bump (if level = 1 then PM_CNT_DROOP1 else PM_CNT_DROOP2)).raise PM_INT_STAT_DROOP

/-- The rail has stayed above the release point: the droop level steps down by one. -/
def droopRelease (s : State) : State :=
  if s.awake then (s.set PM_STAT_DLVL (s.get PM_STAT_DLVL - 1)).applyLevel else s

/-! ### Registers (R552, R553, R557, R560) -/

/-- Forbidden values of PM (R553, R557). -/
def pmBad (_s u : State) (a : Nat) : Bool :=
  if a = A_PM_VCORE then decide (u.get PM_VCORE_RUN < 0x3C) || decide (0x64 < u.get PM_VCORE_RUN)
  else if a = A_PM_DROOP then
    decide (u.get PM_DROOP_VB_T1 ≤ u.get PM_DROOP_VB_T2) || decide (210 < u.get PM_DROOP_VB_T1) ||
      decide (u.get PM_DROOP_CR_T2 ≤ u.get PM_DROOP_CR_T1)
  else false

/-- Does the register accept Secure writes only (R560)? -/
def pmSecure (a : Nat) : Bool :=
  a == A_PM_SLEEP || a == A_PM_CMD || a == A_PM_VCORE || a == A_PM_LEDGER || a == A_PM_DROOP

/-- PM_CMD (R552). -/
def pmCommand (s : State) (v : Word) : State :=
  if v.toNat / 0x10000 ≠ 0xA55A then s.raise PM_INT_STAT_BADCMD
  else if bitOf v.toNat 1 then systemReset s 3 0
  else if bitOf v.toNat 0 then (if s.pins.wake then s.raise PM_INT_STAT_BADCMD else offCommand s)
  else s

/-- PM_SLEEP: clearing ARM ends an attempt silently (R545). -/
def pmSleepWrite (s : State) (a : Nat) (v : Word) : State × WriteEnd :=
  let r := fieldWrite s a v
  (if r.1.on PM_SLEEP_ARM then r.1 else { r.1 with pm := { r.1.pm with attempt := false } }, r.2)

/-- A write to the PM window. -/
def pmWrite (acc : Acc) (s : State) (a : Nat) (v : Word) : State × WriteEnd :=
  if pmSecure a then
    secureWrite acc (some PM_INT_STAT_BADCMD) s fun s =>
      if a = A_PM_CMD then (pmCommand s v, .ok)
      else if a = A_PM_SLEEP then pmSleepWrite s a v
      else if a = A_PM_LEDGER then
        let r := fieldWrite s a v
        ((r.1.set PM_LEDGER_LIMIT (max 88 (min 100 (r.1.get PM_LEDGER_LIMIT)))).relevel, r.2)
      else
        let r := fieldWrite s a v
        if !acc.staged && pmBad s r.1 a then (s.raise PM_INT_STAT_BADCMD, .ok)
        else if a = A_PM_VCORE ∧ s.on VR_CTL_EN then
          (r.1.vrSend 1 (r.1.get PM_VCORE_RUN), r.2)
        else r
  else
    let r := fieldWrite s a v
    if a = A_PM_CMP_CFG 0 ∨ a = A_PM_CMP_CFG 1 then
      let x := if a = A_PM_CMP_CFG 0 then 0 else 1
      if r.1.on (PM_CMP_CFG_EN x) then r
      else (({ r.1 with pm := { r.1.pm with cmp := updAt r.1.pm.cmp x fun _ => false } } : State).set (PM_CMP_CFG_OUT x) 0, r.2)
    else r

/-- A read of the PM window. -/
def pmRead (s : State) (a : Nat) : Word :=
  if a = A_PM_STAT then insertBits (s.reg a) 0 11 (pmWait s)
  else if a = A_PM_DOM then w32 (pmDom s)
  else if a = A_PM_LEDGER then insertBits (s.reg a) 0 13 (s.ledgerSum (s.get PM_STAT_LEVEL))
  else s.reg a

end Sys2Proof.Machine
end

