-- ==== Sys2Proof/Machine/Recovery.lean ====
section
/-! DEFINITION. Machine/Recovery.lean: watchdogs, core restart and fault containment (R531 to R538, R562 to R575). -/

namespace Sys2Proof.Machine

/-! ### Watchdogs (R531 to R536) -/

/-- Is watchdog `w` stopped by a debug halt (R535)? -/
def wdStopped (s : State) (w : Nat) : Bool :=
  s.on (WD_CFG_DBGSTOP (wdReg w)) &&
    (if w = 4 then s.get IC_DBG_CTL_HALTED != 0 else bitOf (s.get IC_DBG_CTL_HALTED) w)

/-- Watchdog `w` counts one tick (R531, R535). -/
def wdTick (s : State) (w : Nat) : State :=
  if !s.on (WD_STAT_RUN (wdReg w)) || wdStopped s w then s
  else
    let n := s.tm.wdTicks.getD w 0 + 1
    let s := { s with tm := { s.tm with wdTicks := updAt s.tm.wdTicks w fun _ => n % 20000 } }
    if n < 20000 then s else wdSet s w (s.get (WD_STAT_ELAPSED (wdReg w)) + 1)

/-- Is the early warning, is the expiry of watchdog `w` reached (R533)? -/
def wdWarnDue (s : State) (w : Nat) : Bool :=
  s.on (WD_STAT_RUN (wdReg w)) && s.get (WD_WIN_WARN (wdReg w)) != 0 &&
    s.get (WD_STAT_ELAPSED (wdReg w)) + s.get (WD_WIN_WARN (wdReg w)) == s.get (WD_CFG_TIMEOUT (wdReg w))
def wdExpiryDue (s : State) (w : Nat) : Bool :=
  s.on (WD_STAT_RUN (wdReg w)) && decide (s.get (WD_CFG_TIMEOUT (wdReg w)) ≤ s.get (WD_STAT_ELAPSED (wdReg w)))

/-- The early warning (R533). -/
def wdWarn (s : State) (w : Nat) : State :=
  if !wdWarnDue s w then s
  else
    let s := s.raise (WD_INT_STAT_WARN (wdReg w))
    if w = 4 then s.emit 154 else s

/-- Core `c` enters core restart (R565, R441, R101, R359, R372, R536): it stops, and a debug halt ends. -/
def coreRestart (s : State) (c : Nat) : State :=
  let s := acRestart (icRestart s c) c
  let s := pqAbort (ceAbort s c ceAborted) c pqAborted
  let s := ((s.set (WD_STAT_RUN c) 0).set (WD_STAT_ELAPSED c) 0).set (WD_STAT_OPEN c) 0
  let s := (s.set (WD_INT_STAT_WARN c) 0).set (IC_DBG_CTL_HALTED.bit c) 0
  let dm := assocPut (s.core c).dm dmHaveReset 1
  let s := s.updCore c fun _ => { CoreS.reset with dm := dm }
  let s := { s with reservations := s.reservations.filter fun r => r.1 != c }
  ((s.set (IC_CPU_STAT_STATE c) csRestart).bump (IC_CPU_STAT_RESTARTS c)).relevel

/-- Watchdog `w` expires with a cause: 1 TIMEOUT, 2 EARLY, 3 BADKEY (R534). -/
def wdExpire (s : State) (w cause : Nat) : State :=
  if w = 4 then systemReset s 2 cause else coreRestart (s.recovBegin 0x8 cause w) w

/-- The expiry at TIMEOUT. -/
def wdExpiry (s : State) (w : Nat) : State := if wdExpiryDue s w then wdExpire s w 1 else s

/-- A write of a KICK register (R532); one that falls with the expiry, whose tick has just moved ELAPSED, is ignored (R533). -/
def wdKick (s : State) (w : Nat) (v : Word) : State :=
  if !s.on (WD_CFG_EN (wdReg w)) || (wdExpiryDue s w && s.tm.wdTicks.getD w 0 == 0) then s
  else if v.toNat % 0x10000 ≠ 0x5AC3 then wdExpire s w 3
  else if s.get (WD_STAT_ELAPSED (wdReg w)) < s.get (WD_WIN_WINDOW (wdReg w)) then wdExpire s w 2
  else wdSet { s with tm := { s.tm with wdTicks := updAt s.tm.wdTicks w fun _ => 0 } } w 0

/-- The watchdog that owns an offset of the WD window. -/
def wdOf (o : Nat) : Option Nat :=
  if 0x100 ≤ o ∧ o < 0x180 then some ((o - 0x100) / 0x20)
  else if 0x200 ≤ o ∧ o < 0x220 then some 4
  else none

/-- Forbidden values of WD (R531). -/
def wdBad (_s u : State) (a : Nat) : Bool :=
  match wdOf (a % 0x10000) with
  | some w =>
    let t := u.get (WD_CFG_TIMEOUT (wdReg w))
    decide (a % 0x20 < 8) && (decide (t < 4) || decide (t ≤ u.get (WD_WIN_WINDOW (wdReg w))) || decide (t ≤ u.get (WD_WIN_WARN (wdReg w))))
  | none => false

/-- A write to the WD window (R531, R532, R538): a 0 written to EN is ignored once it is 1, and differs from it where the bit is
locked (R13). -/
def wdWrite (acc : Acc) (s : State) (a : Nat) (v : Word) : State × WriteEnd :=
  match wdOf (a % 0x10000) with
  | none => fieldWrite s a v
  | some w =>
    if w = 4 ∧ acc.ns ∧ !acc.staged then (s, .berr 0)
    else if w < 4 ∧ !acc.image ∧ acc.core ≠ w then (s, .berrFree)
    else if a % 0x20 = 8 then (wdKick s w v, .ok)
    else
      let keep := a % 0x20 == 0 && s.on (WD_CFG_EN (wdReg w)) && !s.locksBit a 31
      let r := fieldWrite s a (if keep then v ||| 0x80000000 else v)
      if !acc.staged && wdBad s r.1 a then (s, .ok) else (wdShow r.1 w, r.2)

/-! ### Core restart ends (R534, R572) -/

/-- Owner core of the 32 KiB unit `k` (Table 20.7). -/
def unitOwner (s : State) (k : Nat) : Nat :=
  if k < 16 then s.get FC_OWN0_OWN / 4 ^ k % 4 else s.get FC_OWN1_OWN / 4 ^ (k - 16) % 4

/-- Is `r` a recovery that ends with core `c` issuing its first instruction (R572)? -/
def endsWithCore (c : Nat) (r : Recovery) : Bool :=
  (r.code == 8 && r.place % 4 == c) || (r.code == 9 && r.sub % 4 == c)

/-- Core `c` issues its first instruction: each recovery that this ends is recorded, its own record and interval (R570,
R572). -/
def coreFirst (s : State) (c : Nat) : State :=
  (s.fc.recov.filter (endsWithCore c)).foldl (fun t r =>
    if t.fc.recov.contains r then t.recovDone r r.code r.sub r.place else t) s

/-- The restarted core goes to ENTRY; it issues its first instruction there unless its debug module holds it (R446, R572). -/
def coreRestartEnd (s : State) (c : Nat) : State :=
  if s.coreState c ≠ csRestart ∨ s.fc.scan.any (fun k => unitOwner s k == c) then s
  else
    let s := coreRunAt s c
    if (s.core c).first then s else coreFirst s c

/-! ### Accesses to a unit under scan, and the scan's end (R567) -/

/-- An access of core `core` to a unit under scan waits (R567). -/
def sramStall (s : State) (core a : Nat) (op : MemOp) : State :=
  { s with fc := { s.fc with stalls := s.fc.stalls ++ [⟨core, a, op⟩] } }

/-- The low 2 ^ `size` octets of `v` stored at `a` by core `by_`, or by an agent that is no core. -/
def State.store (s : State) (by_ : Option Nat) (size a : Nat) (v : Word) : State :=
  (s.setBytes a ((List.range (2 ^ size)).map fun i => BitVec.ofNat 8 (v.toNat / 256 ^ i))).breakReservations by_ a (2 ^ size)

/-- An access of core `c` to system SRAM is made (R426): SC.W stores and answers 0 where the core still holds its reservation, and
answers 1 where it does not; an AMO answers the old word. -/
def sramAct (s : State) (c a : Nat) (op : MemOp) : State :=
  match op with
  | .load size => s.respond (s.octets size a)
  | .store size v => (s.store (some c) size a v).respond 0
  | .reserve =>
    ({ s with reservations := (s.reservations.filter fun r => r.1 != c) ++ [(c, a / 32)] } : State).respond (s.memWord a)
  | .conditional v =>
    let t := { s with reservations := s.reservations.filter fun r => r.1 != c }
    if s.reservations.contains (c, a / 32) then (t.store (some c) 2 a v).respond 0 else t.respond 1
  | .amo op v => (s.store (some c) 2 a (amoValue op (s.memWord a) v)).respond (s.memWord a)

/-- An access that has waited is made. -/
def stallServe (s : State) (e : Stall) : State := sramAct s e.core e.addr e.op

/-- The scan of unit `k` ends: the owner enters core restart, and the accesses of the other cores that have waited are made
(R567). -/
def scanEnd (s : State) (k : Nat) : State :=
  if !s.fc.scan.contains k then s
  else
    let c := unitOwner s k
    let mine := fun e : Stall => sramUnit e.addr == k
    let t := (s.fc.stalls.filter fun e => mine e && e.core != c).foldl stallServe
      { s with fc := { s.fc with scan := s.fc.scan.filter (· != k), stalls := s.fc.stalls.filter fun e => !mine e } }
    coreRestart t c

/-! ### Records as registers (R573, R575) -/

/-- POP. -/
def recPop (s : State) : State := ({ s with fc := { s.fc with queue := s.fc.queue.drop 1 } } : State).fcSync

/-- A write to the FC window (R575). -/
def fcWrite (acc : Acc) (s : State) (a : Nat) (v : Word) : State × WriteEnd :=
  secureWrite acc none s fun s =>
    if a = A_FC_REC_POP then (if bitOf v.toNat 0 then recPop s else s, .ok) else fieldWrite s a v

/-- A read of the FC window. -/
def fcRead (s : State) (a : Nat) : Word :=
  let r := s.fc.queue.headD ⟨0, 0, 0⟩
  if a = A_FC_REC_W0 then r.w0 else if a = A_FC_REC_W1 then r.w1 else if a = A_FC_REC_W2 then r.w2 else s.reg a

end Sys2Proof.Machine
end

