-- ==== Sys2Proof/Machine/Release.lean ====
section
/-! DEFINITION. Machine/Release.lean: what the boot sequencer does once the records are applied, and how Ivory begins
and ends (R410 to R414, R506). -/

namespace Sys2Proof.Machine

/-- Causes of Ivory (Table 13.8). -/
abbrev ivTest : Nat := 1
abbrev ivFlag : Nat := 2
abbrev ivNoImage : Nat := 3

/-- Octets `i`, …, `i + n - 1` of the chosen image's header, and their value. -/
def hdrBytes (s : State) (i n : Nat) : List Byte := (s.bt.hdr.drop i).take n
def hdrNat (s : State) (i n : Nat) : Nat := leNat (hdrBytes s i n)

/-- Words set from a list of octets, from address `a` on. -/
def setWords (s : State) (a : Nat) (n : Nat) (d : List Byte) : State :=
  (List.range n).foldl (fun t k => t.setReg (a + 4 * k) (w32 (leNat ((d.drop (4 * k)).take 4)))) s

/-- Ivory begins (R414, R506): SP1 becomes the window slave. -/
def ivoryEnter (s : State) (cause : Nat) : State :=
  let s := { s with bt := { s.bt with stage := 1, relPend := false } }
  let s := ((s.set BT_STATUS_IVORY 1).set BT_STATUS_IVCAUSE cause).set BT_STATUS_WASIVORY 1
  let s := s.updPort 1 fun p => { p with saved := s.reg (A_SP_CTL 1) }
  (spEnable (((s.set (SP_CTL_MODE 1) 2).set (SP_CTL_SSPOL 1) 1).set (SP_CTL_EN 1) 1) 1).updPaired

/-- Ivory ends: a selection in progress ends as at a disable, which `cut` says: with a word that the host breaks off, discarded with
FRAG, or between two words; then SP1_CTL gets its saved value back (R506, R513). -/
def ivoryExit (s : State) (cut : Bool) : State :=
  let s := { s with bt := { s.bt with stage := 0, relPend := false } }
  let s := spUnselect (s.set BT_STATUS_IVORY 0) 1 (b2n cut)
  (s.setReg (A_SP_CTL 1) (s.port 1).saved).updPaired

/-- The octets that PQ_MBD measures (R411). -/
def measured (s : State) : List Byte :=
  s.bt.hash ++ [BitVec.ofNat 8 s.bt.src] ++ hdrBytes s 0x18 1 ++ hdrBytes s 5 1 ++ hdrBytes s 6 2 ++ hdrBytes s 0x10 8
    ++ natLE 8 (s.get64 PQ_ARB_LO_ARB PQ_ARB_HI_ARB) ++ natLE 4 (s.get BT_BOOTCFG_CFG)
    ++ [BitVec.ofNat 8 (s.get BT_STATUS_WASIVORY)]

/-- The identity step and the lock (R410, R411). The cores start once the reset calibration has ended. -/
def bootIdentity (s : State) : State :=
  let s := setWords s (A_PQ_MBD 0) 8 (sha3 (measured s))
  let s := s.set64 PQ_ARB_IMG_LO_IMG PQ_ARB_IMG_HI_IMG (hdrNat s 0x10 8)
  let s := (s.set PQ_ID_STAT_BKEY (hdrNat s 0x18 1)).set PQ_ID_STAT_BKV 1
  let s := s.set BT_STATUS_PROFILE s.profile
  { s with locked := true, bt := { s.bt with stage := 2 } }

/-- The cores start (R412, R531): each with EN at its ENTRY with its attribute; one with EN = 0 stays held. -/
def bootRelease (s : State) : State :=
  if s.bt.stage ≠ 2 ∨ s.fe.resetCal ≠ 2 then s
  else
    let s := (List.range 4).foldl (fun t c =>
      let f := hdrNat t (0x24 + 8 * c) 4
      let t := (t.setReg (A_IC_CPU_ENTRY c) (w32 (hdrNat t (0x20 + 8 * c) 4))).set (IC_CPU_STAT_NS c) (f / 2 % 2)
      if f % 2 = 1 then coreRunAt t c else t) s
    let s := wdStart s 4
    let s := (s.set BT_STATUS_RESULT 1).set BT_STATUS_BTIME (min 0xFFFF (s.now / 20000))
    { s with bt := { s.bt with stage := 3 } }

/-- A write of BT_CTL.RELEASE (R414): Ivory caused by FLAG goes on at the identity step, one caused by NOIMAGE ends in a
system reset, whose cause code is not stated; one caused by TEST goes on at candidate selection, which the boot row carries out. `cut`: the
host breaks a word off (R506). -/
def releaseWrite (s : State) (cut : Bool) : State :=
  if s.bt.stage ≠ 1 then s
  else if s.get BT_STATUS_IVCAUSE = ivFlag then bootRelease (bootIdentity (ivoryExit s cut))
  else if s.get BT_STATUS_IVCAUSE = ivNoImage then
    let (x, t) := s.fresh
    systemReset t (x.toNat % 16) 0
  else { s with bt := { s.bt with relPend := true } }

end Sys2Proof.Machine
end

