-- ==== Sys2Proof/Machine/Bus.lean ====
section
/-! DEFINITION. Machine/Bus.lean: the bus: every read and write a core, the window, the debug port, a commit group or
an image record makes (R10 to R14, R314, R407, R426 to R428). -/

namespace Sys2Proof.Machine

/-- The handler of a write to block window `m` (Table 14.4). A write to BT_CTL is taken by the boot sequencer (R414). -/
def blockWrite (acc : Acc) (s : State) (m a : Nat) (v : Word) : State × WriteEnd :=
  match m with
  | 0 => pmWrite acc s a v
  | 1 => tbWrite s a v
  | 2 => icWrite acc s a v
  | 3 => evWrite acc s a v
  | 4 => acWrite acc s a v
  | 5 => feWrite (acc.kind == .commit) s a v
  | 6 => czWrite acc.staged s a v
  | 7 => lsWrite acc s a v
  | 8 => nbWrite acc s a v
  | 9 => fwWrite acc s a v
  | 10 => dcWrite acc.staged s a v
  | 11 => ceWrite acc s a v
  | 12 => pqWrite acc s a v
  | 13 => flWrite acc s a v
  | 14 => spWrite acc s a v
  | 15 => spWrite acc s a v
  | 16 => tmWrite acc.staged s a v
  | 17 => gpWrite acc s a v
  | 18 =>
    let r := fieldWrite s a v
    if a = A_BT_CTL ∧ bitOf v.toNat 0 then (releaseWrite r.1 false, r.2) else r
  | 19 => wdWrite acc s a v
  | 20 => fcWrite acc s a v
  | 21 => cxWrite acc.staged s a v
  | 22 => vrWrite acc s a v
  | _ => (s, .ok)

/-- What block window `m` shows a reader, and what the read does (the time base's paired reads apart). -/
def blockRead (acc : Acc) (s : State) (m a : Nat) : Word × State :=
  match m with
  | 0 => (pmRead s a, s)
  | 2 => (icRead acc s a, s)
  | 3 => (evRead acc s a, s)
  | 4 => (acRead acc s a, s)
  | 6 => (czRead s a, s)
  | 7 => (lsRead s a, s)
  | 8 => (nbRead s a, s)
  | 9 => (fwRead s a, s)
  | 10 => (dcRead s a, s)
  | 11 => (ceRead acc s a, s)
  | 12 => (pqRead s a, s)
  | 13 => (flRead s a, s)
  | 14 => spRead s a
  | 15 => spRead s a
  | 16 => tmReadEffect s a
  | 17 => (gpRead acc s a, s)
  | 20 => (fcRead s a, s)
  | 21 => (cxRead s a, s)
  | _ => (s.reg a, s)

/-- The LO registers beside the counters that are read as R47 lays down. -/
def pairedLo (a : Nat) : Bool :=
  a == A_CZ_BSC_EFF_LO || a == A_LS_BSET_EFF_LO || a == A_PQ_ARB_LO ||
    (decide (A_DC_REC_USED_LO 0 ≤ a) && decide (a ≤ A_DC_REC_USED_LO 7) && (a - A_DC_REC_USED_LO 0) % 32 == 0)

/-- Is a window read closed to this reader (R285, R427, R575)? -/
def readClosed (acc : Acc) (s : State) (m : Nat) : Bool :=
  acc.ns && (m == 20 || (m == 8 && !s.on NB_CTL_NS_RD))

/-- A word read in block window `m`: paired reads capture or return the shadow; RC fields clear, an update in the same
handshake (`hw`) staying (R11, R12, R47). -/
def windowRegRead (acc : Acc) (s : State) (m a : Nat) (hw : Word) : Word × State :=
  match tsAtLo a with
  | some r => tsReadLo acc s r
  | none =>
    match tsAtLo (a - 4) with
    | some r => (tsReadHi acc s r, s)
    | none =>
      if pairedLo (a - 4) then ((assocGet s.tb.shadow (shadowKey acc a)).getD 0, s)
      else
        let r := blockRead acc s m a
        if pairedLo a then
          let hi := (blockRead acc s m (a + 4)).1
          (r.1, { r.2 with tb := { r.2.tb with shadow := assocPut r.2.tb.shadow (shadowKey acc (a + 4)) hi } })
        else
          match findReg a with
          | some d =>
            if d.rc ≠ 0 ∧ r.1 = s.reg a then (r.1, r.2.setReg a ((r.2.reg a &&& ~~~ d.rc) ||| (hw &&& d.rc)))
            else r
          | none => r

/-- Does the slot that an OTP operation damaged cover this address (R380)? -/
def otpBroken (s : State) (a : Nat) : Bool :=
  s.fl.otpBad.any fun b =>
    decide (b ≤ a) && decide (a < b + (if otpArb 0 ≤ b then 8 else if otpRevoke ≤ b then 4 else 32))

/-- One byte as the bus shows it: octets of SEED read as zero (R375). -/
def busByte (s : State) (a : Nat) : Byte :=
  if otpSeed ≤ a ∧ a < otpSeed + 32 then 0 else s.byte a

/-- The bytes of an access of 2 ^ `size` octets, as a word. -/
def busData (s : State) (size a : Nat) : Word :=
  w32 (leNat ((List.range (2 ^ size)).map fun i => busByte s (a + i)))

/-- An access that core `c` does not make: an exception, with no record in the controller (R426, R428). -/
def coreFault (s : State) (c cause a : Nat) : State := { s with resp := ⟨0, true⟩ }.trap c cause (w32 a)

/-- The misaligned load or store of a core to memory is an address-misaligned exception (R426). The other masters' addresses
are words. -/
def misaligned (acc : Acc) (s : State) (write : Bool) (a : Nat) : State :=
  if acc.kind == .core then coreFault s acc.core (if write then 6 else 4) a else { s with resp := ⟨0, true⟩ }

/-- Does PMP refuse an access of the master (R419)? It binds cores. -/
def pmpRefuses (acc : Acc) (s : State) (use_ a n : Nat) : Bool := acc.kind == .core && !pmpAllows s acc.core use_ a n

/-- Is the register at `a` in a domain that is not ON: every block while the device sleeps, the watchdog of a core that is
HELD (R20, R540, R542, Tables 1.1 and 19.2)? -/
def domainOff (s : State) (a : Nat) : Bool :=
  !s.awake || (decide (0x40130100 ≤ a) && decide (a < 0x40130180) && s.coreState ((a - 0x40130100) / 0x20) == csHeld)

/-- Does the power manager answer this access (R542)? Image records reach the watchdogs of cores that are yet to be released
(R407, R410; log entry 43). -/
def accessOff (acc : Acc) (s : State) (a : Nat) : Bool := domainOff s a && !(acc.kind == .boot && s.awake)

/-- Is the address a reserved offset of a block window: no register, and no word of the instruction memory (R14)? -/
def reservedOffset (a : Nat) : Bool := (findReg a).isNone && !(decide (0x40078000 ≤ a) && decide (a < 0x40080000))

/-- A write of 2 ^ `size` octets: what it does, and how it completes (R10, R14, R314, R427). -/
def busWriteEnd (acc : Acc) (s : State) (size a : Nat) (v : Word) : State × WriteEnd :=
  match regionOf a with
  | .window m =>
    if size ≠ 2 ∨ a % 4 ≠ 0 then (s, .berr 2)
    else if accessOff acc s a then (s, .berr 1)
    else if reservedOffset a then (s, .ok)
    else blockWrite acc s m a v
  | .sram =>
    if !s.awake then (s, .berr 1)
    else if acc.ns && sramSecure s a then (s, .berr 0)
    else if acc.kind == .core && sramScanned s a then (sramStall s acc.core a (.store size v), .ok)
    else (s.store (if acc.kind == .core then some acc.core else none) size a v, .ok)
  | .flash => if !s.awake then (s, .berr 1) else if acc.ns && flashSecure s a then (s, .berrFree) else (s, .berr 3)
  | .otp => if !s.awake then (s, .berr 1) else if acc.ns then (s, .berrFree) else (s, .berr 3)
  | .frames =>
    if !s.awake then (s, .berr 1) else if acc.ns && !s.on IC_FSSEC_NS_RD then (s, .berrFree) else (s, .berr 3)
  | .none => (s, .berr 1)

/-- Is address `a` of memory misaligned for an access of 2 ^ `size` octets? In a block window such an access completes with an
error response instead (R10), and an address outside the map with that of R427. -/
def memMisaligned (size a : Nat) : Bool :=
  match regionOf a with
  | .window _ => false
  | .none => false
  | _ => a % 2 ^ size != 0

/-- A bus write with its response. A misaligned store is an exception before its region is judged by PMP (log entry 60). -/
def busWrite (acc : Acc) (s : State) (size a : Nat) (v : Word) : State :=
  if memMisaligned size a then misaligned acc s true a
  else if pmpRefuses acc s pmpStore a (2 ^ size) then coreFault s acc.core 7 a
  else let r := busWriteEnd acc s size a v; r.1.finishWrite acc a r.2

/-- A word write by a core (the register rows). -/
def coreWrite (core : Cpu) (a : Nat) (v : Word) (s : State) : State := busWrite (coreAcc s core) s 2 a v

/-- The word that sets field `f` to `v` and keeps the other fields that a write can change; bits that are written to
clear, and command bits, are 0. -/
def fieldOver (s : State) (f : Field) (v : Nat) : Word :=
  let keep := match findReg f.addr with | some d => d.rw ||| d.lk | none => 0
  insertBits (s.reg f.addr &&& keep) f.lo f.w v

/-- Core `core` writes field `f` with `v`, the other fields of the register as they are. -/
def setField (core : Cpu) (f : Field) (v : Nat) (s : State) : State := coreWrite core f.addr (fieldOver s f v) s

/-- Is a frame being received into cell `c` (R317)? -/
def cellFilling (s : State) (c : Nat) : Bool :=
  (List.range 16).any fun p => match (s.lane p).rx with | some r => r.taken.contains c | none => false

/-- What a bus read of 2 ^ `size` octets does, and its response (R10, R14, R314, R375, R427, R428, R469). `ecc`: a read of the frame
store meets an uncorrectable error, which has no KIND of its own: a free value (R314, Table 14.7). What a cell holds while
a frame arrives in it is free as well (log entry 54). -/
def busReadEnd (acc : Acc) (s : State) (size a : Nat) (hw : Word) (ecc : Bool) : State :=
  match regionOf a with
  | .window m =>
    if size ≠ 2 ∨ a % 4 ≠ 0 then s.respondErr acc a false 2
    else if accessOff acc s a then s.respondErr acc a false 1
    else if reservedOffset a then s.respond 0
    else if readClosed acc s m then s.respondErr acc a false 0
    else let r := windowRegRead acc s m a hw; r.2.respond r.1
  | .none => s.respondErr acc a false 1
  | .frames =>
    if !s.awake then s.respondErr acc a false 1
    else if acc.ns && !s.on IC_FSSEC_NS_RD then s.respondErr acc a false 0
    else if size ≠ 2 then s.respondErr acc a false 2
    else if ecc then let (x, t) := s.fresh; t.respondErr acc a false x.toNat
    else if cellFilling s ((a - 0x24000000) / 0x80) then let (x, t) := s.fresh; t.respond x
    else s.respond (busData s size a)
  | .otp =>
    if !s.awake then s.respondErr acc a false 1
    else if acc.ns then s.respondErr acc a false 0
    else if otpBroken s a then let (x, t) := s.fresh; t.respondErr acc a false x.toNat
    else s.respond (busData s size a)
  | .flash =>
    if !s.awake then s.respondErr acc a false 1
    else if acc.ns && flashSecure s a then s.respondErr acc a false 0
    else if flBankBusy s a then flBusyRead s acc.core size a
    else (flReadSeen s a).respond (busData s size a)
  | .sram =>
    if !s.awake then s.respondErr acc a false 1
    else if acc.ns && sramSecure s a then s.respondErr acc a false 0
    else if acc.kind == .core && sramScanned s a then sramStall s acc.core a (.load size)
    else s.respond (busData s size a)

/-- A bus read with its response. -/
def busRead (acc : Acc) (s : State) (size a : Nat) (hw : Word) (ecc : Bool := false) : State :=
  if memMisaligned size a then misaligned acc s false a
  else if pmpRefuses acc s pmpLoad a (2 ^ size) then coreFault s acc.core 5 a
  else busReadEnd acc s size a hw ecc

/-- An instruction fetch of the halfword at `a` by core `c`: from flash and system SRAM alone; refused, it is an instruction
access fault (R427, R428). The record of a fetch from elsewhere shows the access form (log entry 60). -/
def coreFetch (s : State) (c : Cpu) (a : Nat) : State :=
  let acc := coreAcc s c
  let a := a / 2 * 2
  if !pmpAllows s c pmpFetch a 2 then coreFault s c 1 a
  else
    let t := match regionOf a with
      | .flash => busReadEnd acc s 1 a 0 false
      | .sram => busReadEnd acc s 1 a 0 false
      | .none => busReadEnd acc s 1 a 0 false
      | _ => s.respondErr acc a false 2
    if t.resp.err then t.setCsr c csrMcause 1 else t

/-- LR.W, SC.W or an AMO of core `c` (R426): atomic in system SRAM; an AMO to an array word is the controller's (R433); to any
other register window and to the frame store the access form is refused. Flash and OTP take no store (R427); LR.W reads them
like a load and reserves nothing (log entry 60). -/
def coreAtomic (s : State) (c : Cpu) (a : Nat) (op : MemOp) : State :=
  let acc := coreAcc s c
  let load := op == .reserve
  if memMisaligned 2 a then misaligned acc s (!load) a
  else if !pmpAllows s c (if load then pmpLoad else pmpStore) a 4 then coreFault s c (if load then 5 else 7) a
  else
    match regionOf a with
    | .sram =>
      if !s.awake then s.respondErr acc a (!load) 1
      else if acc.ns && sramSecure s a then s.respondErr acc a (!load) 0
      else if sramScanned s a then sramStall s c a op
      else sramAct s c a op
    | .window _ =>
      if a % 4 ≠ 0 then s.respondErr acc a (!load) 2
      else if accessOff acc s a then s.respondErr acc a (!load) 1
      else
        match op with
        | .amo o v => match arrOf a o with | some k => arrAmo acc s k.1 k.2 o v | none => s.respondErr acc a true 2
        | _ => s.respondErr acc a (!load) 2
    | .frames => s.respondErr acc a (!load) (if s.awake then 2 else 1)
    | _ => if load then busReadEnd acc s 2 a 0 false else (let r := busWriteEnd acc s 2 a 0; r.1.finishWrite acc a r.2)

/-- An access of core `c` that writes (R10, R426). -/
def coreStore (s : State) (c : Cpu) (form : WriteForm) (a : Nat) (v : Word) : State :=
  match form with
  | .store size => busWrite (coreAcc s c) s size a v
  | .conditional => coreAtomic s c a (.conditional v)
  | .amo op => coreAtomic s c a (.amo op v)

/-- An access of core `c` that reads (R10, R426, R427). -/
def coreLoad (s : State) (c : Cpu) (form : ReadForm) (a : Nat) (hw : Word) (ecc : Bool) : State :=
  match form with
  | .load size => busRead (coreAcc s c) s size a hw ecc
  | .reserve => coreAtomic s c a .reserve
  | .fetch => coreFetch s c a

/-- A word write of IC_PENDk by core `c` with the edges that arrive in its handshake (R433). -/
def pendWrite (s : State) (c : Cpu) (k : Nat) (v hw : Word) : State :=
  let acc := coreAcc s c
  let a := arrAddr 0 k
  if pmpRefuses acc s pmpStore a 4 then coreFault s c 7 a
  else if accessOff acc s a then s.respondErr acc a true 1
  else route ((arrWrite acc s 0 k v hw).respond 0)

/-- Core `core` reads the word at `a`. -/
def coreRead (core : Cpu) (a : Nat) (s : State) : State := busRead (coreAcc s core) s 2 a 0

/-- What fails a staged or direct write of window `m` with a forbidden value. -/
def blockBad (s u : State) (m a : Nat) : Bool :=
  match m with
  | 0 => pmBad s u a
  | 3 => evBad s u a
  | 5 => feBad s u a
  | 6 => czBad s u a
  | 7 => lsBad s u a
  | 8 => nbBad s u a
  | 9 => fwBad s u a
  | 10 => dcBad s u a
  | 11 => ceBad s u a
  | 14 => spBad s u a
  | 15 => spBad s u a
  | 16 => tmBad s u a
  | 17 => gpBad s u a
  | 19 => wdBad s u a
  | 21 => cxBad s u a
  | 22 => vrBad s u a
  | _ => false

/-! ### Commands of more than one register access -/

/-- A write of FE_SENSE_CTL.NOW by core `core`: the measurement it makes (R128). -/
def senseNow (core : Cpu) (temp mv : Nat) (s : State) : State :=
  let t := setField core FE_SENSE_CTL_PERIOD (s.get FE_SENSE_CTL_PERIOD) s
  if t.resp.err then t else feMeasure t temp mv

end Sys2Proof.Machine
end

