-- ==== Sys2Proof/Machine/Commit.lean ====
section
/-! DEFINITION. Machine/Commit.lean: delivery of a commit group's entries, the VALUE check and the commit point (R77 to
R93). -/

namespace Sys2Proof.Machine

/-! ### Pre-delivery (R77, R81, R83) -/

/-- The block window of a bus address. -/
def windowOf (a : Nat) : Nat := (a - 0x40000000) / 0x10000

/-- Is a register stageable (R77, R286)? -/
def stageable (a : Nat) : Bool :=
  a % 4 == 0 && decide (0x40000000 ≤ a) && decide (a < 0x40170000) && windowOf a != 4 && a != 0x40088000 &&
    a != 0x4008BFFC &&
    (match findReg a with
     | some d => (d.rw ||| d.lk ||| d.w1c ||| d.wo) != 0
     | none => false)

/-- The word an entry writes: masked bits of its value over the current value; unmasked W1C and WO bits 0 (R78). -/
def stageWord (s : State) (e : StageEntry) : Word :=
  let act : Word := match findReg e.addr with
    | some d => d.w1c ||| d.wo
    | none => 0
  (s.reg e.addr &&& ~~~ e.mask &&& ~~~ act) ||| (e.value &&& e.mask)

/-- What a target answers a delivery: 1 its attribute refuses the group, 2 its owner does (R81, R457, R458). A channel of OWNER
BOOT has no attribute. -/
def targetRefuses (s : State) (core : Nat) (ns : Bool) (e : StageEntry) : Nat :=
  let acc : Acc := { kind := .core, core := core, ns := ns }
  let m := windowOf e.addr
  if m = 3 ∧ evStaged e.addr then
    let ch := evChannels e.addr e.mask
    if ch.any fun n => s.get (EV_CH_CFG_OWNER n) != 0 && evAttrBad s acc n then 1
    else if ch.any (evOwnerBad s acc) then 2 else 0
  else
    match (blockWrite acc s m e.addr (stageWord s e)).2 with
    | .ok => 0
    | .berr _ => 1
    | .berrFree => 2

/-- What a group's registers answer a delivery: they are not stageable, and before that their locks, attribute and owner are
judged like any target's (R81, R98). -/
def groupRefuses (s : State) (core : Nat) (ns : Bool) (a : Nat) : Nat :=
  let g := (a % 0x10000 - 0x100) / 0x40
  if a % 0x10000 < 0x104 ∨ 0x300 ≤ a % 0x10000 ∨ a % 0x40 = 0 ∨ s.groupState g = agFree then 0
  else if s.on (AC_G_STAT_ATTR g) && ns then 1
  else if s.get (AC_G_STAT_OWNER g) ≠ core then 2 else 0

/-- Does another group hold the register: an entry of a group in ARMED, or one already delivered of a group in ARMING (R81,
R83)? -/
def heldByOther (s : State) (g a : Nat) : Bool :=
  (List.range 8).any fun k => k != g &&
    ((s.groupState k == agArmed && (s.group k).entries.any (·.addr == a)) ||
      (s.groupState k == agArming && ((s.group k).entries.take (s.group k).delivered).any (·.addr == a)))

/-- The first failure cause of an entry, in the order of R81, or 0. A reserved offset has no lock, attribute or owner (R14, R77,
R99). -/
def entryCheck (s : State) (g : Nat) (e : StageEntry) : Nat :=
  let core := s.get (AC_G_STAT_OWNER g)
  let ns := !s.on (AC_G_STAT_ATTR g)
  if e.addr < 0x40000000 ∨ 0x40170000 ≤ e.addr ∨ reservedOffset e.addr then arBadAddr
  else
    let closed : Word := absentBits s e.addr ||| (match findReg e.addr with
      | some d => lockedBits s d e.addr
      | none => 0)
    if e.mask &&& closed ≠ 0 then arLocked
    else
      match if windowOf e.addr = 4 then groupRefuses s core ns e.addr else targetRefuses s core ns e with
      | 1 => arAttr
      | 2 => arNotOwner
      | _ =>
        if !stageable e.addr then arBadAddr
        else if heldByOther s g e.addr then arConflict else if domainOff s e.addr then arDomainOff else 0

/-- The next entry of group `g` is delivered: checked against its target as it stands, and held from then on, or the group
fails (R81). -/
def deliverEntry (s : State) (g : Nat) : State :=
  let i := (s.group g).delivered
  match (s.group g).entries[i]? with
  | none => s
  | some e =>
    match entryCheck s g e with
    | 0 => s.updGroup g fun p => { p with delivered := i + 1 }
    | r => groupFail s g r (some i)

/-- At most `n` further entries of group `g` are delivered, in push order, while it is in ARMING. -/
def deliverRest : Nat → State → Nat → State
  | 0, s, _ => s
  | n + 1, s, g => if s.groupState g = agArming then deliverRest n (deliverEntry s g) g else s

/-- At each tick the unit delivers one more entry of every group in ARMING (R81; the pace is a DESIGN CHOICE within R82, log
entry 51). -/
def deliverTick (s : State) : State :=
  (List.range 8).foldl (fun t g => if t.groupState g = agArming then deliverEntry t g else t) s

/-- Pre-delivery of group `g` completes (R81, R84): the entries still to be delivered are delivered at this instant, and the
group is armed. -/
def preDeliveryEnd (s : State) (g : Nat) : State :=
  if s.groupState g ≠ agArming then s
  else
    let t := deliverRest ((s.group g).entries.length - (s.group g).delivered) s g
    if t.groupState g ≠ agArming then t
    else
      let t := (t.set (AC_G_STAT_STATE g) agArmed).updGroup g fun p => { p with since := t.now }
      if timedDue t g then groupFail t g arLateArm none else t

/-! ### The VALUE check (R85) -/

/-- Event matrix: does the register at `a` take part in a forbidden combination of its channel, or hold a forbidden
value (R451, R457)? -/
def evOffends (u : State) (a : Nat) : Bool :=
  let o := a % 0x10000
  if o < 0x1000 then evBad u u a
  else
    let n := (o - 0x1000) / 0x40
    let q := o % 0x40
    let prod := decide (4 ≤ q) && decide (q < 0x18)
    let sProd := (List.range 160).any fun p => channelTakes u n p && prodSecure p
    let nsec := !u.on (EV_CH_CFG_SEC n)
    (prod && (decide (1 < rowCount u n) || (nsec && sProd))) ||
      (q == 0 && (u.get (EV_CH_CFG_OWNER n) == 3 || (u.get (EV_CH_CFG_OWNER n) == 2 && u.on (EV_CH_CFG_SEC n)) ||
        (nsec && (sProd || (channelConsumers u n).any consSecure)))) ||
      (q == 0x24 && (bitOf (u.get (EV_CH_CONS_CONS n 3)) 14 || bitOf (u.get (EV_CH_CONS_CONS n 3)) 15)) ||
      (decide (0x18 ≤ q) && decide (q < 0x28) && nsec &&
        (channelConsumers u n).any fun k => consSecure k && k / 32 == (q - 0x18) / 4)

/-- Channeliser: lane `p` takes part in a combination of Table 5.6 that names PATH. -/
def laneOffendsPath (u : State) (p : Nat) : Bool :=
  let m := u.get (CZ_LANE_CFG_MODE p)
  let on := (List.range 16).filter fun q => u.on (CZ_LANE_CFG_EN q)
  u.on (CZ_LANE_CFG_EN p) &&
    (if u.on CZ_CTL_PATH then modeBank m || (m == 12 && !u.on CZ_NARROW_BW) || decide (1 < on.length)
     else modeNarrow m || decide (u.get (CZ_LANE_CFG_BIN p) < 4) || decide (35 < u.get (CZ_LANE_CFG_BIN p)) ||
       on.any fun q => q != p && u.get (CZ_LANE_CFG_BIN q) == u.get (CZ_LANE_CFG_BIN p) && u.get (CZ_LANE_CFG_MODE q) == m)

/-- Channeliser: does the register at `a` take part in a combination of Table 5.6? -/
def czOffends (u : State) (a : Nat) : Bool :=
  let o := a % 0x10000
  let ofs := (u.getS CZ_NARROW_OFS).natAbs
  if o = 0 then (List.range 16).any (laneOffendsPath u)
  else if o = 0x08 then
    decide (ofs < 3000) || decide (29000 < ofs) ||
      (u.on CZ_CTL_PATH && !u.on CZ_NARROW_BW &&
        (List.range 16).any fun p => u.on (CZ_LANE_CFG_EN p) && u.get (CZ_LANE_CFG_MODE p) == 12)
  else if 0x100 ≤ o ∧ o < 0x1100 then
    let p := (o - 0x100) / 0x100
    let q := o % 0x100
    (decide (q < 8) && (laneOffendsPath u p || (u.on (CZ_LANE_CFG_EN p) && (laneBad u p || u.laneState p == lnFailed)))) ||
      (q == 0 && u.get (CZ_LANE_CFG_DIV p) == 3) || (q == 4 && u.get (CZ_LANE_DCFG_DSPAN p) == 3)
  else false

/-- Duty-cycle accountant: does the register at `a` take part in a forbidden combination of its record (R265)? -/
def dcOffends (u : State) (a : Nat) : Bool :=
  let o := a % 0x10000
  if o < 0x100 ∨ 0x10 ≤ o % 0x20 then false
  else
    let n := (o - 0x100) / 0x20
    let q := o % 0x20
    let lo := u.get (DC_REC_LOW_LOW n)
    let hi := u.get (DC_REC_HIGH_HIGH n)
    let lim := u.get (DC_REC_CFG_LIMIT n)
    let win := u.get (DC_REC_PER_WINDOW n)
    let sp := u.get (DC_REC_PER_SPACING n)
    let dw := recDwell u n
    let cfg := q == 0
    let low := q == 4
    let high := q == 8
    let per := q == 0xC
    u.on (DC_REC_CFG_EN n) &&
      ((decide (lo < 4051000) && (low || cfg)) || (decide (9599000 < hi) && (high || cfg)) ||
       (decide (hi < lo) && (low || high || cfg)) || (win == 0 && (per || cfg)) || (lim == 0 && cfg) ||
       (if dw then (decide (win * 1000 < lim) && (per || cfg)) || (decide (sp < 250) && (per || cfg)) ||
          (decide (256 < (hi - lo) / sp + 1) && (low || high || per || cfg))
        else decide (100000 < lim) && cfg))

/-- Forwarding engine and frame store: does the register at `a` hold, or take part in, what R301 and R338 forbid? -/
def fwOffends (s u : State) (a : Nat) : Bool :=
  let o := a % 0x10000
  let total := ((List.range 4).map fun k => u.get (FW_CLS_LIM_RES k)).foldl (· + ·) 0 + u.get FW_ADM0_SHMAX
    + u.get FW_ADM0_RXMIN
  if 0x100 ≤ o ∧ o < 0x150 ∧ o % 0x10 < 8 then
    ringSpoiled s u ((o - 0x100) / 0x10)
  else if a = A_FW_ADM0 then decide (4096 < total) || decide (u.get FW_ADM0_RXMIN < 16)
  else if 0x40090420 ≤ a ∧ a < 0x40090430 then decide (4096 < total)
  else if a = A_FW_ADM1 then u.get FW_ADM1_INCAP == 0 || u.get FW_ADM1_QCAP == 0
  else false

/-- Neighbour table: a 129th child counts every W0 written (R284, R85); a valid entry with TXLVL 0 counts its W0 and
W3 (R297). -/
def nbOffends (u : State) (a : Nat) : Bool :=
  let o := a % 0x10000
  if o < 0x8000 ∧ (o % 0x40 = 0 ∨ o % 0x40 = 0x0C) then
    (o % 0x40 == 0 && decide (128 < childCount u)) || (u.on (NB_W0_VALID (o / 0x40)) && u.get (NB_W3_TXLVL (o / 0x40)) == 0)
  else false

/-- Watchdogs: does the register at `a` take part in what R531 forbids? -/
def wdOffends (u : State) (a : Nat) : Bool :=
  match wdOf (a % 0x10000) with
  | some w =>
    let t := u.get (WD_CFG_TIMEOUT (wdReg w))
    let cmp := decide (t ≤ u.get (WD_WIN_WINDOW (wdReg w))) || decide (t ≤ u.get (WD_WIN_WARN (wdReg w)))
    if a % 0x20 = 0 then decide (t < 4) || cmp else a % 0x20 == 4 && cmp
  | none => false

/-- Does the register at `a` hold, or take part in, a value that its block forbids, in the state `u` that a group's entries
make of `s` (R85)? -/
def offends (s u : State) (a : Nat) : Bool :=
  match windowOf a with
  | 0 => pmBad u u a
  | 3 => evOffends u a
  | 5 => feBad u u a
  | 6 => czOffends u a
  | 7 => a == A_LS_ACK_POL && lsBad u u a || (a != A_LS_SNF_NEXT_LO && a != A_LS_SNF_NEXT_HI && rdvBad u u a)
  | 8 => nbOffends u a
  | 9 => fwOffends s u a
  | 10 => dcOffends u a
  | 14 => spBadValue u u a
  | 15 => spBadValue u u a
  | 16 => a % 0x100 != 0x10 && tmBad u u a ||
      (a % 0x100 == 0x10 && decide (0x100 ≤ a % 0x10000) &&
        decide (u.get (TM_TOP_TOP (tmOf (a % 0x10000))) < u.get (TM_COUNT_COUNT (tmOf (a % 0x10000)))))
  | 17 => gpBad u u a
  | 19 => wdOffends u a
  | 21 => cxBad u u a
  | 22 => a == A_VR_CFG && decide (u.get VR_CFG_HALF < 20)
  | _ => false

/-- Is the write of entry `e` forbidden in the state `s` that the earlier entries leave, `u` being the state after it:
what R181, R223, R312, R342, R343, R512 and R517 forbid of a write and not of a value? -/
def stepForbidden (s u : State) (e : StageEntry) : Bool :=
  let a := e.addr
  let o := a % 0x10000
  match windowOf a with
  | 7 => ((threadReg o).isSome && lsBad s s a) || ((a == A_LS_SNF_NEXT_LO || a == A_LS_SNF_NEXT_HI) && s.get LS_SNF_INT_INT != 0)
  | 9 => decide (0x100 ≤ o) && decide (o < 0x150) && decide (o % 0x10 < 8) && ringTouched s u ((o - 0x100) / 0x10) a
  | 11 =>
    if o < 0x400 then false
    else if o % 0x40 = 0 then ceBad s (fieldWrite s a (stageWord s e)).1 a
    else e.mask != BitVec.allOnes 32
  | 14 => spBad s u a
  | 15 => spBad s u a
  | 16 => decide (0x100 ≤ o) && o % 0x100 == 0x10 && s.on (TM_STAT_RUN (tmOf o))
  | _ => false

/-- The group as a bus master. -/
def groupAcc (s : State) (g : Nat) : Acc :=
  { kind := .commit, core := s.get (AC_G_STAT_OWNER g), ns := !s.on (AC_G_STAT_ATTR g) }

/-- The entries of group `g` applied in push order (R78), with the entries whose write was forbidden. A reset that an entry
commands ends the group with its state (R101). -/
def applyEntries (acc : Acc) (s : State) (g : Nat) (es : List (StageEntry × Nat)) : State × List Nat :=
  es.foldl (fun r e =>
    if r.1.groupState g ≠ agArmed then r
    else
      let t := (blockWrite acc r.1 (windowOf e.1.addr) e.1.addr (stageWord r.1 e.1)).1
      (t, if stepForbidden r.1 t e.1 then r.2 ++ [e.2] else r.2)) (s, [])

/-! ### The commit point (R88 to R93) -/

/-- May the token of group `g` pass now: it is ready, and so is no token of a lower-numbered group (R91)? -/
def tokenPasses (s : State) (g : Nat) : Bool :=
  tokenReady s g && !((List.range g).any fun k => tokenReady s k)

/-- The token of group `g` passes: CPT records TB_NOW (R88). -/
def tokenPass (s : State) (g : Nat) : State :=
  ({ s with tb := { s.tb with timedAt := if (s.group g).timed then some s.now else s.tb.timedAt } } : State).set64
    (AC_G_CPT_LO_CPT g) (AC_G_CPT_HI_CPT g) s.now

/-- The group enters DONE: the lateness (R90), its interrupt bit. R90 gives AC_Gn_LATE its value at a late commit only: at one on
time, and at OPEN and RELEASE, it keeps what it holds (DESIGN CHOICE, log entry 63). -/
def groupDone (s : State) (g : Nat) : State :=
  let late := if (s.group g).timed then
      s.counter (s.on (AC_G_STAT_SEL g)) - s.get64 (AC_G_TGT_LO_TGT g) (AC_G_TGT_HI_TGT g)
    else 0
  let t := groupEnter s g agDone
  let t := if late = 0 then t else (t.set (AC_G_STAT_LATE g) 1).set (AC_G_LATE_LATE g) (min late 0xFFFFFFFF)
  t.raiseBit AC_INT_STAT_DONE g

/-- The state that the entries of a commit point meet: its tick's events `batch` have switched groups, and the configuration before
it is kept for the events of the tick that are yet to come (R456, R460). -/
def commitBase (s : State) (batch : List Nat) : State :=
  { switchGroups (evView s) { s with emitted := [] } batch with evWas := some (s.evWas.getD (evRegs s)) }

/-- The commit point of group `g` (R88): after the VALUE check every entry takes effect, or the group fails; either way CPT is
recorded and the commit event is emitted (R92). The events of this tick, the group's own among them, are routed by the
configuration before it (R460), and a capture among them falls under the mode before it (R523). -/
def commitPoint (s : State) (g : Nat) : State :=
  if !tokenPasses s g then s
  else
    let acc := groupAcc s g
    let s := tokenPass s g
    let es := (s.group g).entries.zipIdx
    let trial := applyEntries acc s g es
    let wrong := es.filter fun e => trial.2.contains e.2 || offends s trial.1 e.1.addr
    match wrong.getLast? with
    | some e => (groupFail s g arValue (some e.2)).emit (8 + g)
    | none =>
      let batch := (s.emit (8 + g)).emitted
      let plan := routePlan (evView s) batch
      let r := applyEntries acc (commitBase s batch) g es
      if r.1.groupState g ≠ agArmed then r.1
      else
        let t := groupDone r.1 g
        let t := deliverAll { t with tm := { t.tm with pairedWas := some (s.on TM_CTL_PAIRED) } } plan
        startsInOrder s { t with tm := { t.tm with pairedWas := none } }

end Sys2Proof.Machine
end

