-- ==== Sys2Proof/Machine/Boot.lean ====
section
/-! DEFINITION. Machine/Boot.lean: the boot sequencer and the Dolkaro image (R391 to R416). -/

namespace Sys2Proof.Machine

/-! ### Sources (R392, R393) -/

/-- How SP0 works as it reads the external source: master, the clock levels at rest and at sampling, the bits of a word, the select
code and the half-period (R392, R494). -/
structure ExtPort where
  mode : Nat
  cpol : Bool
  cpha : Bool
  bits : Nat
  sel : Nat
  half : Nat
  deriving DecidableEq, Repr

/-- BOOTCFG.EXT_DIV (Table 13.1). -/
def extDiv (s : State) : Nat := bitsOf (s.reg A_BT_BOOTCFG) 4 4

def extPort (s : State) : ExtPort := { mode := 0, cpol := false, cpha := false, bits := 8, sel := 0, half := 2 * (16 - extDiv s) }

/-- The command that reads the external source from address `i` on (R392). -/
def extCommand (i : Nat) : List Byte := [0x03, BitVec.ofNat 8 (i / 0x10000), BitVec.ofNat 8 (i / 0x100), BitVec.ofNat 8 i]

/-- What the external device clocks out first after a command: its octet at the address sent. -/
def extAnswer (e : BootEnv) (cmd : List Byte) : Byte :=
  match cmd with
  | [_, x, y, z] => e.ext.getD (x.toNat * 0x10000 + y.toNat * 0x100 + z.toNat) 0
  | _ => 0

/-- SP0 turns to the external source: its select code, and the lowest slew setting that covers its clock (R392, R587, Table 21.6). -/
def extBegin (s : State) : State :=
  let p := extPort s
  (s.updPort 0 fun q => { q with selPins := p.sel }).set GP_SLEW_SP0
    (if 20 ≤ p.half then 0 else if 8 ≤ p.half then 1 else if 4 ≤ p.half then 2 else 3)

/-- GP_SLEW.SP0 gets its reset value back (R587). -/
def extEnd (s : State) : State := s.set GP_SLEW_SP0 1

/-- Octet `i` of source `src`: 0 bank A, 1 bank B, 2 external. -/
def srcByte (e : BootEnv) (s : State) (src i : Nat) : Byte :=
  if src = 2 then extAnswer e (extCommand i) else s.byte (src * 0x200000 + i)

def srcBytes (e : BootEnv) (s : State) (src i n : Nat) : List Byte := (List.range n).map fun k => srcByte e s src (i + k)
def srcNat (e : BootEnv) (s : State) (src i n : Nat) : Nat := leNat (srcBytes e s src i n)

/-- Does a read of `n` octets from offset `i` meet an error (R392, R396)? -/
def srcError (e : BootEnv) (src i n : Nat) : Bool :=
  let base := if src = 2 then 0x1000000 else src * 0x200000
  (src == 2 && decide (e.ext.length < i + n)) || e.bad.any fun b => decide (base + i ≤ b) && decide (b < base + i + n)

/-- What the flash controller keeps of a read of `n` octets by the sequencer, which stops at the first error it meets (R468; log entry 65). -/
def bootRead (e : BootEnv) (s : State) (src i n : Nat) : State :=
  if src = 2 then s
  else
    let a := src * 0x200000 + i
    let met := fun l : List Nat => (l.filter fun b => decide (a ≤ b) && decide (b < a + n)).min?
    match met e.bad with
    | some b => flashEccKept s b true
    | none => (e.soft.filter fun b => decide (a ≤ b) && decide (b < a + n)).foldl (fun t b => flashEccKept t b false) s

/-- The reads are made in turn, up to the first that meets an error. -/
def bootReads (e : BootEnv) (src : Nat) : State → List (Nat × Nat) → State
  | s, [] => s
  | s, r :: rs => let t := bootRead e s src r.1 r.2; if srcError e src r.1 r.2 then t else bootReads e src t rs

/-! ### The image (R393 to R395) -/

/-- A manifest entry (R394). -/
structure Section where
  kind : Nat
  flags : Nat
  zero : Nat
  off : Nat
  len : Nat
  dest : Nat
  hash : List Byte
  deriving DecidableEq, Repr

def sectionAt (e : BootEnv) (s : State) (src k : Nat) : Section :=
  let o := 0x1000 + 48 * k
  { kind := srcNat e s src o 1, flags := srcNat e s src (o + 1) 1, zero := srcNat e s src (o + 2) 2
    off := srcNat e s src (o + 4) 4, len := srcNat e s src (o + 8) 4, dest := srcNat e s src (o + 12) 4
    hash := srcBytes e s src (o + 16) 32 }

/-- NSEC, IMG_LEN and DSTART of a source. -/
def imgSections (e : BootEnv) (s : State) (src : Nat) : Nat := srcNat e s src 0x1A 2
def imgLen (e : BootEnv) (s : State) (src : Nat) : Nat := srcNat e s src 8 4
def imgStart (e : BootEnv) (s : State) (src : Nat) : Nat := srcNat e s src 0x19 1

/-- The manifest. -/
def manifest (e : BootEnv) (s : State) (src : Nat) : List Section :=
  (List.range (min 32 (imgSections e s src))).map (sectionAt e s src)

/-- The manifest hash H (R395). -/
def imageHash (e : BootEnv) (s : State) (src : Nat) : List Byte :=
  sha3 (srcBytes e s src 0 128 ++ srcBytes e s src 0x80 1312 ++ srcBytes e s src 0x1000 (48 * min 32 (imgSections e s src)))

/-- Does the header break Table 13.3? -/
def badHeader (e : BootEnv) (s : State) (src : Nat) : Bool :=
  let n := srcNat e s src
  let len := imgLen e s src
  n 0 4 != 0x524B4C44 || n 4 1 != 1 || decide (2 < n 5 1) || decide (3 < n 6 2) || decide (len < 0x2000) ||
    decide ((if src = 2 then 0x1000000 else 0x1F0000) < len) || decide (3 < n 0x18 1) ||
    decide (imgStart e s src < (len + 65535) / 65536) || decide (31 < imgStart e s src) || imgSections e s src == 0 ||
    decide (32 < imgSections e s src) || n 0x1C 4 != 0 || n 0x40 64 != 0 ||
    (List.range 4).any (fun k => n (0x20 + 8 * k) 4 % 4 != 0 || decide (3 < n (0x24 + 8 * k) 4)) || n 0x24 4 != 1 ||
    (manifest e s src).any fun m => decide (len < m.off + m.len)

/-- Is section `m` a CODE section that is copied? -/
def copied (m : Section) : Bool := m.kind == 4 && m.flags % 2 == 1

/-- Does a section alone break R394 or Table 13.4? -/
def badSection (src : Nat) (m : Section) : Bool :=
  m.kind == 0 || decide (6 < m.kind) || decide (1 < m.flags) || m.zero != 0 || m.off % 16 != 0 || decide (m.off < 0x2000) ||
    (match m.kind with
     | 1 => m.len % 12 != 0 || m.dest != 0
     | 2 => m.len % 12 != 0 || m.dest != 0
     | 3 => m.len % 4 != 0 || decide (8192 < m.dest + m.len / 4)
     | 4 =>
       if copied m then m.dest % 4 != 0 || !inSram m.dest m.len
       else src == 2 || m.dest != src * 0x200000 + m.off
     | 5 => m.dest % 4 != 0 || m.len % 4 != 0 ||
         !(decide (m.dest + m.len ≤ 0x8000) || (decide (0x8000 ≤ m.dest) && decide (m.dest + m.len ≤ 0xC000)))
     | _ => false)

/-- Does the manifest break R394? -/
def badManifest (e : BootEnv) (s : State) (src : Nat) : Bool :=
  let ms := (manifest e s src).zipIdx
  ms.any (fun m => badSection src m.1) || decide (1 < (ms.filter fun m => m.1.kind == 6).length) ||
    ms.any fun a => ms.any fun b => decide (a.2 < b.2) &&
      (overlap a.1.off a.1.len b.1.off b.1.len ||
        (copied a.1 && copied b.1 && overlap a.1.dest a.1.len b.1.dest b.1.len))

/-! ### Status blocks (R399, R400) -/

/-- Codes of BT_BANK (R416). -/
abbrev bkBooted : Nat := 1
abbrev bkConfirmed : Nat := 2
abbrev bkPending : Nat := 3
abbrev bkTried : Nat := 4
abbrev bkUnarmed : Nat := 5
abbrev bkEraseInc : Nat := 6
abbrev bkBadHdr : Nat := 7
abbrev bkOwnerKey : Nat := 8
abbrev bkRollback : Nat := 9
abbrev bkSig : Nat := 0xA
abbrev bkHash : Nat := 0xB
abbrev bkRead : Nat := 0xC
abbrev bkExcluded : Nat := 0xD

/-- Bank offset of page `p` of the status block. -/
def statusPage (p : Nat) : Nat := 0x1F0000 + 0x200 * p

/-- The record that page `p` would hold for the image of a bank. -/
def statusRecord (e : BootEnv) (s : State) (src p : Nat) : List Byte :=
  natLE 4 (0xD01CA001 + p) ++ srcBytes e s src 0x0C 4 ++ (imageHash e s src).take 8

def recordValid (e : BootEnv) (s : State) (src p : Nat) : Bool :=
  !srcError e src (statusPage p) 16 && srcBytes e s src (statusPage p) 16 == statusRecord e s src p

def pageErased (e : BootEnv) (s : State) (src p : Nat) : Bool :=
  !srcError e src (statusPage p) 512 && (srcBytes e s src (statusPage p) 512).all (· == 0xFF)

/-- Can the header, the owner key and the manifest of a bank be read? -/
def headReadable (e : BootEnv) (s : State) (src : Nat) : Bool :=
  !srcError e src 0 128 && !srcError e src 0x80 1312 && !srcError e src 0x1000 (48 * min 32 (imgSections e s src))

/-- The state of a bank (R400), as its BT_BANK code. -/
def bankState (e : BootEnv) (s : State) (src : Nat) : Nat :=
  if !headReadable e s src || !recordValid e s src 0 then bkUnarmed
  else if recordValid e s src 2 then bkConfirmed
  else if pageErased e s src 1 && pageErased e s src 2 then bkPending
  else if !pageErased e s src 1 then bkTried
  else bkUnarmed

/-- The BT_BANK field of a source. -/
def bankField (src : Nat) : Field := if src = 0 then BT_BANK_A else if src = 1 then BT_BANK_B else BT_BANK_EXT

/-- The candidates in order (R401). -/
def bootCandidates (e : BootEnv) (s : State) : List Nat :=
  let cfg := s.get BT_BOOTCFG_CFG
  let ext := bitOf cfg 0 && s.get BT_BANK_EXT != bkExcluded
  let seq := fun b => srcNat e s b 0x0C 4
  let two := fun st : Nat =>
    let l := [0, 1].filter fun b => s.get (bankField b) == st
    if l.length = 2 ∧ seq 0 < seq 1 then [1, 0] else l
  (if ext && bitOf cfg 1 then [2] else []) ++ two bkPending ++ two bkConfirmed ++ (if ext && !bitOf cfg 1 then [2] else [])

/-! ### Verification (R396, R397) -/

/-- Checks 1 to 6 of Table 13.5, and read errors: the first code, or 0. -/
def verifyHead (e : BootEnv) (s : State) (src : Nat) : Nat :=
  let inc := fun k => s.fl.flags.contains (src * 32 + k)
  if src < 2 ∧ ((inc 0 || inc 31) || (List.range (min 32 (imgStart e s src))).any inc) then bkEraseInc
  else if srcError e src 0 128 then bkRead
  else if srcError e src 0x1000 (48 * min 32 (imgSections e s src)) then bkRead
  else if badHeader e s src then bkBadHdr
  else if srcError e src 0x80 1312 then bkRead
  else
    let k := srcNat e s src 0x18 1
    if !okhProgrammed s k || otpDamaged s (otpOkh k) || sha3 (srcBytes e s src 0x80 1312) != s.bytes (otpOkh k) 32 then bkOwnerKey
    else if srcNat e s src 0x10 8 < s.get64 PQ_ARB_LO_ARB PQ_ARB_HI_ARB then bkRollback
    else if badManifest e s src then bkBadHdr
    else if srcError e src 0x5A0 2420 then bkRead
    else if !mldsaVerify (srcBytes e s src 0x80 1312) (imageHash e s src)
        (ascii ['S', 'V', '8', '8', '-', 'I', 'M', 'A', 'G', 'E']) (srcBytes e s src 0x5A0 2420) then bkSig
    else 0

/-- A section read in pass 1 is placed (R397). -/
def placeSection (s : State) (m : Section) (d : List Byte) : State :=
  if m.kind = 3 then setWords s (0x40078000 + 4 * m.dest) (m.len / 4) d
  else if copied m then s.setBytes m.dest d
  else s

/-- What the reads of checks 1 to 6 leave in the flash controller (R468). -/
def headReads (e : BootEnv) (s : State) (src : Nat) : State :=
  let v := verifyHead e s src
  if v = bkEraseInc then bootReads e src s [(0, 128)]
  else
    bootReads e src s ([(0, 128), (0x1000, 48 * min 32 (imgSections e s src))] ++ (if badHeader e s src then [] else [(0x80, 1312)]) ++
      (if v = 0 ∨ v = bkSig ∨ v = bkRead then [(0x5A0, 2420)] else []))

/-- Pass 1: sections are read in order, placed and hashed. -/
def passOne (e : BootEnv) (src : Nat) : State → List Section → Nat × State
  | s, [] => (0, s)
  | s, m :: ms =>
    let s := bootRead e s src m.off m.len
    if srcError e src m.off m.len then (bkRead, s)
    else
      let d := srcBytes e s src m.off m.len
      let s := placeSection s m d
      if sha3 d = m.hash then passOne e src s ms else (bkHash, s)

/-- System SRAM and the instruction memory are zeroed (R397). -/
def bootZero (s : State) : State :=
  { s with
    mem := s.mem.filter fun c => !(decide (0x20000000 ≤ c.1) && decide (c.1 < 0x20100000))
    regs := s.regs.filter fun r => !(decide (0x40078000 ≤ r.1) && decide (r.1 < 0x40080000)) }

/-- The TRIAL record is programmed (R402); a program that fails leaves its page marked and X. -/
def programTrial (e : BootEnv) (s : State) (src : Nat) : Bool × State :=
  let a := src * 0x200000 + statusPage 1
  let p := flPage a
  if s.fl.marks.any fun m => decide (m / 128 = p / 128) && decide (p ≤ m) then (false, s)
  else
    let s := { s with fl := { s.fl with marks := s.fl.marks ++ [p] } }
    if e.trialOk then (true, s.setBytes a (statusRecord e s src 1 ++ List.replicate 496 0xFF)) else (false, s.markX a 0x200)

/-- The candidates are tried until one passes: the source that boots, if any. -/
def tryCandidates (e : BootEnv) : State → List Nat → Option Nat × State
  | s, [] => (none, s)
  | s, c :: cs =>
    let v := verifyHead e s c
    let s := headReads e (if c = 2 then extBegin s else s) c
    let off := fun t : State => if c = 2 then extEnd t else t
    if v ≠ 0 then tryCandidates e ((off s).set (bankField c) v) cs
    else
      let r := passOne e c s (manifest e s c)
      if r.1 ≠ 0 then tryCandidates e ((bootZero (off r.2)).set (bankField c) r.1) cs
      else if c < 2 ∧ s.get (bankField c) = bkPending then
        let t := programTrial e r.2 c
        if t.1 then (some c, (t.2.set BT_STATUS_TRIAL 1).set (bankField c) bkBooted)
        else tryCandidates e ((bootZero t.2).set (bankField c) bkTried) cs
      else (some c, r.2.set (bankField c) bkBooted)

/-! ### Applying the image (R406 to R409) -/

/-- The source fails (R409): the record survives in PM_BOOTREC, and a system reset follows. -/
def bootFail (s : State) (code sect idx : Nat) : State :=
  systemReset (s.setReg A_PM_BOOTREC
    (w32 (2 ^ 31 + s.bt.src % 4 * 2 ^ 29 + code % 16 * 2 ^ 25 + sect % 32 * 2 ^ 20 + idx % 2 ^ 18))) 7 0

/-- Is the address of a record permitted (R407)? -/
def recordAddr (evt : Bool) (a : Nat) : Bool :=
  if evt then decide (0x40030000 ≤ a) && decide (a < 0x40040000) && stageable a
  else stageable a || (decide (0x40040000 ≤ a) && decide (a < 0x40050000))

/-- One record of a REGS or EVT section: `none` where it fails with BADREC (R407, R410). -/
def applyRecord (s : State) (evt : Bool) (addr value mask : Word) : Option State :=
  let a := addr.toNat / 4 * 4
  if !recordAddr evt a then none
  else
    let w := (s.reg a &&& ~~~ mask) ||| (value &&& mask)
    if blockBad s (fieldWrite s a w).1 (windowOf a) a then none
    else
      let t := (blockWrite bootAcc s (windowOf a) a w).1
      some (if bitOf addr.toNat 0 then { t with openRegs := t.openRegs ++ [a] } else t)

/-- The records of a section from index `i`: the state, or the index of the record that failed. -/
def applyRecords (evt : Bool) : State → Nat → List (Word × Word × Word) → State × Option Nat
  | s, _, [] => (s, none)
  | s, i, r :: rs =>
    match applyRecord s evt r.1 r.2.1 r.2.2 with
    | some t => applyRecords evt t (i + 1) rs
    | none => (s, some i)

/-- The records of a section. -/
def sectionRecords (e : BootEnv) (s : State) (src : Nat) (m : Section) : List (Word × Word × Word) :=
  (List.range (m.len / 12)).map fun k =>
    let w := fun j => w32 (srcNat e s src (m.off + 12 * k + 4 * j) 4)
    (w 0, w 1, w 2)

/-- The bits that exist in the word at NB offset `o` (Table 9.1, R286). -/
def tableBits (s : State) (o : Nat) : Word :=
  if 0x8000 ≤ o then
    if o = 0x8000 ∨ o = 0xBFFC then 0 else if s.profile = 2 then 0xFFFE1FFF else 0xFFFC1FFF
  else
    match o % 0x40 / 4 with
    | 0 => 0xFC000FFF
    | 3 => 0xFFBFFFFF
    | 5 => 0xFF81FFFF
    | 13 => 0xFFFFFFFE
    | _ => 0xFFFFFFFF

/-- A TABLES section is written (R408). -/
def applyTable (e : BootEnv) (s : State) (src : Nat) (m : Section) : State :=
  (List.range (m.len / 4)).foldl (fun t k =>
    let o := m.dest + 4 * k
    t.setReg (0x40080000 + o) (w32 (srcNat e s src (m.off + 4 * k) 4) &&& tableBits s o)) s

/-- The first neighbour entry that fails the TXLVL test or is a 129th child (R284, R297, R408). -/
def tableFailure (s : State) : Option Nat :=
  (List.range 512).find? fun i =>
    s.on (NB_W0_VALID i) &&
      (s.get (NB_W3_TXLVL i) == 0 ||
        (s.on (NB_W0_CHILD i) &&
          decide (128 ≤ ((List.range i).filter fun j => s.on (NB_W0_VALID j) && s.on (NB_W0_CHILD j)).length)))

/-- The TABLES section that holds the W0 of entry `i`, and the word's index in it. -/
def tableWordOf (ms : List (Section × Nat)) (i : Nat) : Nat × Nat :=
  match ms.reverse.find? fun m =>
      m.1.kind == 5 && decide (m.1.dest ≤ 0x40 * i) && decide (0x40 * i < m.1.dest + m.1.len) with
  | some m => (m.2, (0x40 * i - m.1.dest) / 4)
  | none => (0, 0)

/-- How applying the image goes: on, or failed with code, section and record. -/
abbrev Applied := State × Option (Nat × Nat × Nat)

/-- The second read of the sections that are applied, in manifest order: the index of the first whose hash differs, and what the reads
leave in the flash controller (R406, R468). -/
def secondRead (e : BootEnv) (src : Nat) : State → List (Section × Nat) → Option Nat × State
  | s, [] => (none, s)
  | s, m :: ms =>
    if !([1, 2, 5].contains m.1.kind) then secondRead e src s ms
    else
      let s := bootRead e s src m.1.off m.1.len
      if e.second.contains m.2 then (some m.2, s) else secondRead e src s ms

/-- The REGS (`kind` 1), EVT (2) or TABLES (5) sections are applied (R406). -/
def applyKind (e : BootEnv) (src kind : Nat) (ms : List (Section × Nat)) (r : Applied) : Applied :=
  (ms.filter fun m => m.1.kind == kind).foldl (fun r m =>
    if r.2.isSome then r
    else if kind = 5 then (applyTable e r.1 src m.1, none)
    else
      let t := applyRecords (kind == 2) r.1 0 (sectionRecords e r.1 src m.1)
      (t.1, t.2.map fun i => (0xE, m.2, i))) r

/-- The data blocks are repaired (R405). -/
def repairBlocks (s : State) : State :=
  if bitOf (hdrNat s 6 2) 1 then s
  else
    (List.range 64).foldl (fun t b =>
      if t.fl.flags.contains b ∧ hdrNat t 0x19 1 ≤ b % 32 ∧ b % 32 ≤ 30 then
        let t := t.clearX (b * 0x10000) 0x10000
        let t := { t with
          mem := t.mem.filter fun c => !(decide (b * 0x10000 ≤ c.1) && decide (c.1 < (b + 1) * 0x10000))
          fl := { t.fl with marks := t.fl.marks.filter (fun m => m / 128 != b), flags := t.fl.flags.filter (· != b) } }
        (t.set (if b < 32 then BT_EREP_A_BLK.bit b else BT_EREP_B_BLK.bit (b - 32)) 1).set BT_STATUS_REPAIRED 1
      else t) s

/-- The profile of the chosen image, its enable bits and, for the Root profile, MASTER (R33, R35, R36, R66). -/
def bootProfile (s : State) : State :=
  let p := hdrNat s 5 1
  let on := b2n (p != 0)
  let s := ((({ s with profile := p } : State).set CZ_BSC_CTL_EN on).set LS_BCN_CFG_PCHOICE on).set DC_CTL_PACE on
  let s := { s with cz := { s.cz with decideNext := s.now + s.get CZ_BSC_CTL_PERIOD * 3200000000 } }
  let s := s.set TB_DISC_STAT_MASTER (b2n (p == 2))
  let s := if p = 2 then { s with tb := { s.tb with dtime := s.tb.now, stepPend := none, slewRem := 0 } } else s
  s.setReg A_FW_CTL (s.reg A_FW_CTL &&& ~~~ absentBits s A_FW_CTL)

/-- The chosen source is recorded. -/
def bootChosen (e : BootEnv) (s : State) (src : Nat) : State :=
  let hdr := srcBytes e s src 0 128
  let hash := imageHash e s src
  let cert := (manifest e s src).find? fun m => m.kind == 6
  let base := if src = 2 then 0 else src * 0x200000
  let s := { s with bt := { s.bt with src := src, hdr := hdr, hash := hash } }
  let s := ((s.set BT_STATUS_SRC src).set BT_IMG_SEQ (hdrNat s 0x0C 4)).set BT_IMGINFO_DSTART (hdrNat s 0x19 1)
  let s := (s.set BT_IMGINFO_NOREPAIR (hdrNat s 6 2 / 2)).set BT_IMGINFO_IVFLAG (hdrNat s 6 2)
  match cert with
  | some m => (s.set BT_CERT_ADDR_ADDR (base + m.off)).set BT_CERT_LEN_LEN m.len
  | none => s

/-- From the choice of a source on (R413). -/
def bootApply (e : BootEnv) (s : State) (src : Nat) : State :=
  let s := bootProfile (bootChosen e s src)
  let ms := (manifest e s src).zipIdx
  let d := secondRead e src s ms
  let r := match d.1 with
    | some i => (d.2, some (0xB, i, 0))
    | none => applyKind e src 5 ms (applyKind e src 2 ms (applyKind e src 1 ms (if src = 2 then extEnd d.2 else d.2, none)))
  match r.2 with
  | some (code, sect, idx) => bootFail r.1 code sect idx
  | none =>
    match tableFailure r.1 with
    | some i => let w := tableWordOf ms i; bootFail r.1 0xE w.1 w.2
    | none =>
      let s := repairBlocks r.1
      if bitOf (hdrNat s 6 2) 0 then ivoryEnter s ivFlag else bootRelease (bootIdentity s)

/-- From candidate selection on. -/
def bootSelect (e : BootEnv) (s : State) : State :=
  match tryCandidates e s (bootCandidates e s) with
  | (some c, t) => bootApply e t c
  | (none, t) =>
    if bitOf (t.get BT_BOOTCFG_CFG) 3 then enterOff t
    else ivoryEnter (t.set BT_STATUS_RESULT 2) ivNoImage

/-! ### The sequence (R413, R414) -/

/-- OTP is loaded (R16, R376, R378): BOOTCFG, the EUI-64, the silicon trim, PK0 and the anti-rollback value; the record
of a failed boot is shown and its source left out once (R409). -/
def bootLoad (s : State) : State :=
  let s := s.set BT_BOOTCFG_CFG (leNat (s.bytes 0x1FFF0000 4))
  let s := s.set64 LS_EUI_LO_EUI LS_EUI_HI_EUI (leNat (s.bytes (otpCert + 12) 8))
  let s := (s.set TB_GD_TRIM_SILICON Config.gdTrim).set64 PQ_ARB_LO_ARB PQ_ARB_HI_ARB (arbValue s)
  let seed := s.bytes otpSeed 32
  let s := if allZero seed || sha3 (mldsaPk seed) != s.bytes (otpCert + 32) 32 then s
    else ({ s with pq := { s.pq with pk0 := some seed } } : State).set PQ_ID_STAT_DKEY 1
  let s := s.setReg A_BT_FAIL (s.reg A_PM_BOOTREC)
  s.set (PM_BOOTREC_REC.bit 31) 0

/-- What the reads of a bank's header, owner key, manifest and status block leave in the flash controller (R400, R468). -/
def bankReads (e : BootEnv) (s : State) (src : Nat) : State :=
  [0, 1, 2].foldl (fun t p => bootRead e t src (statusPage p) 512)
    (bootReads e src s [(0, 128), (0x80, 1312), (0x1000, 48 * min 32 (imgSections e s src))])

/-- Incomplete blocks and both banks' states (R404, R400); the source that failed is EXCLUDED (R409). -/
def bootScan (e : BootEnv) (s : State) : State :=
  let s := bankReads e (bankReads e s 0) 1
  let s := (s.set BT_EINC_A_BLK (flFlags s 0)).set BT_EINC_B_BLK (flFlags s 1)
  let s := (s.set BT_BANK_A (bankState e s 0)).set BT_BANK_B (bankState e s 1)
  if s.on BT_FAIL_VALID then s.set (bankField (s.get BT_FAIL_SRC)) bkExcluded else s

/-- Does an operation run in the flash (R404)? -/
def flashRuns (s : State) : Bool := s.fl.op.isSome && s.get FL_STAT_STATE != 1

/-- Ivory caused by TEST goes on at candidate selection once no flash operation runs: what the window wrote, status records among it, is
read then (R404, R414; log entry 65). -/
def bootResume (e : BootEnv) (s : State) : State :=
  if flashRuns s then s.set BT_STATUS_NVMWAIT 1 else bootSelect e (bootScan e (ivoryExit s e.cut))

/-- The boot sequencer runs after a reset (R413), once an internal buck that a reset starts has taken over (R556): it waits for a flash
operation; in Ivory caused by TEST it goes on once RELEASE has been written; once the reset calibration has ended the cores start. -/
def boot (e : BootEnv) (s : State) : State :=
  if !s.awake || !s.isLocked || s.pm.buckWait then s
  else if s.bt.stage = 0 then
    if flashRuns s then s.set BT_STATUS_NVMWAIT 1
    else
      let s := bootScan e (bootLoad s)
      let s := ({ s with pins := { s.pins with test := e.test } } : State).set BT_STATUS_TESTPIN (b2n e.test)
      if e.test && !bitOf (s.get BT_BOOTCFG_CFG) 2 then ivoryEnter s ivTest else bootSelect e s
  else if s.bt.stage = 1 then (if s.bt.relPend then bootResume e s else s)
  else bootRelease s

/-- RELEASE with what the sequencer meets when it goes on (R414). -/
def release (e : BootEnv) (s : State) : State :=
  if s.bt.stage ≠ 1 then s
  else if s.get BT_STATUS_IVCAUSE = ivTest then bootResume e { s with bt := { s.bt with relPend := true } }
  else releaseWrite s e.cut

end Sys2Proof.Machine
end

