-- ==== Sys2Proof/Machine/ProgramBuffer.lean ====
section
/-! DEFINITION. Machine/ProgramBuffer.lean: the instructions that a halted core runs from progbuf0 and progbuf1 (R417, R446; RV32IMAC
with Zicsr of the RISC-V unprivileged specification, and the External Debug Support specification 0.13.2). -/

namespace Sys2Proof.Machine

/-- Register `r` of core `c`'s debug module as stored. -/
def dmReg (s : State) (c r : Nat) : Word := (assocGet (s.core c).dm r).getD (if r = dmHaveReset then 1 else 0)
def setDm (s : State) (c r : Nat) (v : Word) : State := s.updCore c fun k => { k with dm := assocPut k.dm r v }

/-- DMI addresses. -/
abbrev dmData0 : Nat := 0x04
abbrev dmStatus : Nat := 0x11
abbrev dmAbstractCs : Nat := 0x16
abbrev dmCommand : Nat := 0x17
abbrev dmProgbuf0 : Nat := 0x20
abbrev dmProgbuf1 : Nat := 0x21

/-- Does a CSR of this number exist (R417 to R422, R446; two triggers)? -/
def csrExists (n : Nat) : Bool :=
  [0x300, 0x301, 0x304, 0x305, 0x306, 0x320, 0x7A0, 0x7A1, 0x7A2, 0x7A4, 0x7B0, 0x7B1, 0x7C0, 0x7C1, 0xB00, 0xB02, 0xB80,
    0xB82, 0xC00, 0xC01, 0xC02, 0xC80, 0xC81, 0xC82, 0xF11, 0xF12, 0xF13, 0xF14, 0xFC0].contains n ||
    (decide (0x323 ≤ n) && decide (n < 0x345) && n != 0x345) || (decide (0x3A0 ≤ n) && decide (n < 0x3A4)) ||
    (decide (0x3B0 ≤ n) && decide (n < 0x3C0)) || (decide (0xB03 ≤ n) && decide (n < 0xB20)) ||
    (decide (0xB83 ≤ n) && decide (n < 0xBA0)) || (decide (0xC03 ≤ n) && decide (n < 0xC20)) ||
    (decide (0xC83 ≤ n) && decide (n < 0xCA0))

/-- General register `r` of core `c`. -/
def gprGet (s : State) (c r : Nat) : Word := if r = 0 then 0 else (assocGet (s.core c).gpr r).getD 0
def gprSet (s : State) (c r : Nat) (v : Word) : State :=
  if r = 0 then s else s.updCore c fun k => { k with gpr := assocPut k.gpr r v }

/-- A read of time takes the upper half for timeh (R420). -/
def timeTaken (s : State) (c n : Nat) : State := if n = 0xC01 then s.setCsr c 0xC81 (w32 (s.now / 2 ^ 32)) else s

/-- How an instruction of the buffer ends: the machine goes on, or the buffer ends with a cmderr: 3 an exception, 5 an access that
does not complete. -/
inductive PbEnd where
  | next (s : State)
  | stop (err : Nat) (s : State)

/-- The buffer ends with an exception. -/
abbrev pbFault (s : State) : PbEnd := .stop 3 s

/-! ### Compressed instructions (RV32C) -/

/-- Encodings of the formats that compressed instructions stand for. -/
def encI (imm rs1 f3 rd op : Nat) : Word := w32 (imm % 4096 * 2 ^ 20 + rs1 * 2 ^ 15 + f3 * 2 ^ 12 + rd * 2 ^ 7 + op)
def encR (f7 rs2 rs1 f3 rd : Nat) : Word := w32 (f7 * 2 ^ 25 + rs2 * 2 ^ 20 + rs1 * 2 ^ 15 + f3 * 2 ^ 12 + rd * 2 ^ 7 + 0x33)
def encS (imm rs2 rs1 : Nat) : Word :=
  w32 (imm / 32 * 2 ^ 25 + rs2 * 2 ^ 20 + rs1 * 2 ^ 15 + 2 * 2 ^ 12 + imm % 32 * 2 ^ 7 + 0x23)

/-- The word 0x00100073, EBREAK. -/
abbrev ebreakWord : Word := 0x00100073

/-- The instruction that a compressed one of quadrant 0 stands for. Control transfers act as illegal (log entry 28). -/
def expand0 (h : Nat) : Option Word :=
  let b := fun lo n : Nat => h / 2 ^ lo % 2 ^ n
  let rd := 8 + b 2 3
  let rs := 8 + b 7 3
  let off := b 10 3 * 8 + b 6 1 * 4 + b 5 1 * 64
  let sp := b 11 2 * 16 + b 7 4 * 64 + b 6 1 * 4 + b 5 1 * 8
  match b 13 3 with
  | 0 => if sp = 0 then none else some (encI sp 2 0 rd 0x13)
  | 2 => some (encI off rs 2 rd 0x03)
  | 6 => some (encS off rd rs)
  | _ => none

/-- Of quadrant 1. -/
def expand1 (h : Nat) : Option Word :=
  let b := fun lo n : Nat => h / 2 ^ lo % 2 ^ n
  let rd := b 7 5
  let rc := 8 + b 7 3
  let imm := b 2 5 + b 12 1 * 0xFE0
  let sp := b 12 1 * 0xE00 + b 3 2 * 128 + b 5 1 * 64 + b 2 1 * 32 + b 6 1 * 16
  match b 13 3 with
  | 0 => some (encI imm rd 0 rd 0x13)
  | 2 => some (encI imm 0 0 rd 0x13)
  | 3 =>
    if rd = 2 then (if sp = 0 then none else some (encI sp 2 0 2 0x13))
    else if imm = 0 then none
    else some (w32 ((b 2 5 + b 12 1 * 0xFFFE0) * 2 ^ 12 + rd * 2 ^ 7 + 0x37))
  | 4 =>
    match b 10 2 with
    | 0 => if b 12 1 = 1 then none else some (encI (b 2 5) rc 5 rc 0x13)
    | 1 => if b 12 1 = 1 then none else some (encI (0x400 + b 2 5) rc 5 rc 0x13)
    | 2 => some (encI imm rc 7 rc 0x13)
    | _ =>
      let rs := 8 + b 2 3
      if b 12 1 = 1 then none
      else match b 5 2 with
        | 0 => some (encR 0x20 rs rc 0 rc)
        | 1 => some (encR 0 rs rc 4 rc)
        | 2 => some (encR 0 rs rc 6 rc)
        | _ => some (encR 0 rs rc 7 rc)
  | _ => none

/-- Of quadrant 2. -/
def expand2 (h : Nat) : Option Word :=
  let b := fun lo n : Nat => h / 2 ^ lo % 2 ^ n
  let rd := b 7 5
  let rs := b 2 5
  match b 13 3 with
  | 0 => if b 12 1 = 1 then none else some (encI rs rd 1 rd 0x13)
  | 2 => if rd = 0 then none else some (encI (b 12 1 * 32 + b 4 3 * 4 + b 2 2 * 64) 2 2 rd 0x03)
  | 4 =>
    if rs = 0 then (if b 12 1 = 1 ∧ rd = 0 then some ebreakWord else none)
    else some (encR 0 rs (if b 12 1 = 1 then rd else 0) 0 rd)
  | 6 => some (encS (b 9 4 * 4 + b 7 2 * 64) rs 2)
  | _ => none

/-- The instruction that the halfword `h` stands for. -/
def expandC (h : Nat) : Option Word :=
  match h % 4 with
  | 0 => expand0 h
  | 1 => expand1 h
  | _ => expand2 h

/-! ### Integer instructions -/

/-- The result of an OP or OP-IMM instruction of RV32I; `alt`: bit 30 of the instruction. -/
def aluI (f3 : Nat) (alt : Bool) (x y : Word) : Word :=
  match f3 with
  | 0 => if alt then x - y else x + y
  | 1 => x <<< (y.toNat % 32)
  | 2 => w32 (b2n (decide (x.toInt < y.toInt)))
  | 3 => w32 (b2n (decide (x.toNat < y.toNat)))
  | 4 => x ^^^ y
  | 5 => if alt then x.sshiftRight (y.toNat % 32) else x >>> (y.toNat % 32)
  | 6 => x ||| y
  | _ => x &&& y

/-- The result of an instruction of RV32M. -/
def aluM (f3 : Nat) (x y : Word) : Word :=
  match f3 with
  | 0 => x * y
  | 1 => w32 (unsigned 64 (x.toInt * y.toInt) / 2 ^ 32)
  | 2 => w32 (unsigned 64 (x.toInt * (y.toNat : Int)) / 2 ^ 32)
  | 3 => w32 (x.toNat * y.toNat / 2 ^ 32)
  | 4 => if y = 0 then BitVec.allOnes 32 else BitVec.ofInt 32 (Int.tdiv x.toInt y.toInt)
  | 5 => if y = 0 then BitVec.allOnes 32 else w32 (x.toNat / y.toNat)
  | 6 => if y = 0 then x else BitVec.ofInt 32 (Int.tmod x.toInt y.toInt)
  | _ => if y = 0 then x else w32 (x.toNat % y.toNat)

/-! ### Accesses -/

/-- The bus access of an instruction of the buffer: an exception writes no CSR in debug mode, and one that would wait does not
complete (DESIGN CHOICE, log entry 28). -/
def pbAccess (s : State) (a n : Nat) (t : State) (k : State → State) : PbEnd :=
  if memBusy s a n then .stop 5 s
  else if t.resp.err then pbFault { t with cores := s.cores, reservations := s.reservations }
  else .next (k t)

/-- A load of the form `f3`: LB, LH, LW, LBU, LHU. -/
def pbLoad (s : State) (c : Cpu) (f3 a rd : Nat) : PbEnd :=
  let size := f3 % 4
  if size = 3 ∨ f3 = 6 then pbFault s
  else
    let t := busRead (coreAcc s c) s size a 0
    let w := 8 * 2 ^ size
    pbAccess s a (2 ^ size) t fun u =>
      gprSet u c rd (if f3 < 4 then BitVec.ofInt 32 (signed w u.resp.data.toNat) else w32 (u.resp.data.toNat % 2 ^ w))

/-- A store of the form `f3`: SB, SH, SW. -/
def pbStore (s : State) (c : Cpu) (f3 a : Nat) (v : Word) : PbEnd :=
  if 2 < f3 then pbFault s else pbAccess s a (2 ^ f3) (busWrite (coreAcc s c) s f3 a v) id

/-- The AMO of RV32A that funct5 names. -/
def amoOf (f5 : Nat) : Option AmoOp :=
  match f5 with
  | 0x01 => some .swap
  | 0x00 => some .add
  | 0x04 => some .xor
  | 0x0C => some .and
  | 0x08 => some .or
  | 0x10 => some .min
  | 0x14 => some .max
  | 0x18 => some .minu
  | 0x1C => some .maxu
  | _ => none

/-- LR.W, SC.W and the AMOs. -/
def pbAtomic (s : State) (c : Cpu) (w : Word) (a rd : Nat) (v : Word) : PbEnd :=
  let f5 := bitsOf w 27 5
  let op : Option MemOp :=
    if f5 = 2 then (if bitsOf w 20 5 = 0 then some .reserve else none)
    else if f5 = 3 then some (.conditional v) else (amoOf f5).map fun o => .amo o v
  if bitsOf w 12 3 ≠ 2 then pbFault s
  else match op with
    | some o => pbAccess s a 4 (coreAtomic s c a o) fun u => gprSet u c rd u.resp.data
    | none => pbFault s

/-- CSRRW, CSRRS and CSRRC and their immediate forms; svclaim takes a read that writes nothing and a write that reads nothing
(R422). -/
def pbCsr (s : State) (c : Nat) (w : Word) (x : Word) : PbEnd :=
  let n := bitsOf w 20 12
  let rd := bitsOf w 7 5
  let f := bitsOf w 12 2
  let writes := f == 1 || bitsOf w 15 5 != 0
  if !csrExists n || (writes && decide (0xC00 ≤ n)) then pbFault s
  else if n = 0x7C1 then
    if f = 1 ∧ rd = 0 then .next (complete s c x)
    else if f ≠ 1 ∧ !writes then let t := claim s c; .next (gprSet t c rd t.resp.data)
    else pbFault s
  else
    let old := csrRead s c n
    let s := timeTaken s c n
    let new := if f = 1 then x else if f = 2 then old ||| x else old &&& ~~~ x
    .next (gprSet (if writes then csrWrite s c n new else s) c rd old)

/-! ### The buffer -/

/-- One instruction of 32 bits. Control transfers, AUIPC and what debug mode does not give act as illegal; FENCE and WFI have no
effect (log entry 28). -/
def pbInsn (s : State) (c : Cpu) (w : Word) : PbEnd :=
  let rd := bitsOf w 7 5
  let f3 := bitsOf w 12 3
  let x := gprGet s c (bitsOf w 15 5)
  let y := gprGet s c (bitsOf w 20 5)
  let imm : Word := BitVec.ofInt 32 (signed 12 (bitsOf w 20 12))
  let simm : Word := BitVec.ofInt 32 (signed 12 (bitsOf w 25 7 * 32 + rd))
  let f7 := bitsOf w 25 7
  match bitsOf w 0 7 with
  | 0x37 => .next (gprSet s c rd (w &&& 0xFFFFF000))
  | 0x13 =>
    if (f3 = 1 ∧ f7 ≠ 0) ∨ (f3 = 5 ∧ f7 ≠ 0 ∧ f7 ≠ 0x20) then pbFault s
    else .next (gprSet s c rd (aluI f3 (f3 == 5 && f7 == 0x20) x imm))
  | 0x33 =>
    if f7 = 1 then .next (gprSet s c rd (aluM f3 x y))
    else if f7 = 0 ∨ (f7 = 0x20 ∧ (f3 = 0 ∨ f3 = 5)) then .next (gprSet s c rd (aluI f3 (f7 == 0x20) x y))
    else pbFault s
  | 0x03 => pbLoad s c f3 (x + imm).toNat rd
  | 0x23 => pbStore s c f3 (x + simm).toNat y
  | 0x2F => pbAtomic s c w x.toNat rd y
  | 0x0F => if f3 ≤ 1 then .next s else pbFault s
  | 0x73 =>
    if f3 = 0 then (if w = 0x10500073 then .next s else pbFault s)
    else if f3 = 4 then pbFault s
    else pbCsr s c w (if f3 < 4 then x else w32 (bitsOf w 15 5))
  | _ => pbFault s

/-- The instruction at offset `pc` of the buffer's 64 bits, and its length; none where it is illegal. An EBREAK follows the second
word. -/
def pbFetch (buf pc : Nat) : Option (Word × Nat) :=
  let h := buf / 2 ^ (8 * pc) % 0x10000
  if 8 ≤ pc then some (ebreakWord, 4)
  else if h % 4 ≠ 3 then (expandC h).map fun w => (w, 2)
  else if pc = 6 then none
  else some (w32 (buf / 2 ^ (8 * pc)), 4)

/-- The buffer runs from `pc` to its EBREAK: its cmderr, and the state it leaves. It has four instructions at most. -/
def pbRun : Nat → State → Cpu → Nat → Nat → Nat × State
  | 0, s, _, _, _ => (0, s)
  | n + 1, s, c, buf, pc =>
    match pbFetch buf pc with
    | none => (3, s)
    | some (w, len) =>
      if w = ebreakWord then (0, s)
      else match pbInsn s c w with
        | .stop err t => (err, t)
        | .next t => pbRun n t c buf (pc + len)

/-- The program buffer of core `c` runs; what the port last got stays what it got. -/
def programBuffer (s : State) (c : Cpu) : Nat × State :=
  let r := pbRun 5 s c ((dmReg s c dmProgbuf0).toNat + 2 ^ 32 * (dmReg s c dmProgbuf1).toNat) 0
  (r.1, { r.2 with resp := s.resp })

end Sys2Proof.Machine
end

