-- ==== Sys2Proof/Machine/Debug.lean ====
section
/-! DEFINITION. Machine/Debug.lean: SP1's window commands (R507 to R511), the debug port and the debug modules (R443 to
R448). -/

namespace Sys2Proof.Machine

/-! ### The window (R507 to R511) -/

/-- The first word of a selection (R507, R508). -/
def windowCommand (s : State) (v : Word) : State :=
  if s.get (SP_STAT_STATE 1) ≠ spWindow ∨ (s.port 1).winCmd ∨ !spSupplied s 1 then s
  else
    let bad := !winValid v
    let s := s.updPort 1 fun p =>
      { p with winCmd := true, winBad := bad, winOver := false, winWrite := bitOf v.toNat 31, winInc := bitOf v.toNat 30
               winSpace := bitsOf v 26 4, winOff := bitsOf v 0 24 }
    if bad then s.raise (SP_INT_STAT_WIN_BERR 1) else s

/-- May a data word of the given direction be taken now? -/
def windowTakes (s : State) (write : Bool) : Bool :=
  s.get (SP_STAT_STATE 1) == spWindow && (s.port 1).winCmd && (s.port 1).winWrite == write && spSupplied s 1

/-- After an access the address advances, unless the boundary stands there (R507, R511). -/
def windowAdvance (s : State) : State :=
  s.updPort 1 fun p =>
    if !p.winInc then p
    else if p.winOff + 4 < winEnd p.winSpace p.winOff then { p with winOff := p.winOff + 4 }
    else { p with winOver := true }

/-- A word that makes no access: the command was invalid, or the boundary was reached (R508, R511). -/
def windowBlocked (s : State) : Option State :=
  if (s.port 1).winBad then some (s.respond 0)
  else if (s.port 1).winOver then some ((s.raise (SP_INT_STAT_WIN_OVRUN 1)).respond 0)
  else none

/-- The end of an access: an error response sets WIN_BERR and returns zero (R510). -/
def windowEnd (s : State) : State :=
  windowAdvance (if s.resp.err then (s.raise (SP_INT_STAT_WIN_BERR 1)).respond 0 else s)

/-- The word of a read goes out on DO, its last bit last (R492, R509). -/
def windowOut (s : State) : State :=
  s.updPort 1 fun p => { p with word := s.resp.data, dout := bitOf s.resp.data.toNat 0 }

/-- A read word. One clocked while RDY is low, because the access waits or (`early`) has only just begun, shifts FILL (R509). -/
def windowRead (s : State) (early : Bool) : State :=
  if !windowTakes s false then s
  else if early || windowWaits s then windowOut ((s.raise (SP_INT_STAT_TXUDF 1)).respond (s.reg (A_SP_FILL 1)))
  else
    windowOut (match windowBlocked s with
      | some t => t
      | none => windowEnd (busRead windowAcc s 2 (winAddr (s.port 1)) 0))

/-- A write word: its access waits for a scan of its unit. One that completes while RDY is low, because the last access waits or
(`early`) has only just begun, is discarded (R509, R567). -/
def windowWrite (s : State) (v : Word) (early : Bool) : State :=
  if !windowTakes s true then s
  else if early || windowWaits s then s.raise (SP_INT_STAT_RXOVF 1)
  else
    match windowBlocked s with
    | some t => t
    | none =>
      let a := winAddr (s.port 1)
      if sramWaits s a 4 then s.updPort 1 fun p => { p with winHeld := some (a, v) }
      else windowEnd (busWrite windowAcc s 2 a v)

/-- A write of the window that waited is made once its unit is open, and its selection goes on (R509). -/
def windowServe (s : State) : State :=
  match (s.port 1).winHeld with
  | some (a, v) =>
    if sramWaits s a 4 then s
    else
      let old := s.resp
      let t := busWrite windowAcc (s.updPort 1 fun p => { p with winHeld := none }) 2 a v
      let t := if windowTakes t true && winAddr (t.port 1) == a then windowEnd t else t
      { t with resp := old }
  | none => s

/-! ### Requests of the debug port (R443 to R448) -/

/-- Response codes (Table 14.11). -/
abbrev dbOk : Nat := 1
abbrev dbWait : Nat := 2
abbrev dbDenied : Nat := 3
abbrev dbBerr : Nat := 4
abbrev dbCrcErr : Nat := 5
abbrev dbBadOp : Nat := 6
abbrev dbOvrun : Nat := 7

/-- The access level in force (R448); LEVEL 0b11 acts as 0b00 (Table 14.8). -/
def dbgLevel (s : State) : Nat := if s.ivory then 2 else if s.get IC_DBG_CTL_LEVEL = 3 then 0 else s.get IC_DBG_CTL_LEVEL

/-- The debug port as a bus master (R448). -/
def debugAcc (s : State) : Acc := { kind := .debug, core := 0, ns := dbgLevel s == 1 }

/-- One bit of the CRC-8 with polynomial x^8 + x^2 + x + 1 (R443). -/
def crc8Step (c : Nat) (b : Bool) : Nat := if bitOf c 7 != b then c * 2 % 256 ^^^ 7 else c * 2 % 256

/-- The CRC-8 of the `n` bits of `w`, most significant first, from 0xFF (R443). -/
def crc8 (n w : Nat) : Nat := ((List.range n).reverse.map (bitOf w)).foldl crc8Step 0xFF

/-- The 44 bits of a response (Table 14.11). -/
def dbgFrame (status : Nat) (data : Word) : Nat :=
  let w := status * 2 ^ 32 + data.toNat
  w * 256 + crc8 36 w

/-- A response is sent, and the exchange is complete. -/
def dbgAnswer (s : State) (status : Nat) (data : Word) : State :=
  ({ s with dbg := { s.dbg with status := status, data := data, frame := dbgFrame status data, sentAt := s.now } } : State).set
    IC_DBG_CTL_ACTIVE 1

/-- The port drives nothing (R443, R444). -/
def dbgSilent (s : State) : State := { s with dbg := { s.dbg with status := 0, data := 0, frame := 0 } }

/-- Does the port look for a request: the device is not in Off, and the 8 rising edges that follow a bad SYNC have passed, at the
10 MHz that the host may use (R443, R444; log entry 28)? -/
def dbgLooks (s : State) : Bool := s.power != .off && !(s.awake && decide (s.now < s.dbg.quietTo))

/-- A request other than STATUS: denied in Sleep and at level 0, no answer in Off, WAIT while an access is under way
(R443, R445, R448). -/
def dbgGuard (s : State) (k : State → State) : State :=
  if !dbgLooks s then dbgSilent s
  else if s.asleep || dbgLevel s == 0 then dbgAnswer s dbDenied 0
  else if s.dbg.busy.isSome then dbgAnswer s dbWait 0
  else k s

/-- SETADDR (R445, R508). -/
def setaddr (s : State) (arg : Word) : State :=
  dbgGuard s fun s =>
    let ok := winValid (arg &&& 0x7FFFFFFF)
    let s := { s with dbg := { s.dbg with addr := bitsOf arg 0 24, space := bitsOf arg 26 4, inc := bitOf arg.toNat 30,
                                          bad := !ok, past := false } }
    if ok then dbgAnswer s dbOk arg else dbgAnswer s dbBerr 0

/-- The bus address of the port's window. -/
def dbgAddr (s : State) : Nat :=
  match winSpace s.dbg.space with
  | some (base, _) => base + s.dbg.addr
  | none => 0

/-- After an access the port's address advances, unless the boundary stands there (R445, R507, R511). -/
def dbgAdvance (d : DebugS) : DebugS :=
  if !d.inc then d
  else if d.addr + 4 < winEnd d.space d.addr then { d with addr := d.addr + 4 }
  else { d with past := true }

/-- One window access of the port: its outcome and the state after it (R445, R507, R510, R511). -/
def dbgAccess (s : State) (write : Bool) (v : Word) : (Nat × Word) × State :=
  if s.dbg.bad then ((dbBerr, 0), s)
  else if s.dbg.past then ((dbOvrun, 0), s)
  else
    let old := s.resp
    let t := if write then busWrite (debugAcc s) s 2 (dbgAddr s) v else busRead (debugAcc s) s 2 (dbgAddr s) 0
    let r := if t.resp.err then (dbBerr, 0) else (dbOk, if write then 0 else t.resp.data)
    (r, { t with dbg := dbgAdvance t.dbg, resp := old })

/-- Does the port's next access have to wait: a read for its flash bank, any for the scan of its unit (R469, R567)? -/
def dbgMustWait (s : State) (write : Bool) : Bool :=
  !s.dbg.bad && !s.dbg.past && (if write then sramWaits s (dbgAddr s) 4 else memBusy s (dbgAddr s) 4)

/-- READ and WRITE; `late`: the access has not completed when the response begins (R445). A read of a bank whose erase yields suspends
it (R481). -/
def dbgTransfer (s : State) (write : Bool) (v : Word) (late : Bool) : State :=
  dbgGuard s fun s =>
    let asks := !write && dbgMustWait s write && flBankBusy s (dbgAddr s) && regionOf (dbgAddr s) == .flash
    let s := if asks && flYields s then flSuspend s true else s
    if late || dbgMustWait s write then
      dbgAnswer { s with dbg := { s.dbg with busy := some (write, v) } } dbWait 0
    else
      let r := dbgAccess s write v
      dbgAnswer r.2 r.1.1 r.1.2

/-- An access answered WAIT completes (R445). -/
def debugAccessDone (s : State) : State :=
  match s.dbg.busy with
  | none => s
  | some (w, v) =>
    if dbgMustWait s w || !s.awake then s
    else
      let r := dbgAccess s w v
      { r.2 with dbg := { r.2.dbg with busy := none, result := r.1 } }

/-- RESULT (R445): the outcome of the last request answered WAIT; while its access goes on, WAIT. -/
def dbgResult (s : State) : State :=
  if !dbgLooks s then dbgSilent s
  else if s.asleep || dbgLevel s == 0 then dbgAnswer s dbDenied 0
  else if s.dbg.busy.isSome then dbgAnswer s dbWait 0
  else dbgAnswer s s.dbg.result.1 s.dbg.result.2

/-- STATUS (Table 14.12). -/
def dbgStatus (s : State) : State :=
  if !dbgLooks s then dbgSilent s
  else
    let secure := fourBits fun c => !s.on (IC_CPU_STAT_NS c)
    dbgAnswer s dbOk (w32 (s.get IC_DBG_CTL_HALTED * 2 ^ 28 + secure * 2 ^ 24 + b2n s.ivory * 8 + b2n s.asleep * 4 + dbgLevel s))

/-- The 48 bits of a request that is none of Table 14.12, SYNC and OP in `head`: with a bad SYNC it is not answered; where its CRC fails it is
answered CRCERR; where its OP is not listed, BADOP, and as R443, R445 and R448 answer any request (R444). -/
def debugBadRequest (s : State) (head rest : Nat) : State :=
  let op := head % 16
  if !dbgLooks s then dbgSilent s
  else if head / 16 ≠ 5 then
    let t := dbgSilent s
    { t with dbg := { t.dbg with quietTo := s.now + 160 } }
  else if crc8 40 (head * 2 ^ 32 + rest / 256) ≠ rest % 256 then dbgAnswer s dbCrcErr 0
  else if op = 0 ∨ 8 < op then dbgGuard s fun s => dbgAnswer s dbBadOp 0
  else s

/-- DMSEL (R445, R448). -/
def dmsel (s : State) (arg : Word) : State :=
  dbgGuard s fun s =>
    let c := bitsOf arg 8 2
    if dbgLevel s = 1 ∧ !s.on (IC_CPU_STAT_NS c) then dbgAnswer s dbDenied 0
    else dbgAnswer { s with dbg := { s.dbg with selCore := c, selReg := bitsOf arg 0 7 } } dbOk arg

/-! ### Debug modules (R446, R447; the RISC-V External Debug Support specification 0.13.2) -/

/-- dmstatus of core `c`. -/
def dmStatusWord (s : State) (c : Nat) : Word :=
  let st := s.coreState c
  let h := b2n (st == csDebug)
  let u := b2n (st == csHeld || st == csRestart)
  let r := 1 - h - u
  w32 (2 + 0x80 + h * 0x300 + r * 0xC00 + u * 0x3000 + (dmReg s c dmResumeAck).toNat * 0x30000
    + (dmReg s c dmHaveReset).toNat * 0xC0000 + 0x400000)

/-- DMREAD (R446): registers that the module does not have read zero. -/
def dmReadWord (s : State) (c r : Nat) : Word :=
  if r = dmData0 ∨ r = dmProgbuf0 ∨ r = dmProgbuf1 then dmReg s c r
  else if r = dmControl then dmReg s c r &&& 1
  else if r = dmStatus then dmStatusWord s c
  else if r = dmAbstractCs then 0x02000001 ||| (dmReg s c r &&& 0x700)
  else 0

/-- The register `n` that an abstract command names, if it exists. -/
def dmTarget (n : Nat) : Bool := (decide (n < 0x1000) && csrExists n) || (decide (0x1000 ≤ n) && decide (n < 0x1020))

def dmGet (s : State) (c n : Nat) : Word :=
  if n < 0x1000 then csrRead s c n else gprGet s c (n - 0x1000)

def dmPut (s : State) (c n : Nat) (v : Word) : State :=
  if n < 0x1000 then csrWrite s c n v else gprSet s c (n - 0x1000) v

/-- cmderr is set. -/
def dmError (s : State) (c code : Nat) : State := setDm s c dmAbstractCs (insertBits (dmReg s c dmAbstractCs) 8 3 code)

/-- The transfer of an abstract command: its cmderr, and the state it leaves. -/
def dmTransfer (s : State) (c : Nat) (v : Word) : Nat × State :=
  let n := bitsOf v 0 16
  if !bitOf v.toNat 17 then (0, s)
  else if bitsOf v 20 3 ≠ 2 then (2, s)
  else if !dmTarget n then (3, s)
  else if bitOf v.toNat 16 then (0, dmPut s c n (dmReg s c dmData0))
  else (0, setDm (timeTaken s c n) c dmData0 (dmGet s c n))

/-- An abstract command: Access Register of 32 bits, after which the program buffer runs where postexec asks for it (R446). -/
def dmExecute (s : State) (c : Cpu) (v : Word) : State :=
  if bitsOf (dmReg s c dmAbstractCs) 8 3 ≠ 0 then s
  else if bitsOf v 24 8 ≠ 0 ∨ bitOf v.toNat 19 then dmError s c 2
  else if s.coreState c ≠ csDebug then dmError s c 4
  else
    let r := dmTransfer s c v
    let r := if r.1 = 0 ∧ bitOf v.toNat 18 then programBuffer r.2 c else r
    if r.1 = 0 then r.2 else dmError r.2 c r.1

/-- Core `c` resumes at dpc (R447). One halted before its first instruction issues that now: its watchdog starts, and a recovery that
waits for it ends (R531, R572). -/
def dmResume (s : State) (c : Nat) : State :=
  if s.coreState c ≠ csDebug then s
  else
    let user := bitsOf (csrRead s c csrDcsr) 0 2 == 0
    let s := (setDm s c dmResumeAck 1).updCore c fun k => { k with user := user }
    let first := (s.core c).first
    let s := ((s.set (IC_CPU_STAT_STATE c) csRun).set (IC_DBG_CTL_HALTED.bit c) 0).relevel
    route (if first then coreFirst (wdStart (s.updCore c fun k => { k with first := false }) c) c else s)

/-- dmcontrol (R446): ndmreset and hartreset are ignored, hartsel is fixed. The pc at which a haltreq finds the core is
a free value: the commands do not cover the core's instructions. -/
def dmControlWrite (s : State) (c : Nat) (v : Word) : State :=
  if !bitOf v.toNat 0 then s.updCore c fun k => { k with dm := k.dm.filter fun e => e.1 == dmHaveReset }
  else
    let s := setDm s c dmControl (v &&& 0x80000001)
    let s := if bitOf v.toNat 28 then setDm s c dmHaveReset 0 else s
    if bitOf v.toNat 31 then
      if s.coreState c = csRun ∨ s.coreState c = csIdle then
        let (x, t) := s.fresh
        debugHalt t c 3 (x &&& ~~~ 1#32)
      else s
    else if bitOf v.toNat 30 then dmResume (setDm s c dmResumeAck 0) c
    else s

/-- DMREAD and DMWRITE (R446); with dmactive at 0 the module takes writes of dmcontrol alone. -/
def dmread (s : State) : State := dbgGuard s fun s => dbgAnswer s dbOk (dmReadWord s s.dbg.selCore s.dbg.selReg)

def dmwrite (s : State) (v : Word) : State :=
  dbgGuard s fun s =>
    let c := Fin.ofNat 4 s.dbg.selCore
    let r := s.dbg.selReg
    let t :=
      if r = dmControl then dmControlWrite s c v
      else if !bitOf (dmReg s c dmControl).toNat 0 then s
      else if r = dmData0 ∨ r = dmProgbuf0 ∨ r = dmProgbuf1 then setDm s c r v
      else if r = dmAbstractCs then setDm s c r (dmReg s c r &&& ~~~ (v &&& 0x700))
      else if r = dmCommand then dmExecute s c v
      else s
    dbgAnswer t dbOk 0

/-- A core halts by ebreak, single step or a trigger match (R446): `cause` 1 ebreak, 2 trigger, 4 step, at `pc`, where
its dcsr and triggers ask for it. -/
def debugHaltEvent (s : State) (c cause : Nat) (pc : Word) : State :=
  let d := csrRead s c csrDcsr
  let asked :=
    if cause = 1 then (if (s.core c).user then bitOf d.toNat 12 else bitOf d.toNat 15)
    else if cause = 4 then bitOf d.toNat 2
    else cause == 2 && [0x7A1, 0x17A1].any fun n =>
      let t := ((assocGet (s.core c).csr n).getD 0).toNat
      bitOf t 12 && t % 8 != 0 && bitOf t (if (s.core c).user then 3 else 6)
  if s.coreState c = csRun ∧ asked then debugHalt s c cause pc else s

end Sys2Proof.Machine
end

