-- ==== Sys2Proof/Machine/Settle.lean ====
section
/-! DEFINITION. Machine/Settle.lean: what registers and pins show of the rest of the state. Every command and every tick
ends with it, so that they show it after each step. -/

namespace Sys2Proof.Machine

/-- HALTED of IC_DBG_CTL: the cores in DEBUG, a bit each (R447). -/
def haltedCores (s : State) : Nat := fourBits fun c => s.coreState c == csDebug

/-- IC_DBG_CTL.HALTED follows the cores. -/
def dbgSync (s : State) : State := s.set IC_DBG_CTL_HALTED (haltedCores s)

/-- The registers and pins that show other state are brought up to date: TM_CTL.PAIRED (R523), FC_STAT (R573),
FE_CAL_STAT.BUSY (R112), PQ_ENT_STAT.POOL (R374), IC_DBG_CTL.HALTED (R447), COEX_REQ and COEX_PRI (R271, R275), ANTSW0
and ANTSW1 (R125). -/
def settle (s : State) : State := (cxSync (dbgSync (poolSync (feSync s.fcSync.updPaired)))).updAnt

/-- The end of a command that the WAKE pin detector does not make: none has an effect in Off, where that detector is the
only circuit that operates (R21). -/
def live (s t : State) : State := if s.power == .off then s else settle t

/-- The fields that `settle` writes: what registers show of the rest of the state. -/
def viewFields : List Field :=
  TM_CTL_PAIRED :: FC_STAT_LEVEL :: FC_STAT_RECOV :: FE_CAL_STAT_BUSY :: PQ_ENT_STAT_POOL :: IC_DBG_CTL_HALTED ::
    (List.range 32).map fun i => TM_CH_STAT_RISE_V (i / 4) (i % 4)

end Sys2Proof.Machine
end

