-- ==== Sys2Proof/Machine/Tick.lean ====
section
/-! DEFINITION. Machine/Tick.lean: what passes while no command waits: one tick of the time base in Run and Idle, one
slow tick in Sleep and Deep sleep (DESIGN CHOICE, log entries 2 and 3). The rows that the time base launches at a tick
join the queue in one fixed order; operations timed by circuits of their own end by commands from outside. -/

namespace Sys2Proof.Machine

/-! ### The slow clock (R49 to R52) -/

/-- One tick of the slow clock's phase: a slow tick is 390,625 / 64 ticks at the nominal ratio (R50; DESIGN CHOICE, log
entry 3). Answers whether an edge fell and the ticks of a window that has ended. -/
def slowPhase (s : State) : Bool × Option Nat × State :=
  let p := s.tb.phase + 64
  let s := { s with tb := { s.tb with sinceEdge := s.tb.sinceEdge + 1, edge := false,
                                      calTicks := s.tb.calTicks + b2n s.tb.calOpen } }
  if p < 390625 then (false, none, { s with tb := { s.tb with phase := p } })
  else
    let s := { s with tb := { s.tb with phase := p - 390625 } }
    if s.tb.xoStopped then (false, none, s)
    else
      let r := slowEdgeAt s
      (true, r.1, r.2)

/-! ### Rows that are due -/

/-- `i` where `b` holds. -/
def whenDue (b : Bool) (i : Instr) : List Instr := if b then [i] else []

/-- `f` for every index of `Fin n` at which `p` holds. -/
def eachDue {n : Nat} (p : Nat → Bool) (f : Fin n → Instr) : List Instr :=
  (List.finRange n).filterMap fun i : Fin n => if p i then some (f i) else none

/-- Is a slew step due, and the state with it made (R65)? -/
def slewDue (s : State) : Bool := !isMaster s && s.tb.slewRem != 0 && s.tb.slewWait == 0
def slewed (s : State) : State := if slewDue s then slewStep s else s

/-- May the waiting flash operation start (R40, R473)? -/
def flStartDue (s : State) : Bool :=
  match s.fl.op with
  | some o => s.get FL_STAT_STATE == 1 && !s.on PQ_OTP_CMD_BUSY &&
      (o.erase || !sramWaits s o.src 512) && (s.fitLevel (some (if o.erase then .erase else .prog))).isSome
  | none => false

/-- Does a read wait for the bank of a running erase that yields: of a core, the debug port, SP1's window, or a job (R481)? -/
def flSuspendDue (s : State) : Bool :=
  let reads := fun a n : Nat => n != 0 && decide (a < 0x400000) && (flBankBusy s a || flBankBusy s (a + n - 1))
  flYields s &&
    (s.fl.waiting.any (fun e => reads e.2.2 1) || (windowReads s && reads (winAddr (s.port 1)) 4) ||
      (s.dbg.busy.any (fun b => !b.1) && !s.dbg.bad && !s.dbg.past && reads (dbgAddr s) 4) ||
      (List.range 4).any fun c =>
        (s.get (CE_J_STAT_STATE c) == jbRun && (reads (s.job c).src (s.job c).plen || reads (s.job c).aad (s.job c).alen)) ||
          (s.get (PQ_J_STAT_STATE c) == jbRun && !pqWaits s c && (pqInputs (s.pqJob c)).any fun r => reads r.1 r.2))

/-- May a job that the ledger holds start, a term having left it (R43)? -/
def ceHeldDue (s : State) (c : Nat) : Bool := s.pm.held.contains (.ce c) && (s.fitLevel (some (.ce c))).isSome
def pqHeldDue (s : State) (c : Nat) : Bool := s.pm.held.contains (.pq c) && (s.fitLevel (some (.pq c))).isSome

/-- Has the transfer of a master port run to its end (Table 17.3)? -/
def spEndDue (s : State) (x : Nat) : Bool :=
  s.get (SP_STAT_STATE x) == spRun && s.get (SP_CTL_MODE x) == 0 && (s.port x).left == 0 &&
    decide ((s.port x).endAt ≤ s.now)

/-- Are a self-test, a sample of NF, a bin-set decision, a survey step due (R160, R165 to R167)? -/
def selfDue (s : State) : Bool :=
  s.on CZ_SELF_CTL_EN && s.get CZ_SELF_CTL_PERIOD != 0 && decide (s.cz.selfNext ≤ s.now)
def sampleDue (s : State) : Bool := bscRuns s && decide (s.cz.sampleNext ≤ s.now)
def decideDue (s : State) : Bool := bscRuns s && s.get CZ_BSC_CTL_PERIOD != 0 && decide (s.cz.decideNext ≤ s.now)
def surveyDue (s : State) : Bool := s.on CZ_BSC_STAT_SURV && decide (s.cz.surveyNext ≤ s.now)

/-- Does a bucket boundary of record `n` pass at this tick (R257)? -/
def bucketDue (s : State) (n : Nat) : Bool :=
  s.on (DC_REC_CFG_EN n) && bucketTicks s n != 0 && s.now % bucketTicks s n == 0

/-- Is a window of a thread, or the frame-pending window, at its length (R192, R332)? -/
def windowOver (s : State) (w : Window) : Bool :=
  (w.owner == .thread || w.owner == .pending) && (match w.close with | some t => decide (t ≤ s.now) | none => false)

/-- Is the hold of the previous broadcast key over (R308)? -/
def kprevDue (s : State) : Bool := match s.fw.kprevEnd with | some e => decide (e ≤ s.now) | none => false

/-- Is a coexistence request to rise (R271)? -/
def cxRiseDue (s : State) : Bool := s.dc.coex.any fun e => !e.high && decide (riseAt s e ≤ s.now)

/-- Is the forced recalibration due (R114)? -/
def forcedDue (s : State) : Bool :=
  s.get FE_CAL_CTL_FORCE_T != 0 && s.on FE_CAL_STAT_TEMP_DUE &&
    decide (s.fe.dueAt + s.get FE_CAL_CTL_FORCE_T * 200000000 ≤ s.now)

/-- The rows due for the time base, its compares, the commit groups, timers and watchdogs, flash and serial ports. Commit
points come before compares, so that a disarm that meets a firing is seen to meet it (R59). -/
def dueCore (s : State) : List Instr :=
  eachDue (tokenReady s) .commitPoint ++ eachDue (cmpDue s) .compareFire ++
    eachDue (fun t => s.tm.due.contains t) .timerIncrement ++ whenDue (flStartDue s) .flOpStart ++
    eachDue (ceHeldDue s) (.ceJobRun · false) ++ eachDue (pqHeldDue s) .pqJobRun ++ whenDue (flQuietDue s) .autoResume ++
    eachDue (spEndDue s) .xferEnd ++ eachDue (spTimeoutDue s) .rdyTimeout ++ whenDue (kprevDue s) .kprevExpire ++
    whenDue (ageDue s) .routeAging ++ whenDue (vrLate s) .vrTimeout ++ whenDue (!s.fw.stalled.isEmpty && s.now % 200000 == 0) .ringRetry

/-- The rows due for reception, the rendezvous logic and the bin set. -/
def dueRadio (s : State) : List Instr :=
  whenDue (forcedDue s) .forcedCal ++ whenDue (selfDue s) .selftestStart ++ whenDue (bscDue s) .bscChange ++
    whenDue (sampleDue s) .bscSample ++ whenDue (decideDue s) .bscDecision ++ whenDue (surveyDue s) .surveyStep ++
    eachDue (syncDue s) .syncTimeout ++ eachDue (bucketDue s) .bucketRetire ++ whenDue (s.cz.windows.any (windowOver s)) .windowClose ++
    whenDue (sniffDue s) .sniffOpen ++ whenDue (sniffOver s) .sniffClose ++ whenDue (dataDue s).isSome .dataWindowOpen ++
    whenDue (dataOver s).isSome .dataWindowClose ++ whenDue (bcnDue s) .beaconWindowOpen ++ whenDue (bcnOver s) .beaconMiss ++
    whenDue (amberDue s) .amberSecond ++ whenDue (umberDue s) .umberStep ++ whenDue (bsetDue s) .bsetEffect

/-- Is a segment of a wake train of thread `n` to follow at this tick: the wait before it has ended, or ends now (R232)? -/
def segmentDue (s : State) (n : Nat) : Bool :=
  match s.txf n with
  | some x => x.phase == 4 || (x.train.isSome && ackOver s n)
  | none => false

/-- The rows due for threads, acknowledgements and transmissions; acknowledgements come before threads (R262).
A listen that ends draws a free value for its retry (R270); `tick` counts the draws. -/
def dueLink (s : State) : List Instr :=
  whenDue (cxRiseDue s) .coexRequest ++ whenDue (snapshotDue s).isSome .ackSnapshot ++
    (List.finRange 16).filterMap (fun p : Fin 16 =>
      if grantDueAck s p then some (.grantSample ⟨4 + p.val, by omega⟩ s.pins.gnt) else none) ++
    (List.finRange 4).filterMap (fun n : Fin 4 =>
      if listenDue s n then some (.lbtListenEnd n (Config.freeWord (s.free + n.val))) else none) ++
    (List.finRange 4).filterMap (fun n : Fin 4 =>
      if grantSoon s n then some (.grantSample ⟨n.val, by omega⟩ s.pins.gnt) else none) ++
    whenDue (lastBitDue s) .txLastBit ++ whenDue (rampEndDue s) .txRampDownEnd ++ eachDue (ackOver s) .ackTimeout ++
    eachDue (segmentDue s) .wakeTrainSegment ++ whenDue (rampDue s || (List.range 4).any (segmentDue s)) .txRampUp ++
    eachDue (waittDue s) .waittRelease ++ eachDue (fun n => waiteHits s n != 0) .waiteDone ++
    eachDue (waiteLate s) .waiteTimeout

/-! ### One tick -/

/-- Cells that a reception's PSDU has reached by now: one for each 128 octets begun at the lane (R206, R317). -/
def cellsReached (s : State) (r : Reception) : Nat :=
  let k := (if r.coded then 2 else 1) * bit3 r.mode
  let t : Int := 3 * ((s.now : Int) - r.ts.toNat - seenDelay s r.mode) - 16 * k
  if t ≤ 0 ∨ k = 0 then 0 else t.toNat / (1024 * k) + 1

/-- Cells leave the free list as the PSDUs of admitted frames arrive, lanes in ascending order (R317; the order is a DESIGN
CHOICE, log entry 54). -/
def rxCells (s : State) : State :=
  (List.range 16).foldl (fun t p =>
    match (t.lane p).rx with
    | some r => if r.phr && r.adm == 1 then t.takeRx p (cellsReached t r) else t
    | none => t) s

/-- The counters that have no row of their own move: watchdogs and cycle counters. Answers the watchdogs whose ELAPSED has
moved (R531). -/
def countTick (s : State) : List (Fin 5) × State :=
  let s : State := { s with tm := { s.tm with inTick := true } }
  let u := cycleTick ((List.range 5).foldl wdTick s)
  let moved := (List.finRange 5).filter fun w : Fin 5 => u.get (WD_STAT_ELAPSED (wdReg w)) != s.get (WD_STAT_ELAPSED (wdReg w))
  (moved, u)

/-- What follows at a tick without a row: launches, delivery of staged entries, acknowledgement windows, what ended work
holds, the level that the radio term requires (R40, R43), routing of events and interrupts, sleep, Off and the end of boot. -/
def tickWork (s : State) : State :=
  let s := czGrid (deliverTick (swWatch (surveyUpdate (cxSettle (flPulse (feDone (feStart (runLaunches s))))))))
  let s := (List.range 4).foldl txfTick (warnTick (rxCells s))
  let s := windowServe (if flSuspendDue s then flSuspend s true else s)
  let s := gpDrive (vrTick (spTick (spTick s 0) 1))
  let s := (List.range 4).foldl ackWindowOpen (ackSweep s)
  let s := if fwBusy s then s else s.ledgerStop .fwe
  let s := otpStart (bootRelease s)
  let s := if offDue s then enterOff s else s
  let s := routeEvents s.relevel
  pmAnchor (route (tmTick s ((List.range 8).any (tokenReady (slewed s)))))

/-- A tick of the time base (R22, R23, R46). What the commit point of the tick before emitted is forwarded first (R460). What is due is judged with the slew step of the tick made (R55, R65); entry to
sleep comes last at its edge (R53). -/
def tick (s : State) : State :=
  let s := tbTick (evSettle s)
  let p := slowPhase s
  let c := countTick p.2.2
  let s := tickWork c.2
  let slow := (match p.2.1 with | some m => [.ratioUpdate (w32 m)] | none => []) ++ whenDue (slowFailDue s) .slowFail ++
    whenDue (p.1 && s.on PM_ALARM_HI_EN && s.get64 PM_ALARM_LO_SLOW PM_ALARM_HI_SLOW == s.slow) .slowAlarm
  let u := slewed s
  let wd := c.1.flatMap fun w : Fin 5 => whenDue (wdExpiryDue s w) (.wdExpiry w) ++ whenDue (wdWarnDue s w) (.wdWarn w)
  { s with
    free := s.free + (if (List.range 4).any (listenDue u) then 4 else 0)
    pending := s.pending ++ slow ++ whenDue (slewDue s) .dtimeSlewStep ++ dueCore u ++ wd ++ dueRadio u ++ dueLink u ++
                 whenDue (p.1 && s.pm.attempt) .sleepAttempt }

/-- A slow tick in Sleep or Deep sleep (R49, R53, R548): an alarm that it reaches, or the restart of a wake whose PLL has
locked; a regulator frame runs on. A stopped crystal gives none. -/
def sleepTick (s : State) : State :=
  if s.tb.xoStopped then s
  else
    let s := vrTick (tbSlowEdge s)
    let alarm := match s.pm.alarm with | some a => decide (a ≤ s.slow) && s.pm.waking == 0 | none => false
    { s with pending := s.pending ++ whenDue alarm .slowAlarm ++ whenDue (s.pm.waking == 3) .timeBaseRestart ++ whenDue (vrLate s) .vrTimeout }

/-- A slow-tick edge after SLOW_FAIL, or after the crystal has stopped (R52, R599): it counts in a calibration window like
any other, and alarms, entry to sleep and a restart that wait for an edge have theirs. -/
def slowReturn (s : State) : State :=
  if !(s.on TB_STATUS_SLOW_FAIL || s.tb.xoStopped) then s
  else
    let s := { s with tb := { s.tb with phase := 0 } }
    if s.isLocked then
      let r := slowEdgeAt s
      let s := match r.1 with | some m => tbRatioUpdate r.2 m | none => r.2
      pmAttempt (slowAlarm s)
    else wakeRestart (slowAlarm (tbSlowEdge s))

/-- What passes while the queue is empty: a tick in Run and Idle, a slow tick while the PLL is stopped, nothing in Off
(R46, R49). -/
def idle (s : State) : State :=
  if s.power == .off then s
  else settle (if s.asleep then sleepTick s else if s.isLocked then tick s else if s.tb.xoStopped then s else vrTick (tbSlowEdge s))

/-- The line of level source `n` changes (R432): a GPIO level, a comparator, or a line that a register gives already. -/
def levelChange (s : State) (n : Nat) (level : Bool) : State :=
  let s :=
    if 136 ≤ n ∧ n < 160 then gpInput s (n - 136) level
    else if n = 162 ∨ n = 163 then comparatorChange s (n - 162) level
    else s
  route s

end Sys2Proof.Machine
end

