-- ==== Sys2Proof/Machine/ExecChip.lean ====
section
/-! DEFINITION. Machine/ExecChip.lean: the meanings of the commands of resets, the time base and commit groups (chapters 0 to 3), in the table's order. -/

namespace Sys2Proof.Machine

/-- REGISTER_WRITE (R11). -/
def execRegisterWrite (core : Cpu) (form : WriteForm) (addr : Word) (v : Word) (s : State) : Host.Outcome State Fault Refusal :=
  .next (live s (route (coreStore s core form addr.toNat v)))

/-- RC_READ (R11). -/
def execRcRead (core : Cpu) (access : ReadAccess) (meets : ReadMeets) (s : State) : Host.Outcome State Fault Refusal :=
  .next (live s (coreLoad s core access.form access.addr.toNat meets.hw meets.ecc))

/-- POWER_ON_RESET (R15). -/
def execPowerOnReset (s : State) : Host.Outcome State Fault Refusal := .next (settle (powerOnReset s 0))

/-- SYSTEM_RESET (R15). -/
def execSystemReset (s : State) : Host.Outcome State Fault Refusal := .next (live s (systemReset s 1 0))

/-- BROWN_OUT (R558). -/
def execBrownOut (coreRail : Bool) (s : State) : Host.Outcome State Fault Refusal :=
  .next (live s (if coreRail && !s.awake then s else systemReset s 4 (if coreRail then 2 else 1)))

/-- TBASE_UNLOCK (R48). -/
def execTbaseUnlock (s : State) : Host.Outcome State Fault Refusal :=
  .next (live s (if s.awake && s.isLocked then systemReset s 5 0 else s))

/-- PLL_LOCK (R46). -/
def execPllLock (s : State) : Host.Outcome State Fault Refusal :=
  .next (live s (if s.asleep then wakeLock s else if s.awake && !s.isLocked then feResetCal (tbLock s) else s))

/-- LO_READ_CAPTURE (R47). -/
def execLoReadCapture (core : Cpu) (r : TsReg) (s : State) : Host.Outcome State Fault Refusal :=
  .next (live s (coreRead core (tsLoAddr r) s))

/-- HI_READ_SHADOW (R47). -/
def execHiReadShadow (core : Cpu) (r : TsReg) (s : State) : Host.Outcome State Fault Refusal :=
  .next (live s (coreRead core (tsLoAddr r + 4) s))

/-- RATIO_UPDATE (R51). -/
def execRatioUpdate (m : Word) (s : State) : Host.Outcome State Fault Refusal :=
  .next (live s (tbRatioUpdate s m.toNat))

/-- SLOW_FAIL (R52). -/
def execSlowFail (s : State) : Host.Outcome State Fault Refusal := .next (live s (tbSlowFail s))

/-- SLOW_EDGE_RETURN (R52). -/
def execSlowEdgeReturn (s : State) : Host.Outcome State Fault Refusal := .next (live s (slowReturn s))

/-- SLOW_FAIL_RESTART (R599). -/
def execSlowFailRestart (s : State) : Host.Outcome State Fault Refusal := .next (live s (wakeNoEdge s))

/-- TIME_BASE_RESTART (R53). -/
def execTimeBaseRestart (s : State) : Host.Outcome State Fault Refusal := .next (live s (wakeRestart s))

/-- COMPARE_ARM (R56). -/
def execCompareArm (core : Cpu) (n : Fin 8) (wake sel per : Bool) (s : State) : Host.Outcome State Fault Refusal :=
  .next (live s (coreWrite core (A_TB_CMP_CTL n) (w32 (1 + 2 * b2n per + 4 * b2n sel + 8 * b2n wake)) s))

/-- COMPARE_DISARM (R59). -/
def execCompareDisarm (core : Cpu) (n : Fin 8) (s : State) : Host.Outcome State Fault Refusal :=
  .next (live s (setField core (TB_CMP_CTL_ARMED n) 0 s))

/-- COMPARE_FIRE (R55). -/
def execCompareFire (n : Fin 8) (s : State) : Host.Outcome State Fault Refusal :=
  .next (live s (if s.awake && cmpDue s n then cmpFire s n else s))

/-- DTIME_SLEW_STEP (R65). -/
def execDtimeSlewStep (s : State) : Host.Outcome State Fault Refusal :=
  .next (live s (if s.isLocked && slewDue s then slewStep s else s))

/-- GROUP_OPEN (R97). -/
def execGroupOpen (core : Cpu) (g : Fin 8) (s : State) : Host.Outcome State Fault Refusal :=
  .next (live s (coreWrite core (A_AC_G_CMD g) 1 s))

/-- STAGE_PUSH (R76). -/
def execStagePush (core : Cpu) (g : Fin 8) (v : Word) (s : State) : Host.Outcome State Fault Refusal :=
  .next (live s (coreWrite core (A_AC_G_SDATA g) v s))

/-- COMMIT_NOW (R91). -/
def execCommitNow (core : Cpu) (g : Fin 8) (s : State) : Host.Outcome State Fault Refusal :=
  .next (live s (coreWrite core (A_AC_G_CMD g) 2 s))

/-- COMMIT_AT (R89). -/
def execCommitAt (core : Cpu) (g : Fin 8) (sel : Bool) (s : State) : Host.Outcome State Fault Refusal :=
  .next (live s (coreWrite core (A_AC_G_CMD g) (w32 (3 + 256 * b2n sel)) s))

/-- GROUP_ABORT (R94). -/
def execGroupAbort (core : Cpu) (g : Fin 8) (s : State) : Host.Outcome State Fault Refusal :=
  .next (live s (coreWrite core (A_AC_G_CMD g) 4 s))

/-- GROUP_RELEASE (R75). -/
def execGroupRelease (core : Cpu) (g : Fin 8) (s : State) : Host.Outcome State Fault Refusal :=
  .next (live s (coreWrite core (A_AC_G_CMD g) 5 s))

/-- PRE_DELIVERY_END (R81). -/
def execPreDeliveryEnd (g : Fin 8) (s : State) : Host.Outcome State Fault Refusal := .next (live s (preDeliveryEnd s g))

/-- COMMIT_POINT (R88). -/
def execCommitPoint (g : Fin 8) (s : State) : Host.Outcome State Fault Refusal := .next (live s (commitPoint s g))

/-- AC_DISABLE (R100). -/
def execAcDisable (core : Cpu) (s : State) : Host.Outcome State Fault Refusal :=
  .next (live s (setField core AC_CTL_EN 0 s))

end Sys2Proof.Machine
end

