-- ==== Sys2Proof/Machine/ExecCores.lean ====
section
/-! DEFINITION. Machine/ExecCores.lean: the meanings of the commands of cores, interrupts, the debug port and the event matrix (chapters 14 and 15), in the table's order. -/

namespace Sys2Proof.Machine

/-- CORE_START (R429). -/
def execCoreStart (core : Cpu) (c : Cpu) (s : State) : Host.Outcome State Fault Refusal :=
  .next (live s (coreWrite core (A_IC_CPU_CTL c) 1 s))

/-- WFI (R421). -/
def execWfi (c : Cpu) (s : State) : Host.Outcome State Fault Refusal := .next (live s (wfi s c))

/-- CLAIM (R438). -/
def execClaim (read : CsrRead) (s : State) : Host.Outcome State Fault Refusal :=
  .next (live s (csrReadBy s read.core read.csr read.plain))

/-- COMPLETION (R438). -/
def execCompletion (c : Cpu) (w : ClaimWrite) (s : State) : Host.Outcome State Fault Refusal :=
  .next (live s (completion s c w.value w.plain))

/-- SVPRIO_WRITE (R435). -/
def execSvprioWrite (c : Cpu) (v : Word) (s : State) : Host.Outcome State Fault Refusal :=
  .next (live s (svprioWrite s c v))

/-- SWI (R431). -/
def execSwi (core : Cpu) (mask : BitVec 4) (s : State) : Host.Outcome State Fault Refusal :=
  .next (live s (coreWrite core A_IC_SWI (mask.setWidth 32) s))

/-- PEND_WRITE (R433). -/
def execPendWrite (core : Cpu) (k : Fin 6) (v hw : Word) (s : State) : Host.Outcome State Fault Refusal :=
  .next (live s (pendWrite s core k v hw))

/-- IC_AMO (R433). -/
def execIcAmo (core : Cpu) (arr : Fin 3) (k : Fin 6) (op : Fin 3) (v : Word) (s : State) : Host.Outcome State Fault Refusal :=
  .next (live s (coreStore s core (.amo (icAmoOp op)) (arrAddr arr k) v))

/-- EDGE_LATCH (R431). -/
def execEdgeLatch (n : Fin 128) (s : State) : Host.Outcome State Fault Refusal := .next (live s (route (s.edge n)))

/-- LEVEL_CHANGE (R432). -/
def execLevelChange (n : Fin 64) (level : Bool) (s : State) : Host.Outcome State Fault Refusal :=
  .next (live s (levelChange s (128 + n) level))

/-- IC_DISABLE (R442). -/
def execIcDisable (core : Cpu) (s : State) : Host.Outcome State Fault Refusal :=
  .next (live s (setField core IC_CTL_EN 0 s))

/-- SETADDR (R445). -/
def execSetaddr (arg : Word) (s : State) : Host.Outcome State Fault Refusal := .next (live s (setaddr s arg))

/-- DBG_READ (R445). -/
def execDbgRead (late : Bool) (s : State) : Host.Outcome State Fault Refusal :=
  .next (live s (dbgTransfer s false 0 late))

/-- DBG_WRITE (R445). -/
def execDbgWrite (v : Word) (late : Bool) (s : State) : Host.Outcome State Fault Refusal :=
  .next (live s (dbgTransfer s true v late))

/-- DMSEL (R445). -/
def execDmsel (arg : Word) (s : State) : Host.Outcome State Fault Refusal := .next (live s (dmsel s arg))

/-- DMREAD (R446). -/
def execDmread (s : State) : Host.Outcome State Fault Refusal := .next (live s (dmread s))

/-- DMWRITE (R446). -/
def execDmwrite (v : Word) (s : State) : Host.Outcome State Fault Refusal := .next (live s (dmwrite s v))

/-- DBG_STATUS (R445). -/
def execDbgStatus (s : State) : Host.Outcome State Fault Refusal := .next (live s (dbgStatus s))

/-- RESULT (R445). -/
def execResult (s : State) : Host.Outcome State Fault Refusal := .next (live s (dbgResult s))

/-- DEBUG_BAD_REQUEST (R444). -/
def execDebugBadRequest (head : BitVec 8) (rest : BitVec 40) (s : State) : Host.Outcome State Fault Refusal :=
  .next (live s (debugBadRequest s head.toNat rest.toNat))

/-- DEBUG_ACCESS_DONE (R445). -/
def execDebugAccessDone (s : State) : Host.Outcome State Fault Refusal := .next (live s (debugAccessDone s))

/-- EV_DISABLE (R462). -/
def execEvDisable (core : Cpu) (s : State) : Host.Outcome State Fault Refusal :=
  .next (live s (setField core EV_CTL_EN 0 s))

/-- DEBUG_HALT (R447). -/
def execDebugHalt (c : Cpu) (cause : Fin 8) (pc : Word) (s : State) : Host.Outcome State Fault Refusal :=
  .next (live s (debugHaltEvent s c cause pc))

/-- MSTATUS_MIE_CHANGE (R436). -/
def execMstatusMieChange (c : Cpu) (mie meie user : Bool) (s : State) : Host.Outcome State Fault Refusal :=
  .next (live s (route (s.updCore c fun k => { k with mie := mie, meie := meie, user := user })))

end Sys2Proof.Machine
end

