-- ==== Sys2Proof/Machine/ExecForward.lean ====
section
/-! DEFINITION. Machine/ExecForward.lean: the meanings of the commands of the forwarding engine and the frame store (chapters 9 and 10), in the table's order. -/

namespace Sys2Proof.Machine

/-- FORWARD (R294). -/
def execForward (fault : ForwardFault) (s : State) : Host.Outcome State Fault Refusal :=
  .next (live s (fwForward s fault.kind fault.entry fault.word))

/-- NB_ENTRY_WRITE (R282). -/
def execNbEntryWrite (core : Cpu) (i : Fin 512) (k : Fin 16) (v : Word) (s : State) : Host.Outcome State Fault Refusal :=
  .next (live s (coreWrite core (A_NB_W0 i + 4 * k) v s))

/-- RING_COPY (R301). -/
def execRingCopy (k : Fin 4) (ecc : EccCell) (s : State) : Host.Outcome State Fault Refusal :=
  .next (live s (ringCopy s k (ecc.map (·.val))))

/-- RING_KICK (R302). -/
def execRingKick (core : Cpu) (k : Fin 4) (s : State) : Host.Outcome State Fault Refusal :=
  .next (live s (setField core (FW_RING_CFG_KICK k) 1 s))

/-- RING_RETRY (R302). -/
def execRingRetry (s : State) : Host.Outcome State Fault Refusal := .next (live s (ringRetryAll s))

/-- SUB_KICK (R303). -/
def execSubKick (core : Cpu) (s : State) : Host.Outcome State Fault Refusal :=
  .next (live s (setField core (FW_RING_CFG_KICK 4) 1 s))

/-- SUBMISSION (R303). -/
def execSubmission (fault : SubmitFault) (s : State) : Host.Outcome State Fault Refusal :=
  .next (live s (fwSubmit s fault.kind fault.word))

/-- SUB_FREE (R304). -/
def execSubFree (core : Cpu) (cell : BitVec 12) (s : State) : Host.Outcome State Fault Refusal :=
  .next (live s (coreWrite core A_FW_SUB_FREE (cell.setWidth 32) s))

/-- ROUTE_AGING (R306). -/
def execRouteAging (s : State) : Host.Outcome State Fault Refusal := .next (live s (routeAging s))

/-- ALLOC (R307). -/
def execAlloc (core : Cpu) (s : State) : Host.Outcome State Fault Refusal :=
  .next (live s (coreWrite core A_FW_DOM_CMD 1 s))

/-- FREE (R307). -/
def execFree (core : Cpu) (id : BitVec 12) (s : State) : Host.Outcome State Fault Refusal :=
  .next (live s (coreWrite core A_FW_DOM_CMD (w32 (2 + 2 ^ 16 * id.toNat)) s))

/-- KEY_ROLLOVER (R308). -/
def execKeyRollover (w3 : Word) (s : State) : Host.Outcome State Fault Refusal := .next (live s (keyRollover s w3))

/-- KPREV_EXPIRE (R308). -/
def execKprevExpire (s : State) : Host.Outcome State Fault Refusal := .next (live s (kprevExpire s))

/-- FW_DISABLE (R309). -/
def execFwDisable (core : Cpu) (s : State) : Host.Outcome State Fault Refusal :=
  .next (live s (setField core FW_CTL_EN 0 s))

/-- FW_DISABLE_DONE (R309). -/
def execFwDisableDone (s : State) : Host.Outcome State Fault Refusal := .next (live s (fwDisableDone s))

end Sys2Proof.Machine
end

