-- ==== Sys2Proof/Machine/ExecLink.lean ====
section
/-! DEFINITION. Machine/ExecLink.lean: the meanings of the commands of the link sequencer and the frame handler (chapter 6), in the table's order. -/

namespace Sys2Proof.Machine

/-- LS_START (R179). -/
def execLsStart (core : Cpu) (n : Fin 4) (s : State) : Host.Outcome State Fault Refusal :=
  .next (live s (coreWrite core (A_LS_T_CMD n) 1 s))

/-- HALT_CMD (R179). -/
def execHaltCmd (core : Cpu) (n : Fin 4) (s : State) : Host.Outcome State Fault Refusal :=
  .next (live s (coreWrite core (A_LS_T_CMD n) 2 s))

/-- MAIL (R193). -/
def execMail (core : Cpu) (n : Fin 4) (s : State) : Host.Outcome State Fault Refusal :=
  .next (live s (coreWrite core (A_LS_T_CMD n) 8 s))

/-- ABORT_TX (R200). -/
def execAbortTx (core : Cpu) (n : Fin 4) (s : State) : Host.Outcome State Fault Refusal :=
  .next (live s (coreWrite core (A_LS_T_CMD n) 4 s))

/-- MOV (R184). -/
def execMov (n : Fin 4) (s : State) : Host.Outcome State Fault Refusal :=
  .next (live s (issue s n opMov fun t w => insnMov t n w))

/-- MOVI (R184). -/
def execMovi (n : Fin 4) (s : State) : Host.Outcome State Fault Refusal :=
  .next (live s (issue s n opMovi fun t w => insnMovi t n w))

/-- ADD (R186). -/
def execAdd (n : Fin 4) (s : State) : Host.Outcome State Fault Refusal :=
  .next (live s (issue s n opAdd fun t w => insnAlu t n w aluAdd true))

/-- SUB (R186). -/
def execSub (n : Fin 4) (s : State) : Host.Outcome State Fault Refusal :=
  .next (live s (issue s n opSub fun t w => insnAlu t n w aluSub true))

/-- CMP (R186). -/
def execCmp (n : Fin 4) (s : State) : Host.Outcome State Fault Refusal :=
  .next (live s (issue s n opCmp fun t w => insnAlu t n w aluSub false))

/-- JMP (R184). -/
def execJmp (n : Fin 4) (s : State) : Host.Outcome State Fault Refusal :=
  .next (live s (issue s n opJmp fun t w => insnJmp t n w))

/-- JCC (R186). -/
def execJcc (n : Fin 4) (s : State) : Host.Outcome State Fault Refusal :=
  .next (live s (issue s n opJcc fun t w => insnJcc t n w))

/-- CALL (R185). -/
def execCall (n : Fin 4) (s : State) : Host.Outcome State Fault Refusal :=
  .next (live s (issue s n opCall fun t w => insnCall t n w))

/-- RET (R185). -/
def execRet (n : Fin 4) (s : State) : Host.Outcome State Fault Refusal :=
  .next (live s (issue s n opRet fun t _ => insnRet t n))

/-- YIELD (R180). -/
def execYield (n : Fin 4) (s : State) : Host.Outcome State Fault Refusal :=
  .next (live s (issue s n opYield fun t _ => t))

/-- HALT_INSN (R184). -/
def execHaltInsn (n : Fin 4) (s : State) : Host.Outcome State Fault Refusal :=
  .next (live s (issue s n opHalt fun t _ => insnHalt t n))

/-- ILLEGAL (R185). -/
def execIllegal (n : Fin 4) (s : State) : Host.Outcome State Fault Refusal := .next (live s (issueIllegal s n))

/-- LDT (R184). -/
def execLdt (n : Fin 4) (s : State) : Host.Outcome State Fault Refusal :=
  .next (live s (issue s n opLdt fun t w => insnLdt t n w))

/-- WAITT (R189). -/
def execWaitt (n : Fin 4) (s : State) : Host.Outcome State Fault Refusal :=
  .next (live s (issue s n opWaitt fun t w => insnWaitt t n w))

/-- WAITT_RELEASE (R189). -/
def execWaittRelease (n : Fin 4) (s : State) : Host.Outcome State Fault Refusal := .next (live s (waittRelease s n))

/-- WAITE (R193). -/
def execWaite (n : Fin 4) (s : State) : Host.Outcome State Fault Refusal :=
  .next (live s (issue s n opWaite fun t w => insnWaite t n w))

/-- WAITE_DONE (R193). -/
def execWaiteDone (n : Fin 4) (s : State) : Host.Outcome State Fault Refusal := .next (live s (waiteDone s n))

/-- WAITE_TIMEOUT (R193). -/
def execWaiteTimeout (n : Fin 4) (s : State) : Host.Outcome State Fault Refusal := .next (live s (waiteTimeout s n))

/-- TUNE (R191). -/
def execTune (n : Fin 4) (s : State) : Host.Outcome State Fault Refusal :=
  .next (live s (issue s n opTune fun t w => insnLaunch t n w))

/-- LANE (R191). -/
def execLane (n : Fin 4) (s : State) : Host.Outcome State Fault Refusal :=
  .next (live s (issue s n opLane fun t w => insnLaunch t n w))

/-- ARMRX (R192). -/
def execArmrx (n : Fin 4) (s : State) : Host.Outcome State Fault Refusal :=
  .next (live s (issue s n opArmrx fun t w => insnLaunch t n w))

/-- DISRX (R192). -/
def execDisrx (n : Fin 4) (s : State) : Host.Outcome State Fault Refusal :=
  .next (live s (issue s n opDisrx fun t w => insnLaunch t n w))

/-- WINDOW_CLOSE (R192). -/
def execWindowClose (s : State) : Host.Outcome State Fault Refusal :=
  .next (live s (s.closeWindows true (windowOver s)))

/-- TXF (R194). -/
def execTxf (n : Fin 4) (s : State) : Host.Outcome State Fault Refusal :=
  .next (live s (issue s n opTxf fun t w => insnTxf t n w))

/-- TXF_PREPARED (R196). -/
def execTxfPrepared (p : Preparation) (s : State) : Host.Outcome State Fault Refusal :=
  .next (live s (txfPrepared s p.thread (p.ecc.map (·.val))))

/-- ACK_TIMEOUT (R198). -/
def execAckTimeout (n : Fin 4) (s : State) : Host.Outcome State Fault Refusal := .next (live s (ackTimeout s n))

/-- ACKPOL (R214). -/
def execAckpol (n : Fin 4) (s : State) : Host.Outcome State Fault Refusal :=
  .next (live s (issue s n opAckpol fun t w => insnLaunch t n w))

/-- DRIFT (R220). -/
def execDrift (n : Fin 4) (s : State) : Host.Outcome State Fault Refusal :=
  .next (live s (issue s n opDrift fun t w => insnDrift t n w))

/-- LDN (R187). -/
def execLdn (n : Fin 4) (s : State) : Host.Outcome State Fault Refusal :=
  .next (live s (issue s n opLdn fun t w => insnLdn t n w))

/-- STN (R187). -/
def execStn (n : Fin 4) (s : State) : Host.Outcome State Fault Refusal :=
  .next (live s (issue s n opStn fun t w => insnStn t n w))

/-- SIG (R184). -/
def execSig (n : Fin 4) (s : State) : Host.Outcome State Fault Refusal :=
  .next (live s (issue s n opSig fun t w => insnSig t w))

/-- PAIR_MISMATCH (R203). -/
def execPairMismatch (n : Fin 4) (s : State) : Host.Outcome State Fault Refusal := .next (live s (pairMismatch s n))

/-- REPLAY_COMPLETE (R203). -/
def execReplayComplete (n : Fin 4) (s : State) : Host.Outcome State Fault Refusal := .next (live s (replayComplete s n))

/-- FH_MISMATCH (R204). -/
def execFhMismatch (p : Fin 16) (ack : Bool) (s : State) : Host.Outcome State Fault Refusal :=
  .next (live s (fhMismatch s p ack))

/-- ACK_SNAPSHOT (R214). -/
def execAckSnapshot (s : State) : Host.Outcome State Fault Refusal := .next (live s (ackSnapshot s))

/-- LS_DISABLE (R216). -/
def execLsDisable (core : Cpu) (s : State) : Host.Outcome State Fault Refusal :=
  .next (live s (setField core LS_CTL_EN 0 s))

/-- LS_DISABLE_DONE (R216). -/
def execLsDisableDone (s : State) : Host.Outcome State Fault Refusal := .next (live s (lsDisableDone s))

/-- IMEM_ECC (R183). -/
def execImemEcc (n : Fin 4) (s : State) : Host.Outcome State Fault Refusal := .next (live s (fetchEcc s n))

end Sys2Proof.Machine
end

