-- ==== Sys2Proof/Machine/EccErrors.lean ====
section
/-! DEFINITION. Machine/EccErrors.lean: ECC errors of system SRAM and flash as the agents that read meet them (R468, R566, R567). -/

namespace Sys2Proof.Machine

/-- The port's window waits to read (WAIT was answered), or reads now. An access that fails answers BERR, or leaves it for RESULT
(R445, R468, R567). -/
def debugFails (s : State) : State :=
  match s.dbg.busy with
  | some (true, _) => s
  | some (false, _) => { s with dbg := { dbgAdvance s.dbg with busy := none, result := (dbBerr, 0) } }
  | none => dbgGuard s fun s => if s.dbg.bad || s.dbg.past then s else dbgAnswer { s with dbg := dbgAdvance s.dbg } dbBerr 0

/-- A read word of SP1's window whose access fails (R510, R567). -/
def windowFails (s : State) : State :=
  if windowTakes s false && (windowBlocked s).isNone then
    windowOut (windowEnd { s with resp := ⟨0, true⟩ })
  else s

/-- Does this agent, which is no core, read memory now? -/
def agentReads (s : State) (agent : SramAgent) : Bool :=
  match agent with
  | .core _ => false
  | .cipher c => s.get (CE_J_STAT_STATE c) == jbRun
  | .signature c => s.get (PQ_J_STAT_STATE c) == jbRun
  | .ring k => !(s.fw.waiting.getD k []).isEmpty && !s.fw.stalled.contains k
  | .submission => s.fw.subWait
  | .flash => s.get FL_STAT_STATE == 2 && (match s.fl.op with | some o => !o.pulsed | none => false)
  | .debug => s.awake && !s.dbg.bad && !s.dbg.past && (match s.dbg.busy with | some (w, _) => !w | none => dbgLevel s != 0)
  | .window => windowTakes s false && (windowBlocked s).isNone
  | .scan => !s.fc.scan.isEmpty

/-- The access of an agent fails: step 1 of R567, and the read error of R468. -/
def readFails (s : State) (agent : SramAgent) (a : Nat) : State :=
  match agent with
  | .core c => let (x, t) := s.fresh; t.respondErr (coreAcc s c) a false x.toNat
  | .cipher c => if s.get (CE_J_STAT_STATE c) = jbRun then ceStop s c ceBus (s.job c).plen else s
  | .signature c => if s.get (PQ_J_STAT_STATE c) = jbRun then pqStop s c pqBus (pqOutLen (s.pqJob c)) else s
  | .ring k =>
    if (s.fw.waiting.getD k []).isEmpty ∨ s.fw.stalled.contains k then s
    else ({ s with fw := { s.fw with stalled := s.fw.stalled ++ [k.val] } } : State).raise FW_INT_STAT_RWAIT
  | .submission => fwSubmit s 1 0
  | .flash =>
    match s.fl.op with
    | some o => if s.get FL_STAT_STATE = 2 ∧ !o.pulsed then flFinish s o flBus else s
    | none => s
  | .debug => debugFails s
  | .window => windowFails s
  | .scan => s

/-- An uncorrectable word at offset `off` of system SRAM (R567). In a unit under scan the scan alone reads: other accesses wait. -/
def sramUnc (s : State) (agent : SramAgent) (off : Nat) : State :=
  let off := off / 4 * 4
  let k := off / 0x8000
  if s.fc.scan.contains k != (agent == .scan) then s
  else
  let s := ((readFails s agent (0x20000000 + off)).setMemWord (0x20000000 + off) 0).breakReservations none (0x20000000 + off) 4
  let s := if s.on FC_SRAM_LOG_VALID then s else (s.set FC_SRAM_LOG_ADDR (off / 4)).set FC_SRAM_LOG_VALID 1
  let s := s.bump FC_CNT1_SRAM_UNC
  let c := unitOwner s k
  if s.fc.scan.contains k then s
  else if bitOf (s.get FC_SRAM_ACT_RST) k then systemReset s 0x6 0x9
  else if s.coreState c = csHeld then s.fault 0x9 (8 + c) off
  else
    let s := s.recovBegin 0x9 c off
    let s := { s with fc := { s.fc with scan := s.fc.scan ++ [k] } }
    ((s.set (IC_CPU_STAT_STATE c) csRestart).set (IC_DBG_CTL_HALTED.bit c) 0).relevel

/-- Can this agent, which is no core, read flash? -/
def mapsFlash (agent : SramAgent) : Bool :=
  match agent with
  | .cipher _ => true
  | .signature _ => true
  | .debug => true
  | .window => true
  | _ => false

/-- A read of flash meets an ECC error: corrected, or a read error of the agent: for a core an error response whose KIND is
not stated, for a job the code BUS (R468). A core's read that is refused or that waits for its bank meets none. -/
def flashEcc (s : State) (agent : SramAgent) (a : Nat) (uncorrectable : Bool) : State :=
  match agent with
  | .core core =>
    let t := coreRead core a s
    if t.resp.err || flBankBusy s a then t
    else if uncorrectable then readFails (flashEccKept t a true) agent a
    else flashEccKept t a false
  | _ =>
    if !mapsFlash agent || !agentReads s agent || flBankBusy s a then s
    else if uncorrectable then readFails (flashEccKept s a true) agent a
    else flashEccKept s a false

/-- A read of system SRAM meets a correctable error: the word comes back corrected, is written back, and is counted; for a core this
is the read (R566). -/
def sramEcc (s : State) (agent : SramAgent) (a : Nat) : State :=
  match agent with
  | .core core =>
    let t := coreRead core a s
    if t.resp.err || sramWaits s a 4 then t else t.bump FC_CNT1_SRAM_CORR
  | .scan => if sramScanned s a then s.bump FC_CNT1_SRAM_CORR else s
  | _ => if agentReads s agent && !sramWaits s a 4 then s.bump FC_CNT1_SRAM_CORR else s

end Sys2Proof.Machine
end

