-- ==== Sys2Proof/Machine/ExecPeripherals.lean ====
section
/-! DEFINITION. Machine/ExecPeripherals.lean: the meanings of the commands of flash, serial ports, timers and watchdogs (chapters 16 to 18), in the table's order. -/

namespace Sys2Proof.Machine

/-- PROGRAM (R472). -/
def execProgram (core : Cpu) (s : State) : Host.Outcome State Fault Refusal :=
  .next (live s (coreWrite core A_FL_CMD 1 s))

/-- ERASE (R472). -/
def execErase (core : Cpu) (s : State) : Host.Outcome State Fault Refusal :=
  .next (live s (coreWrite core A_FL_CMD 2 s))

/-- SUSPEND (R479). -/
def execSuspend (core : Cpu) (s : State) : Host.Outcome State Fault Refusal :=
  .next (live s (coreWrite core A_FL_CMD 3 s))

/-- RESUME (R480). -/
def execResume (core : Cpu) (s : State) : Host.Outcome State Fault Refusal :=
  .next (live s (coreWrite core A_FL_CMD 4 s))

/-- FL_ABORT (R483). -/
def execFlAbort (core : Cpu) (s : State) : Host.Outcome State Fault Refusal :=
  .next (live s (coreWrite core A_FL_CMD 5 s))

/-- FL_OP_START (R473). -/
def execFlOpStart (s : State) : Host.Outcome State Fault Refusal := .next (live s (flStart s))

/-- PROGRAM_END (R474). -/
def execProgramEnd (ok : Bool) (s : State) : Host.Outcome State Fault Refusal := .next (live s (flProgramEnd s ok))

/-- ERASE_END (R476). -/
def execEraseEnd (ok : Bool) (s : State) : Host.Outcome State Fault Refusal := .next (live s (flEraseEnd s ok))

/-- AUTO_SUSPEND (R481). -/
def execAutoSuspend (core : Cpu) (addr : BitVec 22) (s : State) : Host.Outcome State Fault Refusal :=
  .next (live s (coreRead core addr.toNat s))

/-- AUTO_RESUME (R481). -/
def execAutoResume (s : State) : Host.Outcome State Fault Refusal :=
  .next (live s (if flQuietDue s then flResume s else s))

/-- FL_DISABLE (R486). -/
def execFlDisable (core : Cpu) (s : State) : Host.Outcome State Fault Refusal :=
  .next (live s (setField core FL_CTL_EN 0 s))

/-- XFER_START (R496). -/
def execXferStart (core : Cpu) (x : Fin 2) (rxign txfill : Bool) (sel : BitVec 5) (count : BitVec 16) (s : State) : Host.Outcome State Fault Refusal :=
  .next (live s (coreWrite core (A_SP_XFER x) (w32 (2 ^ 31 + 2 ^ 29 * b2n rxign + 2 ^ 28 * b2n txfill + 2 ^ 16 * sel.toNat + count.toNat)) s))

/-- XFER_ABORT (R500). -/
def execXferAbort (core : Cpu) (x : Fin 2) (s : State) : Host.Outcome State Fault Refusal :=
  .next (live s (setField core (SP_XFER_ABORT x) 1 s))

/-- MASTER_WORD (R497). -/
def execMasterWord (x : Fin 2) (rx : Word) (s : State) : Host.Outcome State Fault Refusal :=
  .next (live s (spMasterWord s x rx))

/-- STALL_CLEAR (R497). -/
def execStallClear (x : Fin 2) (s : State) : Host.Outcome State Fault Refusal := .next (live s (spStallClear s x))

/-- XFER_END (R496). -/
def execXferEnd (x : Fin 2) (s : State) : Host.Outcome State Fault Refusal :=
  .next (live s (if spEndDue s x then spEnd s x else s))

/-- RDY_LOW (R498). -/
def execRdyLow (x : Fin 2) (s : State) : Host.Outcome State Fault Refusal := .next (live s (spRdyLow s x))

/-- RDY_HIGH (R498). -/
def execRdyHigh (x : Fin 2) (s : State) : Host.Outcome State Fault Refusal := .next (live s (spRdyHigh s x))

/-- RDY_TIMEOUT (R499). -/
def execRdyTimeout (x : Fin 2) (s : State) : Host.Outcome State Fault Refusal :=
  .next (live s (if spTimeoutDue s x then spTimeoutEnd s x else s))

/-- SLAVE_SELECT (R502). -/
def execSlaveSelect (x : Fin 2) (s : State) : Host.Outcome State Fault Refusal := .next (live s (spSelect s x))

/-- SLAVE_WORD (R502). -/
def execSlaveWord (x : Fin 2) (rx : Word) (s : State) : Host.Outcome State Fault Refusal :=
  .next (live s (spSlaveWord s x rx))

/-- SLAVE_DESELECT (R505). -/
def execSlaveDeselect (x : Fin 2) (bits : Fin 32) (s : State) : Host.Outcome State Fault Refusal :=
  .next (live s (spDeselect s x bits))

/-- TXD_PUSH (R515). -/
def execTxdPush (core : Cpu) (x : Fin 2) (v : Word) (s : State) : Host.Outcome State Fault Refusal :=
  .next (live s (coreWrite core (A_SP_TXD x) v s))

/-- RXD_POP (R515). -/
def execRxdPop (core : Cpu) (x : Fin 2) (s : State) : Host.Outcome State Fault Refusal :=
  .next (live s (coreRead core (A_SP_RXD x) s))

/-- FLUSH_RX (R515). -/
def execFlushRx (core : Cpu) (x : Fin 2) (s : State) : Host.Outcome State Fault Refusal :=
  .next (live s (coreWrite core (A_SP_FIFO x) (w32 (2 ^ 31)) s))

/-- FLUSH_TX (R515). -/
def execFlushTx (core : Cpu) (x : Fin 2) (s : State) : Host.Outcome State Fault Refusal :=
  .next (live s (coreWrite core (A_SP_FIFO x) (w32 (2 ^ 30)) s))

/-- SP_DISABLE (R513). -/
def execSpDisable (core : Cpu) (x : Fin 2) (s : State) : Host.Outcome State Fault Refusal :=
  .next (live s (setField core (SP_CTL_EN x) 0 s))

/-- SP_DISABLE_DONE (R513). -/
def execSpDisableDone (x : Fin 2) (s : State) : Host.Outcome State Fault Refusal := .next (live s (spDisableDone s x))

/-- WINDOW_COMMAND (R507). -/
def execWindowCommand (v : Word) (s : State) : Host.Outcome State Fault Refusal := .next (live s (windowCommand s v))

/-- WINDOW_READ (R509). -/
def execWindowRead (early : Bool) (s : State) : Host.Outcome State Fault Refusal := .next (live s (windowRead s early))

/-- WINDOW_WRITE (R509). -/
def execWindowWrite (v : Word) (early : Bool) (s : State) : Host.Outcome State Fault Refusal :=
  .next (live s (windowWrite s v early))

/-- TM_START (R518). -/
def execTmStart (core : Cpu) (t : Fin 8) (s : State) : Host.Outcome State Fault Refusal :=
  .next (live s (coreWrite core (A_TM_CMD t) 1 s))

/-- TM_STOP (R518). -/
def execTmStop (core : Cpu) (t : Fin 8) (s : State) : Host.Outcome State Fault Refusal :=
  .next (live s (coreWrite core (A_TM_CMD t) 2 s))

/-- TIMER_INCREMENT (R516). -/
def execTimerIncrement (t : Fin 8) (s : State) : Host.Outcome State Fault Refusal := .next (live s (tmTakeOutput s t))

/-- CAPTURE (R521). -/
def execCapture (t : Fin 8) (k : Fin 4) (rising : Bool) (s : State) : Host.Outcome State Fault Refusal :=
  .next (live s (tmCaptureAt s t k rising))

/-- CAP_POP (R522). -/
def execCapPop (core : Cpu) (t : Fin 8) (k : Fin 4) (s : State) : Host.Outcome State Fault Refusal :=
  .next (live s (coreRead core (A_TM_CH_CAP t k) s))

/-- WIDTH_READ (R524). -/
def execWidthRead (core : Cpu) (t : Fin 8) (k : Fin 4) (s : State) : Host.Outcome State Fault Refusal :=
  .next (live s (coreRead core (A_TM_CH_WIDTH t k) s))

/-- COUNT_WRITE (R517). -/
def execCountWrite (core : Cpu) (t : Fin 8) (v : Word) (s : State) : Host.Outcome State Fault Refusal :=
  .next (live s (coreWrite core (A_TM_COUNT t) v s))

/-- CMP_WRITE (R519). -/
def execCmpWrite (core : Cpu) (t : Fin 8) (k : Fin 4) (v : Word) (s : State) : Host.Outcome State Fault Refusal :=
  .next (live s (coreWrite core (A_TM_CH_CMP t k) v s))

/-- TM_DISABLE (R529). -/
def execTmDisable (core : Cpu) (s : State) : Host.Outcome State Fault Refusal :=
  .next (live s (setField core TM_CTL_EN 0 s))

/-- KICK (R532). -/
def execKick (core : Cpu) (w : Fin 5) (key : BitVec 16) (s : State) : Host.Outcome State Fault Refusal :=
  .next (live s (coreWrite core (A_WD_KICK (wdReg w)) (key.setWidth 32) s))

/-- WD_WARN (R533). -/
def execWdWarn (w : Fin 5) (s : State) : Host.Outcome State Fault Refusal := .next (live s (wdWarn s w))

/-- WD_EXPIRY (R534). -/
def execWdExpiry (w : Fin 5) (s : State) : Host.Outcome State Fault Refusal := .next (live s (wdExpiry s w))

/-- CORE_RESTART_END (R534). -/
def execCoreRestartEnd (c : Cpu) (s : State) : Host.Outcome State Fault Refusal := .next (live s (coreRestartEnd s c))

/-- FLASH_ECC_ERROR (R468). -/
def execFlashEccError (agent : SramAgent) (addr : BitVec 22) (uncorrectable : Bool) (s : State) : Host.Outcome State Fault Refusal :=
  .next (live s (flashEcc s agent addr.toNat uncorrectable))

end Sys2Proof.Machine
end

