-- ==== Sys2Proof/Machine/ExecPower.lean ====
section
/-! DEFINITION. Machine/ExecPower.lean: the meanings of the commands of power, supply, fault containment and pins (chapters 19 to 21), in the table's order. -/

namespace Sys2Proof.Machine

/-- SRAM_UNCORRECTABLE (R567). -/
def execSramUncorrectable (agent : SramAgent) (addr : BitVec 20) (s : State) : Host.Outcome State Fault Refusal :=
  .next (live s (sramUnc s agent addr.toNat))

/-- UNIT_SCAN_END (R567). -/
def execUnitScanEnd (k : Fin 32) (s : State) : Host.Outcome State Fault Refusal := .next (live s (scanEnd s k))

/-- REC_POP (R573). -/
def execRecPop (core : Cpu) (s : State) : Host.Outcome State Fault Refusal :=
  .next (live s (coreWrite core A_FC_REC_POP 1 s))

/-- SLEEP_ARM (R544). -/
def execSleepArm (core : Cpu) (arm target : Bool) (s : State) : Host.Outcome State Fault Refusal :=
  .next (live s (coreWrite core A_PM_SLEEP (w32 (b2n arm + 2 * b2n target)) s))

/-- SLEEP_ATTEMPT (R545). -/
def execSleepAttempt (s : State) : Host.Outcome State Fault Refusal := .next (live s (pmAttempt s))

/-- WAKE (R549). -/
def execWake (s : State) : Host.Outcome State Fault Refusal := .next (live s (wakeStart s))

/-- WAKE_PIN (R550). -/
def execWakePin (high : Bool) (s : State) : Host.Outcome State Fault Refusal := .next (settle (wakePin s high))

/-- COMPARATOR_CHANGE (R551). -/
def execComparatorChange (x : Fin 2) (out : Bool) (s : State) : Host.Outcome State Fault Refusal :=
  .next (live s (comparatorChange s x out))

/-- SLOW_ALARM (R548). -/
def execSlowAlarm (s : State) : Host.Outcome State Fault Refusal := .next (live s (slowAlarm s))

/-- OFF (R552). -/
def execOff (core : Cpu) (key : BitVec 16) (s : State) : Host.Outcome State Fault Refusal :=
  .next (live s (coreWrite core A_PM_CMD (w32 (1 + 2 ^ 16 * key.toNat)) s))

/-- SYSRST (R552). -/
def execSysrst (core : Cpu) (key : BitVec 16) (s : State) : Host.Outcome State Fault Refusal :=
  .next (live s (coreWrite core A_PM_CMD (w32 (2 + 2 ^ 16 * key.toNat)) s))

/-- VCORE_WRITE (R553). -/
def execVcoreWrite (core : Cpu) (bspr : Bool) (run : BitVec 8) (s : State) : Host.Outcome State Fault Refusal :=
  .next (live s (coreWrite core A_PM_VCORE (w32 (256 * b2n bspr + run.toNat)) s))

/-- DROOP (R557). -/
def execDroop (level : Fin 3) (s : State) : Host.Outcome State Fault Refusal := .next (live s (droop s level))

/-- DROOP_RELEASE (R45). -/
def execDroopRelease (s : State) : Host.Outcome State Fault Refusal := .next (live s (droopRelease s))

/-- VR_ENABLE (R556). -/
def execVrEnable (core : Cpu) (s : State) : Host.Outcome State Fault Refusal :=
  .next (live s (setField core VR_CTL_EN 1 s))

/-- VR_DISABLE (R556). -/
def execVrDisable (core : Cpu) (s : State) : Host.Outcome State Fault Refusal :=
  .next (live s (setField core VR_CTL_EN 0 s))

/-- VRQ_ACK (R554). -/
def execVrqAck (s : State) : Host.Outcome State Fault Refusal := .next (live s (vrAck s))

/-- VR_TIMEOUT (R555). -/
def execVrTimeout (s : State) : Host.Outcome State Fault Refusal := .next (live s (vrTimeout s))

/-- OUT_SET (R588). -/
def execOutSet (core : Cpu) (mask : BitVec 24) (s : State) : Host.Outcome State Fault Refusal :=
  .next (live s (coreWrite core A_GP_OUT_SET (mask.setWidth 32) s))

/-- OUT_CLR (R588). -/
def execOutClr (core : Cpu) (mask : BitVec 24) (s : State) : Host.Outcome State Fault Refusal :=
  .next (live s (coreWrite core A_GP_OUT_CLR (mask.setWidth 32) s))

/-- GPIO_EDGE (R589). -/
def execGpioEdge (n : Fin 24) (rising : Bool) (s : State) : Host.Outcome State Fault Refusal :=
  .next (live s (gpInput s n rising))

/-- SRAM_CORRECTABLE (R566). -/
def execSramCorrectable (agent : SramAgent) (addr : BitVec 20) (s : State) : Host.Outcome State Fault Refusal :=
  .next (live s (sramEcc s agent (0x20000000 + addr.toNat / 4 * 4)))

/-- VIO_SUPPLY_LOSS (R581). -/
def execVioSupplyLoss (b lost : Bool) (s : State) : Host.Outcome State Fault Refusal := .next (live s (s.setVio b lost))

end Sys2Proof.Machine
end

