-- ==== Sys2Proof/WellFormed.lean ====
section
/-! DEFINITION. WellFormed.lean: the checks on commands whose operands the types do not bound: octets. -/

namespace Sys2Proof

/-- A frame's PSDU has at most 2,047 octets (R138, R144); an entropy word is hashed from 1,024 raw bits (R374). Every
other command is well formed. -/
def Instr.wellFormed (i : Instr) : Bool :=
  match i with
  | .frameEnd _ psdu => decide (psdu.length ≤ 2047)
  | .entropyWord raw => decide (raw.length = 128)
  | _ => true

end Sys2Proof
end

