-- ==== Sys2Proof/Machine/ExecRadio.lean ====
section
/-! DEFINITION. Machine/ExecRadio.lean: the meanings of the commands of the analogue shell and the lanes (chapters 4 and 5), in the table's order. -/

namespace Sys2Proof.Machine

/-- RETUNE (R108). -/
def execRetune (core : Cpu) (freq : BitVec 24) (s : State) : Host.Outcome State Fault Refusal :=
  .next (live s (coreWrite core A_FE_WIN_CTL (freq.setWidth 32) s))

/-- RETUNE_COMPLETE (R109). -/
def execRetuneComplete (ok : Bool) (temp : BitVec 16) (s : State) : Host.Outcome State Fault Refusal :=
  .next (live s (feRetuneComplete s ok temp.toNat))

/-- CAL_SYN (R112). -/
def execCalSyn (core : Cpu) (s : State) : Host.Outcome State Fault Refusal :=
  .next (live s (coreWrite core A_FE_CAL_CMD 1 s))

/-- CAL_DC (R112). -/
def execCalDc (core : Cpu) (s : State) : Host.Outcome State Fault Refusal :=
  .next (live s (coreWrite core A_FE_CAL_CMD 2 s))

/-- CAL_IQADC (R112). -/
def execCalIqadc (core : Cpu) (s : State) : Host.Outcome State Fault Refusal :=
  .next (live s (coreWrite core A_FE_CAL_CMD 4 s))

/-- CAL_PALP (R112). -/
def execCalPalp (core : Cpu) (s : State) : Host.Outcome State Fault Refusal :=
  .next (live s (coreWrite core A_FE_CAL_CMD 8 s))

/-- CAL_PAHP (R112). -/
def execCalPahp (core : Cpu) (s : State) : Host.Outcome State Fault Refusal :=
  .next (live s (coreWrite core A_FE_CAL_CMD 16 s))

/-- CAL_COMPLETE (R112). -/
def execCalComplete (ok : Bool) (temp : BitVec 16) (s : State) : Host.Outcome State Fault Refusal :=
  .next (live s (feCalComplete s ok temp.toNat))

/-- SENSE_PERIOD (R128). -/
def execSensePeriod (temp mv : BitVec 16) (s : State) : Host.Outcome State Fault Refusal :=
  .next (live s (fePeriod s temp.toNat mv.toNat))

/-- SENSE_NOW (R128). -/
def execSenseNow (core : Cpu) (temp mv : BitVec 16) (s : State) : Host.Outcome State Fault Refusal :=
  .next (live s (senseNow core temp.toNat mv.toNat s))

/-- FORCED_CAL (R114). -/
def execForcedCal (s : State) : Host.Outcome State Fault Refusal := .next (live s (feForced s))

/-- SYNTH_UNLOCK (R115). -/
def execSynthUnlock (s : State) : Host.Outcome State Fault Refusal := .next (live s (feUnlock s))

/-- SYNTH_RELOCK (R116). -/
def execSynthRelock (s : State) : Host.Outcome State Fault Refusal :=
  .next (live s (if s.awake && s.isLocked && !s.fe.relocked then czWake (feRelock s) else s))

/-- CHAIN_ENABLE (R118). -/
def execChainEnable (core : Cpu) (chain : Fin 2) (s : State) : Host.Outcome State Fault Refusal :=
  .next (live s (setField core (if chain = 0 then FE_CTL_CHA_EN else FE_CTL_CHB_EN) 1 s))

/-- CHAIN_DISABLE (R118). -/
def execChainDisable (core : Cpu) (chain : Fin 2) (s : State) : Host.Outcome State Fault Refusal :=
  .next (live s (setField core (if chain = 0 then FE_CTL_CHA_EN else FE_CTL_CHB_EN) 0 s))

/-- GAIN_STEP_DOWN (R119). -/
def execGainStepDown (chain : Fin 2) (s : State) : Host.Outcome State Fault Refusal :=
  .next (live s (if s.chainUp chain then feGain s chain true else s))

/-- GAIN_STEP_UP (R119). -/
def execGainStepUp (chain : Fin 2) (s : State) : Host.Outcome State Fault Refusal :=
  .next (live s (if s.chainUp chain then feGain s chain false else s))

/-- RSSI_REFRESH (R126). -/
def execRssiRefresh (n : Fin 16) (a b : BitVec 16) (s : State) : Host.Outcome State Fault Refusal :=
  .next (live s (if s.chainUp 0 || s.chainUp 1 then feRssi s n a.toNat b.toNat else s))

/-- FE_DISABLE (R129). -/
def execFeDisable (core : Cpu) (s : State) : Host.Outcome State Fault Refusal :=
  .next (live s (setField core FE_CTL_EN 0 s))

/-- FE_DISABLE_DONE (R129). -/
def execFeDisableDone (s : State) : Host.Outcome State Fault Refusal := .next (live s (feDisableDone s))

/-- FE_ENABLE (R129). -/
def execFeEnable (core : Cpu) (s : State) : Host.Outcome State Fault Refusal :=
  .next (live s (setField core FE_CTL_EN 1 s))

/-- TX_RAMP_UP (R124). -/
def execTxRampUp (s : State) : Host.Outcome State Fault Refusal := .next (live s (rampUp s))

/-- TX_LAST_BIT (R124). -/
def execTxLastBit (s : State) : Host.Outcome State Fault Refusal := .next (live s (lastBit s))

/-- TX_RAMP_DOWN_END (R124). -/
def execTxRampDownEnd (s : State) : Host.Outcome State Fault Refusal := .next (live s (rampEnd s))

/-- CHAINS_IN_SERVICE (R31). -/
def execChainsInService (s : State) : Host.Outcome State Fault Refusal := .next (live s (airService s))

/-- LANE_ARM (R146). -/
def execLaneArm (core : Cpu) (n : Fin 16) (s : State) : Host.Outcome State Fault Refusal :=
  .next (live s (coreWrite core (A_CZ_LANE_CMD n) 1 s))

/-- LANE_DISARM (R146). -/
def execLaneDisarm (core : Cpu) (n : Fin 16) (s : State) : Host.Outcome State Fault Refusal :=
  .next (live s (coreWrite core (A_CZ_LANE_CMD n) 2 s))

/-- LANE_CFG_WRITE (R149). -/
def execLaneCfgWrite (core : Cpu) (n : Fin 16) (v : Word) (s : State) : Host.Outcome State Fault Refusal :=
  .next (live s (coreWrite core (A_CZ_LANE_CFG n) v s))

/-- PREAMBLE_DETECT (R150). -/
def execPreambleDetect (n : Fin 16) (chain : Fin 2) (s : State) : Host.Outcome State Fault Refusal :=
  .next (live s (preambleSeen s n chain))

/-- DIVERSITY_DECISION (R150). -/
def execDiversityDecision (n : Fin 16) (ma mb : BitVec 16) (s : State) : Host.Outcome State Fault Refusal :=
  .next (live s (diversityDecision s n ma.toNat mb.toNat))

/-- SYNC_WORD_DETECT (R62). -/
def execSyncWordDetect (n : Fin 16) (rssi snr8 cfo : BitVec 16) (coded : Bool) (s : State) : Host.Outcome State Fault Refusal :=
  .next (live s (syncSeen s n rssi.toNat snr8.toNat cfo.toNat coded))

/-- SYNC_TIMEOUT (R147). -/
def execSyncTimeout (n : Fin 16) (s : State) : Host.Outcome State Fault Refusal := .next (live s (syncTimeout s n))

/-- PREAMBLE_LOST (R147). -/
def execPreambleLost (n : Fin 16) (s : State) : Host.Outcome State Fault Refusal := .next (live s (searchEnd s n))

/-- PHR_END (R154). -/
def execPhrEnd (n : Fin 16) (phr : BitVec 16) (s : State) : Host.Outcome State Fault Refusal :=
  .next (live s (phrEnd s n phr.toNat))

/-- FRAME_END (R155). -/
def execFrameEnd (n : Fin 16) (psdu : List Byte) (s : State) : Host.Outcome State Fault Refusal :=
  if Instr.wellFormed (.frameEnd n psdu) then .next (live s (frameEnd s n psdu)) else .fault .illFormed

/-- LANE_FAIL (R161). -/
def execLaneFail (n : Fin 16) (s : State) : Host.Outcome State Fault Refusal := .next (live s (laneFail s n false))

/-- SELFTEST_START (R160). -/
def execSelftestStart (s : State) : Host.Outcome State Fault Refusal :=
  .next (live s (if selfDue s then selfStart s else s))

/-- SELFTEST_END (R160). -/
def execSelftestEnd (n : Fin 16) (ok : Bool) (s : State) : Host.Outcome State Fault Refusal :=
  .next (live s (selfEnd s n ok))

/-- BSC_SAMPLE (R165). -/
def execBscSample (s : State) : Host.Outcome State Fault Refusal :=
  .next (live s (if sampleDue s then bscSample s else s))

/-- SURVEY_STEP (R166). -/
def execSurveyStep (s : State) : Host.Outcome State Fault Refusal :=
  .next (live s (if surveyDue s then surveyStep s else s))

/-- BSC_DECISION (R167). -/
def execBscDecision (s : State) : Host.Outcome State Fault Refusal :=
  .next (live s (if decideDue s then bscDecide s else s))

/-- BSC_CHANGE (R168). -/
def execBscChange (s : State) : Host.Outcome State Fault Refusal := .next (live s (bscChange s))

/-- BSC_DISABLE (R169). -/
def execBscDisable (core : Cpu) (s : State) : Host.Outcome State Fault Refusal :=
  .next (live s (setField core CZ_BSC_CTL_EN 0 s))

/-- CZ_DISABLE (R170). -/
def execCzDisable (core : Cpu) (s : State) : Host.Outcome State Fault Refusal :=
  .next (live s (setField core CZ_CTL_EN 0 s))

/-- CZ_ENABLE (R170). -/
def execCzEnable (core : Cpu) (s : State) : Host.Outcome State Fault Refusal :=
  .next (live s (setField core CZ_CTL_EN 1 s))

end Sys2Proof.Machine
end

