-- ==== Sys2Proof/Machine/ExecRendezvous.lean ====
section
/-! DEFINITION. Machine/ExecRendezvous.lean: the meanings of the commands of rendezvous, budget and coexistence (chapters 7 and 8), in the table's order. -/

namespace Sys2Proof.Machine

/-- SNIFF_INT_WRITE (R223). -/
def execSniffIntWrite (core : Cpu) (sel : Fin 3) (v : Word) (s : State) : Host.Outcome State Fault Refusal :=
  .next (live s (coreWrite core (A_LS_SNF_INT + 4 * sel) v s))

/-- SNIFF_OPEN (R222). -/
def execSniffOpen (s : State) : Host.Outcome State Fault Refusal := .next (live s (sniffOpen s))

/-- SNIFF_CLOSE (R224). -/
def execSniffClose (s : State) : Host.Outcome State Fault Refusal := .next (live s (sniffClose s))

/-- DATA_WINDOW_OPEN (R234). -/
def execDataWindowOpen (s : State) : Host.Outcome State Fault Refusal := .next (live s (dataOpen s))

/-- DATA_WINDOW_CLOSE (R234). -/
def execDataWindowClose (s : State) : Host.Outcome State Fault Refusal := .next (live s (dataClose s))

/-- WAKE_TRAIN_SEGMENT (R232). -/
def execWakeTrainSegment (n : Fin 4) (s : State) : Host.Outcome State Fault Refusal := .next (live s (trainSegment s n))

/-- BEACON_WINDOW_OPEN (R240). -/
def execBeaconWindowOpen (s : State) : Host.Outcome State Fault Refusal := .next (live s (bcnOpen s))

/-- BEACON_MISS (R241). -/
def execBeaconMiss (s : State) : Host.Outcome State Fault Refusal := .next (live s (bcnMiss s))

/-- AMBER_SECOND (R242). -/
def execAmberSecond (s : State) : Host.Outcome State Fault Refusal := .next (live s (amberSecond s))

/-- UMBER_STEP (R243). -/
def execUmberStep (s : State) : Host.Outcome State Fault Refusal := .next (live s (umberStep s))

/-- REPARENT (R247). -/
def execReparent (core : Cpu) (idx : BitVec 9) (s : State) : Host.Outcome State Fault Refusal :=
  .next (live s (coreWrite core A_LS_BCN_CMD (w32 (2 ^ 31 + idx.toNat)) s))

/-- BSET_EFFECT (R249). -/
def execBsetEffect (s : State) : Host.Outcome State Fault Refusal := .next (live s (bsetEffect s))

/-- BUCKET_RETIRE (R257). -/
def execBucketRetire (n : Fin 8) (s : State) : Host.Outcome State Fault Refusal := .next (live s (bucketRetire s n))

/-- PRESET (R267). -/
def execPreset (core : Cpu) (n : Fin 8) (p : BitVec 4) (s : State) : Host.Outcome State Fault Refusal :=
  .next (live s (coreWrite core (A_DC_REC_CMD n) (p.setWidth 32) s))

/-- DC_RECORD_WRITE (R265). -/
def execDcRecordWrite (core : Cpu) (n : Fin 8) (k : Fin 4) (v : Word) (s : State) : Host.Outcome State Fault Refusal :=
  .next (live s (coreWrite core (A_DC_REC_CFG n + 4 * k) v s))

/-- LBT_LISTEN_END (R269). -/
def execLbtListenEnd (n : Fin 4) (draw : Word) (s : State) : Host.Outcome State Fault Refusal :=
  .next (live s (listenEnd s n draw))

/-- COEX_REQUEST (R271). -/
def execCoexRequest (s : State) : Host.Outcome State Fault Refusal := .next (live s (cxRise s))

/-- GRANT_SAMPLE (R273). -/
def execGrantSample (owner : Fin 20) (gnt : Bool) (s : State) : Host.Outcome State Fault Refusal :=
  .next (live s (grantSample (s.setGnt gnt) owner))

/-- GRANT_WITHDRAWN (R274). -/
def execGrantWithdrawn (s : State) : Host.Outcome State Fault Refusal :=
  .next (live s (grantWithdrawn (s.setGnt (s.on CX_CTL_POL_GNT))))

/-- DC_DISABLE (R277). -/
def execDcDisable (core : Cpu) (s : State) : Host.Outcome State Fault Refusal :=
  .next (live s (setField core DC_CTL_EN 0 s))

/-- DC_DISABLE_DONE (R277). -/
def execDcDisableDone (s : State) : Host.Outcome State Fault Refusal := .next (live s (dcDisableDone s))

/-- CX_DISABLE (R278). -/
def execCxDisable (core : Cpu) (s : State) : Host.Outcome State Fault Refusal :=
  .next (live s (setField core CX_CTL_EN 0 s))

end Sys2Proof.Machine
end

