-- ==== Sys2Proof/Machine/ExecSecurity.lean ====
section
/-! DEFINITION. Machine/ExecSecurity.lean: the meanings of the commands of the cipher engine, signatures, identity and boot (chapters 11 to 13), in the table's order. -/

namespace Sys2Proof.Machine

/-- LOAD (R340). -/
def execLoad (core : Cpu) (n : Fin 64) (s : State) : Host.Outcome State Fault Refusal :=
  .next (live s (coreWrite core (A_CE_KS_CMD n) 1 s))

/-- CLEAR (R340). -/
def execClear (core : Cpu) (n : Fin 64) (s : State) : Host.Outcome State Fault Refusal :=
  .next (live s (coreWrite core (A_CE_KS_CMD n) 2 s))

/-- KS_ATTR_WRITE (R342). -/
def execKsAttrWrite (core : Cpu) (n : Fin 64) (v : Word) (s : State) : Host.Outcome State Fault Refusal :=
  .next (live s (coreWrite core (A_CE_KS_ATTR n) v s))

/-- CE_START (R355). -/
def execCeStart (core : Cpu) (c : Cpu) (s : State) : Host.Outcome State Fault Refusal :=
  .next (live s (setField core (CE_J_CTL_START c) 1 s))

/-- CE_JOB_RUN (R355). -/
def execCeJobRun (c : Cpu) (ecc : Bool) (s : State) : Host.Outcome State Fault Refusal :=
  .next (live s (ceJobRun s c ecc))

/-- CE_JOB_END (R354). -/
def execCeJobEnd (c : Cpu) (bus : Bool) (s : State) : Host.Outcome State Fault Refusal :=
  .next (live s (ceJobEnd s c bus))

/-- CE_ABORT (R357). -/
def execCeAbort (core : Cpu) (c : Cpu) (s : State) : Host.Outcome State Fault Refusal :=
  .next (live s (setField core (CE_J_CTL_ABORT c) 1 s))

/-- CE_DISABLE (R358). -/
def execCeDisable (core : Cpu) (s : State) : Host.Outcome State Fault Refusal :=
  .next (live s (setField core CE_CTL_EN 0 s))

/-- PQ_START (R362). -/
def execPqStart (core : Cpu) (c : Cpu) (s : State) : Host.Outcome State Fault Refusal :=
  .next (live s (setField core (PQ_J_CTL_START c) 1 s))

/-- PQ_JOB_RUN (R364). -/
def execPqJobRun (c : Cpu) (s : State) : Host.Outcome State Fault Refusal := .next (live s (pqJobRun s c))

/-- PQ_JOB_END (R371). -/
def execPqJobEnd (c : Cpu) (rounds : BitVec 8) (bus : Bool) (s : State) : Host.Outcome State Fault Refusal :=
  .next (live s (pqJobEnd s c rounds.toNat bus))

/-- PQ_ABORT (R372). -/
def execPqAbort (core : Cpu) (c : Cpu) (s : State) : Host.Outcome State Fault Refusal :=
  .next (live s (setField core (PQ_J_CTL_ABORT c) 1 s))

/-- PQ_DISABLE (R372). -/
def execPqDisable (core : Cpu) (s : State) : Host.Outcome State Fault Refusal :=
  .next (live s (setField core PQ_CTL_EN 0 s))

/-- CLEAR1 (R369). -/
def execClear1 (core : Cpu) (s : State) : Host.Outcome State Fault Refusal :=
  .next (live s (coreWrite core A_PQ_PK_CMD 1 s))

/-- ENTROPY_WORD (R374). -/
def execEntropyWord (raw : List Byte) (s : State) : Host.Outcome State Fault Refusal :=
  if Instr.wellFormed (.entropyWord raw) then .next (live s (entropyWord s raw)) else .fault .illFormed

/-- ENTROPY_FAIL (R374). -/
def execEntropyFail (rct : Bool) (s : State) : Host.Outcome State Fault Refusal := .next (live s (entropyFail s rct))

/-- RESTART (R373). -/
def execRestart (core : Cpu) (s : State) : Host.Outcome State Fault Refusal :=
  .next (live s (coreWrite core A_PQ_ENT_CTL 1 s))

/-- STARTUP_TEST_END (R373). -/
def execStartupTestEnd (s : State) : Host.Outcome State Fault Refusal := .next (live s (startupTestEnd s))

/-- PROG_OKH (R379). -/
def execProgOkh (core : Cpu) (idx : Fin 4) (s : State) : Host.Outcome State Fault Refusal :=
  .next (live s (coreWrite core A_PQ_OTP_CMD (w32 (1 + 16 * idx)) s))

/-- REVOKE (R379). -/
def execRevoke (core : Cpu) (idx : Fin 4) (s : State) : Host.Outcome State Fault Refusal :=
  .next (live s (coreWrite core A_PQ_OTP_CMD (w32 (2 + 16 * idx)) s))

/-- ARB_ADV (R379). -/
def execArbAdv (core : Cpu) (s : State) : Host.Outcome State Fault Refusal :=
  .next (live s (coreWrite core A_PQ_OTP_CMD 3 s))

/-- OTP_OP_END (R379). -/
def execOtpOpEnd (s : State) : Host.Outcome State Fault Refusal := .next (live s (otpOpEnd s))

/-- BOOT (R413). -/
def execBoot (e : BootEnv) (s : State) : Host.Outcome State Fault Refusal := .next (live s (boot e s))

/-- RELEASE (R414). -/
def execRelease (e : BootEnv) (s : State) : Host.Outcome State Fault Refusal := .next (live s (release e s))

end Sys2Proof.Machine
end

