-- ==== Sys2Proof/Machine/Dispatch.lean ====
section
/-! DEFINITION. Machine/Dispatch.lean: one arm per command, each one call of its meaning. -/

namespace Sys2Proof.Machine

def exec (i : Instr) (s : State) : Host.Outcome State Fault Refusal :=
  match i with
  | .registerWrite core form addr v => Sys2Proof.Machine.execRegisterWrite core form addr v s
  | .rcRead core access meets => Sys2Proof.Machine.execRcRead core access meets s
  | .powerOnReset => Sys2Proof.Machine.execPowerOnReset s
  | .systemReset => Sys2Proof.Machine.execSystemReset s
  | .brownOut coreRail => Sys2Proof.Machine.execBrownOut coreRail s
  | .tbaseUnlock => Sys2Proof.Machine.execTbaseUnlock s
  | .pllLock => Sys2Proof.Machine.execPllLock s
  | .loReadCapture core r => Sys2Proof.Machine.execLoReadCapture core r s
  | .hiReadShadow core r => Sys2Proof.Machine.execHiReadShadow core r s
  | .ratioUpdate m => Sys2Proof.Machine.execRatioUpdate m s
  | .slowFail => Sys2Proof.Machine.execSlowFail s
  | .slowEdgeReturn => Sys2Proof.Machine.execSlowEdgeReturn s
  | .slowFailRestart => Sys2Proof.Machine.execSlowFailRestart s
  | .timeBaseRestart => Sys2Proof.Machine.execTimeBaseRestart s
  | .compareArm core n wake sel per => Sys2Proof.Machine.execCompareArm core n wake sel per s
  | .compareDisarm core n => Sys2Proof.Machine.execCompareDisarm core n s
  | .compareFire n => Sys2Proof.Machine.execCompareFire n s
  | .dtimeSlewStep => Sys2Proof.Machine.execDtimeSlewStep s
  | .groupOpen core g => Sys2Proof.Machine.execGroupOpen core g s
  | .stagePush core g v => Sys2Proof.Machine.execStagePush core g v s
  | .commitNow core g => Sys2Proof.Machine.execCommitNow core g s
  | .commitAt core g sel => Sys2Proof.Machine.execCommitAt core g sel s
  | .groupAbort core g => Sys2Proof.Machine.execGroupAbort core g s
  | .groupRelease core g => Sys2Proof.Machine.execGroupRelease core g s
  | .preDeliveryEnd g => Sys2Proof.Machine.execPreDeliveryEnd g s
  | .commitPoint g => Sys2Proof.Machine.execCommitPoint g s
  | .acDisable core => Sys2Proof.Machine.execAcDisable core s
  | .retune core freq => Sys2Proof.Machine.execRetune core freq s
  | .retuneComplete ok temp => Sys2Proof.Machine.execRetuneComplete ok temp s
  | .calSyn core => Sys2Proof.Machine.execCalSyn core s
  | .calDc core => Sys2Proof.Machine.execCalDc core s
  | .calIqadc core => Sys2Proof.Machine.execCalIqadc core s
  | .calPalp core => Sys2Proof.Machine.execCalPalp core s
  | .calPahp core => Sys2Proof.Machine.execCalPahp core s
  | .calComplete ok temp => Sys2Proof.Machine.execCalComplete ok temp s
  | .sensePeriod temp mv => Sys2Proof.Machine.execSensePeriod temp mv s
  | .senseNow core temp mv => Sys2Proof.Machine.execSenseNow core temp mv s
  | .forcedCal => Sys2Proof.Machine.execForcedCal s
  | .synthUnlock => Sys2Proof.Machine.execSynthUnlock s
  | .synthRelock => Sys2Proof.Machine.execSynthRelock s
  | .chainEnable core chain => Sys2Proof.Machine.execChainEnable core chain s
  | .chainDisable core chain => Sys2Proof.Machine.execChainDisable core chain s
  | .gainStepDown chain => Sys2Proof.Machine.execGainStepDown chain s
  | .gainStepUp chain => Sys2Proof.Machine.execGainStepUp chain s
  | .rssiRefresh n a b => Sys2Proof.Machine.execRssiRefresh n a b s
  | .feDisable core => Sys2Proof.Machine.execFeDisable core s
  | .feDisableDone => Sys2Proof.Machine.execFeDisableDone s
  | .feEnable core => Sys2Proof.Machine.execFeEnable core s
  | .txRampUp => Sys2Proof.Machine.execTxRampUp s
  | .txLastBit => Sys2Proof.Machine.execTxLastBit s
  | .txRampDownEnd => Sys2Proof.Machine.execTxRampDownEnd s
  | .chainsInService => Sys2Proof.Machine.execChainsInService s
  | .laneArm core n => Sys2Proof.Machine.execLaneArm core n s
  | .laneDisarm core n => Sys2Proof.Machine.execLaneDisarm core n s
  | .laneCfgWrite core n v => Sys2Proof.Machine.execLaneCfgWrite core n v s
  | .preambleDetect n chain => Sys2Proof.Machine.execPreambleDetect n chain s
  | .diversityDecision n ma mb => Sys2Proof.Machine.execDiversityDecision n ma mb s
  | .syncWordDetect n rssi snr8 cfo coded => Sys2Proof.Machine.execSyncWordDetect n rssi snr8 cfo coded s
  | .syncTimeout n => Sys2Proof.Machine.execSyncTimeout n s
  | .preambleLost n => Sys2Proof.Machine.execPreambleLost n s
  | .phrEnd n phr => Sys2Proof.Machine.execPhrEnd n phr s
  | .frameEnd n psdu => Sys2Proof.Machine.execFrameEnd n psdu s
  | .laneFail n => Sys2Proof.Machine.execLaneFail n s
  | .selftestStart => Sys2Proof.Machine.execSelftestStart s
  | .selftestEnd n ok => Sys2Proof.Machine.execSelftestEnd n ok s
  | .bscSample => Sys2Proof.Machine.execBscSample s
  | .surveyStep => Sys2Proof.Machine.execSurveyStep s
  | .bscDecision => Sys2Proof.Machine.execBscDecision s
  | .bscChange => Sys2Proof.Machine.execBscChange s
  | .bscDisable core => Sys2Proof.Machine.execBscDisable core s
  | .czDisable core => Sys2Proof.Machine.execCzDisable core s
  | .czEnable core => Sys2Proof.Machine.execCzEnable core s
  | .lsStart core n => Sys2Proof.Machine.execLsStart core n s
  | .haltCmd core n => Sys2Proof.Machine.execHaltCmd core n s
  | .mail core n => Sys2Proof.Machine.execMail core n s
  | .abortTx core n => Sys2Proof.Machine.execAbortTx core n s
  | .mov n => Sys2Proof.Machine.execMov n s
  | .movi n => Sys2Proof.Machine.execMovi n s
  | .add n => Sys2Proof.Machine.execAdd n s
  | .sub n => Sys2Proof.Machine.execSub n s
  | .cmp n => Sys2Proof.Machine.execCmp n s
  | .jmp n => Sys2Proof.Machine.execJmp n s
  | .jcc n => Sys2Proof.Machine.execJcc n s
  | .call n => Sys2Proof.Machine.execCall n s
  | .ret n => Sys2Proof.Machine.execRet n s
  | .yield n => Sys2Proof.Machine.execYield n s
  | .haltInsn n => Sys2Proof.Machine.execHaltInsn n s
  | .illegal n => Sys2Proof.Machine.execIllegal n s
  | .ldt n => Sys2Proof.Machine.execLdt n s
  | .waitt n => Sys2Proof.Machine.execWaitt n s
  | .waittRelease n => Sys2Proof.Machine.execWaittRelease n s
  | .waite n => Sys2Proof.Machine.execWaite n s
  | .waiteDone n => Sys2Proof.Machine.execWaiteDone n s
  | .waiteTimeout n => Sys2Proof.Machine.execWaiteTimeout n s
  | .tune n => Sys2Proof.Machine.execTune n s
  | .lane n => Sys2Proof.Machine.execLane n s
  | .armrx n => Sys2Proof.Machine.execArmrx n s
  | .disrx n => Sys2Proof.Machine.execDisrx n s
  | .windowClose => Sys2Proof.Machine.execWindowClose s
  | .txf n => Sys2Proof.Machine.execTxf n s
  | .txfPrepared p => Sys2Proof.Machine.execTxfPrepared p s
  | .ackTimeout n => Sys2Proof.Machine.execAckTimeout n s
  | .ackpol n => Sys2Proof.Machine.execAckpol n s
  | .drift n => Sys2Proof.Machine.execDrift n s
  | .ldn n => Sys2Proof.Machine.execLdn n s
  | .stn n => Sys2Proof.Machine.execStn n s
  | .sig n => Sys2Proof.Machine.execSig n s
  | .pairMismatch n => Sys2Proof.Machine.execPairMismatch n s
  | .replayComplete n => Sys2Proof.Machine.execReplayComplete n s
  | .fhMismatch p ack => Sys2Proof.Machine.execFhMismatch p ack s
  | .ackSnapshot => Sys2Proof.Machine.execAckSnapshot s
  | .lsDisable core => Sys2Proof.Machine.execLsDisable core s
  | .lsDisableDone => Sys2Proof.Machine.execLsDisableDone s
  | .sniffIntWrite core sel v => Sys2Proof.Machine.execSniffIntWrite core sel v s
  | .sniffOpen => Sys2Proof.Machine.execSniffOpen s
  | .sniffClose => Sys2Proof.Machine.execSniffClose s
  | .dataWindowOpen => Sys2Proof.Machine.execDataWindowOpen s
  | .dataWindowClose => Sys2Proof.Machine.execDataWindowClose s
  | .wakeTrainSegment n => Sys2Proof.Machine.execWakeTrainSegment n s
  | .beaconWindowOpen => Sys2Proof.Machine.execBeaconWindowOpen s
  | .beaconMiss => Sys2Proof.Machine.execBeaconMiss s
  | .amberSecond => Sys2Proof.Machine.execAmberSecond s
  | .umberStep => Sys2Proof.Machine.execUmberStep s
  | .reparent core idx => Sys2Proof.Machine.execReparent core idx s
  | .bsetEffect => Sys2Proof.Machine.execBsetEffect s
  | .bucketRetire n => Sys2Proof.Machine.execBucketRetire n s
  | .preset core n p => Sys2Proof.Machine.execPreset core n p s
  | .dcRecordWrite core n k v => Sys2Proof.Machine.execDcRecordWrite core n k v s
  | .lbtListenEnd n draw => Sys2Proof.Machine.execLbtListenEnd n draw s
  | .coexRequest => Sys2Proof.Machine.execCoexRequest s
  | .grantSample owner gnt => Sys2Proof.Machine.execGrantSample owner gnt s
  | .grantWithdrawn => Sys2Proof.Machine.execGrantWithdrawn s
  | .dcDisable core => Sys2Proof.Machine.execDcDisable core s
  | .dcDisableDone => Sys2Proof.Machine.execDcDisableDone s
  | .cxDisable core => Sys2Proof.Machine.execCxDisable core s
  | .forward fault => Sys2Proof.Machine.execForward fault s
  | .nbEntryWrite core ix k v => Sys2Proof.Machine.execNbEntryWrite core ix k v s
  | .ringCopy k ecc => Sys2Proof.Machine.execRingCopy k ecc s
  | .ringKick core k => Sys2Proof.Machine.execRingKick core k s
  | .ringRetry => Sys2Proof.Machine.execRingRetry s
  | .subKick core => Sys2Proof.Machine.execSubKick core s
  | .submission fault => Sys2Proof.Machine.execSubmission fault s
  | .subFree core cell => Sys2Proof.Machine.execSubFree core cell s
  | .routeAging => Sys2Proof.Machine.execRouteAging s
  | .alloc core => Sys2Proof.Machine.execAlloc core s
  | .free core id => Sys2Proof.Machine.execFree core id s
  | .keyRollover w3 => Sys2Proof.Machine.execKeyRollover w3 s
  | .kprevExpire => Sys2Proof.Machine.execKprevExpire s
  | .fwDisable core => Sys2Proof.Machine.execFwDisable core s
  | .fwDisableDone => Sys2Proof.Machine.execFwDisableDone s
  | .load core n => Sys2Proof.Machine.execLoad core n s
  | .clear core n => Sys2Proof.Machine.execClear core n s
  | .ksAttrWrite core n v => Sys2Proof.Machine.execKsAttrWrite core n v s
  | .ceStart core c => Sys2Proof.Machine.execCeStart core c s
  | .ceJobRun c ecc => Sys2Proof.Machine.execCeJobRun c ecc s
  | .ceJobEnd c bus => Sys2Proof.Machine.execCeJobEnd c bus s
  | .ceAbort core c => Sys2Proof.Machine.execCeAbort core c s
  | .ceDisable core => Sys2Proof.Machine.execCeDisable core s
  | .pqStart core c => Sys2Proof.Machine.execPqStart core c s
  | .pqJobRun c => Sys2Proof.Machine.execPqJobRun c s
  | .pqJobEnd c rounds bus => Sys2Proof.Machine.execPqJobEnd c rounds bus s
  | .pqAbort core c => Sys2Proof.Machine.execPqAbort core c s
  | .pqDisable core => Sys2Proof.Machine.execPqDisable core s
  | .clear1 core => Sys2Proof.Machine.execClear1 core s
  | .entropyWord raw => Sys2Proof.Machine.execEntropyWord raw s
  | .entropyFail rct => Sys2Proof.Machine.execEntropyFail rct s
  | .restart core => Sys2Proof.Machine.execRestart core s
  | .startupTestEnd => Sys2Proof.Machine.execStartupTestEnd s
  | .progOkh core idx => Sys2Proof.Machine.execProgOkh core idx s
  | .revoke core idx => Sys2Proof.Machine.execRevoke core idx s
  | .arbAdv core => Sys2Proof.Machine.execArbAdv core s
  | .otpOpEnd => Sys2Proof.Machine.execOtpOpEnd s
  | .boot e => Sys2Proof.Machine.execBoot e s
  | .release e => Sys2Proof.Machine.execRelease e s
  | .coreStart core c => Sys2Proof.Machine.execCoreStart core c s
  | .wfi c => Sys2Proof.Machine.execWfi c s
  | .claim read => Sys2Proof.Machine.execClaim read s
  | .completion c w => Sys2Proof.Machine.execCompletion c w s
  | .svprioWrite c v => Sys2Proof.Machine.execSvprioWrite c v s
  | .swi core mask => Sys2Proof.Machine.execSwi core mask s
  | .pendWrite core k v hw => Sys2Proof.Machine.execPendWrite core k v hw s
  | .icAmo core arr k op v => Sys2Proof.Machine.execIcAmo core arr k op v s
  | .edgeLatch n => Sys2Proof.Machine.execEdgeLatch n s
  | .levelChange n level => Sys2Proof.Machine.execLevelChange n level s
  | .icDisable core => Sys2Proof.Machine.execIcDisable core s
  | .setaddr arg => Sys2Proof.Machine.execSetaddr arg s
  | .dbgRead late => Sys2Proof.Machine.execDbgRead late s
  | .dbgWrite v late => Sys2Proof.Machine.execDbgWrite v late s
  | .dmsel arg => Sys2Proof.Machine.execDmsel arg s
  | .dmread => Sys2Proof.Machine.execDmread s
  | .dmwrite v => Sys2Proof.Machine.execDmwrite v s
  | .dbgStatus => Sys2Proof.Machine.execDbgStatus s
  | .result => Sys2Proof.Machine.execResult s
  | .debugBadRequest head rest => Sys2Proof.Machine.execDebugBadRequest head rest s
  | .debugAccessDone => Sys2Proof.Machine.execDebugAccessDone s
  | .evDisable core => Sys2Proof.Machine.execEvDisable core s
  | .program core => Sys2Proof.Machine.execProgram core s
  | .erase core => Sys2Proof.Machine.execErase core s
  | .suspend core => Sys2Proof.Machine.execSuspend core s
  | .resume core => Sys2Proof.Machine.execResume core s
  | .flAbort core => Sys2Proof.Machine.execFlAbort core s
  | .flOpStart => Sys2Proof.Machine.execFlOpStart s
  | .programEnd ok => Sys2Proof.Machine.execProgramEnd ok s
  | .eraseEnd ok => Sys2Proof.Machine.execEraseEnd ok s
  | .autoSuspend core addr => Sys2Proof.Machine.execAutoSuspend core addr s
  | .autoResume => Sys2Proof.Machine.execAutoResume s
  | .flDisable core => Sys2Proof.Machine.execFlDisable core s
  | .xferStart core x rxign txfill sel count => Sys2Proof.Machine.execXferStart core x rxign txfill sel count s
  | .xferAbort core x => Sys2Proof.Machine.execXferAbort core x s
  | .masterWord x rx => Sys2Proof.Machine.execMasterWord x rx s
  | .stallClear x => Sys2Proof.Machine.execStallClear x s
  | .xferEnd x => Sys2Proof.Machine.execXferEnd x s
  | .rdyLow x => Sys2Proof.Machine.execRdyLow x s
  | .rdyHigh x => Sys2Proof.Machine.execRdyHigh x s
  | .rdyTimeout x => Sys2Proof.Machine.execRdyTimeout x s
  | .slaveSelect x => Sys2Proof.Machine.execSlaveSelect x s
  | .slaveWord x rx => Sys2Proof.Machine.execSlaveWord x rx s
  | .slaveDeselect x bits => Sys2Proof.Machine.execSlaveDeselect x bits s
  | .txdPush core x v => Sys2Proof.Machine.execTxdPush core x v s
  | .rxdPop core x => Sys2Proof.Machine.execRxdPop core x s
  | .flushRx core x => Sys2Proof.Machine.execFlushRx core x s
  | .flushTx core x => Sys2Proof.Machine.execFlushTx core x s
  | .spDisable core x => Sys2Proof.Machine.execSpDisable core x s
  | .spDisableDone x => Sys2Proof.Machine.execSpDisableDone x s
  | .windowCommand v => Sys2Proof.Machine.execWindowCommand v s
  | .windowRead early => Sys2Proof.Machine.execWindowRead early s
  | .windowWrite v early => Sys2Proof.Machine.execWindowWrite v early s
  | .tmStart core t => Sys2Proof.Machine.execTmStart core t s
  | .tmStop core t => Sys2Proof.Machine.execTmStop core t s
  | .timerIncrement t => Sys2Proof.Machine.execTimerIncrement t s
  | .capture t k rising => Sys2Proof.Machine.execCapture t k rising s
  | .capPop core t k => Sys2Proof.Machine.execCapPop core t k s
  | .widthRead core t k => Sys2Proof.Machine.execWidthRead core t k s
  | .countWrite core t v => Sys2Proof.Machine.execCountWrite core t v s
  | .cmpWrite core t k v => Sys2Proof.Machine.execCmpWrite core t k v s
  | .tmDisable core => Sys2Proof.Machine.execTmDisable core s
  | .kick core w key => Sys2Proof.Machine.execKick core w key s
  | .wdWarn w => Sys2Proof.Machine.execWdWarn w s
  | .wdExpiry w => Sys2Proof.Machine.execWdExpiry w s
  | .coreRestartEnd c => Sys2Proof.Machine.execCoreRestartEnd c s
  | .sramUncorrectable agent addr => Sys2Proof.Machine.execSramUncorrectable agent addr s
  | .unitScanEnd k => Sys2Proof.Machine.execUnitScanEnd k s
  | .recPop core => Sys2Proof.Machine.execRecPop core s
  | .sleepArm core arm target => Sys2Proof.Machine.execSleepArm core arm target s
  | .sleepAttempt => Sys2Proof.Machine.execSleepAttempt s
  | .wake => Sys2Proof.Machine.execWake s
  | .wakePin high => Sys2Proof.Machine.execWakePin high s
  | .comparatorChange x out => Sys2Proof.Machine.execComparatorChange x out s
  | .slowAlarm => Sys2Proof.Machine.execSlowAlarm s
  | .off core key => Sys2Proof.Machine.execOff core key s
  | .sysrst core key => Sys2Proof.Machine.execSysrst core key s
  | .vcoreWrite core bspr run => Sys2Proof.Machine.execVcoreWrite core bspr run s
  | .droop level => Sys2Proof.Machine.execDroop level s
  | .droopRelease => Sys2Proof.Machine.execDroopRelease s
  | .vrEnable core => Sys2Proof.Machine.execVrEnable core s
  | .vrDisable core => Sys2Proof.Machine.execVrDisable core s
  | .vrqAck => Sys2Proof.Machine.execVrqAck s
  | .vrTimeout => Sys2Proof.Machine.execVrTimeout s
  | .outSet core mask => Sys2Proof.Machine.execOutSet core mask s
  | .outClr core mask => Sys2Proof.Machine.execOutClr core mask s
  | .gpioEdge n rising => Sys2Proof.Machine.execGpioEdge n rising s
  | .imemEcc n => Sys2Proof.Machine.execImemEcc n s
  | .flashEccError agent addr uncorrectable => Sys2Proof.Machine.execFlashEccError agent addr uncorrectable s
  | .sramCorrectable agent addr => Sys2Proof.Machine.execSramCorrectable agent addr s
  | .vioSupplyLoss b lost => Sys2Proof.Machine.execVioSupplyLoss b lost s
  | .debugHalt c cause pc => Sys2Proof.Machine.execDebugHalt c cause pc s
  | .mstatusMieChange c mie meie user => Sys2Proof.Machine.execMstatusMieChange c mie meie user s

end Sys2Proof.Machine
end

