-- ==== Sys2Proof/Safety.lean ====
section
/-! DEFINITION. Safety.lean: what a step keeps, in the terms claims use. -/

namespace Sys2Proof.Machine

/-- The registers and pins that show other state show it as it is: the paired mode of the timers (R523), the fault record
queue and a recovery in progress (R573, R572), a calibration or retune running (R112), the entropy words ready (R374), the
halted cores (R447), the coexistence pins (R271, R275), the field that the aerial switch has its code from (R125). -/
abbrev Views (s : State) : Prop :=
  s.on TM_CTL_PAIRED = (s.ivory || s.on TM_CTL_TEST || !s.fc.recov.isEmpty) ∧
  s.get FC_STAT_LEVEL = s.fc.queue.length % 32 ∧
  s.on FC_STAT_RECOV = !s.fc.recov.isEmpty ∧
  s.on FE_CAL_STAT_BUSY = (s.fe.cal.isSome || s.on FE_RT_STAT_BUSY) ∧
  s.get PQ_ENT_STAT_POOL = s.pq.pool.length % 8 ∧
  (∀ c : Fin 4, bitOf (s.get IC_DBG_CTL_HALTED) c = (s.coreState c == csDebug)) ∧
  s.pins.req = s.dc.coex.any (·.high) ∧
  (s.pins.pri = s.dc.coex.any fun e => e.high && e.pri) ∧
  s.pins.antSel = antName s

/-- Registers and memory are listed in their canonical forms, so that equal contents are equal data. -/
abbrev Canonical (s : State) : Prop := Memory.wf s.mem ∧ Registers.wf s.regs

/-! ### Frames -/

/-- The parts of the state beside registers, memory and the queue. -/
inductive Part where
  | xFlash | resp | free | locked | openRegs | profile | power | tb | groups | cores | reservations | emitted | evWas | pm | fc | dbg | fl | tm
  | pins | sp | fe | cz | ls | rdv | dc | fw | ce | pq | bt
  deriving DecidableEq, Repr

/-- The pins are as they were, but for the aerial switch, which follows the shell (R125), and the coexistence pins. -/
abbrev pinsButSwitch (s t : State) : Prop :=
  t.pins = { s.pins with antsw := t.pins.antsw, antSel := t.pins.antSel, req := t.pins.req, pri := t.pins.pri }

/-- Part `p` of two states is the same, where an agent that is no core wrote only to the ranges `ms` of memory; the
coexistence pins and the field of the aerial switch, which `Views` determines, apart (the code changes with the field). -/
def Part.same (s t : State) (ms : List (Nat × Nat)) (p : Part) : Prop :=
  match p with
  | .xFlash => t.xFlash = s.xFlash
  | .resp => t.resp = s.resp
  | .free => t.free = s.free
  | .locked => t.locked = s.locked
  | .openRegs => t.openRegs = s.openRegs
  | .profile => t.profile = s.profile
  | .power => t.power = s.power
  | .tb => t.tb = s.tb
  | .groups => t.groups = s.groups
  | .cores => t.cores = s.cores
  | .reservations => t.reservations = s.reservations.filter fun r => ms.all fun m => outlives none m.1 m.2 r
  | .emitted => t.emitted = s.emitted
  | .evWas => t.evWas = s.evWas
  | .pm => t.pm = s.pm
  | .fc => t.fc = s.fc
  | .dbg => t.dbg = s.dbg
  | .fl => t.fl = s.fl
  | .tm => t.tm = s.tm
  | .pins => pinsButSwitch s t ∧
      t.pins.antsw = if t.pins.antSel = s.pins.antSel then s.pins.antsw else antCode t t.pins.antSel
  | .sp => t.sp = s.sp
  | .fe => t.fe = s.fe
  | .cz => t.cz = s.cz
  | .ls => t.ls = s.ls
  | .rdv => t.rdv = s.rdv
  | .dc => t.dc = s.dc
  | .fw => t.fw = s.fw
  | .ce => t.ce = s.ce
  | .pq => t.pq = s.pq
  | .bt => t.bt = s.bt

/-- Bit `b` of the register at `a` lies outside field `f`. -/
def Field.misses (f : Field) (a b : Nat) : Bool := f.addr != a || decide (b < f.lo) || decide (f.lo + f.w ≤ b)

/-- The register at an address, as a field. -/
abbrev wordAt (a : Nat) : Field := ⟨a, 0, 32⟩

/-- What a command leaves as it was: every bit of every register outside the fields `fs` (those that only show other
state, which `Views` determines, apart); every byte of memory outside the ranges `ms` of (address, length); every other
part of the state but `ps`; the queue. -/
def Frame (s t : State) (fs : List Field) (ps : List Part) (ms : List (Nat × Nat)) : Prop :=
  (∀ a b, (∀ f ∈ fs ++ viewFields, f.misses a b = true) → (t.reg a).getLsbD b = (s.reg a).getLsbD b) ∧
  (∀ a, (∀ m ∈ ms, a < m.1 ∨ m.1 + m.2 ≤ a) → t.byte a = s.byte a) ∧
  (∀ p : Part, p ∉ ps → p.same s t ms) ∧
  t.pending = s.pending

/-! ### Words of the statements -/

/-- A staged entry with its index in its group. -/
abbrev IndexedEntry : Type := StageEntry × Nat

/-- The entries of group `g`, with their indices, that the VALUE check at its commit point finds wrong (R85). -/
abbrev commitWrong (s : State) (g : Nat) : List IndexedEntry :=
  let u := tokenPass s g
  let es := (s.group g).entries.zipIdx
  let trial := applyEntries (groupAcc s g) u g es
  es.filter fun e => trial.2.contains e.2 || offends u trial.1 e.1.addr

/-- The state that the entries of group `g` make of `s` at its commit point (R78, R88). -/
abbrev commitApplied (s : State) (g : Nat) : State :=
  (applyEntries (groupAcc s g) (commitBase (tokenPass s g) ((tokenPass s g).emit (8 + g)).emitted) g
    (s.group g).entries.zipIdx).1

/-- PMP lets core `c` store, or load, the word at `a` (R419): so it is in machine mode with no PMP region set. -/
abbrev mayStore (s : State) (c : Cpu) (a : Nat) : Prop := pmpAllows s c pmpStore a 4 = true
abbrev mayLoad (s : State) (c : Cpu) (a : Nat) : Prop := pmpAllows s c pmpLoad a 4 = true

/-- Between `s` and `t` core `c` has taken an exception with a cause and mtval (R417, R428): mcause, mtval, MPIE and MPP are
written, mepc is an instruction's address, interrupts are off, the core is in machine mode and holds no reservation; the other
cores are as they were, but for what routing notes of a wake. -/
def Trapped (s t : State) (c cause : Nat) (tval : Word) : Prop :=
  t.csr c csrMcause = w32 cause ∧ t.csr c csrMtval = tval ∧ (t.csr c csrMepc).getLsbD 0 = false ∧
  bitsOf (t.csr c csrMstatus) 11 2 = (if (s.core c).user then 0 else 3) ∧
  bitOf (t.csr c csrMstatus).toNat 7 = (s.core c).mie ∧
  (∀ n, n ∉ [csrMstatus, csrMepc, csrMcause, csrMtval] → t.csr c n = s.csr c n) ∧
  { t.core c with csr := [], wasIdle := false } = { s.core c with csr := [], wasIdle := false, mie := false, user := false } ∧
  (∀ d : Fin 4, d.val ≠ c → { t.core d with wasIdle := false } = { s.core d with wasIdle := false }) ∧
  t.reservations = s.reservations.filter fun r => r.1 != c

/-- No lane has a reception in progress. -/
abbrev noReception (s : State) : Prop := ∀ p : Fin 16, s.laneState p ≠ lnPreamble ∧ s.laneState p ≠ lnDecide ∧ s.laneState p ≠ lnFrame

/-- Between `s` and `t` the counter field `f` has counted one, saturating at its largest value (R11, R12). -/
abbrev Counted (s t : State) (f : Field) : Prop := t.get f = min (s.get f + 1) (2 ^ f.w - 1)

/-- Between `s` and `t` the next word came to hand at port `x`: FILL with `fill`, or else the head of the transmit FIFO `q`, FILL
where that is empty (R497, R502, R504); a selected port with CPHA = 0 presents its first bit (R493). -/
abbrev NextWord (s t : State) (x : Nat) (fill : Bool) (q : List Word) : Prop :=
  (t.port x).word = (if fill then s.reg (A_SP_FILL x) else q.headD (s.reg (A_SP_FILL x))) ∧
  (t.port x).inHand = (!fill && !q.isEmpty) ∧ (t.port x).bit = 0 ∧
  (t.port x).dout =
    if !s.on (SP_FMT_CPHA x) && ((t.port x).selen || (t.port x).sel) then spBit t x 0 else (s.port x).dout

/-! ### Resets (R15) -/

/-- What both resets leave beside registers and time base: memories but flash and OTP read zero, flash and OTP as they
were; every other part as right after reset, but the world outside the chip. -/
def AfterReset (s t : State) : Prop :=
  (∀ a, t.byte a = if a < 0x20000000 then s.byte a else 0) ∧
  t = { State.reset with
    regs := t.regs
    mem := t.mem
    xFlash := s.xFlash
    free := s.free
    tb := t.tb
    fl := { FlashS.reset with marks := s.fl.marks, flags := s.fl.flags, otpBad := s.fl.otpBad }
    pins := { s.pins with req := false, pri := false, antsw := 0, antSel := 0 }
    pending := s.pending }

/-- After power-on reset with a reset cause: every register but the cause holds its reset value. -/
def AfterPowerOn (s t : State) (cause : Nat) : Prop :=
  AfterReset s t ∧ (∀ a, a ≠ A_PM_RSTCAUSE → t.reg a = resetWord a) ∧ t.get PM_RSTCAUSE_CAUSE = cause ∧
  t.tb = TimeBase.reset

/-- After a system reset with a cause and a sub-cause: the registers of the AON domain are kept. -/
def AfterSystemReset (s t : State) (cause sub : Nat) : Prop :=
  AfterReset s t ∧
  (∀ a, a ∉ [A_TB_STATUS, A_TB_RATIO, A_TB_CATCH_FRAC, A_PM_RSTCAUSE, A_PM_BOOTREC] → t.reg a = resetWord a) ∧
  (∀ a ∈ [A_TB_RATIO, A_TB_CATCH_FRAC, A_PM_BOOTREC], t.reg a = s.reg a) ∧
  t.on TB_STATUS_LOCKED = false ∧ t.get TB_STATUS_CAL_VALID = s.get TB_STATUS_CAL_VALID ∧
  t.get PM_RSTCAUSE_CAUSE = cause ∧ t.get PM_RSTCAUSE_SUB = sub ∧
  t.tb = { TimeBase.reset with
    slow := s.tb.slow, firstAccepted := s.tb.firstAccepted, phase := s.tb.phase, xoStopped := s.tb.xoStopped }

/-- The level in force at tick `k` by a list of levels with the ticks they begin at, the latest first (R269). -/
def levelAt (l : List (Nat × Int)) (k : Nat) : Int :=
  match l.find? fun e => decide (e.1 ≤ k) with
  | some e => e.2
  | none => 0

/-! ### Status bits (R431) -/

/-- The latch of the interrupt source that status bit `f` drives, if it drives one. -/
def latchOf (f : Field) : List Field :=
  match irqOf f.addr f.lo with
  | some (_, src) => [pendField src]
  | none => []

/-- Between `s` and `t` hardware set the status bit `f`: the bit is 1, and the latch of its source is set too if the
bit's enable is 1, and as it was if not (R431). -/
def Raised (s t : State) (f : Field) : Prop :=
  t.on f = true ∧
    match irqOf f.addr f.lo with
    | some (en, src) => t.on (pendField src) = (s.on (pendField src) || (s.on ⟨en, f.lo, 1⟩ && edgeUsed src))
    | none => True

end Sys2Proof.Machine
end

