-- ==== Sys2Proof/Certificates/Slice0/Obligations.lean ====
section
/-! DEFINITION. Certificates/Slice0/Obligations.lean: the statements for the provers. -/

open Sys2Proof Sys2Proof.Machine

/-- R10: a byte, halfword or misaligned access of a core to a register window, a write or a read, completes with a bus error response and has no effect on any register; what changes is the record of the error, the exception that the core takes (R428), and what the controller then routes (R436). -/
def Obligations.RegisterAccessesAreWords : Prop :=
  (∀ (core : Cpu) (form : WriteForm) (addr : Word) (v : Word) (m : Nat) (s : State),
    s.power ≠ .off →
    regionOf addr.toNat = .window m →
    ((∃ size : Fin 3, form = .store size ∧ size ≠ 2) ∨ addr.toNat % 4 ≠ 0) →
    s.cores.length = 4 →
    ∃ t, exec (.registerWrite core form addr v) s = .next t ∧
      t.resp = ⟨0, true⟩ ∧
      Trapped s t core 7 addr ∧
      (Frame s t ((wordAt A_IC_BERR_ADDR :: wordAt A_IC_BERR_INFO :: IC_ERR_BERR :: latchOf IC_ERR_BERR) ++ (((List.range 4).flatMap fun d => [IC_CPU_STAT_ASG d, IC_CPU_STAT_ASRC d, IC_CPU_STAT_STATE d]) ++ [IC_STATUS_PTR, PM_STAT_LLVL, PM_STAT_LEVEL])) [.resp, .free, .cores, .reservations, .emitted] [])) ∧
  (∀ (core : Cpu) (form : ReadForm) (addr : Word) (hw : Word) (ecc : Bool) (m : Nat) (s : State),
    s.power ≠ .off →
    regionOf addr.toNat = .window m →
    form ≠ .fetch →
    (form ≠ .load 2 ∨ addr.toNat % 4 ≠ 0) →
    s.cores.length = 4 →
    ∃ t, exec (.rcRead core ⟨form, addr⟩ ⟨hw, ecc⟩) s = .next t ∧
      t.resp = ⟨0, true⟩ ∧
      Trapped s t core 5 addr ∧
      Frame s t ((wordAt A_IC_BERR_ADDR :: wordAt A_IC_BERR_INFO :: IC_ERR_BERR :: latchOf IC_ERR_BERR)) [.resp, .free, .cores, .reservations] [])

/-- R11: a word write of a Secure core to a register without effects of its own, none of whose LK bits is locked, makes its RW and LK bits those of the word written, clears the W1C bits written as 1 and keeps every other bit. A read of a register with RC fields returns its word and clears those fields but for what hardware sets in the same handshake (R12). Nothing else changes, but for what the controller routes after a write (R436). PMP lets the access through (R419). -/
def Obligations.RegisterWritesFollowTheAccessCodes : Prop :=
  (∀ (core : Cpu) (form : WriteForm) (addr : Word) (v : Word) (d : RegDesc) (s : State),
    s.power = .active →
    s.on (IC_CPU_STAT_NS core) = false →
    addr.toNat ∈ [A_TB_CTL, A_TB_DISC_CTL, A_TB_INT_EN, A_AC_INT_EN, A_FE_INT_EN, A_FE_CAL_CTL, A_CZ_INT_EN, A_DC_INT_EN, A_PM_WAKE_EN, A_PM_INT_EN, A_TB_INT_STAT, A_AC_INT_STAT, A_FE_INT_STAT, A_DC_INT_STAT, A_PM_INT_STAT] →
    form = .store 2 →
    findReg addr.toNat = some d →
    lockedBits s d addr.toNat = 0 →
    s.cores.length = 4 →
    mayStore s core addr.toNat →
    ∃ t, exec (.registerWrite core form addr v) s = .next t ∧
      t.resp = ⟨0, false⟩ ∧
      (∀ b : Fin 32, (t.reg addr.toNat).getLsbD b.val =
        (if (d.rw ||| d.lk).getLsbD b.val then v.getLsbD b.val else (s.reg addr.toNat).getLsbD b.val && !(d.w1c.getLsbD b.val && v.getLsbD b.val))) ∧
      (∀ d : Fin 4, t.core d = { s.core d with wasIdle := (t.core d).wasIdle }) ∧
      t.cores.length = s.cores.length ∧
      (∀ d : Fin 4, t.coreState d = s.coreState d ∨ (s.coreState d = 2 ∧ t.coreState d = 1 ∧ t.on (IC_CPU_STAT_ASG d) = true)) ∧
      (s.power = .active → s.on IC_CTL_EN = false → ∀ d : Fin 4, t.on (IC_CPU_STAT_ASG d) = false) ∧
      (Frame s t ([wordAt addr.toNat] ++ (((List.range 4).flatMap fun d => [IC_CPU_STAT_ASG d, IC_CPU_STAT_ASRC d, IC_CPU_STAT_STATE d]) ++ [IC_STATUS_PTR, PM_STAT_LLVL, PM_STAT_LEVEL])) [.resp, .cores, .emitted] [])) ∧
  (∀ (core : Cpu) (form : ReadForm) (addr : Word) (hw : Word) (ecc : Bool) (d : RegDesc) (s : State),
    s.power = .active →
    s.on (IC_CPU_STAT_NS core) = false →
    form = .load 2 →
    addr.toNat ∈ [A_CZ_LANE_CNT0 5, A_CZ_LANE_CNT1 15, A_LS_FH_CNT0, A_LS_FH_CNT3, A_DC_CNT, A_CX_CNT0, A_FW_CNT0, A_CE_CNT0, A_PM_CNT, A_FC_CNT0] →
    findReg addr.toNat = some d →
    mayLoad s core addr.toNat →
    ∃ t, exec (.rcRead core ⟨form, addr⟩ ⟨hw, ecc⟩) s = .next t ∧
      t.resp = ⟨s.reg addr.toNat, false⟩ ∧
      t.reg addr.toNat = (s.reg addr.toNat &&& ~~~ d.rc) ||| (hw &&& d.rc) ∧
      Frame s t [wordAt addr.toNat] [.resp] [])

/-- R13, direct writes: in a register with locked LK bits, every bit that is not locked and can be written takes the written value, every locked bit keeps its value, and the access completes with an error response, and an exception of the core (R428), if and only if the written word differs from the register in a locked bit. -/
def Obligations.LockedFieldsKeepTheirValue : Prop :=
  (∀ (core : Cpu) (form : WriteForm) (addr : Word) (v : Word) (d : RegDesc) (s : State),
    s.power = .active →
    s.on (IC_CPU_STAT_NS core) = false →
    addr.toNat ∈ [A_TB_DISC_CTL, A_TB_GD_TRIM, A_FC_SRAM_ACT] →
    form = .store 2 →
    findReg addr.toNat = some d →
    s.locked = true →
    addr.toNat ∉ s.openRegs →
    s.cores.length = 4 →
    mayStore s core addr.toNat →
    ∃ t, exec (.registerWrite core form addr v) s = .next t ∧
      (∀ b : Fin 32, (t.reg addr.toNat).getLsbD b.val =
        (if d.rw.getLsbD b.val && !d.lk.getLsbD b.val then v.getLsbD b.val else (s.reg addr.toNat).getLsbD b.val)) ∧
      t.resp.err = decide ((s.reg addr.toNat ^^^ v) &&& d.lk ≠ 0) ∧
      (t.resp.err = true → Trapped s t core 7 addr) ∧
      (t.resp.err = false → (∀ d : Fin 4, t.core d = { s.core d with wasIdle := (t.core d).wasIdle }) ∧ t.reservations = s.reservations) ∧
      (Frame s t (wordAt addr.toNat :: (wordAt A_IC_BERR_ADDR :: wordAt A_IC_BERR_INFO :: IC_ERR_BERR :: latchOf IC_ERR_BERR) ++ (((List.range 4).flatMap fun d => [IC_CPU_STAT_ASG d, IC_CPU_STAT_ASRC d, IC_CPU_STAT_STATE d]) ++ [IC_STATUS_PTR, PM_STAT_LLVL, PM_STAT_LEVEL])) [.resp, .free, .cores, .reservations, .emitted] []))

/-- R15, R16: power-on reset gives every register its reset value, zeroes the memories of Table 14.4 but flash and OTP, and leaves the rest of the state as right after reset. A system reset (RST_N, brown-out R558, loss of PLL lock R48, PM_CMD.SYSRST R552) keeps TB_RATIO, TB_CATCH_FRAC, CAL_VALID, the boot record and TB_SLOW, and records its cause. Stated with no flash or OTP operation in progress and the internal regulator in use. The values that the spec gives no reset for are the model's (log entries 6 to 9). -/
def Obligations.ResetsLeaveTheStatedState : Prop :=
  (∀ (s : State),
    s.fl.op = none →
    s.pq.otp = none →
    ∃ t, exec .powerOnReset s = .next t ∧
      AfterPowerOn s t 0) ∧
  (∀ (s : State),
    s.fl.op = none →
    s.pq.otp = none →
    s.power ≠ .off →
    s.on VR_CTL_EN_ACK = false →
    ∃ t, exec .systemReset s = .next t ∧
      AfterSystemReset s t 1 0) ∧
  (∀ (coreRail : Bool) (s : State),
    s.fl.op = none →
    s.pq.otp = none →
    s.power ≠ .off →
    (coreRail = false ∨ s.power = .active) →
    s.on VR_CTL_EN_ACK = false →
    ∃ t, exec (.brownOut coreRail) s = .next t ∧
      (AfterSystemReset s t 4 (if coreRail then 2 else 1))) ∧
  (∀ (s : State),
    s.fl.op = none →
    s.pq.otp = none →
    s.power = .active →
    s.on TB_STATUS_LOCKED = true →
    s.on VR_CTL_EN_ACK = false →
    ∃ t, exec .tbaseUnlock s = .next t ∧
      AfterSystemReset s t 5 0) ∧
  (∀ (core : Cpu) (key : BitVec 16) (s : State),
    s.fl.op = none →
    s.pq.otp = none →
    s.power = .active →
    s.on (IC_CPU_STAT_NS core) = false →
    key = 0xA55A →
    s.on VR_CTL_EN_ACK = false →
    mayStore s core A_PM_CMD →
    ∃ t, exec (.sysrst core key) s = .next t ∧
      AfterSystemReset s t 3 0)

/-- R46, R112: PLL_LOCK in Run or Idle with LOCKED 0, no calibration running and no lane in reception sets TB_STATUS.LOCKED, starts TB_NOW at 0, keeps TB_DTIME and TB_SLOW, and starts the reset calibrations IQADC, PALP and PAHP, the first of which runs. -/
def Obligations.ThePllLockStartsTheCounters : Prop :=
  (∀ (s : State),
    s.power = .active →
    s.on TB_STATUS_LOCKED = false →
    s.fe.resetCal = 0 →
    s.fe.cal = none →
    s.fe.air = none →
    s.on FE_RT_STAT_BUSY = false →
    noReception s →
    ∃ t, exec .pllLock s = .next t ∧
      t.on TB_STATUS_LOCKED = true ∧
      t.tb = { s.tb with now := 0, sinceEdge := 0, edge := false, calOpen := false } ∧
      t.fe = { s.fe with resetCal := 1, cal := some (calAuto 2 3), queue := [calAuto 3 3, calAuto 4 3], synAgain := false } ∧
      pinsButSwitch s t ∧
      Frame s t [TB_STATUS_LOCKED] [.tb, .fe, .pins] [])

/-- R47: LO_READ_CAPTURE answers the low word of TB_NOW, TB_SLOW, TB_DTIME, a receive timestamp or a commit timestamp and captures its upper half in the shadow of the reading core, and of no other; HI_READ_SHADOW answers the upper half of that core's last capture of that register and changes nothing. -/
def Obligations.TimeBaseReadsAreWhole : Prop :=
  (∀ (core : Cpu) (r : TsReg) (s : State),
    s.power = .active →
    s.on (IC_CPU_STAT_NS core) = false →
    mayLoad s core (tsLoAddr r) →
    ∃ t, exec (.loReadCapture core r) s = .next t ∧
      t.resp = ⟨BitVec.ofNat 32 (tsValue s r), false⟩ ∧
      assocGet t.tb.shadow (tsLoAddr r + 4 + 2 ^ 32 * core.val) = some (BitVec.ofNat 32 (tsValue s r / 2 ^ 32)) ∧
      (∀ k, k ≠ tsLoAddr r + 4 + 2 ^ 32 * core.val → assocGet t.tb.shadow k = assocGet s.tb.shadow k) ∧
      t.tb = { s.tb with shadow := t.tb.shadow } ∧
      Frame s t [] [.tb, .resp] []) ∧
  (∀ (core : Cpu) (r : TsReg) (s : State),
    s.power = .active →
    s.on (IC_CPU_STAT_NS core) = false →
    mayLoad s core (tsLoAddr r + 4) →
    ∃ t, exec (.hiReadShadow core r) s = .next t ∧
      t.resp = ⟨(assocGet s.tb.shadow (tsLoAddr r + 4 + 2 ^ 32 * core.val)).getD 0, false⟩ ∧
      Frame s t [] [.resp] [])

/-- R51: at the end of a calibration window of m ticks with 16 m in range, TB_RATIO becomes 16 m at the first accepted window and else moves towards it by the difference divided by 2^FILT, CAL_VALID and CAL_DONE are set; out of range the window is discarded with RATIO_RANGE. R52: no edge for 65,536 ticks sets SLOW_FAIL; the next edge clears it and counts (stated with no calibration, alarm or sleep request that waits for the edge). -/
def Obligations.TheRatioFollowsTheSlowClock : Prop :=
  (∀ (m : Word) (s : State),
    s.power ≠ .off →
    s.on TB_STATUS_LOCKED = true →
    s.on TB_CAL_CTL_EN = true →
    24960000 ≤ 16 * m.toNat →
    16 * m.toNat ≤ 25040000 →
    ∃ t, exec (.ratioUpdate m) s = .next t ∧
      (t.get TB_RATIO_VALUE = (if s.tb.firstAccepted then ((s.get TB_RATIO_VALUE : Int) + ((16 * m.toNat : Nat) - (s.get TB_RATIO_VALUE : Int)) / 2 ^ s.get TB_CAL_CTL_FILT) % 2 ^ 32 else (16 * m.toNat : Nat) : Int)) ∧
      t.get TB_STATUS_CAL_VALID = 1 ∧
      Raised s t TB_INT_STAT_CAL_DONE ∧
      t.tb = { s.tb with firstAccepted := true } ∧
      Frame s t ([TB_RATIO_VALUE, TB_STATUS_CAL_VALID] ++ ((TB_INT_STAT_CAL_DONE) :: latchOf (TB_INT_STAT_CAL_DONE))) [.tb] []) ∧
  (∀ (m : Word) (s : State),
    s.power ≠ .off →
    s.on TB_STATUS_LOCKED = true →
    s.on TB_CAL_CTL_EN = true →
    (16 * m.toNat < 24960000 ∨ 25040000 < 16 * m.toNat) →
    ∃ t, exec (.ratioUpdate m) s = .next t ∧
      Raised s t TB_INT_STAT_RATIO_RANGE ∧
      Frame s t ((TB_INT_STAT_RATIO_RANGE) :: latchOf (TB_INT_STAT_RATIO_RANGE)) [] []) ∧
  (∀ (s : State),
    s.power = .active →
    s.on TB_STATUS_LOCKED = true →
    s.on TB_STATUS_SLOW_FAIL = false →
    65536 ≤ s.tb.sinceEdge →
    ∃ t, exec .slowFail s = .next t ∧
      t.on TB_STATUS_SLOW_FAIL = true ∧
      Raised s t TB_INT_STAT_SLOW_FAIL ∧
      t.tb = { s.tb with xoStopped := true } ∧
      Frame s t ([TB_STATUS_SLOW_FAIL] ++ ((TB_INT_STAT_SLOW_FAIL) :: latchOf (TB_INT_STAT_SLOW_FAIL))) [.tb] []) ∧
  (∀ (s : State),
    s.power = .active →
    s.on TB_STATUS_LOCKED = true →
    s.on TB_STATUS_SLOW_FAIL = true →
    s.on TB_CAL_CTL_EN = false →
    s.on PM_ALARM_HI_EN = false →
    s.on PM_SLEEP_ARM = false →
    ∃ t, exec .slowEdgeReturn s = .next t ∧
      t.on TB_STATUS_SLOW_FAIL = false ∧
      t.tb = { s.tb with slow := s.tb.slow + 1, sinceEdge := 0, edge := true, phase := 0, xoStopped := false } ∧
      t.pm = { s.pm with attempt := false } ∧
      Frame s t [TB_STATUS_SLOW_FAIL] [.tb, .pm] [])

/-- R53, R549: with the PLL locked again after a sleep of n slow ticks, TIME_BASE_RESTART sets TB_NOW to T0 plus (n × TB_RATIO + CATCH_FRAC) / 4096, keeps the remainder in TB_CATCH_FRAC, rebuilds TB_DTIME (stated for a master and for a rate of 0), sets LOCKED, enters Idle and sets PM_INT_STAT.WAKE. The self-test periods that fell in the sleep are passed over (R160), and so are those of bin-set choice (a choice of the model, log entry 36). The serial ports see their selects again (R502). R599: SLOW_FAIL_RESTART does the same with SLOW_FAIL set. Stated with no timer running, no compare armed, no band record enabled, no route aging and no bin change pending. -/
def Obligations.TheTimeBaseRestarts : Prop :=
  (∀ (s : State),
    (s.power = .sleep ∨ s.power = .deep) →
    s.pm.waking = 3 →
    s.tb.s0.toNat ≤ s.tb.slow.toNat →
    (∀ i : Fin 8, s.on (TM_STAT_RUN i) = false) →
    (∀ i : Fin 8, s.on (TB_CMP_CTL_ARMED i) = false) →
    (∀ i : Fin 8, s.on (DC_REC_CFG_EN i) = false) →
    s.get FW_AGE_PERIOD = 0 →
    s.on CZ_BSC_STAT_PEND = false →
    s.tb.edge = true →
    ∃ t, exec .timeBaseRestart s = .next t ∧
      t.power = .active ∧
      t.on TB_STATUS_LOCKED = true ∧
      (let p := (s.tb.slow.toNat - s.tb.s0.toNat) * s.get TB_RATIO_VALUE + s.get TB_CATCH_FRAC_FRAC
     t.tb.now = s.tb.t0 + BitVec.ofNat 64 (p / 4096) ∧ t.get TB_CATCH_FRAC_FRAC = p % 4096 ∧
     (s.on TB_DISC_STAT_MASTER = true → t.tb.dtime = t.tb.now) ∧
     (s.on TB_DISC_STAT_MASTER = false → s.get TB_DRATE_RATE = 0 → t.tb.dtime = s.tb.d0 + BitVec.ofNat 64 (p / 4096))) ∧
      t.pm = { s.pm with waking := 0, alarm := none } ∧
      t.fe = { s.fe with senseWake := true } ∧
      t.cz = { s.cz with selfNext := gridAfter t.now s.cz.selfNext (s.get CZ_SELF_CTL_PERIOD * 20000000), decideNext := gridAfter t.now s.cz.decideNext (s.get CZ_BSC_CTL_PERIOD * 3200000000) } ∧
      Raised s t PM_INT_STAT_WAKE ∧
      Frame s t ([TB_STATUS_LOCKED, TB_CATCH_FRAC_FRAC, TB_CATCH_SLOW_VALUE, SP_STAT_STATE 0, SP_STAT_STATE 1] ++ ((PM_INT_STAT_WAKE) :: latchOf (PM_INT_STAT_WAKE))) [.power, .tb, .pm, .fe, .cz, .sp, .free] []) ∧
  (∀ (s : State),
    (s.power = .sleep ∨ s.power = .deep) →
    s.pm.waking = 3 →
    s.tb.s0.toNat ≤ s.tb.slow.toNat →
    (∀ i : Fin 8, s.on (TM_STAT_RUN i) = false) →
    (∀ i : Fin 8, s.on (TB_CMP_CTL_ARMED i) = false) →
    (∀ i : Fin 8, s.on (DC_REC_CFG_EN i) = false) →
    s.get FW_AGE_PERIOD = 0 →
    s.on CZ_BSC_STAT_PEND = false →
    ∃ t, exec .slowFailRestart s = .next t ∧
      t.power = .active ∧
      t.on TB_STATUS_LOCKED = true ∧
      (let p := (s.tb.slow.toNat - s.tb.s0.toNat) * s.get TB_RATIO_VALUE + s.get TB_CATCH_FRAC_FRAC
     t.tb.now = s.tb.t0 + BitVec.ofNat 64 (p / 4096) ∧ t.get TB_CATCH_FRAC_FRAC = p % 4096 ∧
     (s.on TB_DISC_STAT_MASTER = true → t.tb.dtime = t.tb.now) ∧
     (s.on TB_DISC_STAT_MASTER = false → s.get TB_DRATE_RATE = 0 → t.tb.dtime = s.tb.d0 + BitVec.ofNat 64 (p / 4096))) ∧
      t.pm = { s.pm with waking := 0, alarm := none } ∧
      t.fe = { s.fe with senseWake := true } ∧
      t.cz = { s.cz with selfNext := gridAfter t.now s.cz.selfNext (s.get CZ_SELF_CTL_PERIOD * 20000000), decideNext := gridAfter t.now s.cz.decideNext (s.get CZ_BSC_CTL_PERIOD * 3200000000) } ∧
      Raised s t PM_INT_STAT_WAKE ∧
      t.on TB_STATUS_SLOW_FAIL = true ∧
      Raised s t TB_INT_STAT_SLOW_FAIL ∧
      t.tb.xoStopped = true ∧
      Frame s t ([TB_STATUS_LOCKED, TB_CATCH_FRAC_FRAC, TB_CATCH_SLOW_VALUE, TB_STATUS_SLOW_FAIL, SP_STAT_STATE 0, SP_STAT_STATE 1] ++ ((PM_INT_STAT_WAKE) :: latchOf (PM_INT_STAT_WAKE)) ++ ((TB_INT_STAT_SLOW_FAIL) :: latchOf (TB_INT_STAT_SLOW_FAIL))) [.power, .tb, .pm, .fe, .cz, .sp, .free] [])

/-- R55 to R59: arming a compare whose target lies ahead sets ARMED, SEL, PER and WAKE; disarming one that does not fire clears ARMED; a firing sets its lateness and flag, its status bit and event, and disarms the compare, or in periodic mode moves the target on by as many periods as put it beyond the counter, counting the skipped ones to 15. -/
def Obligations.ComparesArmFireAndDisarm : Prop :=
  (∀ (core : Cpu) (n : Fin 8) (wake sel per : Bool) (s : State),
    s.power = .active →
    s.on (TB_CMP_CTL_ARMED n) = false →
    s.counter sel < cmpTarget s n →
    mayStore s core (A_TB_CMP_CTL n) →
    ∃ t, exec (.compareArm core n wake sel per) s = .next t ∧
      t.resp = ⟨0, false⟩ ∧
      t.on (TB_CMP_CTL_ARMED n) = true ∧
      t.on (TB_CMP_CTL_PER n) = per ∧
      t.on (TB_CMP_CTL_SEL n) = sel ∧
      t.on (TB_CMP_CTL_WAKE n) = wake ∧
      Frame s t [TB_CMP_CTL_ARMED n, TB_CMP_CTL_PER n, TB_CMP_CTL_SEL n, TB_CMP_CTL_WAKE n] [.resp] []) ∧
  (∀ (core : Cpu) (n : Fin 8) (s : State),
    s.power = .active →
    s.on (TB_CMP_CTL_ARMED n) = true →
    s.counter (s.on (TB_CMP_CTL_SEL n)) < cmpTarget s n →
    mayStore s core (TB_CMP_CTL_ARMED n).addr →
    ∃ t, exec (.compareDisarm core n) s = .next t ∧
      t.resp = ⟨0, false⟩ ∧
      t.on (TB_CMP_CTL_ARMED n) = false ∧
      Frame s t [TB_CMP_CTL_ARMED n] [.resp] []) ∧
  (∀ (n : Fin 8) (s : State),
    s.power = .active →
    s.on TB_STATUS_LOCKED = true →
    s.on (TB_CMP_CTL_ARMED n) = true →
    cmpTarget s n ≤ s.counter (s.on (TB_CMP_CTL_SEL n)) →
    s.on (TB_CMP_CTL_PER n) = false →
    ∃ t, exec (.compareFire n) s = .next t ∧
      t.on (TB_CMP_CTL_ARMED n) = false ∧
      t.get (TB_CMP_LATE_LATE n) = min (s.counter (s.on (TB_CMP_CTL_SEL n)) - cmpTarget s n) 0xFFFFFFFF ∧
      t.on (TB_CMP_CTL_LATE n) = (s.on (TB_CMP_CTL_LATE n) || decide (cmpTarget s n < s.counter (s.on (TB_CMP_CTL_SEL n)))) ∧
      Raised s t (TB_INT_STAT_CMP.bit n) ∧
      t.emitted = (s.emit n).emitted ∧
      Frame s t ([TB_CMP_CTL_ARMED n, TB_CMP_LATE_LATE n, TB_CMP_CTL_LATE n] ++ ((TB_INT_STAT_CMP.bit n) :: latchOf (TB_INT_STAT_CMP.bit n))) [.emitted] []) ∧
  (∀ (n : Fin 8) (s : State),
    s.power = .active →
    s.on TB_STATUS_LOCKED = true →
    s.on (TB_CMP_CTL_ARMED n) = true →
    cmpTarget s n ≤ s.counter (s.on (TB_CMP_CTL_SEL n)) →
    s.on (TB_CMP_CTL_PER n) = true →
    s.get (TB_CMP_PERIOD_PERIOD n) ≠ 0 →
    s.counter (s.on (TB_CMP_CTL_SEL n)) + s.get (TB_CMP_PERIOD_PERIOD n) < 2 ^ 64 →
    ∃ t, exec (.compareFire n) s = .next t ∧
      t.on (TB_CMP_CTL_ARMED n) = true ∧
      (let k := (s.counter (s.on (TB_CMP_CTL_SEL n)) - cmpTarget s n) / s.get (TB_CMP_PERIOD_PERIOD n)
     cmpTarget t n = cmpTarget s n + (k + 1) * s.get (TB_CMP_PERIOD_PERIOD n) ∧ t.get (TB_CMP_CTL_SKIP n) = min k 15) ∧
      Raised s t (TB_INT_STAT_CMP.bit n) ∧
      t.emitted = (s.emit n).emitted ∧
      Frame s t ([TB_CMP_TGT_LO_TGT n, TB_CMP_TGT_HI_TGT n, TB_CMP_CTL_SKIP n, TB_CMP_LATE_LATE n, TB_CMP_CTL_LATE n] ++ ((TB_INT_STAT_CMP.bit n) :: latchOf (TB_INT_STAT_CMP.bit n))) [.emitted] []) ∧
  (∀ (s : State),
    s.power ≠ .off →
    s.on TB_STATUS_LOCKED = true →
    s.on TB_DISC_STAT_MASTER = false →
    s.tb.slewRem ≠ 0 →
    s.tb.slewWait = 0 →
    ∃ t, exec .dtimeSlewStep s = .next t ∧
      (t.tb = { s.tb with dtime := (if s.tb.slewRem < 0 then s.tb.dtime - 1 else s.tb.dtime + 1), slewRem := (if s.tb.slewRem < 0 then s.tb.slewRem + 1 else s.tb.slewRem - 1), slewWait := 20000 }) ∧
      Frame s t [] [.tb] [])

/-- R74 to R76, R89, R91, R94 to R97, R100: OPEN on a FREE group, or by its owner on one in DONE, FAILED or ABORTED, makes the writer its owner with the attribute of the write and clears its records, and is refused with FOREIGN, the group left as it stood, where CORES or NS_OK does not allow it; a push into an open group appends an entry of address, mask and value and counts it, a 65th fails the group with OVERFLOW; COMMIT_NOW and COMMIT_AT move an open group to ARMING; ABORT moves an open group to ABORTED and zeroes its staging store, and sets ABORT_LATE on an ended one; RELEASE returns a group that is open, DONE, FAILED or ABORTED to FREE. While AC_CTL.EN is 0, OPEN, COMMIT_NOW and COMMIT_AT set BADCMD and do nothing else. -/
def Obligations.CommitGroupsAreOpenedFilledAndReleased : Prop :=
  (∀ (core : Cpu) (g : Fin 8) (s : State),
    s.power = .active →
    (s.groupState g = 0 ∨ ((s.groupState g = 4 ∨ s.groupState g = 5 ∨ s.groupState g = 6) ∧ s.get (AC_G_STAT_OWNER g) = core.val ∧ (s.on (AC_G_STAT_ATTR g) = true → s.on (IC_CPU_STAT_NS core) = false))) →
    s.on AC_CTL_EN = true →
    bitOf (s.get (AC_G_CFG_CORES g)) core = true →
    (s.on (IC_CPU_STAT_NS core) = true → s.on (AC_G_CFG_NS_OK g) = true) →
    s.groups.length = 8 →
    mayStore s core (A_AC_G_CMD g) →
    ∃ t, exec (.groupOpen core g) s = .next t ∧
      t.resp = ⟨0, false⟩ ∧
      t.groupState g = 1 ∧
      t.get (AC_G_STAT_OWNER g) = core.val ∧
      t.on (AC_G_STAT_ATTR g) = !s.on (IC_CPU_STAT_NS core) ∧
      t.groups = s.groups.set g .reset ∧
      t.get (AC_G_STAT_COUNT g) = 0 ∧
      t.get (AC_G_STAT_REASON g) = 0 ∧
      t.get (AC_G_STAT_FAIL_IDX g) = 0 ∧
      t.on (AC_G_STAT_IDX_VALID g) = false ∧
      t.on (AC_G_STAT_LATE g) = false ∧
      t.on (AC_G_STAT_ABORT_LATE g) = false ∧
      Frame s t [wordAt (A_AC_G_STAT g)] [.resp, .groups] []) ∧
  (∀ (core : Cpu) (g : Fin 8) (s : State),
    s.power = .active →
    (s.groupState g = 0 ∨ ((s.groupState g = 4 ∨ s.groupState g = 5 ∨ s.groupState g = 6) ∧ s.get (AC_G_STAT_OWNER g) = core.val ∧ (s.on (AC_G_STAT_ATTR g) = true → s.on (IC_CPU_STAT_NS core) = false))) →
    s.on AC_CTL_EN = true →
    (bitOf (s.get (AC_G_CFG_CORES g)) core = false ∨ (s.on (IC_CPU_STAT_NS core) = true ∧ s.on (AC_G_CFG_NS_OK g) = false)) →
    s.cores.length = 4 →
    mayStore s core (A_AC_G_CMD g) →
    ∃ t, exec (.groupOpen core g) s = .next t ∧
      t.resp = ⟨0, true⟩ ∧
      Raised s t AC_INT_STAT_FOREIGN ∧
      Trapped s t core 7 (w32 (A_AC_G_CMD g)) ∧
      Frame s t (AC_INT_STAT_FOREIGN :: latchOf AC_INT_STAT_FOREIGN ++ (wordAt A_IC_BERR_ADDR :: wordAt A_IC_BERR_INFO :: IC_ERR_BERR :: latchOf IC_ERR_BERR)) [.resp, .free, .cores, .reservations] []) ∧
  (∀ (core : Cpu) (g : Fin 8) (s : State),
    s.power = .active →
    (s.groupState g = 0 ∨ ((s.groupState g = 4 ∨ s.groupState g = 5 ∨ s.groupState g = 6) ∧ s.get (AC_G_STAT_OWNER g) = core.val ∧ (s.on (AC_G_STAT_ATTR g) = true → s.on (IC_CPU_STAT_NS core) = false))) →
    s.on AC_CTL_EN = false →
    mayStore s core (A_AC_G_CMD g) →
    ∃ t, exec (.groupOpen core g) s = .next t ∧
      t.resp = ⟨0, false⟩ ∧
      Raised s t AC_INT_STAT_BADCMD ∧
      Frame s t ((AC_INT_STAT_BADCMD) :: latchOf (AC_INT_STAT_BADCMD)) [.resp] []) ∧
  (∀ (core : Cpu) (g : Fin 8) (v : Word) (s : State),
    s.power = .active →
    s.groupState g = 1 →
    s.get (AC_G_STAT_OWNER g) = core.val →
    (s.on (AC_G_STAT_ATTR g) = true → s.on (IC_CPU_STAT_NS core) = false) →
    s.get (AC_G_STAT_COUNT g) < 64 →
    s.groups.length = 8 →
    mayStore s core (A_AC_G_SDATA g) →
    ∃ t, exec (.stagePush core g v) s = .next t ∧
      t.resp = ⟨0, false⟩ ∧
      t.groups = s.groups.set g { s.group g with entries := (s.group g).entries ++ [⟨4 * s.get (AC_G_SADDR_ADDR g), s.reg (A_AC_G_SMASK g), v⟩] } ∧
      t.get (AC_G_STAT_COUNT g) = s.get (AC_G_STAT_COUNT g) + 1 ∧
      t.get (AC_G_SADDR_ADDR g) = (s.get (AC_G_SADDR_ADDR g) + b2n (s.on (AC_G_SADDR_INC g))) % 2 ^ 30 ∧
      Frame s t [AC_G_STAT_COUNT g, AC_G_SADDR_ADDR g] [.resp, .groups] []) ∧
  (∀ (core : Cpu) (g : Fin 8) (v : Word) (s : State),
    s.power = .active →
    s.groupState g = 1 →
    s.get (AC_G_STAT_OWNER g) = core.val →
    (s.on (AC_G_STAT_ATTR g) = true → s.on (IC_CPU_STAT_NS core) = false) →
    64 ≤ s.get (AC_G_STAT_COUNT g) →
    s.groups.length = 8 →
    mayStore s core (A_AC_G_SDATA g) →
    ∃ t, exec (.stagePush core g v) s = .next t ∧
      t.resp = ⟨0, false⟩ ∧
      t.groupState g = 5 ∧
      t.get (AC_G_STAT_REASON g) = 6 ∧
      t.groups = s.groups.set g .reset ∧
      Raised s t (AC_INT_STAT_FAIL.bit g) ∧
      Frame s t (AC_G_STAT_STATE g :: AC_G_STAT_REASON g :: AC_INT_STAT_FAIL.bit g :: latchOf (AC_INT_STAT_FAIL.bit g)) [.resp, .groups] []) ∧
  (∀ (core : Cpu) (g : Fin 8) (s : State),
    s.power = .active →
    s.groupState g = 1 →
    s.get (AC_G_STAT_OWNER g) = core.val →
    (s.on (AC_G_STAT_ATTR g) = true → s.on (IC_CPU_STAT_NS core) = false) →
    s.on AC_CTL_EN = true →
    s.groups.length = 8 →
    mayStore s core (A_AC_G_CMD g) →
    ∃ t, exec (.commitNow core g) s = .next t ∧
      t.resp = ⟨0, false⟩ ∧
      t.groupState g = 2 ∧
      t.groups = s.groups.set g { s.group g with timed := false } ∧
      Frame s t [AC_G_STAT_STATE g] [.resp, .groups] []) ∧
  (∀ (core : Cpu) (g : Fin 8) (sel : Bool) (s : State),
    s.power = .active →
    s.groupState g = 1 →
    s.get (AC_G_STAT_OWNER g) = core.val →
    (s.on (AC_G_STAT_ATTR g) = true → s.on (IC_CPU_STAT_NS core) = false) →
    s.on AC_CTL_EN = true →
    s.groups.length = 8 →
    mayStore s core (A_AC_G_CMD g) →
    ∃ t, exec (.commitAt core g sel) s = .next t ∧
      t.resp = ⟨0, false⟩ ∧
      t.groupState g = 2 ∧
      t.groups = s.groups.set g { s.group g with timed := true } ∧
      t.on (AC_G_STAT_SEL g) = sel ∧
      Frame s t [AC_G_STAT_STATE g, AC_G_STAT_SEL g] [.resp, .groups] []) ∧
  (∀ (core : Cpu) (g : Fin 8) (s : State),
    s.power = .active →
    s.groupState g = 1 →
    s.get (AC_G_STAT_OWNER g) = core.val →
    (s.on (AC_G_STAT_ATTR g) = true → s.on (IC_CPU_STAT_NS core) = false) →
    s.on AC_CTL_EN = false →
    mayStore s core (A_AC_G_CMD g) →
    ∃ t, exec (.commitNow core g) s = .next t ∧
      t.resp = ⟨0, false⟩ ∧
      Raised s t AC_INT_STAT_BADCMD ∧
      Frame s t ((AC_INT_STAT_BADCMD) :: latchOf (AC_INT_STAT_BADCMD)) [.resp] []) ∧
  (∀ (core : Cpu) (g : Fin 8) (sel : Bool) (s : State),
    s.power = .active →
    s.groupState g = 1 →
    s.get (AC_G_STAT_OWNER g) = core.val →
    (s.on (AC_G_STAT_ATTR g) = true → s.on (IC_CPU_STAT_NS core) = false) →
    s.on AC_CTL_EN = false →
    mayStore s core (A_AC_G_CMD g) →
    ∃ t, exec (.commitAt core g sel) s = .next t ∧
      t.resp = ⟨0, false⟩ ∧
      Raised s t AC_INT_STAT_BADCMD ∧
      Frame s t ((AC_INT_STAT_BADCMD) :: latchOf (AC_INT_STAT_BADCMD)) [.resp] []) ∧
  (∀ (core : Cpu) (g : Fin 8) (s : State),
    s.power = .active →
    s.groupState g = 1 →
    s.get (AC_G_STAT_OWNER g) = core.val →
    (s.on (AC_G_STAT_ATTR g) = true → s.on (IC_CPU_STAT_NS core) = false) →
    s.groups.length = 8 →
    mayStore s core (A_AC_G_CMD g) →
    ∃ t, exec (.groupAbort core g) s = .next t ∧
      t.resp = ⟨0, false⟩ ∧
      t.groupState g = 6 ∧
      t.groups = s.groups.set g .reset ∧
      Frame s t [AC_G_STAT_STATE g] [.resp, .groups] []) ∧
  (∀ (core : Cpu) (g : Fin 8) (s : State),
    s.power = .active →
    (s.groupState g = 4 ∨ s.groupState g = 5 ∨ s.groupState g = 6) →
    s.get (AC_G_STAT_OWNER g) = core.val →
    (s.on (AC_G_STAT_ATTR g) = true → s.on (IC_CPU_STAT_NS core) = false) →
    mayStore s core (A_AC_G_CMD g) →
    ∃ t, exec (.groupAbort core g) s = .next t ∧
      t.resp = ⟨0, false⟩ ∧
      t.on (AC_G_STAT_ABORT_LATE g) = true ∧
      Frame s t [AC_G_STAT_ABORT_LATE g] [.resp] []) ∧
  (∀ (core : Cpu) (g : Fin 8) (s : State),
    s.power = .active →
    (s.groupState g = 1 ∨ s.groupState g = 4 ∨ s.groupState g = 5 ∨ s.groupState g = 6) →
    s.get (AC_G_STAT_OWNER g) = core.val →
    (s.on (AC_G_STAT_ATTR g) = true → s.on (IC_CPU_STAT_NS core) = false) →
    s.groups.length = 8 →
    mayStore s core (A_AC_G_CMD g) →
    ∃ t, exec (.groupRelease core g) s = .next t ∧
      t.resp = ⟨0, false⟩ ∧
      t.groupState g = 0 ∧
      t.groups = s.groups.set g .reset ∧
      t.get (AC_G_STAT_COUNT g) = 0 ∧
      t.get (AC_G_STAT_REASON g) = 0 ∧
      t.get (AC_G_STAT_FAIL_IDX g) = 0 ∧
      t.on (AC_G_STAT_IDX_VALID g) = false ∧
      t.on (AC_G_STAT_LATE g) = false ∧
      t.on (AC_G_STAT_ABORT_LATE g) = false ∧
      Frame s t [wordAt (A_AC_G_STAT g)] [.resp, .groups] [])

/-- R81, R84, R88 to R92: at the end of the pre-delivery of a group whose remaining entries all pass the checks of R81, and which is immediate or whose target lies ahead, the group is ARMED and holds its entries; where the next entry fails a check the group is FAILED with its reason and index. At its commit point a group whose token passes and whose entries the VALUE check finds right is DONE with the tick in CPT; where it finds one wrong, the group is FAILED with VALUE and the last such entry, none takes effect, and the commit event is emitted. For a Secure group of entries to registers that hold no locks and no attribute of their own, immediate, with no other group ARMED, the event matrix off and no event waiting, the whole state after is stated: each register has the masked bits of its entries in push order and keeps the other bits. Clearing AC_CTL.EN aborts every group in ARMING, and every group in ARMED whose token does not pass, with DISABLED, leaves the other groups, and clears EN_ACK (R100). -/
def Obligations.CommitGroupsCommitWhole : Prop :=
  (∀ (g : Fin 8) (s : State),
    s.power = .active →
    s.groupState g = 2 →
    s.on (AC_G_STAT_ATTR g) = true →
    (∀ e ∈ (s.group g).entries, e.addr ∈ [A_TB_CTL, A_TB_INT_EN, A_FE_INT_EN, A_FE_CAL_CTL, A_CZ_INT_EN, A_DC_INT_EN, A_PM_INT_EN]) →
    (∀ k : Fin 8, k ≠ g → s.groupState k ≠ 2 ∧ s.groupState k ≠ 3) →
    ((s.group g).timed = true → s.counter (s.on (AC_G_STAT_SEL g)) < s.get64 (AC_G_TGT_LO_TGT g) (AC_G_TGT_HI_TGT g)) →
    (s.group g).delivered ≤ (s.group g).entries.length →
    s.groups.length = 8 →
    ∃ t, exec (.preDeliveryEnd g) s = .next t ∧
      t.groupState g = 3 ∧
      t.groups = s.groups.set g { s.group g with delivered := (s.group g).entries.length, since := s.now } ∧
      Frame s t [AC_G_STAT_STATE g] [.groups] []) ∧
  (∀ (g : Fin 8) (s : State),
    s.power = .active →
    s.groupState g = 2 →
    (∀ e ∈ (s.group g).entries.drop (s.group g).delivered, ∀ k ≤ (s.group g).entries.length, entryCheck (s.updGroup g fun p => { p with delivered := k }) g e = 0) →
    ((s.group g).timed = true → s.counter (s.on (AC_G_STAT_SEL g)) < s.get64 (AC_G_TGT_LO_TGT g) (AC_G_TGT_HI_TGT g)) →
    (s.group g).delivered ≤ (s.group g).entries.length →
    s.groups.length = 8 →
    ∃ t, exec (.preDeliveryEnd g) s = .next t ∧
      t.groupState g = 3 ∧
      t.groups = s.groups.set g { s.group g with delivered := (s.group g).entries.length, since := s.now } ∧
      Frame s t [AC_G_STAT_STATE g] [.groups] []) ∧
  (∀ (g : Fin 8) (e : StageEntry) (l : List StageEntry) (r : Nat) (s : State),
    s.power = .active →
    s.groupState g = 2 →
    (s.group g).entries.drop (s.group g).delivered = e :: l →
    entryCheck s g e = r →
    r ≠ 0 →
    s.groups.length = 8 →
    ∃ t, exec (.preDeliveryEnd g) s = .next t ∧
      t.groupState g = 5 ∧
      t.get (AC_G_STAT_REASON g) = r % 16 ∧
      t.get (AC_G_STAT_FAIL_IDX g) = (s.group g).delivered % 64 ∧
      t.on (AC_G_STAT_IDX_VALID g) = true ∧
      Raised s t (AC_INT_STAT_FAIL.bit g) ∧
      t.groups = s.groups.set g .reset ∧
      Frame s t ((AC_G_STAT_STATE g :: AC_G_STAT_REASON g :: AC_G_STAT_FAIL_IDX g :: AC_G_STAT_IDX_VALID g :: AC_INT_STAT_FAIL.bit g :: latchOf (AC_INT_STAT_FAIL.bit g))) [.groups] []) ∧
  (∀ (g : Fin 8) (s : State),
    s.power = .active →
    s.groupState g = 3 →
    s.on (AC_G_STAT_ATTR g) = true →
    (∀ e ∈ (s.group g).entries, e.addr ∈ [A_TB_CTL, A_TB_INT_EN, A_FE_INT_EN, A_FE_CAL_CTL, A_CZ_INT_EN, A_DC_INT_EN, A_PM_INT_EN]) →
    (s.group g).timed = false →
    (∀ k : Fin 8, k ≠ g → s.groupState k ≠ 3) →
    s.tb.timedAt ≠ some s.now →
    s.on EV_CTL_EN = false →
    s.emitted = [] →
    s.groups.length = 8 →
    ∃ t, exec (.commitPoint g) s = .next t ∧
      t.groupState g = 4 ∧
      (∀ a ∈ [A_TB_CTL, A_TB_INT_EN, A_FE_INT_EN, A_FE_CAL_CTL, A_CZ_INT_EN, A_DC_INT_EN, A_PM_INT_EN], t.reg a = (s.group g).entries.foldl (fun w e => let m := e.mask &&& ((findReg a).getD ⟨0, [], 0, 0, 0, 0, 0, 0⟩).rw
        if e.addr = a then (w &&& ~~~ m) ||| (e.value &&& m) else w) (s.reg a)) ∧
      t.get64 (AC_G_CPT_LO_CPT g) (AC_G_CPT_HI_CPT g) = s.now ∧
      Raised s t (AC_INT_STAT_DONE.bit g) ∧
      t.groups = s.groups.set g .reset ∧
      t.evWas = some (s.evWas.getD (evRegs s)) ∧
      t.tm = { s.tm with pairedWas := none } ∧
      Frame s t (AC_G_STAT_STATE g :: AC_G_CPT_LO_CPT g :: AC_G_CPT_HI_CPT g :: [A_TB_CTL, A_TB_INT_EN, A_FE_INT_EN, A_FE_CAL_CTL, A_CZ_INT_EN, A_DC_INT_EN, A_PM_INT_EN].map wordAt ++ AC_INT_STAT_DONE.bit g :: latchOf (AC_INT_STAT_DONE.bit g)) [.groups, .evWas, .tm] []) ∧
  (∀ (g : Fin 8) (s : State),
    s.power = .active →
    tokenPasses s g = true →
    (∀ e ∈ (s.group g).entries, stageable e.addr = true) →
    commitWrong s g = [] →
    (commitApplied s g).groupState g = 3 →
    s.groups.length = 8 →
    ∃ t, exec (.commitPoint g) s = .next t ∧
      t.groupState g = 4 ∧
      t.get64 (AC_G_CPT_LO_CPT g) (AC_G_CPT_HI_CPT g) = s.now ∧
      t.on (AC_INT_STAT_DONE.bit g) = true ∧
      t.group g = .reset) ∧
  (∀ (g : Fin 8) (l : List IndexedEntry) (e : IndexedEntry) (s : State),
    s.power = .active →
    tokenPasses s g = true →
    commitWrong s g = l ++ [e] →
    s.groups.length = 8 →
    ∃ t, exec (.commitPoint g) s = .next t ∧
      t.groupState g = 5 ∧
      t.get (AC_G_STAT_REASON g) = 9 ∧
      t.get (AC_G_STAT_FAIL_IDX g) = e.2 % 64 ∧
      t.on (AC_G_STAT_IDX_VALID g) = true ∧
      t.get64 (AC_G_CPT_LO_CPT g) (AC_G_CPT_HI_CPT g) = s.now ∧
      Raised s t (AC_INT_STAT_FAIL.bit g) ∧
      t.groups = s.groups.set g .reset ∧
      t.emitted = (s.emit (8 + g)).emitted ∧
      Frame s t ((AC_G_STAT_STATE g :: AC_G_STAT_REASON g :: AC_G_STAT_FAIL_IDX g :: AC_G_STAT_IDX_VALID g :: AC_G_CPT_LO_CPT g :: AC_G_CPT_HI_CPT g :: AC_INT_STAT_FAIL.bit g :: latchOf (AC_INT_STAT_FAIL.bit g))) [.groups, .tb, .emitted] []) ∧
  (∀ (core : Cpu) (s : State),
    s.power = .active →
    s.on AC_CTL_EN = true →
    s.groups.length = 8 →
    mayStore s core AC_CTL_EN.addr →
    ∃ t, exec (.acDisable core) s = .next t ∧
      t.resp = ⟨0, false⟩ ∧
      t.on AC_CTL_EN = false ∧
      t.on AC_CTL_EN_ACK = false ∧
      (∀ g : Fin 8, let ends := s.groupState g = 2 ∨ (s.groupState g = 3 ∧ timedDue s g = false)
      t.groupState g = (if ends then 6 else s.groupState g) ∧ t.get (AC_G_STAT_REASON g) = (if ends then 0xA else s.get (AC_G_STAT_REASON g)) ∧ t.group g = if ends then .reset else s.group g) ∧
      t.groups.length = 8 ∧
      (Frame s t ((AC_CTL_EN :: AC_CTL_EN_ACK :: (List.range 8).flatMap fun g => [AC_G_STAT_STATE g, AC_G_STAT_REASON g])) [.resp, .groups] []))

/-- R105 to R109: an accepted frequency is stored, FE_SPUR shows the bins near the reference spurs, and the retune is launched for the next tick; a value outside the range sets RANGE and changes nothing else. When the synthesiser and DC calibration of the retune finish, BUSY clears, DUR holds its length, VALID and LAST_T are set, FE_INT_STAT.RETUNE is set with its event, and every thread latches RETUNE. Clearing FE_CTL.EN discards the queued calibrations that only a command asked for; once nothing runs EN_ACK clears; setting it again launches a retune (R129). -/
def Obligations.RetunesPlaceTheWindow : Prop :=
  (∀ (core : Cpu) (freq : BitVec 24) (s : State),
    s.power = .active →
    s.on FE_CTL_EN = true →
    4082000 ≤ freq.toNat →
    freq.toNat ≤ 9568000 →
    mayStore s core A_FE_WIN_CTL →
    ∃ t, exec (.retune core freq) s = .next t ∧
      t.resp = ⟨0, false⟩ ∧
      t.get FE_WIN_CTL_FREQ = freq.toNat ∧
      t.get FE_SPUR_BINS = spurBins freq.toNat ∧
      t.ls = { s.ls with launches := s.ls.launches ++ [.retune] } ∧
      Frame s t [FE_WIN_CTL_FREQ, FE_SPUR_BINS] [.resp, .ls] []) ∧
  (∀ (core : Cpu) (freq : BitVec 24) (s : State),
    s.power = .active →
    (freq.toNat < 4082000 ∨ 9568000 < freq.toNat) →
    mayStore s core A_FE_WIN_CTL →
    ∃ t, exec (.retune core freq) s = .next t ∧
      t.resp = ⟨0, false⟩ ∧
      Raised s t FE_INT_STAT_RANGE ∧
      Frame s t ((FE_INT_STAT_RANGE) :: latchOf (FE_INT_STAT_RANGE)) [.resp] []) ∧
  (∀ (ok : Bool) (temp : BitVec 16) (s : State),
    s.power ≠ .off →
    ok = true →
    s.fe.unlock = false →
    s.on FE_RT_STAT_BUSY = true →
    s.fe.air = none →
    s.fe.cal = none →
    s.fe.queue = [] →
    noReception s →
    (signed 16 temp.toNat - s.getS FE_CAL_STAT_LAST_T).natAbs ≤ 32 →
    ∃ t, exec (.retuneComplete ok temp) s = .next t ∧
      t.on FE_RT_STAT_BUSY = false ∧
      t.get FE_RT_STAT_DUR = min (s.now - s.fe.rtStart) 0xFFFF ∧
      t.on (FE_CAL_STAT_VALID.bit 0) = true ∧
      t.on (FE_CAL_STAT_VALID.bit 1) = true ∧
      t.get FE_CAL_STAT_LAST_T = temp.toNat ∧
      t.on FE_CAL_STAT_TEMP_DUE = false ∧
      t.on FE_CAL_STAT_SYN_FAIL = false ∧
      t.get FE_TEMP_TEMP = temp.toNat ∧
      t.on FE_TEMP_VALID = true ∧
      (∀ n : Fin 4, t.on (LS_T_PEND1_RETUNE n) = true) ∧
      Raised s t FE_INT_STAT_RETUNE ∧
      t.emitted = (s.emit 41).emitted ∧
      pinsButSwitch s t ∧
      Frame s t ([FE_RT_STAT_BUSY, FE_RT_STAT_DUR, FE_CAL_STAT_VALID.bit 0, FE_CAL_STAT_VALID.bit 1, FE_CAL_STAT_LAST_T, FE_CAL_STAT_TEMP_DUE, FE_CAL_STAT_SYN_FAIL, FE_TEMP_TEMP, FE_TEMP_VALID, LS_T_PEND1_RETUNE 0, LS_T_PEND1_RETUNE 1, LS_T_PEND1_RETUNE 2, LS_T_PEND1_RETUNE 3] ++ ((FE_INT_STAT_RETUNE) :: latchOf (FE_INT_STAT_RETUNE))) [.pins, .emitted] []) ∧
  (∀ (core : Cpu) (s : State),
    s.power = .active →
    s.on FE_CTL_EN = true →
    (s.fe.cal ≠ none ∨ s.on FE_RT_STAT_BUSY = true ∨ (∀ c ∈ s.fe.queue, c.auto = false)) →
    s.fe.calDone = false →
    s.fe.resetCal ≠ 1 →
    (s.on FE_CTL_SWDIV = true ∨ s.fe.swPos = 0) →
    noReception s →
    mayStore s core FE_CTL_EN.addr →
    ∃ t, exec (.feDisable core) s = .next t ∧
      t.resp = ⟨0, false⟩ ∧
      t.on FE_CTL_EN = false ∧
      (t.fe.queue = (s.fe.queue.filter (·.auto)).map fun c => { c with cmd := false }) ∧
      t.fe = { s.fe with queue := t.fe.queue } ∧
      pinsButSwitch s t ∧
      Frame s t [FE_CTL_EN, PM_STAT_LLVL, PM_STAT_LEVEL] [.resp, .fe, .pins, .emitted] []) ∧
  (∀ (s : State),
    s.power ≠ .off →
    s.on FE_CTL_EN = false →
    s.fe.air = none →
    s.fe.cal = none →
    s.fe.queue = [] →
    s.on FE_RT_STAT_BUSY = false →
    noReception s →
    ∃ t, exec .feDisableDone s = .next t ∧
      t.on FE_CTL_EN_ACK = false ∧
      pinsButSwitch s t ∧
      Frame s t [FE_CTL_EN_ACK] [.pins] []) ∧
  (∀ (core : Cpu) (s : State),
    s.power = .active →
    s.on FE_CTL_EN = false →
    s.get FE_WIN_CTL_FREQ ≠ 0 →
    (s.on FE_CTL_SWDIV = true ∨ s.fe.swPos = 0) →
    s.fe.queue = [] →
    s.fe.cal = none →
    noReception s →
    mayStore s core FE_CTL_EN.addr →
    ∃ t, exec (.feEnable core) s = .next t ∧
      t.resp = ⟨0, false⟩ ∧
      t.on FE_CTL_EN = true ∧
      t.on FE_CTL_EN_ACK = true ∧
      t.ls = { s.ls with launches := s.ls.launches ++ [.retune] } ∧
      pinsButSwitch s t ∧
      Frame s t [FE_CTL_EN, FE_CTL_EN_ACK, PM_STAT_LLVL, PM_STAT_LEVEL] [.resp, .ls, .pins, .emitted] [])

/-- R112 to R116: with none running each command starts its calibration, DC on the enabled chains; at its end its VALID bit is set and, the queue empty, CAL_DONE with its event. A forced recalibration starts SYN with DC behind it. Loss of lock sets UNLOCK with its event, begins the recovery and starts SYN with DC behind it. After a wake the synthesiser relocks, and armed lanes search again (R171). -/
def Obligations.CalibrationsRunOneAtATime : Prop :=
  (∀ (core : Cpu) (s : State),
    s.power = .active →
    s.on FE_CTL_EN = true →
    s.get FE_WIN_CTL_FREQ ≠ 0 →
    s.fe.cal = none →
    s.fe.queue = [] →
    s.on FE_RT_STAT_BUSY = false →
    s.fe.air = none →
    noReception s →
    mayStore s core A_FE_CAL_CMD →
    ∃ t, exec (.calSyn core) s = .next t ∧
      t.resp = ⟨0, false⟩ ∧
      t.fe = { s.fe with cal := some ({ calCmd 0 3 with chains := 3 }), synAgain := false } ∧
      pinsButSwitch s t ∧
      Frame s t [] [.resp, .fe, .pins] []) ∧
  (∀ (core : Cpu) (s : State),
    s.power = .active →
    s.on FE_CTL_EN = true →
    s.get FE_WIN_CTL_FREQ ≠ 0 →
    s.fe.cal = none →
    s.fe.queue = [] →
    s.on FE_RT_STAT_BUSY = false →
    s.fe.air = none →
    noReception s →
    mayStore s core A_FE_CAL_CMD →
    ∃ t, exec (.calDc core) s = .next t ∧
      t.resp = ⟨0, false⟩ ∧
      t.fe = { s.fe with cal := some ({ calCmd 1 3 with chains := b2n (s.on FE_CTL_CHA_EN) + 2 * b2n (s.on FE_CTL_CHB_EN) }), synAgain := false } ∧
      pinsButSwitch s t ∧
      Frame s t [] [.resp, .fe, .pins] []) ∧
  (∀ (core : Cpu) (s : State),
    s.power = .active →
    s.on FE_CTL_EN = true →
    s.fe.cal = none →
    s.fe.queue = [] →
    s.on FE_RT_STAT_BUSY = false →
    s.fe.air = none →
    noReception s →
    mayStore s core A_FE_CAL_CMD →
    ∃ t, exec (.calIqadc core) s = .next t ∧
      t.resp = ⟨0, false⟩ ∧
      t.fe = { s.fe with cal := some ({ calCmd 2 3 with chains := 3 }), synAgain := false } ∧
      pinsButSwitch s t ∧
      Frame s t [] [.resp, .fe, .pins] []) ∧
  (∀ (core : Cpu) (s : State),
    s.power = .active →
    s.on FE_CTL_EN = true →
    s.fe.cal = none →
    s.fe.queue = [] →
    s.on FE_RT_STAT_BUSY = false →
    s.fe.air = none →
    noReception s →
    mayStore s core A_FE_CAL_CMD →
    ∃ t, exec (.calPalp core) s = .next t ∧
      t.resp = ⟨0, false⟩ ∧
      t.fe = { s.fe with cal := some ({ calCmd 3 3 with chains := 3 }), synAgain := false } ∧
      pinsButSwitch s t ∧
      Frame s t [] [.resp, .fe, .pins] []) ∧
  (∀ (core : Cpu) (s : State),
    s.power = .active →
    s.on FE_CTL_EN = true →
    s.fe.cal = none →
    s.fe.queue = [] →
    s.on FE_RT_STAT_BUSY = false →
    s.fe.air = none →
    noReception s →
    mayStore s core A_FE_CAL_CMD →
    ∃ t, exec (.calPahp core) s = .next t ∧
      t.resp = ⟨0, false⟩ ∧
      t.fe = { s.fe with cal := some ({ calCmd 4 3 with chains := 3 }), synAgain := false } ∧
      pinsButSwitch s t ∧
      Frame s t [] [.resp, .fe, .pins] []) ∧
  (∀ (ok : Bool) (temp : BitVec 16) (k m : Nat) (au : Bool) (s : State),
    s.power ≠ .off →
    s.fe.cal = some ⟨k, m, true, au⟩ →
    1 ≤ k →
    k ≤ 4 →
    s.fe.queue = [] →
    s.on FE_RT_STAT_BUSY = false →
    s.fe.unlock = false →
    ∃ t, exec (.calComplete ok temp) s = .next t ∧
      t.on (FE_CAL_STAT_VALID.bit k) = true ∧
      Raised s t FE_INT_STAT_CAL_DONE ∧
      t.emitted = (s.emit 43).emitted ∧
      (t.fe = { s.fe with cal := none, calDone := false, resetCal := if s.fe.resetCal = 1 then 2 else s.fe.resetCal }) ∧
      pinsButSwitch s t ∧
      Frame s t ([FE_CAL_STAT_VALID.bit k] ++ ((FE_INT_STAT_CAL_DONE) :: latchOf (FE_INT_STAT_CAL_DONE))) [.fe, .pins, .emitted] []) ∧
  (∀ (s : State),
    s.power ≠ .off →
    s.get FE_CAL_CTL_FORCE_T ≠ 0 →
    s.on FE_CAL_STAT_TEMP_DUE = true →
    s.fe.dueAt + s.get FE_CAL_CTL_FORCE_T * 200000000 ≤ s.now →
    s.fe.air = none →
    s.ls.acks = [] →
    noReception s →
    s.on FE_CTL_EN = true →
    s.get FE_WIN_CTL_FREQ ≠ 0 →
    s.on FE_CAL_STAT_BUSY = false →
    s.fe.cal = none →
    s.fe.queue = [] →
    s.on FE_RT_STAT_BUSY = false →
    ∃ t, exec .forcedCal s = .next t ∧
      t.fe = { s.fe with cal := some (calAuto 0 3), queue := [calAuto 1 3], synAgain := false } ∧
      pinsButSwitch s t ∧
      Frame s t [] [.fe, .pins] []) ∧
  (∀ (s : State),
    s.power = .active →
    s.on FE_CTL_EN = true →
    s.get FE_WIN_CTL_FREQ ≠ 0 →
    s.fe.relocked = true →
    s.on FE_CAL_STAT_SYN_FAIL = false →
    s.fe.air = none →
    noReception s →
    s.fe.cal = none →
    s.fe.queue = [] →
    s.on FE_RT_STAT_BUSY = false →
    ∃ t, exec .synthUnlock s = .next t ∧
      t.fe = { s.fe with cal := some (calAuto 0 3), queue := [calAuto 1 3], unlock := true, synAgain := false } ∧
      Raised s t FE_INT_STAT_UNLOCK ∧
      t.emitted = (s.emit 42).emitted ∧
      t.fc = { s.fc with recov := s.fc.recov ++ [{ code := 0x6, sub := 0, place := s.get FE_WIN_CTL_FREQ, start := s.tb.now }] } ∧
      pinsButSwitch s t ∧
      Frame s t ((FE_INT_STAT_UNLOCK) :: latchOf (FE_INT_STAT_UNLOCK)) [.fe, .pins, .emitted, .fc] []) ∧
  (∀ (s : State),
    s.power = .active →
    s.on TB_STATUS_LOCKED = true →
    s.fe.relocked = false →
    (∀ p : Fin 16, s.laneState p = 0 ∨ s.laneState p = 1 ∨ s.laneState p = 15) →
    s.on CZ_BSC_CTL_EN = false →
    ∃ t, exec .synthRelock s = .next t ∧
      t.fe = { s.fe with relocked := true } ∧
      (∀ p : Fin 16, t.laneState p = if s.laneState p = 1 then s.restState p else s.laneState p) ∧
      pinsButSwitch s t ∧
      Frame s t ((CZ_BSC_STAT_SURV :: (List.range 16).map CZ_LANE_STAT_STATE)) [.fe, .pins] [])

/-- R118: enabling a chain starts its DC calibration, disabling it switches it off at once. R119: the gain of a chain in service steps down to 7 and up to 0. R126: the RSSI of a lane on one chain is that chain's level in the reporting range. R113, R128: a measurement stores temperature and VBAT, and a change of more than 4 °C since the last synthesiser calibration sets TEMP_DUE with its interrupt and event. -/
def Obligations.ChainsGainAndSensing : Prop :=
  (∀ (core : Cpu) (chain : Fin 2) (s : State),
    s.power = .active →
    (s.on (if chain = 0 then FE_CTL_CHA_EN else FE_CTL_CHB_EN) = false) →
    (s.on FE_CTL_SWDIV = true ∨ s.fe.swPos = 0) →
    s.on FE_CTL_EN = true →
    s.get FE_WIN_CTL_FREQ ≠ 0 →
    noReception s →
    s.fe.cal = none →
    s.fe.queue = [] →
    s.on FE_RT_STAT_BUSY = false →
    (mayStore s core (if chain = 0 then FE_CTL_CHA_EN else FE_CTL_CHB_EN).addr) →
    ∃ t, exec (.chainEnable core chain) s = .next t ∧
      t.resp = ⟨0, false⟩ ∧
      (t.on (if chain = 0 then FE_CTL_CHA_EN else FE_CTL_CHB_EN) = true) ∧
      (t.fe = { s.fe with cal := some (calAuto 5 (if chain = 0 then 1 else 2)), synAgain := false }) ∧
      pinsButSwitch s t ∧
      (Frame s t [(if chain = 0 then FE_CTL_CHA_EN else FE_CTL_CHB_EN), PM_STAT_LLVL, PM_STAT_LEVEL] [.resp, .fe, .pins, .emitted] [])) ∧
  (∀ (core : Cpu) (chain : Fin 2) (s : State),
    s.power = .active →
    (s.on (if chain = 0 then FE_CTL_CHA_EN else FE_CTL_CHB_EN) = true) →
    (s.on FE_CTL_SWDIV = true ∨ s.fe.swPos = 0) →
    noReception s →
    s.fe.cal = none →
    s.fe.queue = [] →
    s.on FE_RT_STAT_BUSY = false →
    (mayStore s core (if chain = 0 then FE_CTL_CHA_EN else FE_CTL_CHB_EN).addr) →
    ∃ t, exec (.chainDisable core chain) s = .next t ∧
      t.resp = ⟨0, false⟩ ∧
      (t.on (if chain = 0 then FE_CTL_CHA_EN else FE_CTL_CHB_EN) = false) ∧
      pinsButSwitch s t ∧
      (Frame s t [(if chain = 0 then FE_CTL_CHA_EN else FE_CTL_CHB_EN), PM_STAT_LLVL, PM_STAT_LEVEL] [.resp, .pins, .emitted] [])) ∧
  (∀ (chain : Fin 2) (s : State),
    s.power ≠ .off →
    s.chainUp chain = true →
    ∃ t, exec (.gainStepDown chain) s = .next t ∧
      (t.get (if chain = 0 then FE_CHSTAT_GAIN_A else FE_CHSTAT_GAIN_B) = min 7 (s.get (if chain = 0 then FE_CHSTAT_GAIN_A else FE_CHSTAT_GAIN_B) + 1)) ∧
      (Frame s t [if chain = 0 then FE_CHSTAT_GAIN_A else FE_CHSTAT_GAIN_B] [] [])) ∧
  (∀ (chain : Fin 2) (s : State),
    s.power ≠ .off →
    s.chainUp chain = true →
    ∃ t, exec (.gainStepUp chain) s = .next t ∧
      (t.get (if chain = 0 then FE_CHSTAT_GAIN_A else FE_CHSTAT_GAIN_B) = s.get (if chain = 0 then FE_CHSTAT_GAIN_A else FE_CHSTAT_GAIN_B) - 1) ∧
      (Frame s t [if chain = 0 then FE_CHSTAT_GAIN_A else FE_CHSTAT_GAIN_B] [] [])) ∧
  (∀ (n : Fin 16) (a b : BitVec 16) (s : State),
    s.power ≠ .off →
    (s.chainUp 0 = true ∨ s.chainUp 1 = true) →
    (s.get (CZ_LANE_CFG_DIV n) = 1 ∨ s.get (CZ_LANE_CFG_DIV n) = 2) →
    ∃ t, exec (.rssiRefresh n a b) s = .next t ∧
      (signed 16 (t.get (FE_LRPT_NOW_RSSI n)) = max (-260) (min (-20) (signed 16 (if s.get (CZ_LANE_CFG_DIV n) = 1 then a else b).toNat))) ∧
      Frame s t [FE_LRPT_NOW_RSSI n] [] []) ∧
  (∀ (temp mv : BitVec 16) (s : State),
    s.power = .active →
    s.fe.senseWake = false →
    s.get FE_SENSE_CTL_PERIOD ≠ 0 →
    s.fe.senseNext + s.get FE_SENSE_CTL_PERIOD * 200000 ≤ s.now →
    (signed 16 temp.toNat - s.getS FE_CAL_STAT_LAST_T).natAbs ≤ 32 →
    ∃ t, exec (.sensePeriod temp mv) s = .next t ∧
      t.get FE_TEMP_TEMP = temp.toNat ∧
      t.on FE_TEMP_VALID = true ∧
      t.get FE_VBAT_MV = mv.toNat % 2 ^ 13 ∧
      t.on FE_VBAT_VALID = true ∧
      t.fe = { s.fe with senseNext := s.fe.senseNext + (s.now - s.fe.senseNext) / (s.get FE_SENSE_CTL_PERIOD * 200000) * (s.get FE_SENSE_CTL_PERIOD * 200000), sensed := some s.now } ∧
      Frame s t [FE_TEMP_TEMP, FE_TEMP_VALID, FE_VBAT_MV, FE_VBAT_VALID] [.fe] []) ∧
  (∀ (core : Cpu) (temp mv : BitVec 16) (s : State),
    s.power = .active →
    32 < (signed 16 temp.toNat - s.getS FE_CAL_STAT_LAST_T).natAbs →
    mayStore s core FE_SENSE_CTL_PERIOD.addr →
    ∃ t, exec (.senseNow core temp mv) s = .next t ∧
      t.resp = ⟨0, false⟩ ∧
      t.get FE_TEMP_TEMP = temp.toNat ∧
      t.on FE_TEMP_VALID = true ∧
      t.get FE_VBAT_MV = mv.toNat % 2 ^ 13 ∧
      t.on FE_VBAT_VALID = true ∧
      t.on FE_CAL_STAT_TEMP_DUE = true ∧
      Raised s t FE_INT_STAT_TEMP_DUE ∧
      t.emitted = (s.emit 158).emitted ∧
      (t.fe = { s.fe with senseNext := s.now, sensed := some s.now, dueAt := if s.on FE_CAL_STAT_TEMP_DUE then s.fe.dueAt else s.now }) ∧
      Frame s t ([FE_TEMP_TEMP, FE_TEMP_VALID, FE_VBAT_MV, FE_VBAT_VALID, FE_CAL_STAT_TEMP_DUE] ++ ((FE_INT_STAT_TEMP_DUE) :: latchOf (FE_INT_STAT_TEMP_DUE))) [.resp, .fe, .emitted] [])

/-- R124, R157, R197, R198, R259: at the ramp-up of a prepared TXF the shell holds its transmission with its times, every lane is blanked and the launch event is emitted; at the last bit ramp-down starts, and PA_SAT is set where the detector, a free value, reads more than 1 dB below the setting (R123; that the draw is one word is the model's choice, log entry 23); at TE, the end of the last bit, the lane for the acknowledgement is tested against the bin and mode of the transmission; at the end of ramp-down, where an acknowledgement is awaited, the transmit term leaves the ledger and the wait begins; then the chains return to service. Every ramp-up, also of a wake train, a beacon or a withdrawn grant, puts the transmission on the air with its times and leaves no lane in reception but one whose frame has arrived; a transmission that was cut, or expects no acknowledgement, ends its TXF at the end of ramp-down with its code. The whole state after is stated for a frame without wake train, band record or coexistence request. -/
def Obligations.TransmissionsRampUpAndDown : Prop :=
  (∀  (n : Fin 4) (x : TxfS) (s : State),
    s.power ≠ .off →
    s.ls.acks = [] →
    s.txf n = some x →
    s.ls.threads.length = 4 →
    txfDue s n = true →
    (∀ k : Fin 4, k < n → txfDue s k = false) →
    shellReady s = true →
    s.fe.air = none →
    s.dc.reserved = [] →
    x.train = none →
    x.src < 5 →
    x.wd = false →
    txfSusp s n = false →
    launchBusy s n (airOf s x.preset x.air) = false →
    noReception s →
    ∃ t, exec .txRampUp s = .next t ∧
      t.fe = { s.fe with blank := true, air := some { ack := false, thread := n, hp := s.on (FE_TXP_OUT x.preset), setting := txSetting s x.preset, down := false, cut := false, wd := false, shell := false, start := s.now, lastBit := s.now + leadTicks s x.preset + x.air, ramp := rampTicks s x.preset, planned := s.now + leadTicks s x.preset + x.air + 100 + rampTicks s x.preset, freq := txFreq s x.ofs, wakes := 0, paid := [], mode := x.mode, pre := x.preamble, coded := x.fec, phr := x.phr, dw := x.dw, psdu := x.psdu ++ fcsOf x.fcs2 x.psdu } } ∧
      (t.txf n = some { x with phase := 2, te := s.now + leadTicks s x.preset + x.air, late := if x.fixed then s.now - x.anchor0 else (-(txLeft s x)).toNat }) ∧
      (∀ k : Fin 4, k ≠ n → t.thread k = s.thread k) ∧
      t.ls = { s.ls with threads := t.ls.threads } ∧
      t.emitted = (s.emit (24 + n)).emitted ∧
      t.rdv = { s.rdv with blanked := s.rdv.blanked || s.rdv.tracking } ∧
      pinsButSwitch s t ∧
      Frame s t [] [.fe, .ls, .rdv, .pins, .emitted] []) ∧
  (∀  (n : Fin 4) (x : TxfS) (s : State),
    s.power ≠ .off →
    s.ls.acks = [] →
    s.txf n = some x →
    s.ls.threads.length = 4 →
    txfDue s n = true →
    (∀ k : Fin 4, k < n → txfDue s k = false) →
    shellReady s = true →
    txfSusp s n = false →
    s.fe.air = none →
    launchBusy s n (airOf s x.preset x.air) = false →
    ∃ t, exec .txRampUp s = .next t ∧
      (t.txf n).map (·.phase) = some 2 ∧
      (t.fe.air.map (fun a => (a.thread, a.ack, a.start, a.lastBit)) = some (n.val, false, s.now, if x.wd then s.now else s.now + leadTicks s x.preset + x.air)) ∧
      (t.fe.air.map (fun a => (a.hp, a.freq, a.mode, a.pre)) = some (s.on (FE_TXP_OUT x.preset), txFreq s x.ofs, x.mode, x.preamble)) ∧
      (t.fe.air.map (fun a => (a.coded, a.phr, a.dw, a.cut)) = some (x.fec, x.phr, x.dw, x.wd)) ∧
      (∀ p : Fin 16, t.laneState p = 5 → laneArrived s p = true)) ∧
  (∀  (a : AirS) (s : State),
    s.power ≠ .off →
    s.fe.air = some a →
    a.down = false →
    a.lastBit + 100 ≤ s.now →
    ∃ t, exec .txLastBit s = .next t ∧
      t.fe = { s.fe with air := some { a with down := true } } ∧
      t.free = s.free + 1 ∧
      (if signed 16 s.fresh.1.toNat + 2 < a.setting then Raised s t FE_INT_STAT_PA_SAT
     else ∀ f ∈ FE_INT_STAT_PA_SAT :: latchOf FE_INT_STAT_PA_SAT, t.on f = s.on f) ∧
      Frame s t ((FE_INT_STAT_PA_SAT) :: latchOf (FE_INT_STAT_PA_SAT)) [.fe, .free] []) ∧
  (∀  (a : AirS) (x : TxfS) (s : State),
    s.power ≠ .off →
    s.fe.air = some a →
    a.down = true →
    a.cut = false →
    a.wd = false →
    a.lastBit + 100 + a.ramp ≤ s.now →
    s.txf a.thread = some x →
    s.ls.threads.length = 4 →
    a.ack = false →
    a.thread < 4 →
    x.want = true →
    x.laneOk = true →
    s.dc.coex = [] →
    ∃ t, exec .txRampDownEnd s = .next t ∧
      t.fe = { s.fe with air := none, blank := s.fe.blank && !a.shell } ∧
      t.txf a.thread = some { x with phase := 3, ackBy := x.te + ackSpan s x, preSeen := false } ∧
      (∀ k : Fin 4, k.val ≠ a.thread → t.thread k = s.thread k) ∧
      t.ls = { s.ls with threads := t.ls.threads } ∧
      t.pm = { s.pm with tx := assocDel s.pm.tx a.thread } ∧
      pinsButSwitch s t ∧
      Frame s t [PM_STAT_LLVL, PM_STAT_LEVEL] [.fe, .ls, .pm, .pins, .emitted] []) ∧
  (∀  (a : AirS) (x : TxfS) (s : State),
    s.power ≠ .off →
    s.fe.air = some a →
    rampEndDue s = true →
    a.ack = false →
    a.thread < 4 →
    s.txf a.thread = some x →
    s.ls.threads.length = 4 →
    x.dest < 16 →
    (a.cut = true ∨ a.wd = true ∨ x.want = false) →
    (s.thread a.thread).haltReq = false →
    (s.thread a.thread).replay = none →
    ∃ t, exec .txRampDownEnd s = .next t ∧
      t.fe.air = none ∧
      t.txf a.thread = none ∧
      t.thState a.thread = 1 ∧
      (t.get (LS_T_TXS_STATUS a.thread) % 16 = if a.wd then txCoex else if a.cut then txCut else txSent) ∧
      t.pm.tx = assocDel s.pm.tx a.thread) ∧
  (∀ (s : State),
    s.power ≠ .off →
    s.fe.air = none →
    s.fe.blank = true →
    ∃ t, exec .chainsInService s = .next t ∧
      t.fe = { s.fe with blank := false } ∧
      pinsButSwitch s t ∧
      Frame s t [] [.fe, .pins] []) ∧
  (∀ (s : State) (n : Fin 4) (x : TxfS),
    s.txf n = some x → s.ls.threads.length = 4 → x.phase = 2 → x.te = s.now →
    laneTest s n = s.updThread n fun y => { y with txf := some { x with laneOk := attachedTo s x.alane (txFreq s x.ofs) x.mode } })

/-- R146: ARM sets ARMED_FW of a lane in service and launches the arming for the next tick, DISARM clears it and launches the disarming. R148, R149: an accepted configuration is stored and its attachment launched for the next tick; a forbidden one sets RANGE and changes nothing. What is launched acts at the tick (R23): the lane becomes ATTACHED, or ARMED where an arming is in force. R170: clearing CZ_CTL.EN returns every lane that receives nothing to ATTACHED or IDLE, disarms all, voids the open windows and clears EN_ACK; setting it again leaves the lanes as they are. -/
def Obligations.LanesAreArmedAndConfigured : Prop :=
  (∀ (core : Cpu) (n : Fin 16) (s : State),
    s.power = .active →
    s.on CZ_CTL_EN = true →
    1 ≤ s.laneState n →
    s.laneState n ≤ 5 →
    mayStore s core (A_CZ_LANE_CMD n) →
    ∃ t, exec (.laneArm core n) s = .next t ∧
      t.resp = ⟨0, false⟩ ∧
      t.on (CZ_LANE_STAT_ARMED_FW n) = true ∧
      t.ls = { s.ls with launches := s.ls.launches ++ [.arm n] } ∧
      Frame s t [CZ_LANE_STAT_ARMED_FW n] [.resp, .ls] []) ∧
  (∀ (core : Cpu) (n : Fin 16) (s : State),
    s.power = .active →
    mayStore s core (A_CZ_LANE_CMD n) →
    ∃ t, exec (.laneDisarm core n) s = .next t ∧
      t.resp = ⟨0, false⟩ ∧
      t.on (CZ_LANE_STAT_ARMED_FW n) = false ∧
      t.ls = { s.ls with launches := s.ls.launches ++ [.disarm n] } ∧
      Frame s t [CZ_LANE_STAT_ARMED_FW n] [.resp, .ls] []) ∧
  (∀ (core : Cpu) (n : Fin 16) (v : Word) (s : State),
    s.power = .active →
    s.laneState n ≠ 15 →
    s.laneState n ≠ 7 →
    s.on CZ_CTL_PATH = false →
    s.on CZ_BSC_CTL_EN = false →
    (∀ p : Fin 16, p ≠ n → s.on (CZ_LANE_CFG_EN p) = false ∧ s.laneState p ≠ 7) →
    (∀ p : Fin 16, s.get (CZ_LANE_CFG_DIV p) ≠ 3 ∧ s.get (CZ_LANE_DCFG_DSPAN p) ≠ 3) →
    3000 ≤ (s.getS CZ_NARROW_OFS).natAbs →
    (s.getS CZ_NARROW_OFS).natAbs ≤ 29000 →
    bitsOf v 31 1 = 1 →
    1 ≤ bitsOf v 8 4 →
    bitsOf v 8 4 ≤ 3 →
    4 ≤ bitsOf v 0 6 →
    bitsOf v 0 6 ≤ 35 →
    bitsOf v 22 2 ≠ 3 →
    s.on (CZ_LANE_CFG_EN n) = false →
    mayStore s core (A_CZ_LANE_CFG n) →
    ∃ t, exec (.laneCfgWrite core n v) s = .next t ∧
      t.resp = ⟨0, false⟩ ∧
      t.on (CZ_LANE_CFG_EN n) = true ∧
      t.get (CZ_LANE_CFG_MODE n) = bitsOf v 8 4 ∧
      t.get (CZ_LANE_CFG_BIN n) = bitsOf v 0 6 ∧
      t.get (CZ_LANE_CFG_DIV n) = bitsOf v 22 2 ∧
      t.get (CZ_LANE_CFG_PDT n) = bitsOf v 16 4 ∧
      t.get (CZ_LANE_CFG_SFD_ERR n) = bitsOf v 20 2 ∧
      t.on (CZ_LANE_CFG_BSC n) = (bitsOf v 30 1 == 1) ∧
      t.ls = { s.ls with launches := s.ls.launches ++ [.attach n (s.reg (A_CZ_LANE_CFG n)) (t.reg (A_CZ_LANE_CFG n))] } ∧
      Frame s t [wordAt (A_CZ_LANE_CFG n), CZ_BSC_STAT_SURV] [.resp, .ls] []) ∧
  (∀ (core : Cpu) (n : Fin 16) (v : Word) (s : State),
    s.power = .active →
    s.laneState n ≠ 15 →
    (∀ p : Fin 16, s.on (CZ_LANE_CFG_EN p) = true → s.laneState p ≠ 15) →
    s.on CZ_CTL_PATH = false →
    bitsOf v 31 1 = 1 →
    (bitsOf v 0 6 < 4 ∨ 35 < bitsOf v 0 6) →
    mayStore s core (A_CZ_LANE_CFG n) →
    ∃ t, exec (.laneCfgWrite core n v) s = .next t ∧
      t.resp = ⟨0, false⟩ ∧
      Raised s t CZ_INT_STAT_RANGE ∧
      Frame s t ((CZ_INT_STAT_RANGE) :: latchOf (CZ_INT_STAT_RANGE)) [.resp] []) ∧
  (∀ (core : Cpu) (s : State),
    s.power = .active →
    s.on CZ_CTL_EN = true →
    noReception s →
    czForbidden s = false →
    (∀ p : Fin 16, s.on (CZ_LANE_CFG_EN p) = true → s.laneState p ≠ 15) →
    mayStore s core CZ_CTL_EN.addr →
    ∃ t, exec (.czDisable core) s = .next t ∧
      t.resp = ⟨0, false⟩ ∧
      t.on CZ_CTL_EN = false ∧
      t.on CZ_CTL_EN_ACK = false ∧
      (∀ p : Fin 16, t.on (CZ_LANE_STAT_ARMED_FW p) = false ∧ t.laneState p = if s.laneState p = 15 then 15 else if s.on (CZ_LANE_CFG_EN p) then 1 else 0) ∧
      (t.cz = { s.cz with windows := s.cz.windows.map fun w => { w with voided := true } }) ∧
      Frame s t (([CZ_CTL_EN, CZ_CTL_EN_ACK, CZ_BSC_STAT_SURV] ++ ((List.range 16).map CZ_LANE_STAT_STATE) ++ (List.range 16).map CZ_LANE_STAT_ARMED_FW)) [.resp, .cz] []) ∧
  (∀ (core : Cpu) (s : State),
    s.power = .active →
    s.on CZ_CTL_EN = false →
    noReception s →
    (∀ p : Fin 16, s.laneState p ≠ 7) →
    czForbidden s = false →
    (∀ p : Fin 16, s.on (CZ_LANE_CFG_EN p) = true → s.laneState p ≠ 15) →
    s.on CZ_BSC_CTL_EN = false →
    mayStore s core CZ_CTL_EN.addr →
    ∃ t, exec (.czEnable core) s = .next t ∧
      t.resp = ⟨0, false⟩ ∧
      t.on CZ_CTL_EN = true ∧
      t.on CZ_CTL_EN_ACK = true ∧
      Frame s t [CZ_CTL_EN, CZ_CTL_EN_ACK, CZ_BSC_STAT_SURV] [.resp] []) ∧
  (∀ (s : State) (n : Fin 16) (old new : Word),
    s.ls.launches = [.attach n old new] → old.getLsbD 31 = false → new.getLsbD 31 = true →
    s.on (CZ_LANE_CFG_EN n) = true → s.laneState n = 0 →
    (runLaunches s).laneState n = s.restState n ∧ (runLaunches s).ls = { s.ls with launches := [] }) ∧
  (∀ (s : State) (n : Fin 16) (on : Bool),
    s.ls.launches = [if on then .arm n else .disarm n] → s.laneState n = 1 ∨ s.laneState n = 2 →
    (runLaunches s).laneState n = s.restState n ∧ (runLaunches s).ls = { s.ls with launches := [] })

/-- R150 to R152: an armed lane that detects a preamble on a chain enters PREAMBLE, or DECIDE where it takes both chains, emits its event and every thread latches PRE; at the end of the measurement span the lane takes the stronger chain if it is more than DHYST ahead and else the one that detected first. R62, R126: the sync word takes the receive timestamp, fills the lane report and opens the reception. R147: a search given up, at the timeout in force since the detection (R149), returns the lane to ARMED or ATTACHED. -/
def Obligations.LanesDetectPreambleAndSync : Prop :=
  (∀ (n : Fin 16) (chain : Fin 2) (l : Nat) (s : State),
    s.power ≠ .off →
    s.laneState n = 2 →
    s.chainUp chain = true →
    s.laneUses n chain = true →
    s.on FE_CTL_SWDIV = false →
    s.cz.windows = [] →
    (∀ k : Fin 4, s.txf k = none) →
    s.rdv.sniff = 0 →
    s.logicalOf n = some l →
    s.cz.lanes.length = 16 →
    s.get (CZ_LANE_CFG_DIV n) ≠ 0 →
    ∃ t, exec (.preambleDetect n chain) s = .next t ∧
      t.laneState n = 3 ∧
      t.get (CZ_LANE_STAT_CHAIN n) = chain.val ∧
      (∀ k : Fin 4, t.on ((LS_T_PEND0_PRE k).bit l) = true) ∧
      t.emitted = (s.emit (44 + n)).emitted ∧
      t.cz = { s.cz with lanes := s.cz.lanes.set n { s.lane n with first := chain.val, armed := none, called := false, detAt := s.now, dcfg := s.reg (A_CZ_LANE_DCFG n) } } ∧
      (Frame s t ((CZ_LANE_STAT_STATE n :: CZ_LANE_STAT_CHAIN n :: (List.range 4).map fun k => (LS_T_PEND0_PRE k).bit l)) [.cz, .emitted] [])) ∧
  (∀ (n : Fin 16) (chain : Fin 2) (l : Nat) (s : State),
    s.power ≠ .off →
    s.laneState n = 2 →
    s.chainUp chain = true →
    s.laneUses n chain = true →
    s.on FE_CTL_SWDIV = false →
    s.cz.windows = [] →
    (∀ k : Fin 4, s.txf k = none) →
    s.rdv.sniff = 0 →
    s.logicalOf n = some l →
    s.cz.lanes.length = 16 →
    s.get (CZ_LANE_CFG_DIV n) = 0 →
    s.chainUp 0 = true →
    s.chainUp 1 = true →
    ∃ t, exec (.preambleDetect n chain) s = .next t ∧
      t.laneState n = 4 ∧
      t.get (CZ_LANE_STAT_CHAIN n) = chain.val ∧
      (∀ k : Fin 4, t.on ((LS_T_PEND0_PRE k).bit l) = true) ∧
      t.emitted = (s.emit (44 + n)).emitted ∧
      t.cz = { s.cz with lanes := s.cz.lanes.set n { s.lane n with first := chain.val, armed := none, called := false, detAt := s.now, dcfg := s.reg (A_CZ_LANE_DCFG n) } } ∧
      (Frame s t ((CZ_LANE_STAT_STATE n :: CZ_LANE_STAT_CHAIN n :: (List.range 4).map fun k => (LS_T_PEND0_PRE k).bit l)) [.cz, .emitted] [])) ∧
  (∀ (n : Fin 16) (ma mb : BitVec 16) (s : State),
    s.power ≠ .off →
    s.laneState n = 4 →
    s.on FE_CTL_SWDIV = false →
    (s.lane n).first < 2 →
    ∃ t, exec (.diversityDecision n ma mb) s = .next t ∧
      t.laneState n = 3 ∧
      (t.get (CZ_LANE_STAT_CHAIN n) = if mb.toNat + (CZ_LANE_DCFG_DHYST n).ofWord (s.lane n).dcfg < ma.toNat then 0 else if ma.toNat + (CZ_LANE_DCFG_DHYST n).ofWord (s.lane n).dcfg < mb.toNat then 1 else (s.lane n).first) ∧
      Frame s t [CZ_LANE_STAT_STATE n, CZ_LANE_STAT_CHAIN n, wordAt (A_CZ_LANE_DIVM n)] [] []) ∧
  (∀ (n : Fin 16) (rssi snr8 cfo : BitVec 16) (coded : Bool) (s : State),
    s.power ≠ .off →
    s.laneState n = 3 →
    s.chainUp (s.laneChain n) = true →
    s.get LS_SNF_INT_INT = 0 →
    s.cz.lanes.length = 16 →
    ∃ t, exec (.syncWordDetect n rssi snr8 cfo coded) s = .next t ∧
      t.laneState n = 5 ∧
      t.get64 (TB_RXTS_LO_TS n) (TB_RXTS_HI_TS n) = (s.tb.now - BitVec.ofInt 64 (seenDelay s (s.get (CZ_LANE_CFG_MODE n)))).toNat ∧
      t.get (TB_RXTS_INFO_SEQ n) = (s.get (TB_RXTS_INFO_SEQ n) + 1) % 2 ^ 16 ∧
      t.get (TB_RXTS_INFO_MODE n) = s.get (CZ_LANE_CFG_MODE n) ∧
      t.get (TB_RXTS_INFO_CHAIN n) = s.laneChain n ∧
      t.on (TB_RXTS_INFO_VALID n) = true ∧
      t.get (CZ_LANE_FRM_CFO n) = cfo.toNat ∧
      t.reg (A_FE_LRPT_FRM n) = w32 (lqiOf snr8.toNat * 2 ^ 24 + s.get (CZ_LANE_STAT_CHAIN n) * 2 ^ 16 + clampRssi rssi.toNat) ∧
      t.cz = { s.cz with lanes := s.cz.lanes.set n { s.lane n with rx := some { ts := s.tb.now - BitVec.ofInt 64 (seenDelay s (s.get (CZ_LANE_CFG_MODE n))), dts := s.tb.dtime - BitVec.ofInt 64 (seenDelay s (s.get (CZ_LANE_CFG_MODE n))), seen := s.now, opened := (s.lane n).armed, coded := coded && s.get (CZ_LANE_CFG_MODE n) != 3, mode := s.get (CZ_LANE_CFG_MODE n), rssi := clampRssi rssi.toNat, lqi := lqiOf snr8.toNat, phr := false, len := 0, fcs2 := false, dw := false, adm := 0, cells := 0, taken := [], fend := 0 } } } ∧
      Frame s t [CZ_LANE_STAT_STATE n, TB_RXTS_LO_TS n, TB_RXTS_HI_TS n, TB_RXTS_INFO_SEQ n, TB_RXTS_INFO_MODE n, TB_RXTS_INFO_CHAIN n, TB_RXTS_INFO_VALID n, CZ_LANE_FRM_CFO n, wordAt (A_FE_LRPT_FRM n)] [.cz] []) ∧
  (∀ (n : Fin 16) (s : State),
    s.power ≠ .off →
    (s.laneState n = 3 ∨ s.laneState n = 4) →
    (CZ_LANE_DCFG_STO n).ofWord (s.lane n).dcfg ≠ 0 →
    (s.lane n).detAt + (CZ_LANE_DCFG_STO n).ofWord (s.lane n).dcfg * 64 * sym3 (s.get (CZ_LANE_CFG_MODE n)) / 3 ≤ s.now →
    s.on FE_CTL_SWDIV = false →
    ∃ t, exec (.syncTimeout n) s = .next t ∧
      (t.laneState n = if s.on (CZ_LANE_CFG_EN n) = false then 0 else if s.laneArmed n then 2 else 1) ∧
      Frame s t [CZ_LANE_STAT_STATE n] [] []) ∧
  (∀ (n : Fin 16) (s : State),
    s.power ≠ .off →
    (s.laneState n = 3 ∨ s.laneState n = 4) →
    s.on FE_CTL_SWDIV = false →
    ∃ t, exec (.preambleLost n) s = .next t ∧
      (t.laneState n = if s.on (CZ_LANE_CFG_EN n) = false then 0 else if s.laneArmed n then 2 else 1) ∧
      Frame s t [CZ_LANE_STAT_STATE n] [] [])

/-- R154, R317: at the end of a PHR without error the length is reported; the frame is admitted where FREE leaves RXMIN cells, LOWFREE is set where FREE falls below LOWW, and else it is refused with RXFULL; a header error counts HDR, and LOSS of its bin in the filter bank (R165), and returns the lane. R155: at the frame end, with its cells arrived, a wrong FCS counts FCS and LOSS and returns the cells to the free list; a correct one counts OK; the lane returns and emits its event. A frame passed in promiscuous reception, and an unsecured data or command frame that passes the filter, stays in its cells and waits for the forwarding engine (R207, R208, R210, R314); the latter latches FRAME in every thread (R188), and owes an acknowledgement where it asks for one (R209, R211; stated with coexistence off). -/
def Obligations.LanesReceiveFrames : Prop :=
  (∀ (n : Fin 16) (phr : BitVec 16) (r : Reception) (len : Nat) (fcs2 dw : Bool) (s : State),
    s.power ≠ .off →
    s.laneState n = 5 →
    (s.lane n).rx = some r →
    s.cz.lanes.length = 16 →
    r.phr = false →
    readPhr r.mode phr.toNat = some (len, fcs2, dw) →
    s.get FW_ADM0_RXMIN + cellsFor (len - fcsLen fcs2) ≤ freeCells s →
    ∃ t, exec (.phrEnd n phr) s = .next t ∧
      t.get (CZ_LANE_FRM_LEN n) = len ∧
      t.cz = { s.cz with lanes := s.cz.lanes.set n { s.lane n with rx := some { r with phr := true, len := len, fcs2 := fcs2, dw := dw, adm := 1, cells := cellsFor (len - fcsLen fcs2), fend := r.ts.toNat + bodyTicks r.mode len r.coded } } } ∧
      (if s.get FW_ADM2_LOWW ≤ freeCells s ∧ freeCells t < s.get FW_ADM2_LOWW then Raised s t FW_FS_INT_STAT_LOWFREE ∧ t.emitted = (s.emit 87).emitted
     else t.emitted = s.emitted ∧ ∀ f ∈ FW_FS_INT_STAT_LOWFREE :: latchOf FW_FS_INT_STAT_LOWFREE, t.on f = s.on f) ∧
      Frame s t ([CZ_LANE_FRM_LEN n] ++ ((FW_FS_INT_STAT_LOWFREE) :: latchOf (FW_FS_INT_STAT_LOWFREE))) [.cz, .emitted] []) ∧
  (∀ (n : Fin 16) (phr : BitVec 16) (r : Reception) (len : Nat) (fcs2 dw : Bool) (s : State),
    s.power ≠ .off →
    s.laneState n = 5 →
    (s.lane n).rx = some r →
    s.cz.lanes.length = 16 →
    r.phr = false →
    readPhr r.mode phr.toNat = some (len, fcs2, dw) →
    freeCells s < s.get FW_ADM0_RXMIN + cellsFor (len - fcsLen fcs2) →
    ∃ t, exec (.phrEnd n phr) s = .next t ∧
      t.get (CZ_LANE_FRM_LEN n) = len ∧
      t.cz = { s.cz with lanes := s.cz.lanes.set n { s.lane n with rx := some { r with phr := true, len := len, fcs2 := fcs2, dw := dw, adm := 2, cells := cellsFor (len - fcsLen fcs2), fend := r.ts.toNat + bodyTicks r.mode len r.coded } } } ∧
      Counted s t (CZ_LANE_CNT2_REFUSED n) ∧
      Counted s t FW_FS_CNT0_RXFULL ∧
      Raised s t FW_FS_INT_STAT_RXFULL ∧
      t.emitted = (s.emit 86).emitted ∧
      Frame s t ([CZ_LANE_FRM_LEN n, CZ_LANE_CNT2_REFUSED n, FW_FS_CNT0_RXFULL] ++ ((FW_FS_INT_STAT_RXFULL) :: latchOf (FW_FS_INT_STAT_RXFULL))) [.cz, .emitted] []) ∧
  (∀ (n : Fin 16) (phr : BitVec 16) (r : Reception) (s : State),
    s.power ≠ .off →
    s.laneState n = 5 →
    (s.lane n).rx = some r →
    s.cz.lanes.length = 16 →
    r.phr = false →
    r.taken = [] →
    readPhr r.mode phr.toNat = none →
    (s.lane n).move = none →
    ∃ t, exec (.phrEnd n phr) s = .next t ∧
      Counted s t (CZ_LANE_CNT1_HDR n) ∧
      (t.laneState n = if s.on (CZ_LANE_CFG_EN n) = false then 0 else if s.laneArmed n then 2 else 1) ∧
      t.lane n = { s.lane n with rx := none } ∧
      (∀ p : Fin 16, p ≠ n → t.lane p = s.lane p) ∧
      (if s.on CZ_CTL_PATH then t.cz.loss = s.cz.loss else assocGet t.cz.loss (s.get (CZ_LANE_CFG_BIN n)) = some (min 255 ((assocGet s.cz.loss (s.get (CZ_LANE_CFG_BIN n))).getD 0 + 1))) ∧
      t.cz = { s.cz with lanes := t.cz.lanes, loss := t.cz.loss } ∧
      (t.fe = { s.fe with swPos := if s.on FE_CTL_SWDIV = true ∧ s.get (CZ_LANE_CFG_DIV n) = 0 then 0 else s.fe.swPos }) ∧
      pinsButSwitch s t ∧
      Frame s t [CZ_LANE_CNT1_HDR n, CZ_LANE_FRM_LEN n, CZ_LANE_STAT_STATE n] [.cz, .fe, .pins] []) ∧
  (∀ (n : Fin 16) (psdu : List Byte) (r : Reception) (d body : List Byte) (s : State),
    s.power ≠ .off →
    s.laneState n = 5 →
    (s.lane n).rx = some r →
    r.phr = true →
    r.adm = 1 →
    psdu.length = r.len →
    psdu.length ≤ 2047 →
    (d = if r.dw then whiten psdu else psdu) →
    body = d.take (d.length - fcsLen r.fcs2) →
    r.cells ≤ r.taken.length →
    r.taken ≠ [] →
    r.taken.Nodup →
    (∀ c ∈ r.taken, c < 4096) →
    body.length ≤ 128 * r.taken.length →
    (s.lane n).move = none →
    s.cz.lanes.length = 16 →
    fcsOk r.fcs2 d = false →
    ∃ t, exec (.frameEnd n psdu) s = .next t ∧
      Counted s t (CZ_LANE_CNT0_FCS n) ∧
      (t.laneState n = if s.on (CZ_LANE_CFG_EN n) = false then 0 else if s.laneArmed n then 2 else 1) ∧
      t.lane n = { s.lane n with rx := none, lastEnd := r.fend } ∧
      (∀ p : Fin 16, p ≠ n → t.lane p = s.lane p) ∧
      (if s.on CZ_CTL_PATH then t.cz.loss = s.cz.loss else assocGet t.cz.loss (s.get (CZ_LANE_CFG_BIN n)) = some (min 255 ((assocGet s.cz.loss (s.get (CZ_LANE_CFG_BIN n))).getD 0 + 1))) ∧
      t.cz = { s.cz with lanes := t.cz.lanes, loss := t.cz.loss } ∧
      t.fw = { s.fw with freed := s.fw.freed ++ r.taken } ∧
      t.emitted = (s.emit (60 + n)).emitted ∧
      (t.fe = { s.fe with swPos := if s.on FE_CTL_SWDIV = true ∧ s.get (CZ_LANE_CFG_DIV n) = 0 then 0 else s.fe.swPos }) ∧
      pinsButSwitch s t ∧
      (Frame s t [CZ_LANE_CNT0_FCS n, CZ_LANE_STAT_STATE n] [.cz, .fw, .fe, .pins, .emitted] (r.taken.map fun c => (cellAddr c, 128)))) ∧
  (∀ (n : Fin 16) (psdu : List Byte) (r : Reception) (d body : List Byte) (s : State),
    s.power ≠ .off →
    s.laneState n = 5 →
    (s.lane n).rx = some r →
    r.phr = true →
    r.adm = 1 →
    psdu.length = r.len →
    psdu.length ≤ 2047 →
    (d = if r.dw then whiten psdu else psdu) →
    body = d.take (d.length - fcsLen r.fcs2) →
    r.cells ≤ r.taken.length →
    r.taken ≠ [] →
    r.taken.Nodup →
    (∀ c ∈ r.taken, c < 4096) →
    body.length ≤ 128 * r.taken.length →
    (s.lane n).move = none →
    s.cz.lanes.length = 16 →
    fcsOk r.fcs2 d = true →
    s.on FW_CTL_EN = true →
    s.on LS_FILT_CFG_PROMISC = true →
    ∃ t, exec (.frameEnd n psdu) s = .next t ∧
      Counted s t (CZ_LANE_CNT0_OK n) ∧
      Counted s t LS_FH_CNT2_PASSED ∧
      (t.laneState n = if s.on (CZ_LANE_CFG_EN n) = false then 0 else if s.laneArmed n then 2 else 1) ∧
      t.lane n = { s.lane n with rx := none, lastEnd := r.fend } ∧
      (∀ p : Fin 16, p ≠ n → t.lane p = s.lane p) ∧
      t.cz = { s.cz with lanes := t.cz.lanes } ∧
      t.fw = { s.fw with frames := t.fw.frames, work := s.fw.work ++ [r.taken.headD 0] } ∧
      (assocGet t.fw.frames (r.taken.headD 0) = some { FrameS.fresh 1 body.length r.taken r.ts with lane := (s.logicalOf n).getD n, dts := r.dts, lqi := r.lqi, rssi := r.rssi, apend := false, passed := true, ieSkip := Ies.none.skipped, ieAt := if Ies.none.payloadIe then some Ies.none.fin else none }) ∧
      cellOctets t r.taken body.length = body ∧
      t.pm = { s.pm with loads := t.pm.loads } ∧
      (t.emitted = (s.emit (60 + n)).emitted ∨ t.emitted.length = (s.emit (60 + n)).emitted.length + 1) ∧
      (t.fe = { s.fe with swPos := if s.on FE_CTL_SWDIV = true ∧ s.get (CZ_LANE_CFG_DIV n) = 0 then 0 else s.fe.swPos }) ∧
      pinsButSwitch s t ∧
      (Frame s t [CZ_LANE_CNT0_OK n, CZ_LANE_STAT_STATE n, LS_FH_CNT2_PASSED, PM_STAT_LLVL, PM_STAT_LEVEL] [.cz, .fw, .pm, .fe, .pins, .emitted] (r.taken.map fun c => (cellAddr c, 128)))) ∧
  (∀ (n : Fin 16) (psdu : List Byte) (r : Reception) (d body : List Byte) (m : Mac) (e : Ies) (s : State),
    s.power ≠ .off →
    s.laneState n = 5 →
    (s.lane n).rx = some r →
    r.phr = true →
    r.adm = 1 →
    psdu.length = r.len →
    psdu.length ≤ 2047 →
    (d = if r.dw then whiten psdu else psdu) →
    body = d.take (d.length - fcsLen r.fcs2) →
    r.cells ≤ r.taken.length →
    r.taken ≠ [] →
    r.taken.Nodup →
    (∀ c ∈ r.taken, c < 4096) →
    body.length ≤ 128 * r.taken.length →
    (s.lane n).move = none →
    s.cz.lanes.length = 16 →
    fcsOk r.fcs2 d = true →
    s.on FW_CTL_EN = true →
    readMac body = m →
    s.on LS_FILT_CFG_PROMISC = false →
    m.ver = 2 →
    (m.typ = 1 ∨ m.typ = 3) →
    frameIes body m (s.get LS_OUI_OUI) = e →
    e.err = false →
    filterPass s m = true →
    m.sec = false →
    e.wake = none →
    ackDue s m = false →
    ∃ t, exec (.frameEnd n psdu) s = .next t ∧
      Counted s t (CZ_LANE_CNT0_OK n) ∧
      (t.laneState n = if s.on (CZ_LANE_CFG_EN n) = false then 0 else if s.laneArmed n then 2 else 1) ∧
      t.lane n = { s.lane n with rx := none, lastEnd := r.fend } ∧
      (∀ p : Fin 16, p ≠ n → t.lane p = s.lane p) ∧
      t.cz = { s.cz with lanes := t.cz.lanes } ∧
      (∀ k : Fin 4, t.on ((LS_T_PEND0_FRAME k).bit ((s.logicalOf n).getD n)) = true) ∧
      t.fw = { s.fw with frames := t.fw.frames, work := s.fw.work ++ [r.taken.headD 0] } ∧
      (assocGet t.fw.frames (r.taken.headD 0) = some { FrameS.fresh 1 body.length r.taken r.ts with lane := (s.logicalOf n).getD n, dts := r.dts, lqi := r.lqi, rssi := r.rssi, apend := false, passed := false, ieSkip := e.skipped, ieAt := if e.payloadIe then some e.fin else none }) ∧
      cellOctets t r.taken body.length = body ∧
      t.pm = { s.pm with loads := t.pm.loads } ∧
      (t.emitted = (s.emit (60 + n)).emitted ∨ t.emitted.length = (s.emit (60 + n)).emitted.length + 1) ∧
      (t.fe = { s.fe with swPos := if s.on FE_CTL_SWDIV = true ∧ s.get (CZ_LANE_CFG_DIV n) = 0 then 0 else s.fe.swPos }) ∧
      pinsButSwitch s t ∧
      (Frame s t (([CZ_LANE_CNT0_OK n, CZ_LANE_STAT_STATE n, PM_STAT_LLVL, PM_STAT_LEVEL] ++ (List.range 4).map fun k => (LS_T_PEND0_FRAME k).bit ((s.logicalOf n).getD n))) [.cz, .fw, .pm, .fe, .pins, .emitted] (r.taken.map fun c => (cellAddr c, 128)))) ∧
  (∀ (n : Fin 16) (psdu : List Byte) (r : Reception) (d body : List Byte) (m : Mac) (e : Ies) (s : State),
    s.power ≠ .off →
    s.laneState n = 5 →
    (s.lane n).rx = some r →
    r.phr = true →
    r.adm = 1 →
    psdu.length = r.len →
    psdu.length ≤ 2047 →
    (d = if r.dw then whiten psdu else psdu) →
    body = d.take (d.length - fcsLen r.fcs2) →
    r.cells ≤ r.taken.length →
    r.taken ≠ [] →
    r.taken.Nodup →
    (∀ c ∈ r.taken, c < 4096) →
    body.length ≤ 128 * r.taken.length →
    (s.lane n).move = none →
    s.cz.lanes.length = 16 →
    fcsOk r.fcs2 d = true →
    s.on FW_CTL_EN = true →
    readMac body = m →
    s.on LS_FILT_CFG_PROMISC = false →
    m.ver = 2 →
    (m.typ = 1 ∨ m.typ = 3) →
    frameIes body m (s.get LS_OUI_OUI) = e →
    e.err = false →
    filterPass s m = true →
    m.sec = false →
    e.wake = none →
    ackDue s m = true →
    s.on CX_CTL_EN = false →
    s.dc.coex = [] →
    ∃ t, exec (.frameEnd n psdu) s = .next t ∧
      Counted s t (CZ_LANE_CNT0_OK n) ∧
      (t.laneState n = if s.on (CZ_LANE_CFG_EN n) = false then 0 else if s.laneArmed n then 2 else 1) ∧
      t.lane n = { s.lane n with rx := none, lastEnd := r.fend } ∧
      (∀ p : Fin 16, p ≠ n → t.lane p = s.lane p) ∧
      t.cz = { s.cz with lanes := t.cz.lanes } ∧
      (∀ k : Fin 4, t.on ((LS_T_PEND0_FRAME k).bit ((s.logicalOf n).getD n)) = true) ∧
      t.fw = { s.fw with frames := t.fw.frames, work := s.fw.work ++ [r.taken.headD 0] } ∧
      (assocGet t.fw.frames (r.taken.headD 0) = some { FrameS.fresh 1 body.length r.taken r.ts with lane := (s.logicalOf n).getD n, dts := r.dts, lqi := r.lqi, rssi := r.rssi, apend := true, passed := false, ieSkip := e.skipped, ieAt := if e.payloadIe then some e.fin else none }) ∧
      cellOctets t r.taken body.length = body ∧
      t.pm = { s.pm with loads := t.pm.loads } ∧
      ((t.ls.acks.map fun a => (a.phys, a.seq, a.cell, a.fend, a.phase)) = (s.ls.acks.map fun a => (a.phys, a.seq, a.cell, a.fend, a.phase)) ++ [(n.val, m.seq, r.taken.headD 0, r.fend, 0)]) ∧
      t.ls = { s.ls with acks := t.ls.acks, ackNext := s.ls.ackNext + 1 } ∧
      (t.emitted = (s.emit (60 + n)).emitted ∨ t.emitted.length = (s.emit (60 + n)).emitted.length + 1) ∧
      (t.fe = { s.fe with swPos := if s.on FE_CTL_SWDIV = true ∧ s.get (CZ_LANE_CFG_DIV n) = 0 then 0 else s.fe.swPos }) ∧
      pinsButSwitch s t ∧
      (Frame s t (([CZ_LANE_CNT0_OK n, CZ_LANE_STAT_STATE n, PM_STAT_LLVL, PM_STAT_LEVEL] ++ (List.range 4).map fun k => (LS_T_PEND0_FRAME k).bit ((s.logicalOf n).getD n))) [.cz, .fw, .pm, .fe, .ls, .pins, .emitted] (r.taken.map fun c => (cellAddr c, 128))))

/-- R160: a self-test period starts the stored-vector test on every lane in IDLE, ATTACHED or SURVEY, and a lane that passes returns. R161, R573: a lane that fails its continuous check goes to FAILED, its EN and ARMED_FW clear, CZ_FAIL_LOG and LANE_FAIL say so, and one fault record of code 0x5 with the lane is written; stated with the spare lane off. -/
def Obligations.LaneChecksFindFailures : Prop :=
  (∀ (s : State),
    s.power = .active →
    s.on CZ_SELF_CTL_EN = true →
    s.get CZ_SELF_CTL_PERIOD ≠ 0 →
    s.cz.selfNext ≤ s.now →
    ∃ t, exec .selftestStart s = .next t ∧
      (∀ p : Fin 16, t.laneState p = if s.laneState p = 0 ∨ s.laneState p = 1 ∨ s.laneState p = 7 then 6 else s.laneState p) ∧
      t.cz = { s.cz with selfNext := s.cz.selfNext + s.get CZ_SELF_CTL_PERIOD * 20000000 } ∧
      Frame s t ((List.range 16).map CZ_LANE_STAT_STATE) [.cz] []) ∧
  (∀ (n : Fin 16) (ok : Bool) (s : State),
    s.power ≠ .off →
    ok = true →
    s.laneState n = 6 →
    ∃ t, exec (.selftestEnd n ok) s = .next t ∧
      (t.laneState n = if s.on (CZ_LANE_CFG_EN n) = false then 0 else if s.laneArmed n then 2 else 1) ∧
      Frame s t [CZ_LANE_STAT_STATE n] [] []) ∧
  (∀ (n : Fin 16) (s : State),
    s.power ≠ .off →
    s.laneState n ≠ 15 →
    noReception s →
    s.on CZ_SELF_CTL_SPARE = false →
    s.fc.recov = [] →
    s.fc.hist = [] →
    s.fc.queue.length < 16 →
    s.get FC_CFG_ESC_LIM ≠ 1 →
    ∃ t, exec (.laneFail n) s = .next t ∧
      t.laneState n = 15 ∧
      t.on (CZ_LANE_CFG_EN n) = false ∧
      t.on (CZ_LANE_STAT_ARMED_FW n) = false ∧
      t.reg A_CZ_FAIL_LOG = w32 (0x400 + n) ∧
      Raised s t CZ_INT_STAT_LANE_FAIL ∧
      t.fc.queue = s.fc.queue ++ [⟨0x50000000, w32 n, w32 s.now⟩] ∧
      t.fc.recov = [] ∧
      Counted s t FC_CNT0_RECORDS ∧
      Raised s t FC_INT_STAT_REC ∧
      t.emitted = (s.emit 155).emitted ∧
      Frame s t ([CZ_LANE_STAT_STATE n, CZ_LANE_CFG_EN n, CZ_LANE_STAT_ARMED_FW n, wordAt A_CZ_FAIL_LOG, FC_CNT0_RECORDS] ++ ((CZ_INT_STAT_LANE_FAIL) :: latchOf (CZ_INT_STAT_LANE_FAIL)) ++ ((FC_INT_STAT_REC) :: latchOf (FC_INT_STAT_REC))) [.fc, .emitted] [])

/-- R165: at each sample the NF of every bin with an armed managed lane moves by an eighth of the difference to that lane's level, or takes it where none is valid (stated while no survey runs). R166: the survey moves to the next candidate bin in ascending order, wrapping. R167: where the bin of the set, outside KEEP, that costs most (the lowest of equals) costs at least HYST more than the candidate with a valid NF that costs least (the lowest of equals), the swap becomes pending, its instant LEAD × 16 s on; where it does not, nothing is pending; both clear LOSS. R168: at that instant every managed lane on OUT takes IN and the swap is counted. R169: clearing CZ_BSC_CTL.EN stops the survey. -/
def Obligations.TheBinSetIsChosen : Prop :=
  (∀ (s : State),
    s.power ≠ .off →
    s.on CZ_CTL_PATH = false →
    s.on CZ_BSC_CTL_EN = true →
    s.cz.sampleNext ≤ s.now →
    (s.chainUp 0 = true ∨ s.chainUp 1 = true) →
    s.on CZ_BSC_STAT_SURV = false →
    ∃ t, exec .bscSample s = .next t ∧
      (∀ k, assocGet t.cz.nf k = match (if k < 40 then sampleLane s k else none) with
      | some p => some (match assocGet s.cz.nf k with
        | none => s.get (FE_LRPT_NOW_RSSI p)
        | some v => unsigned 16 (signed 16 v + (signed 16 (s.get (FE_LRPT_NOW_RSSI p)) - signed 16 v) / 8))
      | none => assocGet s.cz.nf k) ∧
      t.cz = { s.cz with nf := t.cz.nf, sampleNext := s.now + 200000 } ∧
      Frame s t [] [.cz] []) ∧
  (∀ (s : State),
    s.power ≠ .off →
    s.on CZ_BSC_STAT_SURV = true →
    s.cz.surveyNext ≤ s.now →
    (surveyLane s).isSome = true →
    ∃ t, exec .surveyStep s = .next t ∧
      t.get CZ_BSC_STAT_SBIN ∈ candidates s ∧
      (∀ k ∈ candidates s, s.get CZ_BSC_STAT_SBIN < k → s.get CZ_BSC_STAT_SBIN < t.get CZ_BSC_STAT_SBIN ∧ t.get CZ_BSC_STAT_SBIN ≤ k) ∧
      (∀ k ∈ candidates s, t.get CZ_BSC_STAT_SBIN ≤ s.get CZ_BSC_STAT_SBIN → t.get CZ_BSC_STAT_SBIN ≤ k) ∧
      t.cz = { s.cz with surveyNext := s.now + 2000000 } ∧
      Frame s t [CZ_BSC_STAT_SBIN] [.cz] []) ∧
  (∀  (out inn : Nat) (s : State),
    s.power ≠ .off →
    s.on CZ_CTL_PATH = false →
    s.on CZ_BSC_CTL_EN = true →
    s.get CZ_BSC_CTL_PERIOD ≠ 0 →
    s.cz.decideNext ≤ s.now →
    s.on CZ_BSC_STAT_PEND = false →
    (4 ≤ out ∧ out ≤ 35 ∧ inSet s out = true ∧ bitOf (s.get CZ_BSC_KEEP_KEEP) (out - 4) = false) →
    (∀ i : Fin 32, inSet s (i + 4) = true → bitOf (s.get CZ_BSC_KEEP_KEEP) i = false → binCost s (i + 4) < binCost s out ∨ (binCost s (i + 4) = binCost s out ∧ out ≤ i + 4)) →
    (inn ∈ candidates s ∧ (assocGet s.cz.nf inn).isSome = true) →
    (∀ k ∈ candidates s, (assocGet s.cz.nf k).isSome = true → binCost s inn < binCost s k ∨ (binCost s k = binCost s inn ∧ inn ≤ k)) →
    (s.get CZ_BSC_CTL_HYST : Int) ≤ binCost s out - binCost s inn →
    ∃ t, exec .bscDecision s = .next t ∧
      t.on CZ_BSC_STAT_PEND = true ∧
      t.get CZ_BSC_STAT_OUT = out ∧
      t.get CZ_BSC_STAT_IN = inn ∧
      t.get64 CZ_BSC_EFF_LO_EFF CZ_BSC_EFF_HI_EFF = (s.dtime + max 1 (s.get CZ_BSC_CTL_LEAD) * 3200000000) % 2 ^ 64 ∧
      (∀ i : Fin 32, bitOf (t.get CZ_BSC_NEXT_NEXT) i = ((inSet s (i + 4) && (i + 4 : Nat) != out) || (i + 4 : Nat) == inn)) ∧
      Raised s t CZ_INT_STAT_BSC ∧
      t.cz = { s.cz with loss := [], decideNext := s.cz.decideNext + s.get CZ_BSC_CTL_PERIOD * 3200000000 } ∧
      Frame s t ([CZ_BSC_STAT_PEND, CZ_BSC_STAT_OUT, CZ_BSC_STAT_IN, CZ_BSC_EFF_LO_EFF, CZ_BSC_EFF_HI_EFF, CZ_BSC_NEXT_NEXT] ++ ((CZ_INT_STAT_BSC) :: latchOf (CZ_INT_STAT_BSC))) [.cz] []) ∧
  (∀ (s : State),
    s.power ≠ .off →
    s.on CZ_CTL_PATH = false →
    s.on CZ_BSC_CTL_EN = true →
    s.get CZ_BSC_CTL_PERIOD ≠ 0 →
    s.cz.decideNext ≤ s.now →
    s.on CZ_BSC_STAT_PEND = false →
    (∀ o ∈ List.range 36, ∀ i ∈ candidates s, (4 ≤ o ∧ o ≤ 35 ∧ inSet s o = true ∧ bitOf (s.get CZ_BSC_KEEP_KEEP) (o - 4) = false) → (assocGet s.cz.nf i).isSome = true → binCost s o - binCost s i < (s.get CZ_BSC_CTL_HYST : Int)) →
    ∃ t, exec .bscDecision s = .next t ∧
      t.cz = { s.cz with loss := [], decideNext := s.cz.decideNext + s.get CZ_BSC_CTL_PERIOD * 3200000000 } ∧
      Frame s t [] [.cz] []) ∧
  (∀ (s : State),
    s.power ≠ .off →
    noReception s →
    s.on CZ_CTL_PATH = false →
    s.on CZ_BSC_STAT_PEND = true →
    s.get64 CZ_BSC_EFF_LO_EFF CZ_BSC_EFF_HI_EFF ≤ s.dtime →
    binHeld s (s.get CZ_BSC_STAT_IN) = false →
    inSet s (s.get CZ_BSC_STAT_OUT) = true →
    (∀ p : Fin 16, managed s p = true → s.laneState p = s.restState p) →
    ∃ t, exec .bscChange s = .next t ∧
      (∀ p : Fin 16, t.get (CZ_LANE_CFG_BIN p) = if managed s p = true ∧ s.get (CZ_LANE_CFG_BIN p) = s.get CZ_BSC_STAT_OUT then s.get CZ_BSC_STAT_IN else s.get (CZ_LANE_CFG_BIN p)) ∧
      t.on CZ_BSC_STAT_PEND = false ∧
      Counted s t CZ_BSC_CNT_SWAPS ∧
      Raised s t CZ_INT_STAT_BSC ∧
      (∀ p : Fin 16, t.lane p = if managed s p = true ∧ s.get (CZ_LANE_CFG_BIN p) = s.get CZ_BSC_STAT_OUT then { s.lane p with move := none } else s.lane p) ∧
      t.cz = { s.cz with lanes := t.cz.lanes } ∧
      Frame s t ((List.range 16).map CZ_LANE_CFG_BIN ++ CZ_BSC_STAT_PEND :: CZ_BSC_CNT_SWAPS :: CZ_INT_STAT_BSC :: latchOf CZ_INT_STAT_BSC) [.cz] []) ∧
  (∀ (core : Cpu) (s : State),
    s.power = .active →
    s.on CZ_BSC_CTL_EN = true →
    mayStore s core CZ_BSC_CTL_EN.addr →
    ∃ t, exec (.bscDisable core) s = .next t ∧
      t.resp = ⟨0, false⟩ ∧
      t.on CZ_BSC_CTL_EN = false ∧
      t.on CZ_BSC_STAT_SURV = false ∧
      (∀ p : Fin 16, t.laneState p = if s.laneState p = 7 then 0 else s.laneState p) ∧
      t.cz = { s.cz with decideNext := s.now + s.get CZ_BSC_CTL_PERIOD * 3200000000 } ∧
      Frame s t (([CZ_BSC_CTL_EN, CZ_BSC_STAT_SURV] ++ ((List.range 16).map CZ_LANE_STAT_STATE))) [.resp, .cz] [])

/-- R184, R186 with Tables 6.2 to 6.4: the READY thread whose turn it is (R180), issuing one of these, writes the result, on 32 or 64 bits as S says, to its destination; ADD, SUB and CMP set Z, N, C and V of the result (C of a subtraction is 1 where no borrow occurs); the PC moves to the next word; L, the other registers and everything else stay. R202: an instruction that makes the count since the last checkpoint 1,024 saves a checkpoint. -/
def Obligations.SequencerInstructionsCompute : Prop :=
  (∀ (n : Fin 4) (w : Word) (s : State),
    issueTurn s = some n.val →
    s.power = .active →
    imemWord s (s.thPc n) = w →
    insnOp w = opMov →
    legalWord w = true →
    (s.thread n).since < 1023 →
    s.ls.threads.length = 4 →
    (s.thread n).replay = none →
    ∃ t, exec (.mov n) s = .next t ∧
      t.thPc n = (s.thPc n + 1) % 8192 ∧
      operandReg t n w (insnD w) = operand2 s n w ∧
      (t.ls = { s.ls with threads := updAt s.ls.threads n (fun x => { x with since := x.since + 1 }), turn := n }) ∧
      (Frame s t [LS_T_PC_PC n, LS_T_S_VALUE n (insnD w), LS_T_S_VALUE n (if insnS w then insnD w + 1 else insnD w)] [.ls] [])) ∧
  (∀ (n : Fin 4) (w : Word) (s : State),
    issueTurn s = some n.val →
    s.power = .active →
    imemWord s (s.thPc n) = w →
    insnOp w = opMovi →
    legalWord w = true →
    (s.thread n).since < 1023 →
    s.ls.threads.length = 4 →
    (s.thread n).replay = none →
    ∃ t, exec (.movi n) s = .next t ∧
      t.thPc n = (s.thPc n + 1) % 8192 ∧
      (t.sreg n (insnD w) = if insnH w then insnImm16 w * 2 ^ 16 + s.sreg n (insnD w) % 2 ^ 16 else insnImm16 w) ∧
      (t.ls = { s.ls with threads := updAt s.ls.threads n (fun x => { x with since := x.since + 1 }), turn := n }) ∧
      Frame s t [LS_T_PC_PC n, LS_T_S_VALUE n (insnD w)] [.ls] []) ∧
  (∀ (n : Fin 4) (w : Word) (s : State),
    issueTurn s = some n.val →
    s.power = .active →
    imemWord s (s.thPc n) = w →
    insnOp w = opAdd →
    legalWord w = true →
    (s.thread n).since < 1023 →
    s.ls.threads.length = 4 →
    (s.thread n).replay = none →
    ∃ t, exec (.add n) s = .next t ∧
      t.thPc n = (s.thPc n + 1) % 8192 ∧
      operandReg t n w (insnD w) = (operandReg s n w (insnA w) + operand2 s n w) % 2 ^ insnWidth w ∧
      t.on (flagZ n) = decide ((operandReg s n w (insnA w) + operand2 s n w) % 2 ^ insnWidth w = 0) ∧
      t.on (flagN n) = decide (2 ^ (insnWidth w - 1) ≤ (operandReg s n w (insnA w) + operand2 s n w) % 2 ^ insnWidth w) ∧
      t.on (flagC n) = decide (2 ^ insnWidth w ≤ operandReg s n w (insnA w) + operand2 s n w) ∧
      t.on (flagV n) = decide (signed (insnWidth w) ((operandReg s n w (insnA w) + operand2 s n w) % 2 ^ insnWidth w) ≠ signed (insnWidth w) (operandReg s n w (insnA w)) + signed (insnWidth w) (operand2 s n w)) ∧
      (t.ls = { s.ls with threads := updAt s.ls.threads n (fun x => { x with since := x.since + 1 }), turn := n }) ∧
      (Frame s t [LS_T_PC_PC n, LS_T_S_VALUE n (insnD w), LS_T_S_VALUE n (if insnS w then insnD w + 1 else insnD w), flagZ n, flagN n, flagC n, flagV n] [.ls] [])) ∧
  (∀ (n : Fin 4) (w : Word) (s : State),
    issueTurn s = some n.val →
    s.power = .active →
    imemWord s (s.thPc n) = w →
    insnOp w = opSub →
    legalWord w = true →
    (s.thread n).since < 1023 →
    s.ls.threads.length = 4 →
    (s.thread n).replay = none →
    ∃ t, exec (.sub n) s = .next t ∧
      t.thPc n = (s.thPc n + 1) % 8192 ∧
      operandReg t n w (insnD w) = (operandReg s n w (insnA w) + 2 ^ insnWidth w - operand2 s n w) % 2 ^ insnWidth w ∧
      t.on (flagZ n) = decide ((operandReg s n w (insnA w) + 2 ^ insnWidth w - operand2 s n w) % 2 ^ insnWidth w = 0) ∧
      t.on (flagN n) = decide (2 ^ (insnWidth w - 1) ≤ (operandReg s n w (insnA w) + 2 ^ insnWidth w - operand2 s n w) % 2 ^ insnWidth w) ∧
      t.on (flagC n) = decide (operand2 s n w ≤ operandReg s n w (insnA w)) ∧
      t.on (flagV n) = decide (signed (insnWidth w) ((operandReg s n w (insnA w) + 2 ^ insnWidth w - operand2 s n w) % 2 ^ insnWidth w) ≠ signed (insnWidth w) (operandReg s n w (insnA w)) - signed (insnWidth w) (operand2 s n w)) ∧
      (t.ls = { s.ls with threads := updAt s.ls.threads n (fun x => { x with since := x.since + 1 }), turn := n }) ∧
      (Frame s t [LS_T_PC_PC n, LS_T_S_VALUE n (insnD w), LS_T_S_VALUE n (if insnS w then insnD w + 1 else insnD w), flagZ n, flagN n, flagC n, flagV n] [.ls] [])) ∧
  (∀ (n : Fin 4) (w : Word) (s : State),
    issueTurn s = some n.val →
    s.power = .active →
    imemWord s (s.thPc n) = w →
    insnOp w = opCmp →
    legalWord w = true →
    (s.thread n).since < 1023 →
    s.ls.threads.length = 4 →
    (s.thread n).replay = none →
    ∃ t, exec (.cmp n) s = .next t ∧
      t.thPc n = (s.thPc n + 1) % 8192 ∧
      t.on (flagZ n) = decide ((operandReg s n w (insnA w) + 2 ^ insnWidth w - operand2 s n w) % 2 ^ insnWidth w = 0) ∧
      t.on (flagN n) = decide (2 ^ (insnWidth w - 1) ≤ (operandReg s n w (insnA w) + 2 ^ insnWidth w - operand2 s n w) % 2 ^ insnWidth w) ∧
      t.on (flagC n) = decide (operand2 s n w ≤ operandReg s n w (insnA w)) ∧
      t.on (flagV n) = decide (signed (insnWidth w) ((operandReg s n w (insnA w) + 2 ^ insnWidth w - operand2 s n w) % 2 ^ insnWidth w) ≠ signed (insnWidth w) (operandReg s n w (insnA w)) - signed (insnWidth w) (operand2 s n w)) ∧
      (t.ls = { s.ls with threads := updAt s.ls.threads n (fun x => { x with since := x.since + 1 }), turn := n }) ∧
      Frame s t [LS_T_PC_PC n, flagZ n, flagN n, flagC n, flagV n] [.ls] []) ∧
  (∀ (n : Fin 4) (w : Word) (s : State),
    issueTurn s = some n.val →
    s.power = .active →
    imemWord s (s.thPc n) = w →
    insnOp w = opLdt →
    legalWord w = true →
    (s.thread n).since < 1023 →
    s.ls.threads.length = 4 →
    (s.thread n).replay = none →
    ∃ t, exec (.ldt n) s = .next t ∧
      t.thPc n = (s.thPc n + 1) % 8192 ∧
      (t.spair n (insnD w) = (if insnK w = 0 then s.now else if insnK w = 1 then s.dtime else if insnK w = 2 then s.get64 (TB_RXTS_LO_TS (s.physOf (s.sreg n (insnA w) % 16))) (TB_RXTS_HI_TS (s.physOf (s.sreg n (insnA w) % 16))) else (s.lane (s.physOf (s.sreg n (insnA w) % 16))).lastEnd) % 2 ^ 64) ∧
      (t.ls = { s.ls with threads := updAt s.ls.threads n (fun x => { x with since := x.since + 1 }), turn := n }) ∧
      Frame s t [LS_T_PC_PC n, LS_T_S_VALUE n (insnD w), LS_T_S_VALUE n (insnD w + 1)] [.ls] []) ∧
  (∀ (n : Fin 4) (w : Word) (s : State),
    issueTurn s = some n.val →
    s.power = .active →
    imemWord s (s.thPc n) = w →
    insnOp w = opYield →
    legalWord w = true →
    s.ls.threads.length = 4 →
    (s.thread n).replay = none →
    (s.thread n).since = 1023 →
    ∃ t, exec (.yield n) s = .next t ∧
      t.thPc n = (s.thPc n + 1) % 8192 ∧
      t.get (LS_T_STAT_CKPT_PC n) = (s.thPc n + 1) % 8192 ∧
      (t.ls = { s.ls with threads := updAt s.ls.threads n (fun x => { x with since := 0, image := threadImage s n ((s.thPc n + 1) % 8192) }), turn := n }) ∧
      Frame s t [LS_T_PC_PC n, LS_T_STAT_CKPT_PC n] [.ls] [])

/-- R184, R185, R186: JMP and a JCC whose condition holds go to K, any other JCC to the next word; CALL pushes the address after it on a stack of two entries and RET returns to the entry it pops; a CALL with two entries in use and a RET with none halt the thread at their own address with cause STACK; HALT halts it with cause HALT_INSN; an illegal word halts it with ILLEGAL. R183, R568: a fetch with an uncorrectable error halts it with ECC and writes a fault record of code 0x4 with the address and the thread. -/
def Obligations.SequencerInstructionsTransferControl : Prop :=
  (∀ (n : Fin 4) (w : Word) (s : State),
    issueTurn s = some n.val →
    s.power = .active →
    imemWord s (s.thPc n) = w →
    insnOp w = opJmp →
    legalWord w = true →
    (s.thread n).since < 1023 →
    s.ls.threads.length = 4 →
    (s.thread n).replay = none →
    ∃ t, exec (.jmp n) s = .next t ∧
      t.thPc n = insnK w ∧
      (t.ls = { s.ls with threads := updAt s.ls.threads n (fun x => { x with since := x.since + 1 }), turn := n }) ∧
      Frame s t [LS_T_PC_PC n] [.ls] []) ∧
  (∀ (n : Fin 4) (w : Word) (s : State),
    issueTurn s = some n.val →
    s.power = .active →
    imemWord s (s.thPc n) = w →
    insnOp w = opJcc →
    legalWord w = true →
    (s.thread n).since < 1023 →
    s.ls.threads.length = 4 →
    (s.thread n).replay = none →
    ∃ t, exec (.jcc n) s = .next t ∧
      (t.thPc n = if condHolds s n (insnD w) then insnK w else (s.thPc n + 1) % 8192) ∧
      (t.ls = { s.ls with threads := updAt s.ls.threads n (fun x => { x with since := x.since + 1 }), turn := n }) ∧
      Frame s t [LS_T_PC_PC n] [.ls] []) ∧
  (∀ (n : Fin 4) (w : Word) (l : List Nat) (s : State),
    issueTurn s = some n.val →
    s.power = .active →
    imemWord s (s.thPc n) = w →
    insnOp w = opCall →
    legalWord w = true →
    (s.thread n).since < 1023 →
    s.ls.threads.length = 4 →
    (s.thread n).replay = none →
    (s.thread n).stack = l →
    l.length < 2 →
    ∃ t, exec (.call n) s = .next t ∧
      t.thPc n = insnK w ∧
      t.get (LS_T_STAT_DEPTH n) = l.length + 1 ∧
      (t.ls = { s.ls with threads := updAt s.ls.threads n (fun x => { x with since := x.since + 1, stack := (s.thPc n + 1) % 8192 :: l }), turn := n }) ∧
      Frame s t [LS_T_PC_PC n, LS_T_STAT_DEPTH n] [.ls] []) ∧
  (∀ (n : Fin 4) (w : Word) (s : State),
    issueTurn s = some n.val →
    s.power = .active →
    imemWord s (s.thPc n) = w →
    insnOp w = opCall →
    legalWord w = true →
    (s.thread n).since < 1023 →
    s.ls.threads.length = 4 →
    (s.thread n).replay = none →
    (s.thread n).stack.length = 2 →
    ∃ t, exec (.call n) s = .next t ∧
      t.thPc n = s.thPc n ∧
      t.thState n = 0 ∧
      t.get (LS_T_STAT_CAUSE n) = 4 ∧
      Raised s t (LS_INT_STAT_FAULT.bit n) ∧
      t.emitted = (s.emit 157).emitted ∧
      (t.ls = { s.ls with threads := updAt s.ls.threads n (fun x => { x with since := x.since + 1, wait := none, haltReq := false }), turn := n }) ∧
      Frame s t (LS_T_PC_PC n :: ([LS_T_STAT_STATE n, LS_T_STAT_CAUSE n] ++ ((LS_INT_STAT_FAULT.bit n) :: latchOf (LS_INT_STAT_FAULT.bit n)))) [.ls, .emitted] []) ∧
  (∀ (n : Fin 4) (w : Word) (r : Nat) (l : List Nat) (s : State),
    issueTurn s = some n.val →
    s.power = .active →
    imemWord s (s.thPc n) = w →
    insnOp w = opRet →
    legalWord w = true →
    (s.thread n).since < 1023 →
    s.ls.threads.length = 4 →
    (s.thread n).replay = none →
    (s.thread n).stack = r :: l →
    l.length < 2 →
    ∃ t, exec (.ret n) s = .next t ∧
      t.thPc n = r % 8192 ∧
      t.get (LS_T_STAT_DEPTH n) = l.length ∧
      (t.ls = { s.ls with threads := updAt s.ls.threads n (fun x => { x with since := x.since + 1, stack := l }), turn := n }) ∧
      Frame s t [LS_T_PC_PC n, LS_T_STAT_DEPTH n] [.ls] []) ∧
  (∀ (n : Fin 4) (w : Word) (s : State),
    issueTurn s = some n.val →
    s.power = .active →
    imemWord s (s.thPc n) = w →
    insnOp w = opRet →
    legalWord w = true →
    (s.thread n).since < 1023 →
    s.ls.threads.length = 4 →
    (s.thread n).replay = none →
    (s.thread n).stack = [] →
    ∃ t, exec (.ret n) s = .next t ∧
      t.thPc n = s.thPc n ∧
      t.thState n = 0 ∧
      t.get (LS_T_STAT_CAUSE n) = 4 ∧
      Raised s t (LS_INT_STAT_FAULT.bit n) ∧
      t.emitted = (s.emit 157).emitted ∧
      (t.ls = { s.ls with threads := updAt s.ls.threads n (fun x => { x with since := x.since + 1, wait := none, haltReq := false }), turn := n }) ∧
      Frame s t (LS_T_PC_PC n :: ([LS_T_STAT_STATE n, LS_T_STAT_CAUSE n] ++ ((LS_INT_STAT_FAULT.bit n) :: latchOf (LS_INT_STAT_FAULT.bit n)))) [.ls, .emitted] []) ∧
  (∀ (n : Fin 4) (w : Word) (s : State),
    issueTurn s = some n.val →
    s.power = .active →
    imemWord s (s.thPc n) = w →
    insnOp w = opYield →
    legalWord w = true →
    (s.thread n).since < 1023 →
    s.ls.threads.length = 4 →
    (s.thread n).replay = none →
    ∃ t, exec (.yield n) s = .next t ∧
      t.thPc n = (s.thPc n + 1) % 8192 ∧
      (t.ls = { s.ls with threads := updAt s.ls.threads n (fun x => { x with since := x.since + 1 }), turn := n }) ∧
      Frame s t [LS_T_PC_PC n] [.ls] []) ∧
  (∀ (n : Fin 4) (w : Word) (s : State),
    issueTurn s = some n.val →
    s.power = .active →
    imemWord s (s.thPc n) = w →
    insnOp w = opHalt →
    legalWord w = true →
    (s.thread n).since < 1023 →
    s.ls.threads.length = 4 →
    (s.thread n).replay = none →
    ∃ t, exec (.haltInsn n) s = .next t ∧
      t.thPc n = (s.thPc n + 1) % 8192 ∧
      t.thState n = 0 ∧
      t.get (LS_T_STAT_CAUSE n) = 1 ∧
      Raised s t (LS_INT_STAT_HALT.bit n) ∧
      t.emitted = (s.emit 157).emitted ∧
      (t.ls = { s.ls with threads := updAt s.ls.threads n (fun x => { x with since := x.since + 1, wait := none, haltReq := false }), turn := n }) ∧
      Frame s t (LS_T_PC_PC n :: ([LS_T_STAT_STATE n, LS_T_STAT_CAUSE n] ++ ((LS_INT_STAT_HALT.bit n) :: latchOf (LS_INT_STAT_HALT.bit n)))) [.ls, .emitted] []) ∧
  (∀ (n : Fin 4) (s : State),
    issueTurn s = some n.val →
    s.power = .active →
    legalWord (imemWord s (s.thPc n)) = false →
    s.ls.threads.length = 4 →
    (s.thread n).replay = none →
    ∃ t, exec (.illegal n) s = .next t ∧
      t.thState n = 0 ∧
      t.get (LS_T_STAT_CAUSE n) = 3 ∧
      Raised s t (LS_INT_STAT_FAULT.bit n) ∧
      t.emitted = (s.emit 157).emitted ∧
      (t.ls = { s.ls with threads := updAt s.ls.threads n (fun x => { x with wait := none, haltReq := false }), turn := n }) ∧
      Frame s t ([LS_T_STAT_STATE n, LS_T_STAT_CAUSE n] ++ ((LS_INT_STAT_FAULT.bit n) :: latchOf (LS_INT_STAT_FAULT.bit n))) [.ls, .emitted] []) ∧
  (∀ (n : Fin 4) (s : State),
    issueTurn s = some n.val →
    s.power = .active →
    s.ls.threads.length = 4 →
    (s.thread n).replay = none →
    s.on FC_CFG_IMEM_RST = false →
    s.fc.queue.length < 16 →
    ∃ t, exec (.imemEcc n) s = .next t ∧
      t.thState n = 0 ∧
      t.get (LS_T_STAT_CAUSE n) = 6 ∧
      Raised s t (LS_INT_STAT_FAULT.bit n) ∧
      (t.emitted = (if s.on EV_CTL_EN then s.emitted ++ [157, 155] else s.emitted)) ∧
      (t.ls = { s.ls with threads := updAt s.ls.threads n (fun x => { x with wait := none, haltReq := false }), turn := n }) ∧
      t.fc = { s.fc with queue := s.fc.queue ++ [⟨0x40000000, w32 (s.thPc n * 2 ^ 16 + n), w32 s.now⟩] } ∧
      Counted s t FC_CNT0_RECORDS ∧
      Raised s t FC_INT_STAT_REC ∧
      Frame s t ([LS_T_STAT_STATE n, LS_T_STAT_CAUSE n, FC_CNT0_RECORDS] ++ ((LS_INT_STAT_FAULT.bit n) :: latchOf (LS_INT_STAT_FAULT.bit n)) ++ (FC_INT_STAT_REC :: latchOf FC_INT_STAT_REC)) [.ls, .fc, .emitted] [])

/-- R189, R190: WAITT prepares the bundle that follows it, saves a checkpoint and waits; at its instant the bundle takes effect, D and LS_Tn_LATE take the lateness and L says whether it was late. R191: TUNE, LANE, ARMRX, DISRX and ACKPOL outside a bundle become launches of the next tick. R193: WAITE completes on the matching pending bits, which it clears and reports, or with code 0xF at its timeout; both save a checkpoint. R192: a window that reaches its end without a preamble latches WEND in every thread and its lane returns. Any number of windows that end together close together. The release is stated for every bundle in its effect on the thread, and in the whole state for an empty bundle and a bundle of one ACKPOL. -/
def Obligations.SequencerThreadsWait : Prop :=
  (∀ (n : Fin 4) (w : Word) (s : State),
    issueTurn s = some n.val →
    s.power = .active →
    imemWord s (s.thPc n) = w →
    insnOp w = opWaitt →
    legalWord w = true →
    (s.thread n).since < 1023 →
    s.ls.threads.length = 4 →
    (s.thread n).replay = none →
    s.on LS_CTL_EN = true →
    ∃ t, exec (.waitt n) s = .next t ∧
      t.thPc n = (s.thPc n + 1 + (readBundle s n 4 (s.thPc n + 1)).length) % 8192 ∧
      t.thState n = 2 ∧
      t.get (LS_T_STAT_CKPT_PC n) = s.thPc n ∧
      (t.ls = { s.ls with threads := updAt s.ls.threads n (fun x => { x with since := 0, image := threadImage s n (s.thPc n), wait := some { sel := insnS w, inst := s.spair n (insnA w), dest := insnD w, bundle := readBundle s n 4 (s.thPc n + 1), cond := 0, mask := 0, tmo := none, prepared := decide (s.counter (insnS w) < s.spair n (insnA w)) } }), turn := n }) ∧
      Frame s t [LS_T_PC_PC n, LS_T_STAT_STATE n, LS_T_STAT_CKPT_PC n] [.ls] []) ∧
  (∀ (n : Fin 4) (w : Word) (s : State),
    issueTurn s = some n.val →
    s.power = .active →
    imemWord s (s.thPc n) = w →
    insnOp w = opWaitt →
    legalWord w = true →
    (s.thread n).since < 1023 →
    s.ls.threads.length = 4 →
    (s.thread n).replay = none →
    s.on LS_CTL_EN = false →
    ∃ t, exec (.waitt n) s = .next t ∧
      t.thPc n = s.thPc n ∧
      t.thState n = 0 ∧
      t.get (LS_T_STAT_CAUSE n) = 5 ∧
      t.emitted = (s.emit 157).emitted ∧
      (t.ls = { s.ls with threads := updAt s.ls.threads n (fun x => { x with since := x.since + 1, wait := none, haltReq := false }), turn := n }) ∧
      Frame s t [LS_T_PC_PC n, LS_T_STAT_STATE n, LS_T_STAT_CAUSE n] [.ls, .emitted] []) ∧
  (∀ (n : Fin 4) (x : WaitS) (s : State),
    s.power ≠ .off →
    (s.thread n).wait = some x →
    s.ls.threads.length = 4 →
    (s.thread n).replay = none →
    s.thState n = 2 →
    x.inst ≤ s.counter x.sel →
    x.bundle = [] →
    x.dest < 16 →
    ∃ t, exec (.waittRelease n) s = .next t ∧
      t.thState n = 1 ∧
      (t.sreg n x.dest = (if x.prepared then 0 else min (s.counter x.sel - x.inst) 0xFFFFFFFF)) ∧
      t.get (LS_T_LATE_LATE n) = t.sreg n x.dest ∧
      t.on (flagL n) = !x.prepared ∧
      (t.ls = { s.ls with threads := updAt s.ls.threads n fun y => { y with wait := none } }) ∧
      Frame s t [LS_T_STAT_STATE n, LS_T_S_VALUE n x.dest, LS_T_LATE_LATE n, flagL n] [.ls] []) ∧
  (∀ (n : Fin 4) (x : WaitS) (w a b : Word) (s : State),
    s.power ≠ .off →
    (s.thread n).wait = some x →
    s.ls.threads.length = 4 →
    (s.thread n).replay = none →
    s.thState n = 2 →
    x.inst ≤ s.counter x.sel →
    x.bundle = [(w, a, b)] →
    insnOp w = opAckpol →
    x.dest < 16 →
    ∃ t, exec (.waittRelease n) s = .next t ∧
      t.thState n = 1 ∧
      (∀ l : Fin 16, bitsOf (t.reg A_LS_ACK_POL) (2 * l) 2 = if bitOf a.toNat l then insnK w % 4 else bitsOf (s.reg A_LS_ACK_POL) (2 * l) 2) ∧
      (t.ls = { s.ls with threads := updAt s.ls.threads n fun y => { y with wait := none } }) ∧
      Frame s t [LS_T_STAT_STATE n, LS_T_S_VALUE n x.dest, LS_T_LATE_LATE n, flagL n, wordAt A_LS_ACK_POL] [.ls] []) ∧
  (∀ (n : Fin 4) (x : WaitS) (s : State),
    s.power ≠ .off →
    (s.thread n).wait = some x →
    s.ls.threads.length = 4 →
    (s.thread n).replay = none →
    s.thState n = 2 →
    x.inst ≤ s.counter x.sel →
    x.dest < 16 →
    ∃ t, exec (.waittRelease n) s = .next t ∧
      t.thState n = 1 ∧
      (t.sreg n x.dest = (if x.prepared then 0 else min (s.counter x.sel - x.inst) 0xFFFFFFFF)) ∧
      t.get (LS_T_LATE_LATE n) = t.sreg n x.dest ∧
      t.on (flagL n) = !x.prepared ∧
      t.thread n = { s.thread n with wait := none } ∧
      (∀ k : Fin 4, k ≠ n → t.thread k = s.thread k)) ∧
  (∀ (n : Fin 4) (w : Word) (s : State),
    issueTurn s = some n.val →
    s.power = .active →
    imemWord s (s.thPc n) = w →
    insnOp w = opWaite →
    legalWord w = true →
    (s.thread n).since < 1023 →
    s.ls.threads.length = 4 →
    (s.thread n).replay = none →
    ∃ t, exec (.waite n) s = .next t ∧
      t.thPc n = (s.thPc n + 1) % 8192 ∧
      t.thState n = 3 ∧
      (t.ls = { s.ls with threads := updAt s.ls.threads n (fun x => { x with since := x.since + 1, wait := some { sel := false, inst := 0, dest := insnD w, bundle := [], cond := insnK w % 16, mask := s.sreg n (insnB w), tmo := if insnS w then some (s.spair n (insnA w)) else none, prepared := true } }), turn := n }) ∧
      Frame s t [LS_T_PC_PC n, LS_T_STAT_STATE n] [.ls] []) ∧
  (∀ (n : Fin 4) (x : WaitS) (h : Nat) (s : State),
    s.power ≠ .off →
    (s.thread n).wait = some x →
    s.ls.threads.length = 4 →
    (s.thread n).replay = none →
    s.thState n = 3 →
    s.get (pendBits n x.cond) &&& x.mask % 2 ^ 16 = h →
    h ≠ 0 →
    x.dest < 16 →
    x.cond < 6 →
    (s.thread n).haltReq = false →
    ∃ t, exec (.waiteDone n) s = .next t ∧
      t.thState n = 1 ∧
      t.sreg n x.dest = x.cond * 2 ^ 28 + h ∧
      t.get (pendBits n x.cond) = s.get (pendBits n x.cond) - h ∧
      t.get (LS_T_STAT_CKPT_PC n) = s.thPc n ∧
      (t.ls = { s.ls with threads := updAt s.ls.threads n fun y => { y with since := 0, image := threadImage t n (s.thPc n), wait := none } }) ∧
      Frame s t [LS_T_STAT_STATE n, LS_T_S_VALUE n x.dest, pendBits n x.cond, LS_T_STAT_CKPT_PC n] [.ls] []) ∧
  (∀ (n : Fin 4) (x : WaitS) (e : Nat) (s : State),
    s.power ≠ .off →
    (s.thread n).wait = some x →
    s.ls.threads.length = 4 →
    (s.thread n).replay = none →
    s.thState n = 3 →
    s.get (pendBits n x.cond) &&& x.mask % 2 ^ 16 = 0 →
    x.tmo = some e →
    e ≤ s.now →
    x.dest < 16 →
    (s.thread n).haltReq = false →
    ∃ t, exec (.waiteTimeout n) s = .next t ∧
      t.thState n = 1 ∧
      t.sreg n x.dest = 0xF0000000 ∧
      t.get (LS_T_STAT_CKPT_PC n) = s.thPc n ∧
      (t.ls = { s.ls with threads := updAt s.ls.threads n fun y => { y with since := 0, image := threadImage t n (s.thPc n), wait := none } }) ∧
      Frame s t [LS_T_STAT_STATE n, LS_T_S_VALUE n x.dest, LS_T_STAT_CKPT_PC n] [.ls] []) ∧
  (∀ (n : Fin 4) (w : Word) (s : State),
    issueTurn s = some n.val →
    s.power = .active →
    imemWord s (s.thPc n) = w →
    insnOp w = opTune →
    legalWord w = true →
    (s.thread n).since < 1023 →
    s.ls.threads.length = 4 →
    (s.thread n).replay = none →
    ∃ t, exec (.tune n) s = .next t ∧
      t.thPc n = (s.thPc n + 1) % 8192 ∧
      (t.ls = { s.ls with turn := n, threads := updAt s.ls.threads n (fun x => { x with since := x.since + 1 }), launches := s.ls.launches ++ [.insn n w (w32 (s.sreg n (insnA w))) (w32 (s.sreg n (insnB w)))] }) ∧
      Frame s t [LS_T_PC_PC n] [.ls] []) ∧
  (∀ (n : Fin 4) (w : Word) (s : State),
    issueTurn s = some n.val →
    s.power = .active →
    imemWord s (s.thPc n) = w →
    insnOp w = opLane →
    legalWord w = true →
    (s.thread n).since < 1023 →
    s.ls.threads.length = 4 →
    (s.thread n).replay = none →
    ∃ t, exec (.lane n) s = .next t ∧
      t.thPc n = (s.thPc n + 1) % 8192 ∧
      (t.ls = { s.ls with turn := n, threads := updAt s.ls.threads n (fun x => { x with since := x.since + 1 }), launches := s.ls.launches ++ [.insn n w (w32 (s.sreg n (insnA w))) (w32 (s.sreg n (insnB w)))] }) ∧
      Frame s t [LS_T_PC_PC n] [.ls] []) ∧
  (∀ (n : Fin 4) (w : Word) (s : State),
    issueTurn s = some n.val →
    s.power = .active →
    imemWord s (s.thPc n) = w →
    insnOp w = opArmrx →
    legalWord w = true →
    (s.thread n).since < 1023 →
    s.ls.threads.length = 4 →
    (s.thread n).replay = none →
    ∃ t, exec (.armrx n) s = .next t ∧
      t.thPc n = (s.thPc n + 1) % 8192 ∧
      (t.ls = { s.ls with turn := n, threads := updAt s.ls.threads n (fun x => { x with since := x.since + 1 }), launches := s.ls.launches ++ [.insn n w (w32 (s.sreg n (insnA w))) (w32 (s.sreg n (insnB w)))] }) ∧
      Frame s t [LS_T_PC_PC n] [.ls] []) ∧
  (∀ (n : Fin 4) (w : Word) (s : State),
    issueTurn s = some n.val →
    s.power = .active →
    imemWord s (s.thPc n) = w →
    insnOp w = opDisrx →
    legalWord w = true →
    (s.thread n).since < 1023 →
    s.ls.threads.length = 4 →
    (s.thread n).replay = none →
    ∃ t, exec (.disrx n) s = .next t ∧
      t.thPc n = (s.thPc n + 1) % 8192 ∧
      (t.ls = { s.ls with turn := n, threads := updAt s.ls.threads n (fun x => { x with since := x.since + 1 }), launches := s.ls.launches ++ [.insn n w (w32 (s.sreg n (insnA w))) (w32 (s.sreg n (insnB w)))] }) ∧
      Frame s t [LS_T_PC_PC n] [.ls] []) ∧
  (∀ (n : Fin 4) (w : Word) (s : State),
    issueTurn s = some n.val →
    s.power = .active →
    imemWord s (s.thPc n) = w →
    insnOp w = opAckpol →
    legalWord w = true →
    (s.thread n).since < 1023 →
    s.ls.threads.length = 4 →
    (s.thread n).replay = none →
    ∃ t, exec (.ackpol n) s = .next t ∧
      t.thPc n = (s.thPc n + 1) % 8192 ∧
      (t.ls = { s.ls with turn := n, threads := updAt s.ls.threads n (fun x => { x with since := x.since + 1 }), launches := s.ls.launches ++ [.insn n w (w32 (s.sreg n (insnA w))) (w32 (s.sreg n (insnB w)))] }) ∧
      Frame s t [LS_T_PC_PC n] [.ls] []) ∧
  (∀  (x : Window) (p : Fin 16) (e : Nat) (s : State),
    s.power ≠ .off →
    s.cz.windows = [x] →
    x.owner = .thread →
    x.close = some e →
    e ≤ s.now →
    x.pre = false →
    x.lane < 16 →
    s.physOf x.lane = p.val →
    s.laneState p = 2 →
    s.on (CZ_LANE_STAT_ARMED_FW p) = false →
    s.on (CZ_LANE_CFG_EN p) = true →
    ∃ t, exec .windowClose s = .next t ∧
      (∀ k : Fin 4, t.on ((LS_T_PEND1_WEND k).bit x.lane) = true) ∧
      t.laneState p = 1 ∧
      t.cz = { s.cz with windows := [] } ∧
      (Frame s t ((CZ_LANE_STAT_STATE p :: (List.range 4).map fun k => (LS_T_PEND1_WEND k).bit x.lane)) [.cz] [])) ∧
  (∀ (s : State),
    s.power ≠ .off →
    ∃ t, exec .windowClose s = .next t ∧
      (t.cz.windows = s.cz.windows.filter (fun x => !windowOver s x)) ∧
      (∀ x ∈ s.cz.windows, windowOver s x = true → x.owner = .thread → x.pre = false → x.lane < 16 → ∀ k : Fin 4, t.on ((LS_T_PEND1_WEND k).bit x.lane) = true) ∧
      (∀ p : Fin 16, (∀ x ∈ s.cz.windows, windowOver s x = true → s.physOf x.lane ≠ p.val) → t.laneState p = s.laneState p) ∧
      t.ls = s.ls)

/-- R184, R187: LDN copies word K of the entry to D; STN writes it under the rules of the register it names, and for the words that it may not write sets NB_RO and writes nothing. R220: DRIFT of an entry that is not tracked answers the instant it was given with the guard 0xFFFFFFFF; of a tracked one that does not fall back, the instant corrected by the drift and the guard 2 × (2 B |e| / 10^9 + 12,000) doubled with each retry. SIG sets a bit of LS_INT_STAT.SIG, or emits one of the events 16 to 23. -/
def Obligations.SequencerReachesTheNeighbourTable : Prop :=
  (∀ (n : Fin 4) (w : Word) (s : State),
    issueTurn s = some n.val →
    s.power = .active →
    imemWord s (s.thPc n) = w →
    insnOp w = opLdn →
    legalWord w = true →
    (s.thread n).since < 1023 →
    s.ls.threads.length = 4 →
    (s.thread n).replay = none →
    ∃ t, exec (.ldn n) s = .next t ∧
      t.thPc n = (s.thPc n + 1) % 8192 ∧
      t.sreg n (insnD w) = (s.reg (A_NB_W0 (s.sreg n (insnA w) % 512) + 4 * (insnK w % 16))).toNat ∧
      (t.ls = { s.ls with threads := updAt s.ls.threads n (fun x => { x with since := x.since + 1 }), turn := n }) ∧
      Frame s t [LS_T_PC_PC n, LS_T_S_VALUE n (insnD w)] [.ls] []) ∧
  (∀ (n : Fin 4) (w : Word) (s : State),
    issueTurn s = some n.val →
    s.power = .active →
    imemWord s (s.thPc n) = w →
    insnOp w = opStn →
    legalWord w = true →
    (s.thread n).since < 1023 →
    s.ls.threads.length = 4 →
    (s.thread n).replay = none →
    insnK w % 16 ≥ 14 →
    ∃ t, exec (.stn n) s = .next t ∧
      t.thPc n = (s.thPc n + 1) % 8192 ∧
      t.on (LS_T_STAT_NB_RO n) = true ∧
      (t.ls = { s.ls with threads := updAt s.ls.threads n (fun x => { x with since := x.since + 1 }), turn := n }) ∧
      Frame s t [LS_T_PC_PC n, LS_T_STAT_NB_RO n] [.ls] []) ∧
  (∀ (n : Fin 4) (w : Word) (s : State),
    issueTurn s = some n.val →
    s.power = .active →
    imemWord s (s.thPc n) = w →
    insnOp w = opStn →
    legalWord w = true →
    (s.thread n).since < 1023 →
    s.ls.threads.length = 4 →
    (s.thread n).replay = none →
    insnK w % 16 ∈ [7, 8, 9, 11, 12] →
    ∃ t, exec (.stn n) s = .next t ∧
      t.thPc n = (s.thPc n + 1) % 8192 ∧
      t.reg (A_NB_W0 (s.sreg n (insnA w) % 512) + 4 * (insnK w % 16)) = w32 (s.sreg n (insnB w)) ∧
      (t.ls = { s.ls with threads := updAt s.ls.threads n (fun x => { x with since := x.since + 1 }), turn := n }) ∧
      Frame s t [LS_T_PC_PC n, wordAt (A_NB_W0 (s.sreg n (insnA w) % 512) + 4 * (insnK w % 16))] [.ls] []) ∧
  (∀ (n : Fin 4) (w : Word) (s : State),
    issueTurn s = some n.val →
    s.power = .active →
    imemWord s (s.thPc n) = w →
    insnOp w = opDrift →
    legalWord w = true →
    (s.thread n).since < 1023 →
    s.ls.threads.length = 4 →
    (s.thread n).replay = none →
    tracked s (s.sreg n (insnB w) % 512) = false →
    ∃ t, exec (.drift n) s = .next t ∧
      t.thPc n = (s.thPc n + 1) % 8192 ∧
      t.spair n (insnD w) = s.spair n (insnA w) ∧
      t.sreg n (insnD w + 2) = 0xFFFFFFFF ∧
      (t.ls = { s.ls with threads := updAt s.ls.threads n (fun x => { x with since := x.since + 1 }), turn := n }) ∧
      Frame s t [LS_T_PC_PC n, LS_T_S_VALUE n (insnD w), LS_T_S_VALUE n (insnD w + 1), LS_T_S_VALUE n (insnD w + 2)] [.ls] []) ∧
  (∀ (n : Fin 4) (w : Word) (s : State),
    issueTurn s = some n.val →
    s.power = .active →
    imemWord s (s.thPc n) = w →
    insnOp w = opDrift →
    legalWord w = true →
    (s.thread n).since < 1023 →
    s.ls.threads.length = 4 →
    (s.thread n).replay = none →
    tracked s (s.sreg n (insnB w) % 512) = true →
    s.get (NB_W6_SNIFF (s.sreg n (insnB w) % 512)) = 0 →
    ∃ t, exec (.drift n) s = .next t ∧
      t.thPc n = (s.thPc n + 1) % 8192 ∧
      t.spair n (insnD w) = unsigned 64 ((s.spair n (insnA w) : Int) - Int.tdiv (s.getS (NB_W9_DRIFT (s.sreg n (insnB w) % 512)) * ((s.spair n (insnA w) : Int) - nbAnchor s (s.sreg n (insnB w) % 512))) 1000000000) ∧
      t.sreg n (insnD w + 2) = min ((2 * max (s.get (NB_W10_RESID (s.sreg n (insnB w) % 512)) / 2) (s.get LS_RDV_CFG_BMIN) * ((s.spair n (insnA w) : Int) - nbAnchor s (s.sreg n (insnB w) % 512)).natAbs / 1000000000 + 12000) * 2 ^ (s.get (NB_W6_RSTATE (s.sreg n (insnB w) % 512)) - 1)) 0xFFFFFFFE ∧
      (t.ls = { s.ls with threads := updAt s.ls.threads n (fun x => { x with since := x.since + 1 }), turn := n }) ∧
      Frame s t [LS_T_PC_PC n, LS_T_S_VALUE n (insnD w), LS_T_S_VALUE n (insnD w + 1), LS_T_S_VALUE n (insnD w + 2)] [.ls] []) ∧
  (∀ (n : Fin 4) (w : Word) (s : State),
    issueTurn s = some n.val →
    s.power = .active →
    imemWord s (s.thPc n) = w →
    insnOp w = opSig →
    legalWord w = true →
    (s.thread n).since < 1023 →
    s.ls.threads.length = 4 →
    (s.thread n).replay = none →
    bitOf (insnK w) 8 = false →
    ∃ t, exec (.sig n) s = .next t ∧
      t.thPc n = (s.thPc n + 1) % 8192 ∧
      Raised s t (LS_INT_STAT_SIG.bit (insnK w % 8)) ∧
      (t.ls = { s.ls with threads := updAt s.ls.threads n (fun x => { x with since := x.since + 1 }), turn := n }) ∧
      Frame s t (LS_T_PC_PC n :: ((LS_INT_STAT_SIG.bit (insnK w % 8)) :: latchOf (LS_INT_STAT_SIG.bit (insnK w % 8)))) [.ls] []) ∧
  (∀ (n : Fin 4) (w : Word) (s : State),
    issueTurn s = some n.val →
    s.power = .active →
    imemWord s (s.thPc n) = w →
    insnOp w = opSig →
    legalWord w = true →
    (s.thread n).since < 1023 →
    s.ls.threads.length = 4 →
    (s.thread n).replay = none →
    bitOf (insnK w) 8 = true →
    ∃ t, exec (.sig n) s = .next t ∧
      t.thPc n = (s.thPc n + 1) % 8192 ∧
      t.emitted = (s.emit (16 + insnK w % 8)).emitted ∧
      (t.ls = { s.ls with threads := updAt s.ls.threads n (fun x => { x with since := x.since + 1 }), turn := n }) ∧
      Frame s t [LS_T_PC_PC n] [.ls, .emitted] [])

/-- R194, R195, R197: TXF puts its thread into TX with its descriptor and instant and posts the transmit term; the preparation takes the raw or the head frame, marks it busy, and computes its preamble and its PPDU time; every preparation leaves the TXF prepared or ends it with LATE, BUDGET, BUSY, EMPTY, HELD or BAD_DESC. R198, R199: the end of the acknowledgement wait, and R200: ABORT_TX before ramp-up, write the status word and D, give the frame back and resume the thread; ABORT_TX later, or in the handshake of ramp-up, sets ABORT_LATE. The end of the wait is stated for every TXF without a wake train still to send; the rest with duty cycle and coexistence off. -/
def Obligations.TransmissionsAreRequestedAndEnd : Prop :=
  (∀ (n : Fin 4) (w : Word) (s : State),
    issueTurn s = some n.val →
    s.power = .active →
    imemWord s (s.thPc n) = w →
    insnOp w = opTxf →
    legalWord w = true →
    (s.thread n).since < 1023 →
    s.ls.threads.length = 4 →
    (s.thread n).replay = none →
    (insnS w && s.on LS_BCN_STAT_SUSP) = false →
    s.counter (insnS w) ≤ s.spair n (insnA w) + s.get (LS_T_CFG_TXTOL n) →
    ∃ t, exec (.txf n) s = .next t ∧
      t.thPc n = (s.thPc n + 1) % 8192 ∧
      t.thState n = 4 ∧
      ((t.txf n).map (fun x => (x.phase, x.desc0.toNat, x.desc1.toNat, x.sel, x.inst, x.dest)) = some (0, s.sreg n (insnB w), s.sreg n (insnB w + 1), insnS w, s.spair n (insnA w), insnD w)) ∧
      (t.thread n).since = (s.thread n).since + 1 ∧
      (∀ k : Fin 4, k ≠ n → t.thread k = s.thread k) ∧
      t.ls = { s.ls with threads := t.ls.threads, turn := n } ∧
      (t.pm = { s.pm with tx := assocPut s.pm.tx n (if s.on (FE_TXP_OUT (bitsOf (w32 (s.sreg n (insnB w))) 10 2)) then 6240 else 2480) }) ∧
      Frame s t [LS_T_PC_PC n, LS_T_STAT_STATE n, PM_STAT_LLVL, PM_STAT_LEVEL] [.ls, .pm, .emitted] []) ∧
  (∀ (n : Fin 4) (ecc : EccCell) (x : TxfS) (c : Nat) (f : FrameS) (s : State),
    s.power ≠ .off →
    ecc = none →
    txfSusp s n = false →
    s.txf n = some x →
    s.ls.threads.length = 4 →
    x.phase = 0 →
    s.get FE_WIN_CTL_FREQ ≠ 0 →
    descBad s x = false →
    s.on FW_CTL_EN = true →
    s.frame c = some f →
    f.busy = false →
    s.on DC_CTL_EN = false →
    s.on CX_CTL_EN = false →
    0 ≤ txLeft s x →
    s.fe.air = none →
    s.ls.acks = [] →
    (x.mode = 3 → f.len + fcsLen x.fcs2 ≤ 255) →
    x.src = 5 →
    x.tgt = c →
    f.use = 4 →
    ∃ t, exec (.txfPrepared ⟨n, ecc⟩) s = .next t ∧
      ((t.txf n).map (fun y => (y.phase, y.cell, y.psdu)) = some (1, some c, frameOctets s f)) ∧
      ((t.txf n).map (fun y => (y.preamble, y.air, y.train)) = some (x.pre, ppduTicks x.mode x.pre (f.len + fcsLen x.fcs2) x.fec, none)) ∧
      ((t.txf n).map (fun y => (y.lbt, y.granted, y.late, y.phr)) = some (false, true, x.late, buildPhr x.mode (f.len + fcsLen x.fcs2) x.fcs2 x.dw)) ∧
      (∀ k : Fin 4, k ≠ n → t.thread k = s.thread k) ∧
      t.ls = { s.ls with threads := t.ls.threads } ∧
      t.get FE_TX_OFS_OFS = x.ofs ∧
      t.fw = { s.fw with frames := assocPut s.fw.frames c { f with busy := true } } ∧
      Frame s t ([FE_TX_OFS_OFS, FW_INT_STAT_MAPERR] ++ latchOf FW_INT_STAT_MAPERR) [.ls, .fw] []) ∧
  (∀ (n : Fin 4) (ecc : EccCell) (x : TxfS) (c : Nat) (f : FrameS) (q : List Nat) (s : State),
    s.power ≠ .off →
    ecc = none →
    txfSusp s n = false →
    s.txf n = some x →
    s.ls.threads.length = 4 →
    x.phase = 0 →
    s.get FE_WIN_CTL_FREQ ≠ 0 →
    descBad s x = false →
    s.on FW_CTL_EN = true →
    s.frame c = some f →
    f.busy = false →
    s.on DC_CTL_EN = false →
    s.on CX_CTL_EN = false →
    0 ≤ txLeft s x →
    s.fe.air = none →
    s.ls.acks = [] →
    (x.mode = 3 → f.len + fcsLen x.fcs2 ≤ 255) →
    x.src < 4 →
    s.queue (4 * x.tgt + x.src) = c :: q →
    lifeOver s f = false →
    s.on FW_FC_CFG_HBEN = false →
    s.get (NB_W6_SNIFF x.tgt) = 0 →
    s.on DC_CTL_PACE = false →
    ∃ t, exec (.txfPrepared ⟨n, ecc⟩) s = .next t ∧
      ((t.txf n).map (fun y => (y.phase, y.cell, y.psdu)) = some (1, some c, frameOctets s f)) ∧
      ((t.txf n).map (fun y => (y.preamble, y.air, y.train)) = some (x.pre, ppduTicks x.mode x.pre (f.len + fcsLen x.fcs2) x.fec, none)) ∧
      ((t.txf n).map (fun y => (y.lbt, y.granted, y.late, y.phr)) = some (false, true, x.late, buildPhr x.mode (f.len + fcsLen x.fcs2) x.fcs2 x.dw)) ∧
      (∀ k : Fin 4, k ≠ n → t.thread k = s.thread k) ∧
      t.ls = { s.ls with threads := t.ls.threads } ∧
      t.get FE_TX_OFS_OFS = x.ofs ∧
      t.fw = { s.fw with frames := assocPut s.fw.frames c { f with busy := true } } ∧
      Frame s t [FE_TX_OFS_OFS] [.ls, .fw] []) ∧
  (∀ (n : Fin 4) (ecc : EccCell) (x : TxfS) (s : State),
    s.power ≠ .off →
    s.txf n = some x →
    s.ls.threads.length = 4 →
    x.phase = 0 →
    x.dest < 16 →
    (s.thread n).haltReq = false →
    (s.thread n).replay = none →
    ∃ t, exec (.txfPrepared ⟨n, ecc⟩) s = .next t ∧
      ((t.txf n).map (·.phase) = some 1 ∨ (t.txf n = none ∧ t.thState n = 1 ∧ t.get (LS_T_TXS_STATUS n) % 256 ∈ [txLate, txBudget, txBusy, txEmpty, txHeld, txBadDesc] ∧ t.sreg n x.dest = t.get (LS_T_TXS_STATUS n))) ∧
      (∀ k : Fin 4, k ≠ n → t.thread k = s.thread k)) ∧
  (∀ (n : Fin 4) (x : TxfS) (c : Nat) (f : FrameS) (s : State),
    s.power ≠ .off →
    s.txf n = some x →
    s.ls.threads.length = 4 →
    x.dest < 16 →
    (s.thread n).haltReq = false →
    (s.thread n).replay = none →
    s.cz.windows = [] →
    s.dc.coex = [] →
    s.dc.reserved = [] →
    ackOver s n = true →
    x.train = none →
    x.nb = none →
    x.cell = some c →
    s.frame c = some f →
    f.use = 4 →
    f.fate = 0 →
    ∃ t, exec (.ackTimeout n) s = .next t ∧
      t.thState n = 1 ∧
      t.get (LS_T_TXS_STATUS n) = min x.late 0xFFFF * 2 ^ 16 + b2n x.abortLate * 2 ^ 9 + 2 ∧
      t.sreg n x.dest = min x.late 0xFFFF * 2 ^ 16 + b2n x.abortLate * 2 ^ 9 + 2 ∧
      t.on (flagL n) = decide (0 < x.late) ∧
      t.get (LS_T_STAT_CKPT_PC n) = s.thPc n ∧
      (t.ls = { s.ls with threads := updAt s.ls.threads n fun y => { y with txf := none, wait := none, since := 0, image := threadImage t n (s.thPc n) } }) ∧
      t.pm = { s.pm with tx := assocDel s.pm.tx n } ∧
      t.emitted.getLast? = (s.emit (28 + n)).emitted.getLast? ∧
      t.fw = { s.fw with frames := assocPut s.fw.frames c { f with busy := false } } ∧
      Frame s t [LS_T_STAT_STATE n, LS_T_TXS_STATUS n, LS_T_S_VALUE n x.dest, flagL n, LS_T_STAT_CKPT_PC n, PM_STAT_LLVL, PM_STAT_LEVEL] [.ls, .pm, .pins, .dc, .emitted, .fw] []) ∧
  (∀ (n : Fin 4) (x : TxfS) (s : State),
    s.power ≠ .off →
    s.txf n = some x →
    s.ls.threads.length = 4 →
    x.dest < 16 →
    (s.thread n).haltReq = false →
    (s.thread n).replay = none →
    ackOver s n = true →
    x.train = none →
    ∃ t, exec (.ackTimeout n) s = .next t ∧
      t.thState n = 1 ∧
      t.get (LS_T_TXS_STATUS n) / 2 ^ 16 = min x.late 0xFFFF ∧
      t.get (LS_T_TXS_STATUS n) % 2 ^ 11 = b2n x.abortLate * 2 ^ 9 + 2 ∧
      t.sreg n x.dest = t.get (LS_T_TXS_STATUS n) ∧
      t.on (flagL n) = decide (0 < x.late) ∧
      t.txf n = none ∧
      t.pm = { s.pm with tx := assocDel s.pm.tx n } ∧
      (∀ w ∈ t.cz.windows, w.owner ≠ .ack n)) ∧
  (∀ (core : Cpu) (n : Fin 4) (x : TxfS) (s : State),
    s.power = .active →
    bitOf (s.get (LS_T_CFG_CORES n)) core = true →
    (s.on (IC_CPU_STAT_NS core) = false ∨ s.on (LS_T_CFG_NS_OK n) = true) →
    s.txf n = some x →
    s.ls.threads.length = 4 →
    (x.phase = 2 ∨ x.phase = 3 ∨ rampUpNow s n = true) →
    mayStore s core (A_LS_T_CMD n) →
    ∃ t, exec (.abortTx core n) s = .next t ∧
      t.resp = ⟨0, false⟩ ∧
      t.txf n = some { x with abortLate := true } ∧
      (∀ k : Fin 4, k ≠ n → t.thread k = s.thread k) ∧
      t.ls = { s.ls with threads := t.ls.threads } ∧
      Frame s t [] [.resp, .ls] []) ∧
  (∀ (core : Cpu) (n : Fin 4) (x : TxfS) (s : State),
    s.power = .active →
    bitOf (s.get (LS_T_CFG_CORES n)) core = true →
    (s.on (IC_CPU_STAT_NS core) = false ∨ s.on (LS_T_CFG_NS_OK n) = true) →
    s.txf n = some x →
    s.ls.threads.length = 4 →
    x.dest < 16 →
    (s.thread n).haltReq = false →
    (s.thread n).replay = none →
    s.cz.windows = [] →
    s.dc.coex = [] →
    s.dc.reserved = [] →
    (x.phase = 0 ∨ x.phase = 1 ∨ x.phase = 4) →
    rampUpNow s n = false →
    x.cell = none →
    mayStore s core (A_LS_T_CMD n) →
    ∃ t, exec (.abortTx core n) s = .next t ∧
      t.resp = ⟨0, false⟩ ∧
      t.thState n = 1 ∧
      t.get (LS_T_TXS_STATUS n) = min x.late 0xFFFF * 2 ^ 16 + b2n x.abortLate * 2 ^ 9 + 0xB ∧
      t.sreg n x.dest = min x.late 0xFFFF * 2 ^ 16 + b2n x.abortLate * 2 ^ 9 + 0xB ∧
      t.on (flagL n) = decide (0 < x.late) ∧
      t.get (LS_T_STAT_CKPT_PC n) = s.thPc n ∧
      (t.ls = { s.ls with threads := updAt s.ls.threads n fun y => { y with txf := none, wait := none, since := 0, image := threadImage t n (s.thPc n) } }) ∧
      t.pm = { s.pm with tx := assocDel s.pm.tx n } ∧
      t.emitted.getLast? = (s.emit (28 + n)).emitted.getLast? ∧
      Frame s t [LS_T_STAT_STATE n, LS_T_TXS_STATUS n, LS_T_S_VALUE n x.dest, flagL n, LS_T_STAT_CKPT_PC n, PM_STAT_LLVL, PM_STAT_LEVEL] [.resp, .ls, .pm, .pins, .dc, .emitted] [])

/-- R179, R193: START makes a HALTED thread READY with an empty stack, HALT halts one outside a TXF with cause CMD, and where the release of its WAITT is due, the release comes first, MAIL latches MAIL. R216: clearing LS_CTL.EN halts every waiting thread with cause DISABLE, and EN_ACK clears once all are halted. R203: a mismatch returns a thread to its checkpoint in REPLAY, counts and logs it; the replay ends in the state the thread would have had, a WAITT executed again with what it finds then (DEDUCED from R190 and R203), with a fault record of code 0x1. R204: a mismatch of the frame handler abandons the frame. R213, R214: with nothing on the air and no other reception the snapshot sends an acknowledgement without delay; in general it fixes the delay and the instant that ack_decision gives, or skips and counts (stated for a frame that the forwarding engine has not discarded, with duty cycle off). -/
def Obligations.ThreadsAreCommandedAndCompared : Prop :=
  (∀ (core : Cpu) (n : Fin 4) (s : State),
    s.power = .active →
    bitOf (s.get (LS_T_CFG_CORES n)) core = true →
    (s.on (IC_CPU_STAT_NS core) = false ∨ s.on (LS_T_CFG_NS_OK n) = true) →
    s.thState n = 0 →
    s.on LS_CTL_EN = true →
    mayStore s core (A_LS_T_CMD n) →
    ∃ t, exec (.lsStart core n) s = .next t ∧
      t.resp = ⟨0, false⟩ ∧
      t.thState n = 1 ∧
      t.get (LS_T_STAT_DEPTH n) = 0 ∧
      (t.ls = { s.ls with threads := updAt s.ls.threads n fun x => { x with stack := [], since := 0, haltReq := false } }) ∧
      Frame s t [LS_T_STAT_STATE n, LS_T_STAT_DEPTH n] [.resp, .ls] []) ∧
  (∀ (core : Cpu) (n : Fin 4) (s : State),
    s.power = .active →
    bitOf (s.get (LS_T_CFG_CORES n)) core = true →
    (s.on (IC_CPU_STAT_NS core) = false ∨ s.on (LS_T_CFG_NS_OK n) = true) →
    s.thState n ≠ 0 →
    s.txf n = none →
    (s.thread n).replay = none →
    waittDue s n = false →
    mayStore s core (A_LS_T_CMD n) →
    ∃ t, exec (.haltCmd core n) s = .next t ∧
      t.resp = ⟨0, false⟩ ∧
      t.thState n = 0 ∧
      t.get (LS_T_STAT_CAUSE n) = 2 ∧
      t.emitted = (s.emit 157).emitted ∧
      (t.ls = { s.ls with threads := updAt s.ls.threads n fun x => { x with wait := none, haltReq := false, replay := none } }) ∧
      Frame s t [LS_T_STAT_STATE n, LS_T_STAT_CAUSE n] [.resp, .ls, .emitted] []) ∧
  (∀ (core : Cpu) (n : Fin 4) (x : WaitS) (w a b : Word) (s : State),
    s.power = .active →
    bitOf (s.get (LS_T_CFG_CORES n)) core = true →
    (s.on (IC_CPU_STAT_NS core) = false ∨ s.on (LS_T_CFG_NS_OK n) = true) →
    (s.thread n).wait = some x →
    s.ls.threads.length = 4 →
    (s.thread n).replay = none →
    waittDue s n = true →
    s.txf n = none →
    x.bundle = [(w, a, b)] →
    insnOp w = opAckpol →
    x.dest < 16 →
    mayStore s core (A_LS_T_CMD n) →
    ∃ t, exec (.haltCmd core n) s = .next t ∧
      t.resp = ⟨0, false⟩ ∧
      t.thState n = 0 ∧
      t.get (LS_T_STAT_CAUSE n) = 2 ∧
      t.emitted = (s.emit 157).emitted ∧
      (t.sreg n x.dest = (if x.prepared then 0 else min (s.counter x.sel - x.inst) 0xFFFFFFFF)) ∧
      t.get (LS_T_LATE_LATE n) = t.sreg n x.dest ∧
      t.on (flagL n) = !x.prepared ∧
      (∀ l : Fin 16, bitsOf (t.reg A_LS_ACK_POL) (2 * l) 2 = if bitOf a.toNat l then insnK w % 4 else bitsOf (s.reg A_LS_ACK_POL) (2 * l) 2) ∧
      (t.ls = { s.ls with threads := updAt s.ls.threads n fun x => { x with wait := none, haltReq := false, replay := none } }) ∧
      Frame s t [LS_T_STAT_STATE n, LS_T_STAT_CAUSE n, LS_T_S_VALUE n x.dest, LS_T_LATE_LATE n, flagL n, wordAt A_LS_ACK_POL] [.resp, .ls, .emitted] []) ∧
  (∀ (core : Cpu) (n : Fin 4) (x : TxfS) (s : State),
    s.power = .active →
    bitOf (s.get (LS_T_CFG_CORES n)) core = true →
    (s.on (IC_CPU_STAT_NS core) = false ∨ s.on (LS_T_CFG_NS_OK n) = true) →
    s.thState n ≠ 0 →
    s.txf n = some x →
    mayStore s core (A_LS_T_CMD n) →
    ∃ t, exec (.haltCmd core n) s = .next t ∧
      t.resp = ⟨0, false⟩ ∧
      (t.ls = { s.ls with threads := updAt s.ls.threads n fun x => { x with haltReq := true } }) ∧
      Frame s t [] [.resp, .ls] []) ∧
  (∀ (core : Cpu) (n : Fin 4) (s : State),
    s.power = .active →
    bitOf (s.get (LS_T_CFG_CORES n)) core = true →
    (s.on (IC_CPU_STAT_NS core) = false ∨ s.on (LS_T_CFG_NS_OK n) = true) →
    mayStore s core (A_LS_T_CMD n) →
    ∃ t, exec (.mail core n) s = .next t ∧
      t.resp = ⟨0, false⟩ ∧
      t.on (LS_T_PEND1_MAIL n) = true ∧
      Frame s t [LS_T_PEND1_MAIL n] [.resp] []) ∧
  (∀ (core : Cpu) (s : State),
    s.power = .active →
    s.on LS_CTL_EN = true →
    s.on (IC_CPU_STAT_NS core) = false →
    (∀ k : Fin 4, (s.thread k).replay = none) →
    mayStore s core LS_CTL_EN.addr →
    ∃ t, exec (.lsDisable core) s = .next t ∧
      t.resp = ⟨0, false⟩ ∧
      t.on LS_CTL_EN = false ∧
      (∀ k : Fin 4, (s.thState k = 2 ∨ s.thState k = 3 → t.thState k = 0 ∧ t.get (LS_T_STAT_CAUSE k) = 5) ∧ (s.thState k ≠ 2 → s.thState k ≠ 3 → t.thState k = s.thState k ∧ t.get (LS_T_STAT_CAUSE k) = s.get (LS_T_STAT_CAUSE k) ∧ t.thread k = s.thread k)) ∧
      t.ls = { s.ls with threads := t.ls.threads } ∧
      Frame s t ((LS_CTL_EN :: (List.range 4).map LS_T_STAT_STATE ++ (List.range 4).map LS_T_STAT_CAUSE)) [.resp, .ls, .emitted] []) ∧
  (∀ (s : State),
    s.power ≠ .off →
    s.on LS_CTL_EN = false →
    s.on LS_CTL_EN_ACK = true →
    s.ls.acks = [] →
    (∀ k : Fin 4, s.thState k = 0) →
    s.cz.windows = [] →
    ∃ t, exec .lsDisableDone s = .next t ∧
      t.on LS_CTL_EN_ACK = false ∧
      Frame s t [LS_CTL_EN_ACK] [] []) ∧
  (∀ (n : Fin 4) (s : State),
    s.power ≠ .off →
    s.thState n ≠ 0 →
    s.thState n ≠ 5 →
    s.ls.threads.length = 4 →
    s.fc.recov = [] →
    ∃ t, exec (.pairMismatch n) s = .next t ∧
      t.thPc n = (s.thread n).image.pc % 8192 ∧
      t.get (LS_T_STAT_FLAGS n) = (s.thread n).image.flags % 32 ∧
      (∀ k : Fin 16, t.sreg n k = ((s.thread n).image.gpr.getD k 0).toNat) ∧
      t.get (LS_T_STAT_DEPTH n) = (s.thread n).image.stack.length % 4 ∧
      t.thState n = 5 ∧
      Counted s t LS_PAIR_STAT_ROLLBACKS ∧
      t.on LS_PAIR_STAT_VALID = true ∧
      t.on LS_PAIR_STAT_FH = false ∧
      t.get LS_PAIR_STAT_THREAD = n ∧
      Raised s t LS_INT_STAT_ROLLBACK ∧
      (t.ls = { s.ls with threads := updAt s.ls.threads n fun x => { x with stack := x.image.stack, replay := some (s.thState n, threadImage s n (s.thPc n)) } }) ∧
      t.fc = { s.fc with recov := [Recovery.mk 1 0 (s.get (LS_T_STAT_CKPT_PC n) * 2 ^ 16 + n) s.tb.now] } ∧
      Frame s t ([LS_T_STAT_STATE n, LS_T_PC_PC n, LS_T_STAT_FLAGS n, LS_T_STAT_DEPTH n] ++ (List.range 16).map (LS_T_S_VALUE n) ++ [LS_PAIR_STAT_ROLLBACKS, LS_PAIR_STAT_VALID, LS_PAIR_STAT_FH, LS_PAIR_STAT_THREAD] ++ (LS_INT_STAT_ROLLBACK :: latchOf LS_INT_STAT_ROLLBACK)) [.ls, .fc] []) ∧
  (∀ (n : Fin 4) (k : Nat) (i : ThreadImage) (r : Recovery) (s : State),
    s.power ≠ .off →
    (s.thread n).replay = some (k, i) →
    k < 5 →
    (k = 2 → s.on LS_CTL_EN = true) →
    s.ls.threads.length = 4 →
    s.fc.recov = [r] →
    r.code = 1 →
    r.place % 4 = n →
    s.fc.queue.length < 16 →
    s.fc.hist = [] →
    s.get FC_CFG_ESC_LIM ≠ 1 →
    ∃ t, exec (.replayComplete n) s = .next t ∧
      t.thPc n = i.pc % 8192 ∧
      t.get (LS_T_STAT_FLAGS n) = i.flags % 32 ∧
      (∀ k : Fin 16, t.sreg n k = (i.gpr.getD k 0).toNat) ∧
      t.get (LS_T_STAT_DEPTH n) = i.stack.length % 4 ∧
      t.thState n = k ∧
      (t.ls = { s.ls with threads := updAt s.ls.threads n fun x => { x with stack := i.stack, replay := none, wait := if k = 2 then x.wait.map (fun w => { w with prepared := decide (s.counter w.sel < w.inst) }) else x.wait } }) ∧
      t.fc.recov = [] ∧
      (t.fc.queue = s.fc.queue ++ [⟨w32 (0x10000000 + r.sub % 16 * 2 ^ 24 + (if 150 < (s.now - r.start.toNat) / 200 then 2 ^ 23 else 0) + min ((s.now - r.start.toNat) / 200) 0xFFFF), w32 r.place, w32 r.start.toNat⟩]) ∧
      Counted s t FC_CNT0_RECORDS ∧
      Raised s t FC_INT_STAT_REC ∧
      t.emitted = (s.emit 155).emitted ∧
      Frame s t ([LS_T_STAT_STATE n, LS_T_PC_PC n, LS_T_STAT_FLAGS n, LS_T_STAT_DEPTH n] ++ (List.range 16).map (LS_T_S_VALUE n) ++ [FC_CNT0_RECORDS] ++ (FC_INT_STAT_REC :: latchOf FC_INT_STAT_REC)) [.ls, .fc, .emitted] []) ∧
  (∀ (p : Fin 16) (ack : Bool) (r : Reception) (l : Nat) (s : State),
    s.power ≠ .off →
    ack = false →
    s.laneState p = 5 →
    (s.lane p).rx = some r →
    r.phr = true →
    (s.lane p).move = none →
    s.cz.lanes.length = 16 →
    s.fc.recov = [] →
    s.logicalOf p = some l →
    s.fc.queue.length < 16 →
    s.fc.hist = [] →
    s.get FC_CFG_ESC_LIM ≠ 1 →
    ∃ t, exec (.fhMismatch p ack) s = .next t ∧
      (t.laneState p = if s.on (CZ_LANE_CFG_EN p) = false then 0 else if s.laneArmed p then 2 else 1) ∧
      t.lane p = { s.lane p with rx := none, lastEnd := r.fend } ∧
      (∀ q : Fin 16, q ≠ p → t.lane q = s.lane q) ∧
      t.cz = { s.cz with lanes := t.cz.lanes } ∧
      Counted s t LS_PAIR_STAT_ROLLBACKS ∧
      t.on LS_PAIR_STAT_FH = true ∧
      t.on LS_PAIR_STAT_VALID = true ∧
      Raised s t LS_INT_STAT_FH_MISMATCH ∧
      Counted s t LS_FH_CNT1_ACK_WITHHELD ∧
      (t.fe = { s.fe with swPos := if s.on FE_CTL_SWDIV = true ∧ s.get (CZ_LANE_CFG_DIV p) = 0 then 0 else s.fe.swPos }) ∧
      pinsButSwitch s t ∧
      t.fw = { s.fw with freed := s.fw.freed ++ r.taken } ∧
      t.free = s.free + r.taken.length ∧
      t.fc.recov = [] ∧
      t.fc.queue = s.fc.queue ++ [⟨0x20000000, w32 l, w32 s.now⟩] ∧
      Counted s t FC_CNT0_RECORDS ∧
      Raised s t FC_INT_STAT_REC ∧
      (Frame s t ([CZ_LANE_STAT_STATE p, LS_PAIR_STAT_ROLLBACKS, LS_PAIR_STAT_VALID, LS_PAIR_STAT_FH, LS_FH_CNT1_ACK_WITHHELD, FC_CNT0_RECORDS] ++ ((LS_INT_STAT_FH_MISMATCH) :: latchOf (LS_INT_STAT_FH_MISMATCH)) ++ ((FC_INT_STAT_REC) :: latchOf (FC_INT_STAT_REC))) [.cz, .fc, .fe, .fw, .free, .pins, .emitted] (r.taken.map fun c => (cellAddr c, 128)))) ∧
  (∀  (a : AckS) (s : State),
    s.power ≠ .off →
    s.ls.acks = [a] →
    a.phase = 0 →
    a.fend + 200000 ≤ s.now + leadTicks s (s.get LS_ACK_CFG_PRESET) + 200 →
    s.fe.air = none →
    (∀ p : Fin 16, s.laneState p ≠ 5 ∨ p.val = a.phys) →
    s.on DC_CTL_EN = false →
    ((s.frame a.cell).all (fun f => f.fate != 2) = true) →
    ∃ t, exec .ackSnapshot s = .next t ∧
      t.ls = { s.ls with acks := [{ a with phase := 1, dly := 0, air := airOf s (s.get LS_ACK_CFG_PRESET) (ppduTicks a.mode (stdPreamble a.mode) (16 + fcsLen a.fcs2) a.coded), anchor := a.fend + 200000 - leadTicks s (s.get LS_ACK_CFG_PRESET) }] } ∧
      (t.pm = { s.pm with tx := assocPut s.pm.tx (32 + a.id) (if s.on (FE_TXP_OUT (s.get LS_ACK_CFG_PRESET)) then 6240 else 2480) }) ∧
      Frame s t [PM_STAT_LLVL, PM_STAT_LEVEL] [.ls, .pm, .emitted] []) ∧
  (∀  (a : AckS) (d : Nat) (s : State),
    s.power ≠ .off →
    snapshotDue s = some a →
    ackDecision s a = some d →
    s.on DC_CTL_EN = false →
    ((s.frame a.cell).all (fun f => f.fate != 2) = true) →
    ∃ t, exec .ackSnapshot s = .next t ∧
      (t.ls = { s.ls with acks := s.ls.acks.map fun x => if x.id = a.id then { x with phase := 1, dly := d, air := airOf s (s.get LS_ACK_CFG_PRESET) (ppduTicks a.mode (stdPreamble a.mode) (16 + fcsLen a.fcs2) a.coded), anchor := a.fend + 200000 - leadTicks s (s.get LS_ACK_CFG_PRESET) + 5000 * d, cell := a.cell } else x }) ∧
      (t.pm = { s.pm with tx := assocPut s.pm.tx (32 + a.id) (if s.on (FE_TXP_OUT (s.get LS_ACK_CFG_PRESET)) then 6240 else 2480) }) ∧
      Frame s t [PM_STAT_LLVL, PM_STAT_LEVEL] [.ls, .pm, .emitted] []) ∧
  (∀  (a : AckS) (s : State),
    s.power ≠ .off →
    snapshotDue s = some a →
    ackDecision s a = none →
    ∃ t, exec .ackSnapshot s = .next t ∧
      (∀ x ∈ t.ls.acks, x.id ≠ a.id) ∧
      Counted s t LS_FH_CNT1_ACK_SKIP)

/-- R222, R223: a first interval puts LS_SNF_NEXT on the first whole interval beyond TB_SLOW. R224: at NEXT a sniff window opens on every masked lane and NEXT advances; at its close the windows go and lanes that nothing else arms leave ARMED, or it is extended once, on energy on the lanes it opened on. R234: the window of an accepted wake frame opens at its instant and a close without preamble counts WAKE_LOST. R235: the next segment of a wake train posts its term and is checked. Stated with RXREQ off. -/
def Obligations.SniffsAndDataWindows : Prop :=
  (∀ (core : Cpu) (sel : Fin 3) (v : Word) (s : State),
    s.power = .active →
    s.on (IC_CPU_STAT_NS core) = false →
    sel = 0 →
    656 ≤ v.toNat →
    v.toNat ≤ 1966080 →
    s.get LS_SNF_INT_INT = 0 →
    snfNext s ≤ s.slow →
    s.slow + v.toNat < 2 ^ 48 →
    mayStore s core (A_LS_SNF_INT + 4 * sel) →
    ∃ t, exec (.sniffIntWrite core sel v) s = .next t ∧
      t.resp = ⟨0, false⟩ ∧
      t.get LS_SNF_INT_INT = v.toNat ∧
      s.slow < snfNext t ∧
      snfNext t ≤ s.slow + v.toNat ∧
      (snfNext t - snfNext s) % v.toNat = 0 ∧
      Frame s t [LS_SNF_INT_INT, LS_SNF_NEXT_LO_NEXT, LS_SNF_NEXT_HI_NEXT] [.resp] []) ∧
  (∀ (core : Cpu) (sel : Fin 3) (v : Word) (s : State),
    s.power = .active →
    s.on (IC_CPU_STAT_NS core) = false →
    sel = 0 →
    v.toNat ≤ 1966080 →
    (v.toNat = 0 ∨ (656 ≤ v.toNat ∧ s.get LS_SNF_INT_INT ≠ 0)) →
    mayStore s core (A_LS_SNF_INT + 4 * sel) →
    ∃ t, exec (.sniffIntWrite core sel v) s = .next t ∧
      t.resp = ⟨0, false⟩ ∧
      t.get LS_SNF_INT_INT = v.toNat ∧
      Frame s t [LS_SNF_INT_INT] [.resp] []) ∧
  (∀ (core : Cpu) (sel : Fin 3) (v : Word) (s : State),
    s.power = .active →
    s.on (IC_CPU_STAT_NS core) = false →
    sel ≠ 0 →
    s.get LS_SNF_INT_INT = 0 →
    v.toNat < 2 ^ 16 →
    mayStore s core (A_LS_SNF_INT + 4 * sel) →
    ∃ t, exec (.sniffIntWrite core sel v) s = .next t ∧
      t.resp = ⟨0, false⟩ ∧
      (snfNext t = if sel = 1 then snfNext s / 2 ^ 32 * 2 ^ 32 + v.toNat else snfNext s % 2 ^ 32 + v.toNat * 2 ^ 32) ∧
      Frame s t [LS_SNF_NEXT_LO_NEXT, LS_SNF_NEXT_HI_NEXT] [.resp] []) ∧
  (∀ (s : State),
    s.power = .active →
    s.on TB_STATUS_LOCKED = true →
    s.get LS_SNF_INT_INT ≠ 0 →
    snfNext s = s.slow →
    s.on LS_CTL_EN = true →
    s.on CZ_CTL_EN = true →
    s.fe.air = none →
    chainsOut s = false →
    (∀ l ∈ lanesOf (s.get LS_SNF_CFG_LMASK), sniffMin (lgMode s l) ≤ s.get LS_SNF_CFG_LEN * 4000) →
    s.windowOpen .sniff = false →
    (∀ l ∈ lanesOf (s.get LS_SNF_CFG_LMASK), s.on (CZ_LANE_CFG_EN (s.physOf l)) = true ∧ 1 ≤ s.laneState (s.physOf l) ∧ s.laneState (s.physOf l) ≤ 5) →
    s.on CX_CFG_RXREQ = false →
    s.dc.coex = [] →
    ∃ t, exec .sniffOpen s = .next t ∧
      snfNext t = (snfNext s + s.get LS_SNF_INT_INT) % 2 ^ 48 ∧
      (∀ p : Fin 16, t.laneState p = if s.laneState p = 1 ∧ (∃ l ∈ lanesOf (s.get LS_SNF_CFG_LMASK), s.physOf l = p.val) then 2 else s.laneState p) ∧
      (t.cz = { s.cz with windows := s.cz.windows ++ (lanesOf (s.get LS_SNF_CFG_LMASK)).map fun l => { owner := .sniff, lane := l, opened := s.now, close := some (s.now + s.get LS_SNF_CFG_LEN * 4000), pre := false, voided := false } }) ∧
      t.rdv = { s.rdv with refs := (s.now :: s.rdv.refs).take 2, sniff := 1, lanes := lanesOf (s.get LS_SNF_CFG_LMASK), sniffDet := false, sniffClose := s.now + s.get LS_SNF_CFG_LEN * 4000 } ∧
      t.pm = { s.pm with sniffWake := s.pm.sniffWake && !s.pm.sniffUsed, sniffUsed := true } ∧
      t.emitted = (s.emit 34).emitted ∧
      pinsButSwitch s t ∧
      Frame s t (LS_SNF_NEXT_LO_NEXT :: LS_SNF_NEXT_HI_NEXT :: ((List.range 16).map CZ_LANE_STAT_STATE)) [.cz, .rdv, .pm, .emitted, .pins] []) ∧
  (∀ (s : State),
    s.power ≠ .off →
    s.rdv.sniff ≠ 0 →
    s.rdv.sniffClose ≤ s.now →
    (s.rdv.sniff ≠ 1 ∨ s.rdv.sniffDet = true ∨ s.on LS_CTL_EN = false ∨ ∀ l ∈ s.rdv.lanes, s.getS (FE_LRPT_NOW_RSSI (s.physOf l)) < s.getS LS_SNF_ED_THR) →
    (∀ w ∈ s.cz.windows, s.laneState (s.physOf w.lane) ≠ 6) →
    s.on CX_CFG_RXREQ = false →
    s.dc.coex = [] →
    ∃ t, exec .sniffClose s = .next t ∧
      (∀ p : Fin 16, t.laneState p = if (s.laneState p = 1 ∨ s.laneState p = 2) ∧ (∃ w ∈ s.cz.windows, w.owner = .sniff ∧ s.physOf w.lane = p.val) then t.restState p else s.laneState p) ∧
      (t.cz = { s.cz with windows := s.cz.windows.filter fun w => w.owner != .sniff }) ∧
      t.rdv = { s.rdv with sniff := 0, lanes := [] } ∧
      pinsButSwitch s t ∧
      Frame s t ((List.range 16).map CZ_LANE_STAT_STATE) [.cz, .rdv, .pins] []) ∧
  (∀ (s : State),
    s.power ≠ .off →
    s.rdv.sniff = 1 →
    s.rdv.sniffDet = false →
    s.rdv.sniffClose ≤ s.now →
    s.on LS_CTL_EN = true →
    s.on CZ_CTL_EN = true →
    (∃ l ∈ s.rdv.lanes, s.getS LS_SNF_ED_THR ≤ s.getS (FE_LRPT_NOW_RSSI (s.physOf l))) →
    (∀ l ∈ s.rdv.lanes, s.on (CZ_LANE_CFG_EN (s.physOf l)) = true ∧ 1 ≤ s.laneState (s.physOf l) ∧ s.laneState (s.physOf l) ≤ 5) →
    (∀ w ∈ s.cz.windows, w.owner = .sniff → w.lane ∈ s.rdv.lanes) →
    s.on CX_CFG_RXREQ = false →
    s.dc.coex = [] →
    ∃ t, exec .sniffClose s = .next t ∧
      (∀ p : Fin 16, t.laneState p = if s.laneState p = 1 ∧ (∃ l ∈ s.rdv.lanes, s.physOf l = p.val) then 2 else s.laneState p) ∧
      Counted s t LS_SNF_CNT0_ED ∧
      (t.cz = { s.cz with windows := (s.cz.windows.filter fun w => w.owner != .sniff) ++ s.rdv.lanes.map fun l => { owner := .sniff, lane := l, opened := s.now, close := some (s.now + s.get LS_SNF_CFG_EXT * 20000), pre := false, voided := false } }) ∧
      t.rdv = { s.rdv with sniff := 2, sniffClose := s.now + s.get LS_SNF_CFG_EXT * 20000 } ∧
      pinsButSwitch s t ∧
      Frame s t (LS_SNF_CNT0_ED :: ((List.range 16).map CZ_LANE_STAT_STATE)) [.cz, .rdv, .pins] []) ∧
  (∀  (w : DataWin) (p : Fin 16) (s : State),
    s.power ≠ .off →
    dataDue s = some w →
    s.on LS_CTL_EN = true →
    s.on CZ_CTL_EN = true →
    s.physOf w.lane = p.val →
    s.on (CZ_LANE_CFG_EN p) = true ∧ 1 ≤ s.laneState p ∧ s.laneState p ≤ 5 →
    (∀ x ∈ s.cz.windows, x.owner ≠ .data w.id) →
    s.on CX_CFG_RXREQ = false →
    s.dc.coex = [] →
    ∃ t, exec .dataWindowOpen s = .next t ∧
      t.laneState p = max 2 (s.laneState p) ∧
      t.cz = { s.cz with windows := s.cz.windows ++ [{ owner := .data w.id, lane := w.lane, opened := s.now, close := some (s.now + (w.closes - s.now)), pre := false, voided := false }] } ∧
      t.rdv = { s.rdv with data := (s.rdv.data.filter (· != w)) ++ [{ w with opened := true }] } ∧
      pinsButSwitch s t ∧
      Frame s t [CZ_LANE_STAT_STATE p] [.cz, .rdv, .pins] []) ∧
  (∀  (w : DataWin) (p : Fin 16) (s : State),
    s.power ≠ .off →
    dataOver s = some w →
    (∀ x ∈ s.cz.windows, x.owner = .data w.id → x.lane = w.lane) →
    s.physOf w.lane = p.val →
    s.laneState p ≠ 6 →
    s.on CX_CFG_RXREQ = false →
    s.dc.coex = [] →
    ∃ t, exec .dataWindowClose s = .next t ∧
      (t.laneState p = if (s.laneState p = 1 ∨ s.laneState p = 2) ∧ (∃ x ∈ s.cz.windows, x.owner = .data w.id) then t.restState p else s.laneState p) ∧
      (t.get LS_SNF_CNT2_WAKE_LOST = if (∃ x ∈ s.cz.windows, x.owner = .data w.id ∧ x.pre = false) then min (s.get LS_SNF_CNT2_WAKE_LOST + 1) (2 ^ LS_SNF_CNT2_WAKE_LOST.w - 1) else s.get LS_SNF_CNT2_WAKE_LOST) ∧
      (t.cz = { s.cz with windows := s.cz.windows.filter fun x => x.owner != .data w.id }) ∧
      t.rdv = { s.rdv with data := s.rdv.data.filter (· != w) } ∧
      pinsButSwitch s t ∧
      Frame s t [CZ_LANE_STAT_STATE p, LS_SNF_CNT2_WAKE_LOST] [.cz, .rdv, .pins] []) ∧
  (∀ (n : Fin 4) (x : TxfS) (s : State),
    s.power ≠ .off →
    s.txf n = some x →
    s.ls.threads.length = 4 →
    x.phase = 4 →
    txfSusp s n = false →
    s.on DC_CTL_EN = false →
    s.on CX_CTL_EN = false →
    s.fe.air = none →
    s.ls.acks = [] →
    ∃ t, exec (.wakeTrainSegment n) s = .next t ∧
      t.txf n = some { x with phase := 1, lbt := false, heard := false, granted := true, tries := 0, wd := false } ∧
      (∀ k : Fin 4, k ≠ n → t.thread k = s.thread k) ∧
      t.ls = { s.ls with threads := t.ls.threads } ∧
      (t.pm = { s.pm with tx := assocPut s.pm.tx n (if s.on (FE_TXP_OUT x.preset) then 6240 else 2480) }) ∧
      Frame s t [PM_STAT_LLVL, PM_STAT_LEVEL] [.ls, .pm, .emitted] [])

/-- R239, R240: a due beacon window opens on its lane, or the beacon is passed over by EVERY. R241: a window without the beacon counts a miss and moves LS_BCN_NEXT on by the interval, the second sets BCN_ALT; the third starts Amber and Umber (stated for an empty UMASK). R242: AMBER_S counts seconds, and at LIMIT SUSP is set. R243: Umber moves its lanes to the next group of bins, each lane to one. R246: a new parent resets MISS, sets BIN and NEXT from its entry and notes the change. R249: the pending bin set becomes current at its instant. Stated with RXREQ off. -/
def Obligations.BeaconsAreTracked : Prop :=
  (∀  (p : Fin 16) (s : State),
    s.power ≠ .off →
    bcnDue s = true →
    s.on LS_CTL_EN = true →
    s.on CZ_CTL_PATH = false →
    s.on CZ_CTL_EN = true →
    s.get LS_BCN_CFG_EVERY ≤ s.rdv.skipped →
    s.get LS_BCN_STAT_MISS ≠ 2 →
    s.physOf (s.get LS_BCN_CFG_LANE) = p.val →
    s.get (CZ_LANE_CFG_BIN p) = s.get LS_BCN_CFG_BIN →
    s.windowOpen .beacon = false →
    s.on (CZ_LANE_CFG_EN p) = true ∧ 1 ≤ s.laneState p ∧ s.laneState p ≤ 5 →
    s.on CX_CFG_RXREQ = false →
    s.dc.coex = [] →
    ∃ t, exec .beaconWindowOpen s = .next t ∧
      t.laneState p = max 2 (s.laneState p) ∧
      t.cz = { s.cz with windows := s.cz.windows ++ [{ owner := .beacon, lane := s.get LS_BCN_CFG_LANE, opened := s.now, close := none, pre := false, voided := false }] } ∧
      t.rdv = { s.rdv with tracking := true, blanked := s.fe.blank, closes := (bcnWindow s).2, skipped := 0 } ∧
      pinsButSwitch s t ∧
      Frame s t [CZ_LANE_STAT_STATE p] [.cz, .rdv, .pins] []) ∧
  (∀ (s : State),
    s.power ≠ .off →
    bcnDue s = true →
    s.on LS_CTL_EN = true →
    s.on CZ_CTL_PATH = false →
    s.rdv.skipped < s.get LS_BCN_CFG_EVERY →
    ∃ t, exec .beaconWindowOpen s = .next t ∧
      bcnNext t = (bcnNext s + bcnTicks (s.get (NB_W10_BINT (parentOf s)))) % 2 ^ 64 ∧
      t.rdv = { s.rdv with skipped := s.rdv.skipped + 1 } ∧
      Frame s t [LS_BCN_NEXT_LO_NEXT, LS_BCN_NEXT_HI_NEXT] [.rdv] []) ∧
  (∀ (s : State),
    s.power ≠ .off →
    bcnOver s = true →
    trackerOn s = true →
    s.on LS_CTL_EN = true →
    s.windowOpen .beacon = true →
    s.rdv.blanked = false →
    s.get LS_BCN_STAT_MISS < 2 →
    (∀ w ∈ s.cz.windows, s.laneState (s.physOf w.lane) ≠ 6) →
    s.on CX_CFG_RXREQ = false →
    s.dc.coex = [] →
    ∃ t, exec .beaconMiss s = .next t ∧
      (∀ p : Fin 16, t.laneState p = if (s.laneState p = 1 ∨ s.laneState p = 2) ∧ (∃ w ∈ s.cz.windows, (w.owner = .beacon ∨ w.owner = .beaconAlt) ∧ s.physOf w.lane = p.val) then t.restState p else s.laneState p) ∧
      t.get LS_BCN_STAT_MISS = s.get LS_BCN_STAT_MISS + 1 ∧
      Counted s t LS_BCN_CNT_MISSED ∧
      Raised s t LS_RDV_INT_STAT_BCN_MISS ∧
      (if s.get LS_BCN_STAT_MISS = 1 then Raised s t LS_RDV_INT_STAT_BCN_ALT else ∀ f ∈ LS_RDV_INT_STAT_BCN_ALT :: latchOf LS_RDV_INT_STAT_BCN_ALT, f ∉ latchOf LS_RDV_INT_STAT_BCN_MISS → t.on f = s.on f) ∧
      t.emitted = (s.emit 38).emitted ∧
      bcnNext t = (bcnNext s + bcnTicks (s.get (NB_W10_BINT (parentOf s)))) % 2 ^ 64 ∧
      (t.cz = { s.cz with windows := s.cz.windows.filter fun w => w.owner != .beacon && w.owner != .beaconAlt }) ∧
      t.rdv = { s.rdv with tracking := false } ∧
      pinsButSwitch s t ∧
      Frame s t ((LS_BCN_STAT_MISS :: LS_BCN_CNT_MISSED :: LS_BCN_NEXT_LO_NEXT :: LS_BCN_NEXT_HI_NEXT :: LS_RDV_INT_STAT_BCN_MISS :: LS_RDV_INT_STAT_BCN_ALT :: latchOf LS_RDV_INT_STAT_BCN_MISS) ++ ((List.range 16).map CZ_LANE_STAT_STATE)) [.cz, .rdv, .pins, .emitted] []) ∧
  (∀ (s : State),
    s.power ≠ .off →
    bcnOver s = true →
    trackerOn s = true →
    s.on LS_CTL_EN = true →
    s.windowOpen .beacon = true →
    s.rdv.blanked = false →
    s.get LS_BCN_STAT_MISS = 2 →
    s.on TB_DISC_STAT_ACQ = true →
    umberLanes s = [] →
    (∀ w ∈ s.cz.windows, s.laneState (s.physOf w.lane) ≠ 6) →
    s.on CX_CFG_RXREQ = false →
    s.dc.coex = [] →
    ∃ t, exec .beaconMiss s = .next t ∧
      (∀ p : Fin 16, t.laneState p = if (s.laneState p = 1 ∨ s.laneState p = 2) ∧ (∃ w ∈ s.cz.windows, (w.owner = .beacon ∨ w.owner = .beaconAlt) ∧ s.physOf w.lane = p.val) then t.restState p else s.laneState p) ∧
      t.get LS_BCN_STAT_MISS = 3 ∧
      t.on LS_BCN_STAT_AMBER = true ∧
      t.get LS_BCN_STAT_AMBER_S = 0 ∧
      t.on LS_BCN_STAT_UMBER = true ∧
      t.get LS_BCN_STAT_UGRP = 0 ∧
      (∀ i : Fin 512, t.on (NB_W13_BHEARD i) = false) ∧
      Counted s t LS_BCN_CNT_MISSED ∧
      Raised s t LS_RDV_INT_STAT_BCN_MISS ∧
      Raised s t LS_RDV_INT_STAT_AMBER ∧
      (t.cz = { s.cz with windows := s.cz.windows.filter fun w => w.owner != .beacon && w.owner != .beaconAlt }) ∧
      t.rdv = { s.rdv with tracking := false, lost := some (parentOf s), amberAt := s.now, saved := [], umberNext := s.now + bcnTicks (s.get LS_BCN_INFO_BINT) * 3 / 2 } ∧
      pinsButSwitch s t ∧
      Frame s t (([LS_BCN_STAT_MISS, LS_BCN_STAT_AMBER, LS_BCN_STAT_AMBER_S, LS_BCN_STAT_UMBER, LS_BCN_STAT_UGRP, LS_BCN_CNT_MISSED] ++ (LS_RDV_INT_STAT_BCN_MISS :: latchOf LS_RDV_INT_STAT_BCN_MISS) ++ (LS_RDV_INT_STAT_AMBER :: latchOf LS_RDV_INT_STAT_AMBER) ++ (List.range 512).map NB_W13_BHEARD ++ ((List.range 16).map CZ_LANE_STAT_STATE))) [.cz, .rdv, .pins, .emitted] []) ∧
  (∀ (s : State),
    s.power ≠ .off →
    s.on LS_BCN_STAT_AMBER = true →
    s.rdv.amberAt + 200000000 ≤ s.now →
    s.get LS_BCN_STAT_AMBER_S + 1 ≠ s.get LS_BCN_HOLD_LIMIT →
    s.get LS_BCN_STAT_AMBER_S < 2 ^ LS_BCN_STAT_AMBER_S.w - 1 →
    ∃ t, exec .amberSecond s = .next t ∧
      t.get LS_BCN_STAT_AMBER_S = s.get LS_BCN_STAT_AMBER_S + 1 ∧
      t.rdv = { s.rdv with amberAt := s.rdv.amberAt + 200000000 } ∧
      Frame s t [LS_BCN_STAT_AMBER_S] [.rdv] []) ∧
  (∀ (s : State),
    s.power ≠ .off →
    s.on LS_BCN_STAT_AMBER = true →
    s.rdv.amberAt + 200000000 ≤ s.now →
    s.get LS_BCN_STAT_AMBER_S + 1 = s.get LS_BCN_HOLD_LIMIT →
    ∃ t, exec .amberSecond s = .next t ∧
      t.get LS_BCN_STAT_AMBER_S = s.get LS_BCN_HOLD_LIMIT ∧
      t.on LS_BCN_STAT_SUSP = true ∧
      Raised s t LS_RDV_INT_STAT_HOLD_EXP ∧
      t.rdv = { s.rdv with amberAt := s.rdv.amberAt + 200000000 } ∧
      Frame s t ([LS_BCN_STAT_AMBER_S, LS_BCN_STAT_SUSP] ++ ((LS_RDV_INT_STAT_HOLD_EXP) :: latchOf (LS_RDV_INT_STAT_HOLD_EXP))) [.rdv] []) ∧
  (∀  (att : List Nat) (s : State),
    s.power ≠ .off →
    s.on LS_BCN_STAT_UMBER = true →
    trackerOn s = true →
    s.on TB_STATUS_LOCKED = true →
    s.on LS_CTL_EN = true →
    s.on CZ_CTL_EN = true →
    s.rdv.umberNext ≤ s.now →
    s.get LS_BCN_STAT_UGRP + 1 < umberGroups s →
    (umberLanes s).take ((umberBins s).length - (s.get LS_BCN_STAT_UGRP + 1) * (umberLanes s).length) = att →
    (att.map s.physOf).Nodup →
    (∀ l ∈ att, s.laneState (s.physOf l) = 2) →
    s.cz.lanes.length = 16 →
    ∃ t, exec .umberStep s = .next t ∧
      t.get LS_BCN_STAT_UGRP = s.get LS_BCN_STAT_UGRP + 1 ∧
      (∀ i l b, att[i]? = some l → (umberBins s)[(s.get LS_BCN_STAT_UGRP + 1) * (umberLanes s).length + i]? = some b → t.get (CZ_LANE_CFG_BIN (s.physOf l)) = b) ∧
      (∀ p : Fin 16, t.laneState p = s.laneState p ∧ t.lane p = if att.any (fun l => s.physOf l == p.val) then { s.lane p with move := none } else s.lane p) ∧
      (t.cz = { s.cz with lanes := t.cz.lanes, windows := (s.cz.windows.filter fun w => !(w.owner == .umber && att.contains w.lane)) ++ att.map fun l => { owner := .umber, lane := l, opened := s.now, close := none, pre := false, voided := false } }) ∧
      (t.rdv = { s.rdv with saved := s.rdv.saved ++ ((umberLanes s).filter fun l => !(s.rdv.saved.any fun e => e.1 == l)).map (fun l => (l, s.get (CZ_LANE_CFG_BIN (s.physOf l)))), umberNext := s.now + bcnTicks (s.get LS_BCN_INFO_BINT) * 3 / 2 }) ∧
      (Frame s t (LS_BCN_STAT_UGRP :: att.map fun l => CZ_LANE_CFG_BIN (s.physOf l)) [.cz, .rdv] [])) ∧
  (∀ (core : Cpu) (idx : BitVec 9) (s : State),
    s.power = .active →
    s.on (IC_CPU_STAT_NS core) = false →
    mayParent s idx.toNat = true →
    s.on (NB_W10_BCN idx.toNat) = true →
    s.on LS_BCN_STAT_UMBER = false →
    s.cz.windows = [] →
    (s.get (NB_W12_BLAST idx.toNat)) * 1024 ≤ s.dtime →
    s.dtime < (s.get (NB_W12_BLAST idx.toNat)) * 1024 + 2 ^ 42 →
    s.on CX_CFG_RXREQ = false →
    s.dc.coex = [] →
    mayStore s core A_LS_BCN_CMD →
    ∃ t, exec (.reparent core idx) s = .next t ∧
      t.resp = ⟨0, false⟩ ∧
      parentOf t = idx.toNat ∧
      t.get LS_BCN_STAT_MISS = 0 ∧
      t.on LS_BCN_STAT_AMBER = false ∧
      t.get LS_BCN_CFG_BIN = s.get (NB_W13_BBIN idx.toNat) ∧
      t.get LS_BCN_INFO_NEW = idx.toNat ∧
      t.get LS_BCN_INFO_OLD = parentOf s ∧
      t.get LS_BCN_INFO_LASTEV = 3 ∧
      t.get LS_BCN_INFO_BINT = s.get (NB_W10_BINT idx.toNat) ∧
      t.on LS_BSET_STAT_PEND = false ∧
      t.on LS_BSET_STAT_VALID = false ∧
      Raised s t LS_RDV_INT_STAT_REPARENT ∧
      t.emitted = (s.emit 40).emitted ∧
      bcnNext t = (s.get (NB_W12_BLAST idx.toNat) * 1024 + ((s.dtime - s.get (NB_W12_BLAST idx.toNat) * 1024) / bcnTicks (s.get (NB_W10_BINT idx.toNat)) + 1) * bcnTicks (s.get (NB_W10_BINT idx.toNat))) % 2 ^ 64 ∧
      t.rdv = { s.rdv with tracking := false, last := ((s.get (NB_W12_BLAST idx.toNat) * 1024 : Nat) : Int), has := true, lost := none, choice := [], skipped := 0 } ∧
      pinsButSwitch s t ∧
      Frame s t ([TB_DISC_STAT_PARENT, LS_BCN_STAT_MISS, LS_BCN_STAT_AMBER, LS_BCN_CFG_BIN, wordAt A_LS_BCN_INFO, LS_BSET_STAT_PEND, LS_BSET_STAT_VALID, LS_BCN_NEXT_LO_NEXT, LS_BCN_NEXT_HI_NEXT] ++ ((LS_RDV_INT_STAT_REPARENT) :: latchOf (LS_RDV_INT_STAT_REPARENT))) [.resp, .rdv, .pins, .emitted] []) ∧
  (∀ (s : State),
    s.power ≠ .off →
    s.on LS_BSET_STAT_PEND = true →
    s.get64 LS_BSET_EFF_LO_EFF LS_BSET_EFF_HI_EFF ≤ s.dtime →
    ∃ t, exec .bsetEffect s = .next t ∧
      t.get LS_BSET_CUR_CUR = s.get LS_BSET_NXT_NXT ∧
      t.on LS_BSET_STAT_PEND = false ∧
      Raised s t LS_RDV_INT_STAT_BSET ∧
      Frame s t ([LS_BSET_CUR_CUR, LS_BSET_STAT_PEND] ++ ((LS_RDV_INT_STAT_BSET) :: latchOf (LS_RDV_INT_STAT_BSET))) [] [])

/-- R257, R263: at a boundary air that no longer counts is dropped and WARN clears below its level. R264, R265, R267: a write of a disabled record takes its values, enabling a legal one restarts its history with the initial usage, a preset loads Table 8.1. R269, R270: a listen is busy where the mean of the level of its lane over the ticks of its span is at or above the threshold; one that is not is passed, a busy one is tried again after 1 to BOMAX × 10 spans of 100 µs, the draw standing in the command as an operand that takes every value. R271, R273, R274: requests rise at their instant, a grant lets ramp-up follow, a grant withdrawn on the air cuts it. R277, R278: disables. -/
def Obligations.TheBudgetAndCoexistence : Prop :=
  (∀ (n : Fin 8) (s : State),
    s.power ≠ .off →
    s.dc.recs.length = 8 →
    s.on (DC_REC_CFG_KIND n) = false →
    ∃ t, exec (.bucketRetire n) s = .next t ∧
      ((t.bandRec n).duty = (s.bandRec n).duty.filter (fun e => decide (s.now / (s.get (DC_REC_PER_WINDOW n) * 6250000) ≤ e.1 + 32))) ∧
      t.on (DC_STATUS_WARN.bit n) = (s.on (DC_STATUS_WARN.bit n) && decide (s.get (DC_REC_CFG_WARN n) ≠ 0) && decide (warnLevel s n ≤ usage s n 0)) ∧
      (∀ k : Fin 8, k ≠ n → t.bandRec k = s.bandRec k) ∧
      t.dc = { s.dc with recs := t.dc.recs } ∧
      Frame s t [DC_STATUS_WARN.bit n] [.dc] []) ∧
  (∀ (n : Fin 8) (s : State),
    s.power ≠ .off →
    s.dc.recs.length = 8 →
    s.on (DC_REC_CFG_KIND n) = true →
    (∀ k : Fin 257, usage s n k < warnLevel s n) →
    ∃ t, exec (.bucketRetire n) s = .next t ∧
      ((t.bandRec n).dwell = (s.bandRec n).dwell.filter (fun e => decide (s.now / (s.get (DC_REC_PER_WINDOW n) * 50000000) ≤ e.2.1 + 4))) ∧
      t.on (DC_STATUS_WARN.bit n) = false ∧
      (∀ k : Fin 8, k ≠ n → t.bandRec k = s.bandRec k) ∧
      t.dc = { s.dc with recs := t.dc.recs } ∧
      Frame s t [DC_STATUS_WARN.bit n] [.dc] []) ∧
  (∀ (core : Cpu) (n : Fin 8) (p : BitVec 4) (lo hi kind lim win sp : Nat) (s : State),
    s.power = .active →
    s.on (IC_CPU_STAT_NS core) = false →
    s.locked = false →
    s.dc.recs.length = 8 →
    presetRow p.toNat = some (lo, hi, kind, lim, win, sp) →
    s.on (DC_REC_CFG_EN n) = false →
    s.get (DC_REC_LOW_LOW n) ≠ lo →
    mayStore s core (A_DC_REC_CMD n) →
    ∃ t, exec (.preset core n p) s = .next t ∧
      t.resp = ⟨0, false⟩ ∧
      t.get (DC_REC_LOW_LOW n) = lo ∧
      t.get (DC_REC_HIGH_HIGH n) = hi ∧
      t.get (DC_REC_CFG_KIND n) = kind ∧
      t.get (DC_REC_CFG_LIMIT n) = lim ∧
      t.get (DC_REC_PER_WINDOW n) = win ∧
      t.get (DC_REC_PER_SPACING n) = sp ∧
      t.get (DC_REC_CFG_WARN n) = 12 ∧
      t.get (DC_REC_CFG_INIT n) = 0 ∧
      t.on (DC_REC_CFG_LBT n) = false ∧
      t.bandRec n = RecS.reset ∧
      (∀ k : Fin 8, k ≠ n → t.bandRec k = s.bandRec k) ∧
      t.dc = { s.dc with recs := t.dc.recs } ∧
      Frame s t [DC_REC_LOW_LOW n, DC_REC_HIGH_HIGH n, DC_REC_CFG_KIND n, DC_REC_CFG_LIMIT n, DC_REC_PER_WINDOW n, DC_REC_PER_SPACING n, DC_REC_CFG_WARN n, DC_REC_CFG_INIT n, DC_REC_CFG_LBT n, DC_STATUS_WARN.bit n] [.resp, .dc] []) ∧
  (∀ (core : Cpu) (n : Fin 8) (k : Fin 4) (v : Word) (d : RegDesc) (s : State),
    s.power = .active →
    s.on (IC_CPU_STAT_NS core) = false →
    s.locked = false →
    s.dc.recs.length = 8 →
    k ≠ 0 →
    s.on (DC_REC_CFG_EN n) = false →
    findReg (A_DC_REC_CFG n + 4 * k) = some d →
    mayStore s core (A_DC_REC_CFG n + 4 * k) →
    ∃ t, exec (.dcRecordWrite core n k v) s = .next t ∧
      t.resp = ⟨0, false⟩ ∧
      (∀ b : Fin 32, (t.reg (A_DC_REC_CFG n + 4 * k)).getLsbD b.val =
        (if (d.rw ||| d.lk).getLsbD b.val then v.getLsbD b.val else (s.reg (A_DC_REC_CFG n + 4 * k)).getLsbD b.val)) ∧
      (∀ j : Fin 8, j ≠ n → t.bandRec j = s.bandRec j) ∧
      t.dc = { s.dc with recs := t.dc.recs } ∧
      Frame s t [wordAt (A_DC_REC_CFG n + 4 * k), DC_STATUS_WARN.bit n] [.resp, .dc] []) ∧
  (∀ (core : Cpu) (n : Fin 8) (k : Fin 4) (v : Word) (d : RegDesc) (s : State),
    s.power = .active →
    s.on (IC_CPU_STAT_NS core) = false →
    s.locked = false →
    s.dc.recs.length = 8 →
    k = 0 →
    s.on (DC_REC_CFG_EN n) = false →
    recBad (s.setReg (A_DC_REC_CFG n) v) n = false →
    (s.setReg (A_DC_REC_CFG n) v).on (DC_REC_CFG_EN n) = true →
    (s.setReg (A_DC_REC_CFG n) v).on (DC_REC_CFG_KIND n) = false →
    findReg (A_DC_REC_CFG n) = some d →
    mayStore s core (A_DC_REC_CFG n + 4 * k) →
    ∃ t, exec (.dcRecordWrite core n k v) s = .next t ∧
      t.resp = ⟨0, false⟩ ∧
      t.reg (A_DC_REC_CFG n) = (v &&& (d.rw ||| d.lk)) ||| (s.reg (A_DC_REC_CFG n) &&& ~~~ (d.rw ||| d.lk)) ∧
      t.bandRec n = { duty := [(bucketNow s n, recLimit (s.setReg (A_DC_REC_CFG n) v) n * (s.setReg (A_DC_REC_CFG n) v).get (DC_REC_CFG_INIT n) / 16)], dwell := [] } ∧
      t.on (DC_STATUS_WARN.bit n) = false ∧
      (∀ j : Fin 8, j ≠ n → t.bandRec j = s.bandRec j) ∧
      t.dc = { s.dc with recs := t.dc.recs } ∧
      Frame s t [wordAt (A_DC_REC_CFG n), DC_STATUS_WARN.bit n] [.resp, .dc] []) ∧
  (∀ (n : Fin 4) (draw : Word) (x : TxfS) (s : State),
    s.power ≠ .off →
    s.txf n = some x →
    s.ls.threads.length = 4 →
    listenDue s n = true →
    attachedTo s x.alane (txFreq s x.ofs) x.mode = true →
    listenBusy s n x = false →
    ∃ t, exec (.lbtListenEnd n draw) s = .next t ∧
      t.txf n = some { x with heard := true } ∧
      (∀ k : Fin 4, k ≠ n → t.thread k = s.thread k) ∧
      t.ls = { s.ls with threads := t.ls.threads } ∧
      Frame s t [] [.ls] []) ∧
  (∀ (n : Fin 4) (draw : Word) (x : TxfS) (s : State),
    s.power ≠ .off →
    s.txf n = some x →
    s.ls.threads.length = 4 →
    listenDue s n = true →
    attachedTo s x.alane (txFreq s x.ofs) x.mode = true →
    listenBusy s n x = true →
    x.tries < s.get DC_LBT_CFG_NTRY →
    x.fixed = true →
    s.dc.coex = [] →
    s.now ≤ x.anchor →
    ∃ t, exec (.lbtListenEnd n draw) s = .next t ∧
      t.txf n = some { x with anchor := x.anchor + 20000 * (1 + draw.toNat % (max 1 (s.get DC_LBT_CFG_BOMAX) * 10)), tries := x.tries + 1, granted := !s.on CX_CTL_EN } ∧
      (∀ k : Fin 4, k ≠ n → t.thread k = s.thread k) ∧
      t.ls = { s.ls with threads := t.ls.threads } ∧
      Counted s t DC_CNT_LBT_BUSY ∧
      Raised s t DC_INT_STAT_LBT_BUSY ∧
      Frame s t ([DC_CNT_LBT_BUSY] ++ ((DC_INT_STAT_LBT_BUSY) :: latchOf (DC_INT_STAT_LBT_BUSY))) [.ls] []) ∧
  (∀ (s : State),
    s.power ≠ .off →
    ∃ t, exec .coexRequest s = .next t ∧
      (t.dc = { s.dc with coex := s.dc.coex.map fun e => if e.high = false ∧ max e.floor (e.base - 200 * s.get CX_CFG_LEAD) ≤ s.now then { e with high := true, rose := s.now, pri := bitOf (s.get CX_PRI_MAP_MAP) e.bit, gsamp := s.get CX_CFG_GSAMP, ackrx := s.on CX_CFG_ACKRX, wdraw := s.on CX_CFG_WDRAW } else e }) ∧
      (t.pins = { s.pins with req := t.dc.coex.any (·.high), pri := t.dc.coex.any (fun e => e.high && e.pri), antsw := t.pins.antsw, antSel := t.pins.antSel }) ∧
      Frame s t [] [.dc, .pins] []) ∧
  (∀ (owner : Fin 20) (gnt : Bool) (x : TxfS) (q : CoexReq) (s : State),
    s.power ≠ .off →
    owner.val < 4 →
    s.txf owner = some x →
    s.ls.threads.length = 4 →
    s.dc.coex = [q] →
    q.owner = owner.val →
    grantDue s owner = true →
    (gnt != s.on CX_CTL_POL_GNT) = true →
    s.now + sampleLead s owner ≤ txAnchor s x →
    s.fe.air = none →
    s.ls.acks = [] →
    ∃ t, exec (.grantSample owner gnt) s = .next t ∧
      t.txf owner = some { x with granted := true } ∧
      (∀ k : Fin 4, k.val ≠ owner.val → t.thread k = s.thread k) ∧
      t.ls = { s.ls with threads := t.ls.threads } ∧
      t.dc = { s.dc with coex := [{ q with sampled := true }] } ∧
      Counted s t CX_CNT1_GRANTED ∧
      t.emitted = (s.emit 79).emitted ∧
      t.pins = { s.pins with gnt := gnt, req := q.high, pri := q.high && q.pri, antsw := t.pins.antsw, antSel := t.pins.antSel } ∧
      Frame s t [CX_CNT1_GRANTED] [.ls, .dc, .pins, .emitted] []) ∧
  (∀ (owner : Fin 20) (gnt : Bool) (a : AckS) (s : State),
    s.power ≠ .off →
    4 ≤ owner.val →
    grantAckOn s (owner.val - 4) = some a →
    (gnt != s.on CX_CTL_POL_GNT) = true →
    ∃ t, exec (.grantSample owner gnt) s = .next t ∧
      (t.dc = { s.dc with coex := s.dc.coex.map fun e => if e.owner = 32 + a.id then { e with sampled := true } else e }) ∧
      Counted s t CX_CNT1_GRANTED ∧
      t.emitted = (s.emit 79).emitted ∧
      (t.pins = { s.pins with gnt := gnt, req := s.dc.coex.any (·.high), pri := s.dc.coex.any (fun e => e.high && e.pri), antsw := t.pins.antsw, antSel := t.pins.antSel }) ∧
      Frame s t [CX_CNT1_GRANTED] [.dc, .pins, .emitted] []) ∧
  (∀  (x : TxfS) (q : CoexReq) (a : AirS) (s : State),
    s.power ≠ .off →
    s.dc.coex = [q] →
    q.sampled = true →
    q.owner < 4 →
    s.txf q.owner = some x →
    x.phase = 2 →
    s.ls.threads.length = 4 →
    q.wdraw = true →
    s.fe.air = some a →
    a.ack = false →
    a.thread = q.owner →
    a.down = false →
    a.cut = false →
    ∃ t, exec .grantWithdrawn s = .next t ∧
      t.txf q.owner = some { x with wd := true } ∧
      (∀ k : Fin 4, k.val ≠ q.owner → t.thread k = s.thread k) ∧
      t.ls = { s.ls with threads := t.ls.threads } ∧
      t.fe = { s.fe with air := some { a with down := true, cut := true, wd := true, lastBit := s.now } } ∧
      Counted s t CX_CNT0_WITHDRAWN ∧
      Raised s t CX_INT_STAT_WITHDRAWN ∧
      t.emitted = (s.emit 80).emitted ∧
      t.pins = { s.pins with gnt := s.on CX_CTL_POL_GNT, req := q.high, pri := q.high && q.pri, antsw := t.pins.antsw, antSel := t.pins.antSel } ∧
      Frame s t ([CX_CNT0_WITHDRAWN] ++ ((CX_INT_STAT_WITHDRAWN) :: latchOf (CX_INT_STAT_WITHDRAWN))) [.ls, .fe, .pins, .emitted] []) ∧
  (∀  (x : TxfS) (q : CoexReq) (s : State),
    s.power ≠ .off →
    q ∈ s.dc.coex →
    q.sampled = true →
    q.wdraw = true →
    q.owner < 4 →
    s.txf q.owner = some x →
    (x.phase = 1 ∨ x.phase = 2) →
    s.ls.threads.length = 4 →
    ∃ t, exec .grantWithdrawn s = .next t ∧
      (t.txf q.owner).map (·.wd) = some true ∧
      Counted s t CX_CNT0_WITHDRAWN ∧
      Raised s t CX_INT_STAT_WITHDRAWN ∧
      t.emitted = (s.emit 80).emitted ∧
      (s.fe.air.all (fun a => a.ack || a.thread != q.owner || a.down || t.fe.air.any (·.cut)) = true) ∧
      t.dc = s.dc) ∧
  (∀ (core : Cpu) (s : State),
    s.power = .active →
    s.on (IC_CPU_STAT_NS core) = false →
    s.locked = false →
    mayStore s core DC_CTL_EN.addr →
    ∃ t, exec (.dcDisable core) s = .next t ∧
      t.resp = ⟨0, false⟩ ∧
      t.on DC_CTL_EN = false ∧
      Frame s t [DC_CTL_EN] [.resp] []) ∧
  (∀ (s : State),
    s.power ≠ .off →
    s.on DC_CTL_EN = false →
    s.dc.reserved = [] →
    ∃ t, exec .dcDisableDone s = .next t ∧
      t.on DC_CTL_EN_ACK = false ∧
      Frame s t [DC_CTL_EN_ACK] [] []) ∧
  (∀ (core : Cpu) (s : State),
    s.power = .active →
    s.on (IC_CPU_STAT_NS core) = false →
    mayStore s core CX_CTL_EN.addr →
    ∃ t, exec (.cxDisable core) s = .next t ∧
      t.resp = ⟨0, false⟩ ∧
      t.on CX_CTL_EN = false ∧
      t.on CX_CTL_EN_ACK = (s.on CX_CTL_EN_ACK && s.dc.coex.any (·.sampled)) ∧
      t.dc = { s.dc with coex := s.dc.coex.filter (·.sampled) } ∧
      (t.pins = { s.pins with req := t.dc.coex.any (·.high), pri := t.dc.coex.any (fun e => e.high && e.pri), antsw := t.pins.antsw, antSel := t.pins.antSel }) ∧
      Frame s t [CX_CTL_EN, CX_CTL_EN_ACK] [.resp, .dc, .pins] []) ∧
  (∀ (s : State) (n : Fin 4) (x : TxfS) (a b : Nat),
    s.txf n = some x → b = ((s.now : Int) + (txLeft s x - sampleLead s n)).toNat → a = b - listenSpan s → a < b →
    (∃ e ∈ x.levels, e.1 ≤ a) →
    (listenBusy s n x = true ↔
      s.getS DC_LBT_CFG_THR * ((b - a : Nat) : Int) ≤ ((List.range (b - a)).map fun k => levelAt x.levels (a + k)).sum))

/-- R294 with R288, R290, R291, R293, R295, R296, R297: an opened frame whose mesh destination is the device joins the ring of its class with cause OWN, its sender's counter moved on; one for a routed destination is sealed again under the next frame counter and queued for the next hop; an unsecured frame is an exception UNSEC, counted where it is selected, and joins the exception ring where DISP says so. R282, R284: an entry word takes the written value where the entry stays legal. The frame's own acknowledgement, where it owes one, learns the outcome; until that is decided the frame only keeps its fate. Whatever becomes of it, the frame leaves the front of the engine's work, and the time base, the radio and the budget stay as they are. -/
def Obligations.TheEngineForwards : Prop :=
  (∀ (fault : Fin 11) (entry : Fin 512) (word : Fin 16) (c : Nat) (q : List Nat) (f : FrameS) (m : Mac) (i ks off : Nat) (p : List Byte) (cls hops orig : Nat) (s : State),
    s.power ≠ .off →
    s.fw.work = c :: q →
    s.frame c = some f →
    (s.on FW_CTL_EN = true ∨ s.fw.inProc = true) →
    fault = 0 →
    c ∉ q →
    s.fw.waiting.length = 4 →
    f.use = 1 →
    f.passed = false →
    readMac (frameOctets s f) = m →
    findSender s m = (some i, s) →
    s.get (NB_W14_INCELLS i) + f.cells.length ≤ s.get FW_ADM1_INCAP →
    i < 512 →
    m.ccm = true →
    m.typ = 1 →
    m.bcast = false →
    rxSlot s m i = some ks →
    fwdSlot s ks = true →
    (frameIes (frameOctets s f) m (s.get LS_OUI_OUI)).fin = off →
    (frameIes (frameOctets s f) m (s.get LS_OUI_OUI)).payloadIe = false →
    ccmOpen (s.slot ks).key (nbEui s i) m off (frameOctets s f) = some p →
    s.get (NB_W4_FC_NEXT i) ≤ m.ctr →
    m.ctr < 0xFFFFFFFF →
    m.snSup = false →
    s.fw.heard.contains i = true →
    readMesh p false = some (cls, hops, orig, s.get LS_SHORT_NODE_ID) →
    ∃ t, exec (.forward ⟨fault, entry, word⟩) s = .next t ∧
      t.get (NB_W4_FC_NEXT i) = m.ctr + 1 ∧
      t.get (NB_W5_LSEQ i) = m.seq % 256 ∧
      t.on (NB_W5_LSV i) = true ∧
      t.get (NB_W15_LASTRX i) = s.now / 2 ^ 14 % 2 ^ (NB_W15_LASTRX i).w ∧
      t.get (NB_W14_FLQI i) = ((s.get (NB_W14_FLQI i) : Int) + ((f.lqi : Int) - s.get (NB_W14_FLQI i)) / 4).toNat % 2 ^ (NB_W14_FLQI i).w ∧
      (t.get FW_XCNT_COUNT = if s.get FW_XSEL_CAUSE = 0 then min (s.get FW_XCNT_COUNT + 1) (2 ^ FW_XCNT_COUNT.w - 1) else s.get FW_XCNT_COUNT) ∧
      ((t.frame c).map (fun g => (g.use, g.cause, g.cls, g.ring, g.fate)) = some (if f.apend then (1, 0, cls, s.get FW_CFG_RMAP / 4 ^ cls % 4, 1) else (3, 0, cls, s.get FW_CFG_RMAP / 4 ^ cls % 4, f.fate))) ∧
      (t.ls = { s.ls with acks := s.ls.acks.map fun a => if a.cell = c then { a with nb := some i, fp := decide (s.get (NB_W14_QCELLS i) ≠ 0), room := roomCode (s.set (NB_W14_INCELLS i) (s.get (NB_W14_INCELLS i) + f.cells.length)) (some i), known := true, auth := 1 } else a }) ∧
      t.pm = { s.pm with loads := t.pm.loads } ∧
      ((t.frame c).map (fun g => (g.auth, g.len, g.snbv, g.snbr, g.charged)) = some (true, off + p.length, true, i, f.cells.length)) ∧
      t.get (NB_W14_INCELLS i) = s.get (NB_W14_INCELLS i) + f.cells.length ∧
      t.fw.work = q ∧
      (t.fw.waiting = if f.apend then s.fw.waiting else updAt s.fw.waiting (s.get FW_CFG_RMAP / 4 ^ cls % 4) (· ++ [c])) ∧
      (t.fw = { s.fw with frames := t.fw.frames, work := t.fw.work, waiting := t.fw.waiting, inProc := false, undo := (s.fw.undo.filter fun u => u.nb != i) ++ if f.apend then [⟨c, i, s.reg (A_NB_W4 i), s.reg (A_NB_W5 i) &&& 0xFF800000⟩] else [] }) ∧
      (∀ k : Fin 4096, k.val ≠ c → t.frame k = s.frame k) ∧
      (Frame s t ([NB_W4_FC_NEXT i, NB_W5_LSEQ i, NB_W5_LSV i, NB_W14_FLQI i, NB_W15_LASTRX i, NB_W14_INCELLS i, PM_STAT_LLVL, PM_STAT_LEVEL, FW_XCNT_COUNT] ++ ((FW_INT_STAT_RWAIT) :: latchOf (FW_INT_STAT_RWAIT))) [.fw, .ls, .pm, .emitted] (f.cells.map fun k => (cellAddr k, 128)))) ∧
  (∀ (fault : Fin 11) (entry : Fin 512) (word : Fin 16) (c : Nat) (q : List Nat) (f : FrameS) (m : Mac) (i ks off : Nat) (p : List Byte) (cls hops orig dst nh : Nat) (s : State),
    s.power ≠ .off →
    s.fw.work = c :: q →
    s.frame c = some f →
    (s.on FW_CTL_EN = true ∨ s.fw.inProc = true) →
    fault = 0 →
    c ∉ q →
    s.fw.waiting.length = 4 →
    f.use = 1 →
    f.passed = false →
    readMac (frameOctets s f) = m →
    findSender s m = (some i, s) →
    s.get (NB_W14_INCELLS i) + f.cells.length ≤ s.get FW_ADM1_INCAP →
    i < 512 →
    m.ccm = true →
    m.typ = 1 →
    m.bcast = false →
    rxSlot s m i = some ks →
    fwdSlot s ks = true →
    (frameIes (frameOctets s f) m (s.get LS_OUI_OUI)).fin = off →
    (frameIes (frameOctets s f) m (s.get LS_OUI_OUI)).payloadIe = false →
    ccmOpen (s.slot ks).key (nbEui s i) m off (frameOctets s f) = some p →
    s.get (NB_W4_FC_NEXT i) ≤ m.ctr →
    m.ctr < 0xFFFFFFFF →
    m.snSup = false →
    s.fw.heard.contains i = true →
    readMesh p false = some (cls, hops, orig, dst) →
    dst ≠ s.get LS_SHORT_NODE_ID →
    dst < 0xFFF →
    s.get LS_SHORT_NODE_ID ≠ 0 →
    s.on FW_CTL_RELAY = true →
    s.on FW_CTL_LEARN = false →
    s.on (NB_W0_NOFWD i) = false →
    0 < hops →
    routeLookup s dst = .inr nh →
    s.on (NB_W0_VALID nh) = true →
    nh ≠ i →
    nh < 512 →
    s.get FW_FCTR_CTR < 0xFFFEFFFF →
    fwdSlot s (s.get (NB_W3_TXKS nh)) = true →
    s.get (NB_W3_TXLVL nh) ≠ 0 →
    f.cells.length = 1 →
    (sealedHeader s nh false false true).length + p.length + micLen (s.get (NB_W3_TXLVL nh) + 4) ≤ 128 →
    4 ≤ p.length →
    (queueTest s cls nh 1).1 = true →
    cls < 4 →
    ∃ t, exec (.forward ⟨fault, entry, word⟩) s = .next t ∧
      t.get (NB_W4_FC_NEXT i) = m.ctr + 1 ∧
      t.get (NB_W5_LSEQ i) = m.seq % 256 ∧
      t.on (NB_W5_LSV i) = true ∧
      t.get (NB_W15_LASTRX i) = s.now / 2 ^ 14 % 2 ^ (NB_W15_LASTRX i).w ∧
      t.get (NB_W14_FLQI i) = ((s.get (NB_W14_FLQI i) : Int) + ((f.lqi : Int) - s.get (NB_W14_FLQI i)) / 4).toNat % 2 ^ (NB_W14_FLQI i).w ∧
      t.get FW_FCTR_CTR = s.get FW_FCTR_CTR + 1 ∧
      t.get FW_SEQ_SEQ = (s.get FW_SEQ_SEQ + 1) % 256 ∧
      Counted s t FW_CNT0_RELAYED ∧
      (t.queue (4 * nh + cls) = if f.apend then s.queue (4 * nh + cls) else s.queue (4 * nh + cls) ++ [c]) ∧
      t.get (NB_W14_QCELLS nh) = s.get (NB_W14_QCELLS nh) + 1 ∧
      ((t.frame c).map (fun g => (g.use, g.cls, g.nh, g.fate, g.len)) = some (2, cls, nh, if f.apend then 3 else 0, (sealedHeader s nh false false true).length + p.length + micLen (s.get (NB_W3_TXLVL nh) + 4))) ∧
      t.fw.work = q ∧
      (t.fw = { s.fw with frames := t.fw.frames, work := t.fw.work, queues := t.fw.queues, inProc := false, undo := (s.fw.undo.filter fun u => u.nb != i) ++ if f.apend then [⟨c, i, s.reg (A_NB_W4 i), s.reg (A_NB_W5 i) &&& 0xFF800000⟩] else [] }) ∧
      (t.ls = { s.ls with acks := s.ls.acks.map fun a => if a.cell = c then { a with nb := some i, fp := decide (s.get (NB_W14_QCELLS i) ≠ 0), room := roomCode (s.set (NB_W14_INCELLS i) (s.get (NB_W14_INCELLS i) + f.cells.length)) (some i), known := true, auth := 1 } else a }) ∧
      (∀ k : Fin 4096, k.val ≠ c → t.frame k = s.frame k) ∧
      (Frame s t [NB_W4_FC_NEXT i, NB_W5_LSEQ i, NB_W5_LSV i, NB_W14_FLQI i, NB_W15_LASTRX i, NB_W14_INCELLS i, NB_W14_QCELLS nh, FW_FCTR_CTR, FW_SEQ_SEQ, FW_CNT0_RELAYED] [.fw, .ls] (f.cells.map fun k => (cellAddr k, 128)))) ∧
  (∀ (fault : Fin 11) (entry : Fin 512) (word : Fin 16) (c : Nat) (q : List Nat) (f : FrameS) (m : Mac) (i : Nat) (s : State),
    s.power ≠ .off →
    s.fw.work = c :: q →
    s.frame c = some f →
    (s.on FW_CTL_EN = true ∨ s.fw.inProc = true) →
    fault = 0 →
    c ∉ q →
    s.fw.waiting.length = 4 →
    f.use = 1 →
    f.passed = false →
    readMac (frameOctets s f) = m →
    findSender s m = (some i, s) →
    s.get (NB_W14_INCELLS i) + f.cells.length ≤ s.get FW_ADM1_INCAP →
    i < 512 →
    m.sec = false →
    m.typ = 1 →
    f.apend = false →
    ∃ t, exec (.forward ⟨fault, entry, word⟩) s = .next t ∧
      (t.get FW_XCNT_COUNT = if s.get FW_XSEL_CAUSE = 3 then min (s.get FW_XCNT_COUNT + 1) (2 ^ FW_XCNT_COUNT.w - 1) else s.get FW_XCNT_COUNT) ∧
      ((t.frame c).map (fun g => (g.use, g.cause, g.ring)) = if bitOf (s.get FW_DISP_DISP) 1 then some (3, 3, s.get FW_CFG_EXRING) else none) ∧
      t.fw.work = q ∧
      (t.ls = { s.ls with acks := s.ls.acks.map fun a => if a.cell = c then { a with nb := some i, fp := decide (s.get (NB_W14_QCELLS i) ≠ 0), room := roomCode (s.set (NB_W14_INCELLS i) (s.get (NB_W14_INCELLS i) + f.cells.length)) (some i), known := true, auth := 1 } else a }) ∧
      t.pm = { s.pm with loads := t.pm.loads } ∧
      (t.get (NB_W14_INCELLS i) = if bitOf (s.get FW_DISP_DISP) 1 then s.get (NB_W14_INCELLS i) + f.cells.length else s.get (NB_W14_INCELLS i)) ∧
      (t.fw = { s.fw with frames := t.fw.frames, work := t.fw.work, inProc := false, waiting := if bitOf (s.get FW_DISP_DISP) 1 then updAt s.fw.waiting (s.get FW_CFG_EXRING) (· ++ [c]) else s.fw.waiting.map (·.filter (· != c)), freed := if bitOf (s.get FW_DISP_DISP) 1 then s.fw.freed else s.fw.freed ++ f.cells }) ∧
      Frame s t ([PM_STAT_LLVL, PM_STAT_LEVEL, FW_XCNT_COUNT, NB_W14_INCELLS i] ++ ((FW_INT_STAT_RWAIT) :: latchOf (FW_INT_STAT_RWAIT))) [.fw, .ls, .pm, .emitted] []) ∧
  (∀ (fault : Fin 11) (entry : Fin 512) (word : Fin 16) (c : Nat) (q : List Nat) (f : FrameS) (s : State),
    s.power ≠ .off →
    s.fw.work = c :: q →
    s.frame c = some f →
    (s.on FW_CTL_EN = true ∨ s.fw.inProc = true) →
    c ∉ q →
    ∃ t, exec (.forward ⟨fault, entry, word⟩) s = .next t ∧
      t.fw.work = q ∧
      t.fw.inProc = false ∧
      t.cz = s.cz ∧
      t.fe = s.fe ∧
      t.tb = s.tb ∧
      t.dc = s.dc) ∧
  (∀ (core : Cpu) (i : Fin 512) (k : Fin 16) (v : Word) (d : RegDesc) (s : State),
    s.power = .active →
    s.on (IC_CPU_STAT_NS core) = false →
    findReg (A_NB_W0 i + 4 * k) = some d →
    (k = 0 ∨ k = 3 → nbBad s (s.setReg (A_NB_W0 i + 4 * k) v) (A_NB_W0 i + 4 * k) = false) →
    (k = 0 → s.on (NB_W0_VALID i) = false ∨ (s.setReg (A_NB_W0 i) v).on (NB_W0_VALID i) = true) →
    mayStore s core (A_NB_W0 i + 4 * k) →
    ∃ t, exec (.nbEntryWrite core i k v) s = .next t ∧
      t.resp = ⟨0, false⟩ ∧
      (∀ b : Fin 32, (t.reg (A_NB_W0 i + 4 * k)).getLsbD b.val =
        (if (d.rw ||| d.lk).getLsbD b.val then v.getLsbD b.val else (s.reg (A_NB_W0 i + 4 * k)).getLsbD b.val)) ∧
      Frame s t [wordAt (A_NB_W0 i + 4 * k)] [.resp] [])

/-- R301, R302: the copy of the oldest frame of a ring whose descriptor at HEAD has OWN writes the buffer and the descriptor's words, advances HEAD, sets RX with its event, counts DELIVERED and releases the cells; a kick and the 1 ms retry do the same for a ring that waited, and the engine takes its ledger term (R40). R303: a descriptor with OWN is handed back with OWN 0, HEAD advances, SUB is set with its event and SUBMITTED counts, whatever it holds; one that is not legal is answered BADSUB, a RAW one becomes a raw frame whose first cell the descriptor names. R304: freeing a raw frame releases its cells, also where a TXF holds it. R309: FW_CTL.EN is cleared, and EN_ACK once nothing is in processing. -/
def Obligations.RingsAndSubmissions : Prop :=
  (∀ (k : Fin 4) (ecc : EccCell) (c : Nat) (f : FrameS) (q : List Nat) (d buf w1 n : Nat) (s : State),
    s.power ≠ .off →
    s.fw.waiting.length = 4 →
    s.fw.waiting.getD k [] = c :: q →
    s.fw.stalled.contains k.val = false →
    s.frame c = some f →
    f.use = 3 →
    c ∉ q →
    s.on FW_CTL_EN_ACK = true →
    s.on (FW_RING_CFG_EN k) = true →
    ringHead s k = d →
    inSram d 16 = true →
    sramWaits s d 16 = false →
    sramWaits s buf n = false →
    (s.memWord d).toNat = buf →
    (s.memWord (d + 4)).toNat = w1 →
    2 ^ 31 ≤ w1 →
    n = min f.len (w1 % 2048) →
    inSram buf n = true →
    (buf + n ≤ d ∨ d + 16 ≤ buf) →
    c ∉ s.fw.work →
    (s.fw.waiting.all (fun l => !(l.contains c) || l == c :: q) = true) →
    ecc = none →
    ∃ t, exec (.ringCopy k ecc) s = .next t ∧
      t.bytes buf n = (frameOctets s f).take n ∧
      t.memWord (d + 4) = w32 (f.len * 2 ^ 16 + w1 % 2048) ∧
      t.memWord (d + 8) = w32 (f.cause * 2 ^ 26 + b2n f.auth * 2 ^ 25 + b2n (decide (w1 % 2048 < f.len)) * 2 ^ 24 + f.lane * 2 ^ 20 + f.cls * 2 ^ 18 + f.snbr * 2 ^ 9 + b2n f.snbv * 2 ^ 8 + f.lqi) ∧
      t.memWord (d + 12) = w32 f.ts.toNat ∧
      (t.get (FW_RING_HEAD_HEAD k) = if s.get (FW_RING_CFG_COUNT k) ≤ s.get (FW_RING_HEAD_HEAD k) + 1 then 0 else s.get (FW_RING_HEAD_HEAD k) + 1) ∧
      Raised s t (FW_INT_STAT_RX.bit k) ∧
      Counted s t FW_CNT0_DELIVERED ∧
      t.emitted = (s.emit (81 + k)).emitted ∧
      (t.fw = { s.fw with frames := assocDel s.fw.frames c, waiting := s.fw.waiting.set k q, nonbr := if f.snbv then s.fw.nonbr else s.fw.nonbr - f.charged, freed := s.fw.freed ++ f.cells, stalled := s.fw.stalled }) ∧
      (t.get (NB_W14_INCELLS f.snbr) = if f.snbv then s.get (NB_W14_INCELLS f.snbr) - f.charged else s.get (NB_W14_INCELLS f.snbr)) ∧
      Frame s t ([FW_RING_HEAD_HEAD k, FW_CNT0_DELIVERED, NB_W14_INCELLS f.snbr] ++ (FW_INT_STAT_RX.bit k :: latchOf (FW_INT_STAT_RX.bit k))) [.fw, .emitted] [(buf, n), (d + 4, 12)]) ∧
  (∀ (core : Cpu) (k : Fin 4) (c : Nat) (f : FrameS) (q : List Nat) (d buf w1 n : Nat) (s : State),
    s.power = .active →
    s.on (IC_CPU_STAT_NS core) = false →
    ringBad s k = false →
    s.fw.waiting.length = 4 →
    s.fw.waiting.getD k [] = c :: q →
    s.fw.stalled = [k.val] →
    s.frame c = some f →
    f.use = 3 →
    c ∉ q →
    s.on FW_CTL_EN_ACK = true →
    s.on (FW_RING_CFG_EN k) = true →
    ringHead s k = d →
    inSram d 16 = true →
    sramWaits s d 16 = false →
    sramWaits s buf n = false →
    (s.memWord d).toNat = buf →
    (s.memWord (d + 4)).toNat = w1 →
    2 ^ 31 ≤ w1 →
    n = min f.len (w1 % 2048) →
    inSram buf n = true →
    (buf + n ≤ d ∨ d + 16 ≤ buf) →
    c ∉ s.fw.work →
    (s.fw.waiting.all (fun l => !(l.contains c) || l == c :: q) = true) →
    mayStore s core (FW_RING_CFG_KICK k).addr →
    ∃ t, exec (.ringKick core k) s = .next t ∧
      t.resp = ⟨0, false⟩ ∧
      t.bytes buf n = (frameOctets s f).take n ∧
      t.memWord (d + 4) = w32 (f.len * 2 ^ 16 + w1 % 2048) ∧
      t.memWord (d + 8) = w32 (f.cause * 2 ^ 26 + b2n f.auth * 2 ^ 25 + b2n (decide (w1 % 2048 < f.len)) * 2 ^ 24 + f.lane * 2 ^ 20 + f.cls * 2 ^ 18 + f.snbr * 2 ^ 9 + b2n f.snbv * 2 ^ 8 + f.lqi) ∧
      t.memWord (d + 12) = w32 f.ts.toNat ∧
      (t.get (FW_RING_HEAD_HEAD k) = if s.get (FW_RING_CFG_COUNT k) ≤ s.get (FW_RING_HEAD_HEAD k) + 1 then 0 else s.get (FW_RING_HEAD_HEAD k) + 1) ∧
      Raised s t (FW_INT_STAT_RX.bit k) ∧
      Counted s t FW_CNT0_DELIVERED ∧
      t.emitted.getLast? = (s.emit (81 + k)).emitted.getLast? ∧
      (t.fw = { s.fw with frames := assocDel s.fw.frames c, waiting := s.fw.waiting.set k q, nonbr := if f.snbv then s.fw.nonbr else s.fw.nonbr - f.charged, freed := s.fw.freed ++ f.cells, stalled := [] }) ∧
      (t.get (NB_W14_INCELLS f.snbr) = if f.snbv then s.get (NB_W14_INCELLS f.snbr) - f.charged else s.get (NB_W14_INCELLS f.snbr)) ∧
      (t.pm = { s.pm with loads := if Load.fwe ∈ s.pm.loads then s.pm.loads else s.pm.loads ++ [Load.fwe] }) ∧
      Frame s t ([PM_STAT_LLVL, PM_STAT_LEVEL, FW_RING_HEAD_HEAD k, FW_CNT0_DELIVERED, NB_W14_INCELLS f.snbr] ++ (FW_INT_STAT_RX.bit k :: latchOf (FW_INT_STAT_RX.bit k))) [.resp, .fw, .pm, .emitted] [(buf, n), (d + 4, 12)]) ∧
  (∀  (k : Nat) (c : Nat) (f : FrameS) (q : List Nat) (d buf w1 n : Nat) (s : State),
    s.power ≠ .off →
    k < 4 →
    s.fw.waiting.length = 4 →
    s.fw.waiting.getD k [] = c :: q →
    s.fw.stalled = [k] →
    s.frame c = some f →
    f.use = 3 →
    c ∉ q →
    s.on FW_CTL_EN_ACK = true →
    s.on (FW_RING_CFG_EN k) = true →
    ringHead s k = d →
    inSram d 16 = true →
    sramWaits s d 16 = false →
    sramWaits s buf n = false →
    (s.memWord d).toNat = buf →
    (s.memWord (d + 4)).toNat = w1 →
    2 ^ 31 ≤ w1 →
    n = min f.len (w1 % 2048) →
    inSram buf n = true →
    (buf + n ≤ d ∨ d + 16 ≤ buf) →
    c ∉ s.fw.work →
    (s.fw.waiting.all (fun l => !(l.contains c) || l == c :: q) = true) →
    ∃ t, exec .ringRetry s = .next t ∧
      t.bytes buf n = (frameOctets s f).take n ∧
      t.memWord (d + 4) = w32 (f.len * 2 ^ 16 + w1 % 2048) ∧
      t.memWord (d + 8) = w32 (f.cause * 2 ^ 26 + b2n f.auth * 2 ^ 25 + b2n (decide (w1 % 2048 < f.len)) * 2 ^ 24 + f.lane * 2 ^ 20 + f.cls * 2 ^ 18 + f.snbr * 2 ^ 9 + b2n f.snbv * 2 ^ 8 + f.lqi) ∧
      t.memWord (d + 12) = w32 f.ts.toNat ∧
      (t.get (FW_RING_HEAD_HEAD k) = if s.get (FW_RING_CFG_COUNT k) ≤ s.get (FW_RING_HEAD_HEAD k) + 1 then 0 else s.get (FW_RING_HEAD_HEAD k) + 1) ∧
      Raised s t (FW_INT_STAT_RX.bit k) ∧
      Counted s t FW_CNT0_DELIVERED ∧
      t.emitted.getLast? = (s.emit (81 + k)).emitted.getLast? ∧
      (t.fw = { s.fw with frames := assocDel s.fw.frames c, waiting := s.fw.waiting.set k q, nonbr := if f.snbv then s.fw.nonbr else s.fw.nonbr - f.charged, freed := s.fw.freed ++ f.cells, stalled := [] }) ∧
      (t.get (NB_W14_INCELLS f.snbr) = if f.snbv then s.get (NB_W14_INCELLS f.snbr) - f.charged else s.get (NB_W14_INCELLS f.snbr)) ∧
      (t.pm = { s.pm with loads := if Load.fwe ∈ s.pm.loads then s.pm.loads else s.pm.loads ++ [Load.fwe] }) ∧
      Frame s t ([PM_STAT_LLVL, PM_STAT_LEVEL, FW_RING_HEAD_HEAD k, FW_CNT0_DELIVERED, NB_W14_INCELLS f.snbr] ++ (FW_INT_STAT_RX.bit k :: latchOf (FW_INT_STAT_RX.bit k))) [.fw, .pm, .emitted] [(buf, n), (d + 4, 12)]) ∧
  (∀ (core : Cpu) (s : State),
    s.power = .active →
    s.on (IC_CPU_STAT_NS core) = false →
    ringBad s 4 = false →
    s.on (FW_RING_CFG_EN 4) = true →
    mayStore s core (FW_RING_CFG_KICK 4).addr →
    ∃ t, exec (.subKick core) s = .next t ∧
      t.resp = ⟨0, false⟩ ∧
      t.fw = { s.fw with subWait := true } ∧
      (t.pm = { s.pm with loads := if s.on FW_CTL_EN ∧ Load.fwe ∉ s.pm.loads then s.pm.loads ++ [Load.fwe] else s.pm.loads }) ∧
      Frame s t [PM_STAT_LLVL, PM_STAT_LEVEL] [.resp, .fw, .pm, .emitted] []) ∧
  (∀ (fault : Fin 6) (word : Fin 16) (d w1 : Nat) (s : State),
    s.power ≠ .off →
    s.on FW_CTL_EN = true →
    s.fw.subWait = true →
    s.fw.work = [] →
    s.on (FW_RING_CFG_EN 4) = true →
    ringHead s 4 = d →
    inSram d 16 = true →
    sramWaits s d 16 = false →
    (inSram (s.memWord d).toNat (w1 % 2048) && sramWaits s (s.memWord d).toNat (w1 % 2048)) = false →
    (s.memWord (d + 4)).toNat = w1 →
    2 ^ 31 ≤ w1 →
    fault ≠ 3 →
    (fault = 1 ∨ w1 % 2048 = 0 ∨ 2043 < w1 % 2048) →
    ∃ t, exec (.submission ⟨fault, word⟩) s = .next t ∧
      t.memWord (d + 8) = w32 (0x17 * 2 ^ 26 + (s.memWord (d + 8)).toNat % 512) ∧
      t.memWord (d + 4) = w32 (w1 % 2 ^ 31) ∧
      (t.get (FW_RING_HEAD_HEAD 4) = if s.get (FW_RING_CFG_COUNT 4) ≤ s.get (FW_RING_HEAD_HEAD 4) + 1 then 0 else s.get (FW_RING_HEAD_HEAD 4) + 1) ∧
      Raised s t FW_INT_STAT_SUB ∧
      Counted s t FW_CNT1_SUBMITTED ∧
      t.emitted.getLast? = (s.emit 85).emitted.getLast? ∧
      Frame s t ([FW_RING_HEAD_HEAD 4, FW_CNT1_SUBMITTED] ++ (FW_INT_STAT_SUB :: latchOf FW_INT_STAT_SUB)) [.emitted] [(d + 4, 8)]) ∧
  (∀ (fault : Fin 6) (word : Fin 16) (d w1 buf n : Nat) (s : State),
    s.power ≠ .off →
    s.on FW_CTL_EN = true →
    s.fw.subWait = true →
    s.fw.work = [] →
    s.on (FW_RING_CFG_EN 4) = true →
    ringHead s 4 = d →
    inSram d 16 = true →
    sramWaits s d 16 = false →
    (inSram (s.memWord d).toNat (w1 % 2048) && sramWaits s (s.memWord d).toNat (w1 % 2048)) = false →
    (s.memWord (d + 4)).toNat = w1 →
    2 ^ 31 ≤ w1 →
    fault = 0 →
    (s.memWord d).toNat = buf →
    n = w1 % 2048 →
    0 < n →
    n ≤ 128 →
    inSram buf n = true →
    bitOf w1 30 = true →
    bitOf w1 29 = false →
    bitOf w1 28 = false →
    s.fw.freeNext < 4096 →
    0 < freeCells s →
    (buf + n ≤ d ∨ d + 16 ≤ buf) →
    ∃ t, exec (.submission ⟨fault, word⟩) s = .next t ∧
      t.memWord (d + 8) = w32 (s.fw.freeNext * 2 ^ 12 + (s.memWord (d + 8)).toNat % 512) ∧
      t.memWord (d + 4) = w32 (w1 % 2 ^ 31) ∧
      (t.get (FW_RING_HEAD_HEAD 4) = if s.get (FW_RING_CFG_COUNT 4) ≤ s.get (FW_RING_HEAD_HEAD 4) + 1 then 0 else s.get (FW_RING_HEAD_HEAD 4) + 1) ∧
      Raised s t FW_INT_STAT_SUB ∧
      Counted s t FW_CNT1_SUBMITTED ∧
      t.emitted.getLast? = (s.emit 85).emitted.getLast? ∧
      ((t.frame s.fw.freeNext).map (fun f => (f.use, f.len, f.cells)) = some (4, n, [s.fw.freeNext])) ∧
      t.bytes (cellAddr s.fw.freeNext) n = s.bytes buf n ∧
      t.fw = { s.fw with freeNext := s.fw.freeNext + 1, frames := t.fw.frames } ∧
      (∀ k : Fin 4096, k.val ≠ s.fw.freeNext → t.frame k = s.frame k) ∧
      Frame s t ([FW_RING_HEAD_HEAD 4, FW_CNT1_SUBMITTED] ++ (FW_INT_STAT_SUB :: latchOf FW_INT_STAT_SUB) ++ (FW_FS_INT_STAT_LOWFREE :: latchOf FW_FS_INT_STAT_LOWFREE)) [.fw, .emitted] [(d + 4, 8), (cellAddr s.fw.freeNext, n)]) ∧
  (∀ (fault : Fin 6) (word : Fin 16) (d w1 : Nat) (s : State),
    s.power ≠ .off →
    s.on FW_CTL_EN = true →
    s.fw.subWait = true →
    s.fw.work = [] →
    s.on (FW_RING_CFG_EN 4) = true →
    ringHead s 4 = d →
    inSram d 16 = true →
    sramWaits s d 16 = false →
    (inSram (s.memWord d).toNat (w1 % 2048) && sramWaits s (s.memWord d).toNat (w1 % 2048)) = false →
    (s.memWord (d + 4)).toNat = w1 →
    2 ^ 31 ≤ w1 →
    ∃ t, exec (.submission ⟨fault, word⟩) s = .next t ∧
      t.memWord (d + 4) = w32 (w1 % 2 ^ 31) ∧
      (t.get (FW_RING_HEAD_HEAD 4) = if s.get (FW_RING_CFG_COUNT 4) ≤ s.get (FW_RING_HEAD_HEAD 4) + 1 then 0 else s.get (FW_RING_HEAD_HEAD 4) + 1) ∧
      Counted s t FW_CNT1_SUBMITTED ∧
      t.on FW_INT_STAT_SUB = true ∧
      t.emitted.getLast? = (s.emit 85).emitted.getLast? ∧
      t.fw.subWait = true) ∧
  (∀ (core : Cpu) (cell : BitVec 12) (f : FrameS) (s : State),
    s.power = .active →
    s.frame cell.toNat = some f →
    f.use = 4 →
    mayStore s core A_FW_SUB_FREE →
    ∃ t, exec (.subFree core cell) s = .next t ∧
      t.resp = ⟨0, false⟩ ∧
      (t.fw = { s.fw with frames := assocDel s.fw.frames cell.toNat, freed := s.fw.freed ++ f.cells, nonbr := if f.snbv then s.fw.nonbr else s.fw.nonbr - f.charged, work := s.fw.work.filter (· != cell.toNat), waiting := (s.fw.waiting.map fun l => l.filter (· != cell.toNat)) }) ∧
      (t.get (NB_W14_INCELLS f.snbr) = if f.snbv then s.get (NB_W14_INCELLS f.snbr) - f.charged else s.get (NB_W14_INCELLS f.snbr)) ∧
      (t.ls = { s.ls with threads := s.ls.threads.map fun h => { h with txf := h.txf.map fun x => if x.cell = some cell.toNat then { x with cell := none } else x } }) ∧
      Frame s t [NB_W14_INCELLS f.snbr] [.resp, .fw, .ls] []) ∧
  (∀ (core : Cpu) (s : State),
    s.power = .active →
    s.on (IC_CPU_STAT_NS core) = false →
    s.on FW_CTL_EN = true →
    mayStore s core FW_CTL_EN.addr →
    ∃ t, exec (.fwDisable core) s = .next t ∧
      t.resp = ⟨0, false⟩ ∧
      t.on FW_CTL_EN = false ∧
      t.fw = { s.fw with inProc := !s.fw.work.isEmpty } ∧
      Frame s t [FW_CTL_EN] [.resp, .fw] []) ∧
  (∀ (s : State),
    s.power ≠ .off →
    s.on FW_CTL_EN = false →
    s.fw.inProc = false →
    ringBusy s = false →
    ∃ t, exec .fwDisableDone s = .next t ∧
      t.on FW_CTL_EN_ACK = false ∧
      Frame s t [FW_CTL_EN_ACK] [] [])

/-- R306: at the end of an aging period a learned route ages, and one of age 15 is removed. R307, Root profile: ALLOC takes the lowest free identifier, FREE clears its admission, route and neighbour link. R308, Root profile: a rollover keeps the old key index and slot in FW_KPREV, writes W3 of the broadcast entry and starts the hold, at whose end FW_KPREV.EN clears. Aging is stated for every route, in a register list of canonical form. -/
def Obligations.RoutesIdentifiersAndKeysAreKept : Prop :=
  (∀  (x : Nat) (s : State),
    s.power ≠ .off →
    ageDue s = true →
    routesUsed s = [x] →
    s.on (NB_ROUTE_RV x) = true →
    s.on (NB_ROUTE_LEARNED x) = true →
    ∃ t, exec .routeAging s = .next t ∧
      t.on (NB_ROUTE_RV x) = decide (s.get (NB_ROUTE_AGE x) ≠ 15) ∧
      t.on (NB_ROUTE_LEARNED x) = decide (s.get (NB_ROUTE_AGE x) ≠ 15) ∧
      (t.get (NB_ROUTE_AGE x) = if s.get (NB_ROUTE_AGE x) = 15 then 0 else s.get (NB_ROUTE_AGE x) + 1) ∧
      t.fw = { s.fw with ageNext := s.fw.ageNext + s.get FW_AGE_PERIOD * 200000000 } ∧
      Frame s t [NB_ROUTE_RV x, NB_ROUTE_LEARNED x, NB_ROUTE_AGE x] [.fw] []) ∧
  (∀ (s : State),
    s.power ≠ .off →
    ageDue s = true →
    Registers.wf s.regs →
    ∃ t, exec .routeAging s = .next t ∧
      (∀ x : Fin 4096, let old := s.on (NB_ROUTE_RV x) && s.on (NB_ROUTE_LEARNED x)
      let age := s.get (NB_ROUTE_AGE x)
      t.on (NB_ROUTE_RV x) = (s.on (NB_ROUTE_RV x) && !(old && age == 15)) ∧ t.on (NB_ROUTE_LEARNED x) = (s.on (NB_ROUTE_LEARNED x) && !(old && age == 15)) ∧
      t.get (NB_ROUTE_AGE x) = if old then (if age = 15 then 0 else age + 1) else age) ∧
      t.fw = { s.fw with ageNext := s.fw.ageNext + s.get FW_AGE_PERIOD * 200000000 } ∧
      (Frame s t ((List.range 4096).flatMap fun x => [NB_ROUTE_RV x, NB_ROUTE_LEARNED x, NB_ROUTE_AGE x]) [.fw] [])) ∧
  (∀ (core : Cpu) (x : Nat) (s : State),
    s.power = .active →
    s.on (IC_CPU_STAT_NS core) = false →
    s.profile = 2 →
    1 ≤ x →
    x ≤ 0xFFE →
    s.on (NB_ROUTE_ADM x) = false →
    s.on (NB_ROUTE_RV x) = false →
    s.on (NB_ROUTE_NV x) = false →
    (∀ y : Fin 4096, 1 ≤ y.val → y.val < x → s.on (NB_ROUTE_ADM y) = true ∨ s.on (NB_ROUTE_RV y) = true ∨ s.on (NB_ROUTE_NV y) = true) →
    mayStore s core A_FW_DOM_CMD →
    ∃ t, exec (.alloc core) s = .next t ∧
      t.resp = ⟨0, false⟩ ∧
      t.on (NB_ROUTE_ADM x) = true ∧
      t.get FW_DOM_STAT_ID = x ∧
      t.on FW_DOM_STAT_VALID = true ∧
      t.on FW_DOM_STAT_FULL = false ∧
      Frame s t [NB_ROUTE_ADM x, FW_DOM_STAT_ID, FW_DOM_STAT_VALID, FW_DOM_STAT_FULL] [.resp] []) ∧
  (∀ (core : Cpu) (id : BitVec 12) (s : State),
    s.power = .active →
    s.on (IC_CPU_STAT_NS core) = false →
    s.profile = 2 →
    id.toNat ≠ 0 →
    id.toNat ≠ 0xFFF →
    mayStore s core A_FW_DOM_CMD →
    ∃ t, exec (.free core id) s = .next t ∧
      t.resp = ⟨0, false⟩ ∧
      t.on (NB_ROUTE_ADM id.toNat) = false ∧
      t.on (NB_ROUTE_RV id.toNat) = false ∧
      t.on (NB_ROUTE_NV id.toNat) = false ∧
      Frame s t [NB_ROUTE_ADM id.toNat, NB_ROUTE_RV id.toNat, NB_ROUTE_NV id.toNat] [.resp] []) ∧
  (∀ (w3 : Word) (b : Nat) (d : RegDesc) (s : State),
    s.power ≠ .off →
    s.profile = 2 →
    s.get FW_CFG_BCIDX = b →
    findReg (A_NB_W3 b) = some d →
    s.on (NB_W0_VALID b) = true →
    s.on (NB_W0_CHILD b) = false →
    (s.setReg (A_NB_W3 b) w3).get (NB_W3_TXLVL b) ≠ 0 →
    ∃ t, exec (.keyRollover w3) s = .next t ∧
      t.get FW_KPREV_KIDX = s.get (NB_W3_RXKIDX b) ∧
      t.get FW_KPREV_KS = s.get (NB_W3_RXKS b) ∧
      t.on FW_KPREV_EN = true ∧
      (∀ i : Fin 32, (t.reg (A_NB_W3 b)).getLsbD i.val = if (d.rw ||| d.lk).getLsbD i.val then w3.getLsbD i.val else (s.reg (A_NB_W3 b)).getLsbD i.val) ∧
      t.fw = { s.fw with kprevEnd := some (s.now + s.get FW_KPREV_HOLD * 3200000000) } ∧
      Frame s t [FW_KPREV_KIDX, FW_KPREV_KS, FW_KPREV_EN, wordAt (A_NB_W3 b)] [.fw] []) ∧
  (∀  (e : Nat) (s : State),
    s.power ≠ .off →
    s.fw.kprevEnd = some e →
    e ≤ s.now →
    ∃ t, exec .kprevExpire s = .next t ∧
      t.on FW_KPREV_EN = false ∧
      t.fw = { s.fw with kprevEnd := none } ∧
      Frame s t [FW_KPREV_EN] [.fw] [])

/-- R340 to R342: LOAD takes the key from the buffer where every word of its size has been written, else KEYERR; CLEAR empties the slot; attributes of an empty slot take the written value. R355: START queues a job, the head of the queue enters the datapath with its parameters and its key. R348 to R350: a job whose accesses succeed writes its output and its tag and ends with DONE. R357, R358: ABORT ends a queued job with ABORTED and else sets ABORT_LATE; clearing CE_CTL.EN clears EN_ACK. -/
def Obligations.KeySlotsAndCipherJobs : Prop :=
  (∀ (core : Cpu) (n : Fin 64) (s : State),
    s.power = .active →
    bitOf (s.get (CE_KS_ATTR_CORES n)) core = true →
    (s.on (CE_KS_ATTR_SEC n) = false ∨ s.on (IC_CPU_STAT_NS core) = false) →
    s.ce.slots.length = 64 →
    (((s.slot n).buf.take (if s.on (CE_KS_ATTR_SIZE n) then 8 else 4)).all (·.isSome) = true) →
    mayStore s core (A_CE_KS_CMD n) →
    ∃ t, exec (.load core n) s = .next t ∧
      t.resp = ⟨0, false⟩ ∧
      t.on (CE_KS_ATTR_VALID n) = true ∧
      t.on (CE_KS_ATTR_WRAPPED n) = false ∧
      (t.ce = { s.ce with slots := s.ce.slots.set n { key := (((s.slot n).buf.take (if s.on (CE_KS_ATTR_SIZE n) then 8 else 4)).flatMap fun w => natBE 4 (w.getD 0).toNat), buf := List.replicate 8 none } }) ∧
      Frame s t [CE_KS_ATTR_VALID n, CE_KS_ATTR_WRAPPED n] [.resp, .ce] []) ∧
  (∀ (core : Cpu) (n : Fin 64) (s : State),
    s.power = .active →
    bitOf (s.get (CE_KS_ATTR_CORES n)) core = true →
    (s.on (CE_KS_ATTR_SEC n) = false ∨ s.on (IC_CPU_STAT_NS core) = false) →
    s.ce.slots.length = 64 →
    (((s.slot n).buf.take (if s.on (CE_KS_ATTR_SIZE n) then 8 else 4)).all (·.isSome) = false) →
    mayStore s core (A_CE_KS_CMD n) →
    ∃ t, exec (.load core n) s = .next t ∧
      t.resp = ⟨0, false⟩ ∧
      Raised s t CE_INT_STAT_KEYERR ∧
      t.ce = { s.ce with slots := s.ce.slots.set n { s.slot n with buf := List.replicate 8 none } } ∧
      Frame s t ((CE_INT_STAT_KEYERR) :: latchOf (CE_INT_STAT_KEYERR)) [.resp, .ce] []) ∧
  (∀ (core : Cpu) (n : Fin 64) (s : State),
    s.power = .active →
    bitOf (s.get (CE_KS_ATTR_CORES n)) core = true →
    (s.on (CE_KS_ATTR_SEC n) = false ∨ s.on (IC_CPU_STAT_NS core) = false) →
    s.ce.slots.length = 64 →
    mayStore s core (A_CE_KS_CMD n) →
    ∃ t, exec (.clear core n) s = .next t ∧
      t.resp = ⟨0, false⟩ ∧
      t.on (CE_KS_ATTR_VALID n) = false ∧
      t.on (CE_KS_ATTR_WRAPPED n) = false ∧
      t.ce = { s.ce with slots := s.ce.slots.set n SlotS.reset } ∧
      Frame s t [CE_KS_ATTR_VALID n, CE_KS_ATTR_WRAPPED n] [.resp, .ce] []) ∧
  (∀ (core : Cpu) (n : Fin 64) (v : Word) (d : RegDesc) (s : State),
    s.power = .active →
    bitOf (s.get (CE_KS_ATTR_CORES n)) core = true →
    (s.on (CE_KS_ATTR_SEC n) = false ∨ s.on (IC_CPU_STAT_NS core) = false) →
    s.on (CE_KS_ATTR_VALID n) = false →
    findReg (A_CE_KS_ATTR n) = some d →
    mayStore s core (A_CE_KS_ATTR n) →
    ∃ t, exec (.ksAttrWrite core n v) s = .next t ∧
      t.resp = ⟨0, false⟩ ∧
      (∀ b : Fin 32, (t.reg (A_CE_KS_ATTR n)).getLsbD b.val =
        (if (d.rw ||| d.lk).getLsbD b.val then v.getLsbD b.val else (s.reg (A_CE_KS_ATTR n)).getLsbD b.val)) ∧
      Frame s t [wordAt (A_CE_KS_ATTR n)] [.resp] []) ∧
  (∀ (core : Cpu) (c : Cpu) (s : State),
    s.power = .active →
    core = c →
    s.on CE_CTL_EN = true →
    s.ce.jobs.length = 4 →
    (s.get (CE_J_STAT_STATE c) = 0 ∨ s.get (CE_J_STAT_STATE c) = 3) →
    mayStore s core (CE_J_CTL_START c).addr →
    ∃ t, exec (.ceStart core c) s = .next t ∧
      t.resp = ⟨0, false⟩ ∧
      t.get (CE_J_STAT_STATE c) = 1 ∧
      t.get (CE_J_STAT_CODE c) = 0 ∧
      t.on (CE_J_STAT_ABORT_LATE c) = false ∧
      t.ce = { s.ce with jobs := s.ce.jobs.set c { JobS.reset with ns := s.on (IC_CPU_STAT_NS core) }, queue := s.ce.queue ++ [c.val] } ∧
      Frame s t [CE_J_STAT_STATE c, CE_J_STAT_CODE c, CE_J_STAT_ABORT_LATE c] [.resp, .ce] []) ∧
  (∀ (c : Cpu) (ecc : Bool) (q : List Nat) (l : Nat) (s : State),
    s.power ≠ .off →
    s.get (CE_J_STAT_STATE c) = 1 →
    s.ce.queue = c.val :: q →
    c.val ∉ q →
    (∀ k : Fin 4, s.get (CE_J_STAT_STATE k) ≠ 2) →
    s.fitLevel (some (.ce c.val)) = some l →
    s.pm.held = [] →
    jobBadParam (ceParams s c) = false →
    jobBadLength s (ceParams s c) = false →
    ecc = false →
    slotUsable s c (s.get (CE_J_CTL_KS c)) (ceParams s c).mode (ceParams s c).ns = true →
    s.ce.jobs.length = 4 →
    ∃ t, exec (.ceJobRun c ecc) s = .next t ∧
      t.get (CE_J_STAT_STATE c) = 2 ∧
      (t.ce = { s.ce with jobs := s.ce.jobs.set c { ceParams s c with key := (s.slot (s.get (CE_J_CTL_KS c))).key, reach := refusedAt s (ceParams s c).ns (ceParams s c).dst (if (ceParams s c).mode = 5 ∨ (ceParams s c).mode = 6 then 0 else (ceParams s c).plen) }, queue := q }) ∧
      t.pm = { s.pm with loads := s.pm.loads ++ [.ce c.val] } ∧
      t.get PM_STAT_LLVL = l ∧
      t.on PM_STAT_PEAK_HOLD = false ∧
      Frame s t ([CE_J_STAT_STATE c] ++ [PM_STAT_PEAK_HOLD, PM_STAT_LLVL, PM_STAT_LEVEL]) [.ce, .pm, .emitted] []) ∧
  (∀ (c : Cpu) (bus : Bool) (s : State),
    s.power ≠ .off →
    s.get (CE_J_STAT_STATE c) = 2 →
    s.get PM_STAT_LEVEL ≠ 2 →
    bus = false →
    (s.job c).ns = false →
    memBusy s (s.job c).src (s.job c).plen = false →
    memBusy s (s.job c).aad (s.job c).alen = false →
    memBusy s (s.job c).dst (s.job c).plen = false →
    1 ≤ (s.job c).mode →
    (s.job c).mode ≤ 4 →
    ((s.job c).dir = true → (jobResult (s.job c) (octets (s.bytes (s.job c).aad (s.job c).alen)) (octets (s.bytes (s.job c).src (s.job c).plen))).2.2 = true) →
    0x20000000 ≤ (s.job c).dst →
    s.ce.jobs.length = 4 →
    ∃ t, exec (.ceJobEnd c bus) s = .next t ∧
      t.bytes (s.job c).dst (jobResult (s.job c) (octets (s.bytes (s.job c).aad (s.job c).alen)) (octets (s.bytes (s.job c).src (s.job c).plen))).1.length = bytesOf (jobResult (s.job c) (octets (s.bytes (s.job c).aad (s.job c).alen)) (octets (s.bytes (s.job c).src (s.job c).plen))).1 ∧
      ((s.job c).dir = false → (s.job c).mode ≠ 4 → ∀ k : Fin 4, t.reg (A_CE_J_TAG c k) = w32 (beNat ((((jobResult (s.job c) (octets (s.bytes (s.job c).aad (s.job c).alen)) (octets (s.bytes (s.job c).src (s.job c).plen))).2.1 ++ List.replicate (16 - (jobResult (s.job c) (octets (s.bytes (s.job c).aad (s.job c).alen)) (octets (s.bytes (s.job c).src (s.job c).plen))).2.1.length) 0).drop (4 * k.val)).take 4))) ∧
      ((s.job c).dir = true ∨ (s.job c).mode = 4 → ∀ k : Fin 4, t.reg (A_CE_J_TAG c k) = s.reg (A_CE_J_TAG c k)) ∧
      t.get (CE_J_STAT_STATE c) = 3 ∧
      t.get (CE_J_STAT_CODE c) = 1 ∧
      Counted s t CE_CNT0_JOBS ∧
      Raised s t (CE_INT_STAT_DONE.bit c) ∧
      t.emitted.getLast? = (s.emit (88 + c)).emitted.getLast? ∧
      t.ce = { s.ce with jobs := s.ce.jobs.set c JobS.reset, queue := s.ce.queue.filter (· != c.val) } ∧
      t.pm = { s.pm with loads := s.pm.loads.filter (· != .ce c.val), held := s.pm.held.filter (· != .ce c.val) } ∧
      (Frame s t ([CE_J_STAT_STATE c, CE_J_STAT_CODE c, CE_CNT0_JOBS] ++ [PM_STAT_PEAK_HOLD, PM_STAT_LLVL, PM_STAT_LEVEL] ++ (CE_INT_STAT_DONE.bit c :: latchOf (CE_INT_STAT_DONE.bit c)) ++ (List.range 4).map fun k => wordAt (A_CE_J_TAG c k)) [.ce, .pm, .emitted] [((s.job c).dst, (jobResult (s.job c) (octets (s.bytes (s.job c).aad (s.job c).alen)) (octets (s.bytes (s.job c).src (s.job c).plen))).1.length)])) ∧
  (∀ (core : Cpu) (c : Cpu) (s : State),
    s.power = .active →
    core = c →
    s.get (CE_J_STAT_STATE c) = 1 →
    s.ce.jobs.length = 4 →
    mayStore s core (CE_J_CTL_ABORT c).addr →
    ∃ t, exec (.ceAbort core c) s = .next t ∧
      t.resp = ⟨0, false⟩ ∧
      t.get (CE_J_STAT_STATE c) = 3 ∧
      t.get (CE_J_STAT_CODE c) = 6 ∧
      Counted s t CE_CNT0_JOBS ∧
      Raised s t (CE_INT_STAT_ERR.bit c) ∧
      t.emitted.getLast? = (s.emit (88 + c)).emitted.getLast? ∧
      t.ce = { s.ce with jobs := s.ce.jobs.set c JobS.reset, queue := s.ce.queue.filter (· != c.val) } ∧
      t.pm = { s.pm with loads := s.pm.loads.filter (· != .ce c.val), held := s.pm.held.filter (· != .ce c.val) } ∧
      Frame s t ([CE_J_STAT_STATE c, CE_J_STAT_CODE c, CE_CNT0_JOBS] ++ [PM_STAT_PEAK_HOLD, PM_STAT_LLVL, PM_STAT_LEVEL] ++ (CE_INT_STAT_ERR.bit c :: latchOf (CE_INT_STAT_ERR.bit c))) [.resp, .ce, .pm, .emitted] []) ∧
  (∀ (core : Cpu) (c : Cpu) (s : State),
    s.power = .active →
    core = c →
    s.get (CE_J_STAT_STATE c) = 2 →
    (s.job c).reach ≤ refusedAt s (s.job c).ns (s.job c).dst (s.job c).plen →
    s.ce.jobs.length = 4 →
    mayStore s core (CE_J_CTL_ABORT c).addr →
    ∃ t, exec (.ceAbort core c) s = .next t ∧
      t.resp = ⟨0, false⟩ ∧
      (∀ i ∈ List.range (s.job c).plen, t.byte ((s.job c).dst + i) = s.byte ((s.job c).dst + i) ∨ (ceStreams (s.job c) = true ∧ t.byte ((s.job c).dst + i) = 0)) ∧
      t.get (CE_J_STAT_STATE c) = 3 ∧
      t.get (CE_J_STAT_CODE c) = 6 ∧
      Counted s t CE_CNT0_JOBS ∧
      Raised s t (CE_INT_STAT_ERR.bit c) ∧
      t.emitted.getLast? = (s.emit (88 + c)).emitted.getLast? ∧
      t.ce = { s.ce with jobs := s.ce.jobs.set c JobS.reset, queue := s.ce.queue.filter (· != c.val) } ∧
      t.pm = { s.pm with loads := s.pm.loads.filter (· != .ce c.val), held := s.pm.held.filter (· != .ce c.val) } ∧
      Frame s t ([CE_J_STAT_STATE c, CE_J_STAT_CODE c, CE_CNT0_JOBS] ++ [PM_STAT_PEAK_HOLD, PM_STAT_LLVL, PM_STAT_LEVEL] ++ (CE_INT_STAT_ERR.bit c :: latchOf (CE_INT_STAT_ERR.bit c))) [.resp, .ce, .pm, .emitted, .free, .reservations] [((s.job c).dst, (s.job c).plen)]) ∧
  (∀ (core : Cpu) (c : Cpu) (s : State),
    s.power = .active →
    core = c →
    (s.get (CE_J_STAT_STATE c) = 0 ∨ s.get (CE_J_STAT_STATE c) = 3) →
    mayStore s core (CE_J_CTL_ABORT c).addr →
    ∃ t, exec (.ceAbort core c) s = .next t ∧
      t.resp = ⟨0, false⟩ ∧
      t.on (CE_J_STAT_ABORT_LATE c) = true ∧
      Frame s t [CE_J_STAT_ABORT_LATE c] [.resp] []) ∧
  (∀ (core : Cpu) (s : State),
    s.power = .active →
    s.on CE_CTL_EN = true →
    s.ce.jobs.length = 4 →
    (∀ c : Fin 4, (s.job c).reach ≤ refusedAt s (s.job c).ns (s.job c).dst (s.job c).plen) →
    mayStore s core CE_CTL_EN.addr →
    ∃ t, exec (.ceDisable core) s = .next t ∧
      t.resp = ⟨0, false⟩ ∧
      t.on CE_CTL_EN = false ∧
      t.on CE_CTL_EN_ACK = false ∧
      (∀ c : Fin 4, if s.get (CE_J_STAT_STATE c) = 1 ∨ s.get (CE_J_STAT_STATE c) = 2 then t.get (CE_J_STAT_STATE c) = 3 ∧ t.get (CE_J_STAT_CODE c) = 7 ∧ Raised s t (CE_INT_STAT_ERR.bit c) ∧ c.val ∉ t.ce.queue else t.reg (A_CE_J_STAT c) = s.reg (A_CE_J_STAT c)) ∧
      (Frame s t ([CE_CTL_EN, CE_CTL_EN_ACK, CE_CNT0_JOBS] ++ [PM_STAT_PEAK_HOLD, PM_STAT_LLVL, PM_STAT_LEVEL] ++ ((List.range 4).flatMap fun c => CE_J_STAT_STATE c :: CE_J_STAT_CODE c :: CE_INT_STAT_ERR.bit c :: latchOf (CE_INT_STAT_ERR.bit c))) [.resp, .ce, .pm, .emitted, .free, .reservations] ((List.range 4).map fun c => ((s.job c).dst, (s.job c).plen))))

/-- R362, R364: START queues a job, the head of the queue takes its parameters and its key and runs. R367, R371: a job whose accesses succeed writes the output of its mode and ends with DONE; VERIFY ends with DONE or REJECT as the signature is good by ML-DSA-44. R369, R372: CLEAR1, ABORT, disable. R373, R374: 1,024 raw bits in which both tests pass make a word of the pool; 41 identical bits in a row fail the repetition count test, 800 equal ones the adaptive proportion test (the order of the bits and the window are the model's choice, log entry 64); a failure empties the pool and is recorded with its test, and the source restarts through its start-up test. -/
def Obligations.SignatureJobsAndEntropy : Prop :=
  (∀ (core : Cpu) (c : Cpu) (s : State),
    s.power = .active →
    core = c →
    s.on PQ_CTL_EN = true →
    s.pq.jobs.length = 4 →
    (s.get (PQ_J_STAT_STATE c) = 0 ∨ s.get (PQ_J_STAT_STATE c) = 3) →
    mayStore s core (PQ_J_CTL_START c).addr →
    ∃ t, exec (.pqStart core c) s = .next t ∧
      t.resp = ⟨0, false⟩ ∧
      t.get (PQ_J_STAT_STATE c) = 1 ∧
      t.get (PQ_J_STAT_CODE c) = 0 ∧
      t.on (PQ_J_STAT_ABORT_LATE c) = false ∧
      t.get (PQ_J_STAT_ROUNDS c) = 0 ∧
      t.pq = { s.pq with jobs := s.pq.jobs.set c { PqJob.reset with ns := s.on (IC_CPU_STAT_NS core) }, queue := s.pq.queue ++ [c.val] } ∧
      Frame s t [PQ_J_STAT_STATE c, PQ_J_STAT_CODE c, PQ_J_STAT_ABORT_LATE c, PQ_J_STAT_ROUNDS c] [.resp, .pq] []) ∧
  (∀ (c : Cpu) (q : List Nat) (l : Nat) (s : State),
    s.power ≠ .off →
    s.get (PQ_J_STAT_STATE c) = 1 →
    s.pq.queue = c.val :: q →
    c.val ∉ q →
    (∀ k : Fin 4, s.get (PQ_J_STAT_STATE k) ≠ 2) →
    s.fitLevel (some (.pq c.val)) = some l →
    s.pm.held = [] →
    pqBadMode s (pqParams s c) = false →
    (pqSecure (pqParams s c).mode && (pqParams s c).ns) = false →
    pqBadLength (pqParams s c) = false →
    pqBadRange (pqParams s c) = false →
    (pqNeeds (pqParams s c)).map (pqKey s) ≠ some none →
    pqHedged (pqParams s c) = false →
    s.pq.jobs.length = 4 →
    ∃ t, exec (.pqJobRun c) s = .next t ∧
      t.get (PQ_J_STAT_STATE c) = 2 ∧
      t.pq = { s.pq with jobs := s.pq.jobs.set c { pqParams s c with key := (((pqNeeds (pqParams s c)).map (pqKey s)).getD none).getD [], reach := refusedAt s (pqParams s c).ns (pqParams s c).dst (pqOutLen (pqParams s c)) }, queue := q } ∧
      t.pm = { s.pm with loads := s.pm.loads ++ [.pq c.val] } ∧
      t.get PM_STAT_LLVL = l ∧
      t.on PM_STAT_PEAK_HOLD = false ∧
      Frame s t ([PQ_J_STAT_STATE c] ++ [PM_STAT_PEAK_HOLD, PM_STAT_LLVL, PM_STAT_LEVEL]) [.pq, .pm, .emitted] []) ∧
  (∀ (c : Cpu) (rounds : BitVec 8) (bus : Bool) (s : State),
    s.power ≠ .off →
    s.get (PQ_J_STAT_STATE c) = 2 →
    s.get PM_STAT_LEVEL ≠ 2 →
    pqWaits s c = false →
    bus = false →
    (s.pqJob c).ns = false →
    memBusy s (s.pqJob c).dst (pqOutLen (s.pqJob c)) = false →
    (∀ r ∈ pqInputs (s.pqJob c), memBusy s r.1 r.2 = false) →
    s.pq.clear1 = false →
    s.pq.jobs.length = 4 →
    (s.pqJob c).mode ≠ 1 →
    (s.pqJob c).mode ≠ 3 →
    (((s.pqJob c).mode == 2 || (s.pqJob c).mode == 7) && (pqSigned s (s.pqJob c)).2.isNone) = false →
    0x20000000 ≤ (s.pqJob c).dst →
    ∃ t, exec (.pqJobEnd c rounds bus) s = .next t ∧
      t.bytes (s.pqJob c).dst (pqOutput s (s.pqJob c)).length = pqOutput s (s.pqJob c) ∧
      (t.get (PQ_J_STAT_ROUNDS c) = if ((s.pqJob c).mode == 2 || (s.pqJob c).mode == 7) then min (pqSigned s (s.pqJob c)).1 255 else s.get (PQ_J_STAT_ROUNDS c)) ∧
      t.get (PQ_J_STAT_STATE c) = 3 ∧
      t.get (PQ_J_STAT_CODE c) = 1 ∧
      Raised s t (PQ_INT_STAT_DONE.bit c) ∧
      t.emitted.getLast? = (s.emit (92 + c)).emitted.getLast? ∧
      t.pq = { s.pq with jobs := s.pq.jobs.set c PqJob.reset, queue := s.pq.queue.filter (· != c.val) } ∧
      t.pm = { s.pm with loads := s.pm.loads.filter (· != .pq c.val), held := s.pm.held.filter (· != .pq c.val) } ∧
      Frame s t ([PQ_J_STAT_STATE c, PQ_J_STAT_CODE c, PQ_J_STAT_ROUNDS c] ++ [PM_STAT_PEAK_HOLD, PM_STAT_LLVL, PM_STAT_LEVEL] ++ (PQ_INT_STAT_DONE.bit c :: latchOf (PQ_INT_STAT_DONE.bit c))) [.pq, .pm, .emitted] [((s.pqJob c).dst, (pqOutput s (s.pqJob c)).length)]) ∧
  (∀ (c : Cpu) (rounds : BitVec 8) (bus : Bool) (s : State),
    s.power ≠ .off →
    s.get (PQ_J_STAT_STATE c) = 2 →
    s.get PM_STAT_LEVEL ≠ 2 →
    pqWaits s c = false →
    bus = false →
    (s.pqJob c).ns = false →
    memBusy s (s.pqJob c).dst (pqOutLen (s.pqJob c)) = false →
    (∀ r ∈ pqInputs (s.pqJob c), memBusy s r.1 r.2 = false) →
    s.pq.clear1 = false →
    s.pq.jobs.length = 4 →
    (s.pqJob c).mode = 3 →
    ∃ t, exec (.pqJobEnd c rounds bus) s = .next t ∧
      (if mldsaVerify (s.bytes (s.pqJob c).pk 1312) (s.bytes (s.pqJob c).src (s.pqJob c).mlen) (s.bytes (s.pqJob c).ctxa (s.pqJob c).ctxl) (s.bytes (s.pqJob c).sig 2420) = true then Raised s t (PQ_INT_STAT_DONE.bit c) else Raised s t (PQ_INT_STAT_ERR.bit c)) ∧
      t.get (PQ_J_STAT_STATE c) = 3 ∧
      (t.get (PQ_J_STAT_CODE c) = if mldsaVerify (s.bytes (s.pqJob c).pk 1312) (s.bytes (s.pqJob c).src (s.pqJob c).mlen) (s.bytes (s.pqJob c).ctxa (s.pqJob c).ctxl) (s.bytes (s.pqJob c).sig 2420) = true then 1 else 2) ∧
      t.emitted.getLast? = (s.emit (92 + c)).emitted.getLast? ∧
      t.pq = { s.pq with jobs := s.pq.jobs.set c PqJob.reset, queue := s.pq.queue.filter (· != c.val) } ∧
      t.pm = { s.pm with loads := s.pm.loads.filter (· != .pq c.val), held := s.pm.held.filter (· != .pq c.val) } ∧
      Frame s t ([PQ_J_STAT_STATE c, PQ_J_STAT_CODE c] ++ [PM_STAT_PEAK_HOLD, PM_STAT_LLVL, PM_STAT_LEVEL] ++ (PQ_INT_STAT_DONE.bit c :: latchOf (PQ_INT_STAT_DONE.bit c)) ++ (PQ_INT_STAT_ERR.bit c :: latchOf (PQ_INT_STAT_ERR.bit c))) [.pq, .pm, .emitted] []) ∧
  (∀ (core : Cpu) (c : Cpu) (s : State),
    s.power = .active →
    core = c →
    s.get (PQ_J_STAT_STATE c) = 1 →
    s.pq.clear1 = false →
    s.pq.jobs.length = 4 →
    mayStore s core (PQ_J_CTL_ABORT c).addr →
    ∃ t, exec (.pqAbort core c) s = .next t ∧
      t.resp = ⟨0, false⟩ ∧
      t.get (PQ_J_STAT_STATE c) = 3 ∧
      t.get (PQ_J_STAT_CODE c) = 6 ∧
      Raised s t (PQ_INT_STAT_ERR.bit c) ∧
      t.emitted.getLast? = (s.emit (92 + c)).emitted.getLast? ∧
      t.pq = { s.pq with jobs := s.pq.jobs.set c PqJob.reset, queue := s.pq.queue.filter (· != c.val) } ∧
      t.pm = { s.pm with loads := s.pm.loads.filter (· != .pq c.val), held := s.pm.held.filter (· != .pq c.val) } ∧
      Frame s t ([PQ_J_STAT_STATE c, PQ_J_STAT_CODE c] ++ [PM_STAT_PEAK_HOLD, PM_STAT_LLVL, PM_STAT_LEVEL] ++ (PQ_INT_STAT_ERR.bit c :: latchOf (PQ_INT_STAT_ERR.bit c))) [.resp, .pq, .pm, .emitted] []) ∧
  (∀ (core : Cpu) (c : Cpu) (s : State),
    s.power = .active →
    core = c →
    s.get (PQ_J_STAT_STATE c) = 2 →
    s.pq.clear1 = false →
    (s.pqJob c).reach ≤ refusedAt s (s.pqJob c).ns (s.pqJob c).dst (pqOutLen (s.pqJob c)) →
    s.pq.jobs.length = 4 →
    mayStore s core (PQ_J_CTL_ABORT c).addr →
    ∃ t, exec (.pqAbort core c) s = .next t ∧
      t.resp = ⟨0, false⟩ ∧
      (∀ i ∈ List.range (pqOutLen (s.pqJob c)), t.byte ((s.pqJob c).dst + i) = s.byte ((s.pqJob c).dst + i) ∨ t.byte ((s.pqJob c).dst + i) = 0) ∧
      t.get (PQ_J_STAT_ROUNDS c) ≤ (pqSigned s (s.pqJob c)).1 ∧
      t.get (PQ_J_STAT_STATE c) = 3 ∧
      t.get (PQ_J_STAT_CODE c) = 6 ∧
      Raised s t (PQ_INT_STAT_ERR.bit c) ∧
      t.emitted.getLast? = (s.emit (92 + c)).emitted.getLast? ∧
      t.pq = { s.pq with jobs := s.pq.jobs.set c PqJob.reset, queue := s.pq.queue.filter (· != c.val) } ∧
      t.pm = { s.pm with loads := s.pm.loads.filter (· != .pq c.val), held := s.pm.held.filter (· != .pq c.val) } ∧
      Frame s t ([PQ_J_STAT_STATE c, PQ_J_STAT_CODE c, PQ_J_STAT_ROUNDS c] ++ [PM_STAT_PEAK_HOLD, PM_STAT_LLVL, PM_STAT_LEVEL] ++ (PQ_INT_STAT_ERR.bit c :: latchOf (PQ_INT_STAT_ERR.bit c))) [.resp, .pq, .pm, .emitted, .free, .reservations] [((s.pqJob c).dst, pqOutLen (s.pqJob c))]) ∧
  (∀ (core : Cpu) (c : Cpu) (s : State),
    s.power = .active →
    core = c →
    (s.get (PQ_J_STAT_STATE c) = 0 ∨ s.get (PQ_J_STAT_STATE c) = 3) →
    mayStore s core (PQ_J_CTL_ABORT c).addr →
    ∃ t, exec (.pqAbort core c) s = .next t ∧
      t.resp = ⟨0, false⟩ ∧
      t.on (PQ_J_STAT_ABORT_LATE c) = true ∧
      Frame s t [PQ_J_STAT_ABORT_LATE c] [.resp] []) ∧
  (∀ (core : Cpu) (s : State),
    s.power = .active →
    s.on PQ_CTL_EN = true →
    s.pq.jobs.length = 4 →
    s.pq.clear1 = false →
    (∀ c : Fin 4, (s.pqJob c).reach ≤ refusedAt s (s.pqJob c).ns (s.pqJob c).dst (pqOutLen (s.pqJob c))) →
    mayStore s core PQ_CTL_EN.addr →
    ∃ t, exec (.pqDisable core) s = .next t ∧
      t.resp = ⟨0, false⟩ ∧
      t.on PQ_CTL_EN = false ∧
      t.on PQ_CTL_EN_ACK = false ∧
      (∀ c : Fin 4, if s.get (PQ_J_STAT_STATE c) = 1 ∨ s.get (PQ_J_STAT_STATE c) = 2 then t.get (PQ_J_STAT_STATE c) = 3 ∧ t.get (PQ_J_STAT_CODE c) = 7 ∧ Raised s t (PQ_INT_STAT_ERR.bit c) ∧ c.val ∉ t.pq.queue else t.reg (A_PQ_J_STAT c) = s.reg (A_PQ_J_STAT c)) ∧
      (Frame s t ([PQ_CTL_EN, PQ_CTL_EN_ACK] ++ [PM_STAT_PEAK_HOLD, PM_STAT_LLVL, PM_STAT_LEVEL] ++ ((List.range 4).flatMap fun c => PQ_J_STAT_STATE c :: PQ_J_STAT_CODE c :: PQ_J_STAT_ROUNDS c :: PQ_INT_STAT_ERR.bit c :: latchOf (PQ_INT_STAT_ERR.bit c))) [.resp, .pq, .pm, .emitted, .free, .reservations] ((List.range 4).map fun c => ((s.pqJob c).dst, pqOutLen (s.pqJob c))))) ∧
  (∀ (core : Cpu) (s : State),
    s.power = .active →
    s.on (IC_CPU_STAT_NS core) = false →
    pk1InUse s = false →
    mayStore s core A_PQ_PK_CMD →
    ∃ t, exec (.clear1 core) s = .next t ∧
      t.resp = ⟨0, false⟩ ∧
      t.on PQ_STATUS_PK1V = false ∧
      t.pq = { s.pq with pk1 := none, clear1 := false } ∧
      Frame s t [PQ_STATUS_PK1V] [.resp, .pq] []) ∧
  (∀ (core : Cpu) (s : State),
    s.power = .active →
    s.on (IC_CPU_STAT_NS core) = false →
    pk1InUse s = true →
    mayStore s core A_PQ_PK_CMD →
    ∃ t, exec (.clear1 core) s = .next t ∧
      t.resp = ⟨0, false⟩ ∧
      t.pq = { s.pq with clear1 := true } ∧
      Frame s t [] [.resp, .pq] []) ∧
  (∀ (raw : List Byte) (s : State),
    raw.length = 128 →
    s.get PQ_ENT_STAT_STATE = 2 →
    (longestRun s.pq.run s.pq.runBit (rawBits raw)).1 < 41 →
    ((rawBits raw).filter id).length < 800 →
    224 < ((rawBits raw).filter id).length →
    s.pq.pool.length < 4 →
    s.power = .active →
    (∀ c : Fin 4, pqWaits s c = false) →
    ∃ t, exec (.entropyWord raw) s = .next t ∧
      t.pq = { s.pq with pool := s.pq.pool ++ [sha3 raw], run := (longestRun s.pq.run s.pq.runBit (rawBits raw)).2.1, runBit := (longestRun s.pq.run s.pq.runBit (rawBits raw)).2.2 } ∧
      t.get PQ_ENT_STAT_POOL = s.pq.pool.length + 1 ∧
      Counted s t PQ_ENT_CNT_WORDS ∧
      Frame s t [PQ_ENT_CNT_WORDS, PQ_ENT_STAT_POOL] [.pq] []) ∧
  (∀ (raw : List Byte) (c : Fin 4) (s : State),
    raw.length = 128 →
    s.get PQ_ENT_STAT_STATE = 2 →
    (longestRun s.pq.run s.pq.runBit (rawBits raw)).1 < 41 →
    ((rawBits raw).filter id).length < 800 →
    224 < ((rawBits raw).filter id).length →
    s.pq.pool.length < 4 →
    s.power = .active →
    pqWaits s c = true →
    (∀ d : Fin 4, d < c → pqWaits s d = false) →
    s.pq.jobs.length = 4 →
    ∃ t, exec (.entropyWord raw) s = .next t ∧
      (t.pq = { s.pq with pool := (s.pq.pool ++ [sha3 raw]).tail, run := (longestRun s.pq.run s.pq.runBit (rawBits raw)).2.1, runBit := (longestRun s.pq.run s.pq.runBit (rawBits raw)).2.2, jobs := s.pq.jobs.set c { s.pqJob c with rnd := (s.pq.pool ++ [sha3 raw]).head? } }) ∧
      Counted s t PQ_ENT_CNT_WORDS ∧
      Frame s t [PQ_ENT_CNT_WORDS, PQ_ENT_STAT_POOL] [.pq] []) ∧
  (∀ (raw : List Byte) (s : State),
    raw.length = 128 →
    s.get PQ_ENT_STAT_STATE = 2 →
    s.power = .active →
    (∀ c : Fin 4, pqWaits s c = false) →
    s.fc.queue.length < 16 →
    41 ≤ (longestRun s.pq.run s.pq.runBit (rawBits raw)).1 →
    ∃ t, exec (.entropyWord raw) s = .next t ∧
      t.get PQ_ENT_STAT_STATE = 3 ∧
      t.on PQ_ENT_STAT_RCT = true ∧
      t.on PQ_ENT_STAT_APT = false ∧
      t.get PQ_ENT_STAT_POOL = 0 ∧
      Counted s t PQ_ENT_CNT_FAILS ∧
      Raised s t PQ_INT_STAT_ENT_FAIL ∧
      t.pq = { s.pq with pool := [], run := (longestRun s.pq.run s.pq.runBit (rawBits raw)).2.1, runBit := (longestRun s.pq.run s.pq.runBit (rawBits raw)).2.2 } ∧
      t.fc = { s.fc with queue := s.fc.queue ++ [⟨0xD1000000, 0, w32 s.now⟩] } ∧
      Counted s t FC_CNT0_RECORDS ∧
      Raised s t FC_INT_STAT_REC ∧
      t.emitted = (s.emit 155).emitted ∧
      Frame s t ([PQ_ENT_STAT_STATE, PQ_ENT_STAT_RCT, PQ_ENT_STAT_APT, PQ_ENT_STAT_POOL, PQ_ENT_CNT_FAILS, FC_CNT0_RECORDS] ++ ((PQ_INT_STAT_ENT_FAIL) :: latchOf (PQ_INT_STAT_ENT_FAIL)) ++ ((FC_INT_STAT_REC) :: latchOf (FC_INT_STAT_REC))) [.pq, .fc, .emitted] []) ∧
  (∀ (raw : List Byte) (s : State),
    raw.length = 128 →
    s.get PQ_ENT_STAT_STATE = 2 →
    s.power = .active →
    (∀ c : Fin 4, pqWaits s c = false) →
    s.fc.queue.length < 16 →
    (longestRun s.pq.run s.pq.runBit (rawBits raw)).1 < 41 →
    (800 ≤ ((rawBits raw).filter id).length ∨ ((rawBits raw).filter id).length ≤ 224) →
    ∃ t, exec (.entropyWord raw) s = .next t ∧
      t.get PQ_ENT_STAT_STATE = 3 ∧
      t.on PQ_ENT_STAT_RCT = false ∧
      t.on PQ_ENT_STAT_APT = true ∧
      t.get PQ_ENT_STAT_POOL = 0 ∧
      Counted s t PQ_ENT_CNT_FAILS ∧
      Raised s t PQ_INT_STAT_ENT_FAIL ∧
      t.pq = { s.pq with pool := [], run := (longestRun s.pq.run s.pq.runBit (rawBits raw)).2.1, runBit := (longestRun s.pq.run s.pq.runBit (rawBits raw)).2.2 } ∧
      t.fc = { s.fc with queue := s.fc.queue ++ [⟨0xD2000000, 0, w32 s.now⟩] } ∧
      Counted s t FC_CNT0_RECORDS ∧
      Raised s t FC_INT_STAT_REC ∧
      t.emitted = (s.emit 155).emitted ∧
      Frame s t ([PQ_ENT_STAT_STATE, PQ_ENT_STAT_RCT, PQ_ENT_STAT_APT, PQ_ENT_STAT_POOL, PQ_ENT_CNT_FAILS, FC_CNT0_RECORDS] ++ ((PQ_INT_STAT_ENT_FAIL) :: latchOf (PQ_INT_STAT_ENT_FAIL)) ++ ((FC_INT_STAT_REC) :: latchOf (FC_INT_STAT_REC))) [.pq, .fc, .emitted] []) ∧
  (∀ (rct : Bool) (s : State),
    s.get PQ_ENT_STAT_STATE ≠ 3 →
    s.power = .active →
    (∀ c : Fin 4, pqWaits s c = false) →
    s.fc.queue.length < 16 →
    ∃ t, exec (.entropyFail rct) s = .next t ∧
      t.get PQ_ENT_STAT_STATE = 3 ∧
      t.on PQ_ENT_STAT_RCT = rct ∧
      t.on PQ_ENT_STAT_APT = !rct ∧
      t.get PQ_ENT_STAT_POOL = 0 ∧
      Counted s t PQ_ENT_CNT_FAILS ∧
      Raised s t PQ_INT_STAT_ENT_FAIL ∧
      t.pq = { s.pq with pool := [] } ∧
      (t.fc = { s.fc with queue := s.fc.queue ++ [⟨if rct then 0xD1000000 else 0xD2000000, 0, w32 s.now⟩] }) ∧
      Counted s t FC_CNT0_RECORDS ∧
      Raised s t FC_INT_STAT_REC ∧
      t.emitted = (s.emit 155).emitted ∧
      Frame s t ([PQ_ENT_STAT_STATE, PQ_ENT_STAT_RCT, PQ_ENT_STAT_APT, PQ_ENT_STAT_POOL, PQ_ENT_CNT_FAILS, FC_CNT0_RECORDS] ++ ((PQ_INT_STAT_ENT_FAIL) :: latchOf (PQ_INT_STAT_ENT_FAIL)) ++ ((FC_INT_STAT_REC) :: latchOf (FC_INT_STAT_REC))) [.pq, .fc, .emitted] []) ∧
  (∀ (core : Cpu) (s : State),
    s.power = .active →
    mayStore s core A_PQ_ENT_CTL →
    ∃ t, exec (.restart core) s = .next t ∧
      t.resp = ⟨0, false⟩ ∧
      t.get PQ_ENT_STAT_STATE = 1 ∧
      t.pq = { s.pq with run := 0, runBit := false } ∧
      Frame s t [PQ_ENT_STAT_STATE] [.resp, .pq] []) ∧
  (∀ (s : State),
    s.get PQ_ENT_STAT_STATE = 1 →
    s.power = .active →
    ∃ t, exec .startupTestEnd s = .next t ∧
      t.get PQ_ENT_STAT_STATE = 2 ∧
      Frame s t [PQ_ENT_STAT_STATE] [] [])

/-- R379: an OTP operation that passes its checks runs once the ledger admits it, one that does not ends at once with its RESULT; the end writes the cells and brings PQ_ARB up to date (R378, log entry on PQ_ARB). R413, R414: the boot sequencer loads OTP and the bank states and enters Ivory for the TEST pin, or for want of an image that can be read; once the reset calibration has ended it starts the cores at the entries of the chosen image. RELEASE of an Ivory caused by FLAG restores SP1_CTL, measures and locks (R410, R411). No statement here has a verified image as its case. -/
def Obligations.OtpOperationsAndBoot : Prop :=
  (∀ (core : Cpu) (idx : Fin 4) (l : Nat) (s : State),
    s.power = .active →
    s.on (IC_CPU_STAT_NS core) = false →
    s.locked = false →
    s.on PQ_CTL_OTP_EN = true →
    s.on PQ_OTP_CMD_BUSY = false →
    s.get FL_STAT_STATE < 2 →
    s.pm.held = [] →
    s.fitLevel (some .prog) = some l →
    okhEmpty s idx = true →
    inSram (s.get PQ_OTP_SRC_ADDR) 32 = true →
    allZero (s.bytes (s.get PQ_OTP_SRC_ADDR) 32) = false →
    mayStore s core A_PQ_OTP_CMD →
    ∃ t, exec (.progOkh core idx) s = .next t ∧
      t.resp = ⟨0, false⟩ ∧
      t.on PQ_OTP_CMD_BUSY = true ∧
      t.get PQ_OTP_CMD_RESULT = 0 ∧
      t.get PQ_OTP_CMD_IDX = idx ∧
      t.pq = { s.pq with otp := some { addr := otpOkh idx, data := s.bytes (s.get PQ_OTP_SRC_ADDR) 32, started := true } } ∧
      t.pm = { s.pm with loads := s.pm.loads ++ [.prog] } ∧
      t.get PM_STAT_LLVL = l ∧
      t.on PM_STAT_PEAK_HOLD = false ∧
      Frame s t ([PQ_OTP_CMD_BUSY, PQ_OTP_CMD_RESULT, PQ_OTP_CMD_IDX] ++ [PM_STAT_PEAK_HOLD, PM_STAT_LLVL, PM_STAT_LEVEL]) [.resp, .pq, .pm, .emitted] []) ∧
  (∀ (core : Cpu) (idx : Fin 4) (s : State),
    s.power = .active →
    s.on (IC_CPU_STAT_NS core) = false →
    s.locked = false →
    s.on PQ_CTL_OTP_EN = true →
    s.on PQ_OTP_CMD_BUSY = false →
    okhEmpty s idx = false →
    mayStore s core A_PQ_OTP_CMD →
    ∃ t, exec (.progOkh core idx) s = .next t ∧
      t.resp = ⟨0, false⟩ ∧
      t.on PQ_OTP_CMD_BUSY = false ∧
      t.get PQ_OTP_CMD_RESULT = 2 ∧
      Raised s t PQ_INT_STAT_OTP_DONE ∧
      t.get PQ_OTP_CMD_IDX = idx ∧
      Frame s t ([PQ_OTP_CMD_BUSY, PQ_OTP_CMD_RESULT, PQ_OTP_CMD_IDX] ++ ((PQ_INT_STAT_OTP_DONE) :: latchOf (PQ_INT_STAT_OTP_DONE))) [.resp] []) ∧
  (∀ (core : Cpu) (idx : Fin 4) (l k : Nat) (s : State),
    s.power = .active →
    s.on (IC_CPU_STAT_NS core) = false →
    s.locked = false →
    s.on PQ_CTL_OTP_EN = true →
    s.on PQ_OTP_CMD_BUSY = false →
    s.get FL_STAT_STATE < 2 →
    s.pm.held = [] →
    s.fitLevel (some .prog) = some l →
    okhProgrammed s idx = true →
    (k : Nat) ≠ idx →
    k < 4 →
    okhProgrammed s k = true →
    mayStore s core A_PQ_OTP_CMD →
    ∃ t, exec (.revoke core idx) s = .next t ∧
      t.resp = ⟨0, false⟩ ∧
      t.on PQ_OTP_CMD_BUSY = true ∧
      t.get PQ_OTP_CMD_RESULT = 0 ∧
      t.get PQ_OTP_CMD_IDX = idx ∧
      t.pq = { s.pq with otp := some { addr := otpRevoke, data := natLE 4 (leNat (s.bytes otpRevoke 4) + 2 ^ idx.val), started := true } } ∧
      t.pm = { s.pm with loads := s.pm.loads ++ [.prog] } ∧
      t.get PM_STAT_LLVL = l ∧
      t.on PM_STAT_PEAK_HOLD = false ∧
      Frame s t ([PQ_OTP_CMD_BUSY, PQ_OTP_CMD_RESULT, PQ_OTP_CMD_IDX] ++ [PM_STAT_PEAK_HOLD, PM_STAT_LLVL, PM_STAT_LEVEL]) [.resp, .pq, .pm, .emitted] []) ∧
  (∀ (core : Cpu) (l k : Nat) (s : State),
    s.power = .active →
    s.on (IC_CPU_STAT_NS core) = false →
    s.locked = false →
    s.on PQ_CTL_OTP_EN = true →
    s.on PQ_OTP_CMD_BUSY = false →
    s.get FL_STAT_STATE < 2 →
    s.pm.held = [] →
    s.fitLevel (some .prog) = some l →
    arbValue s < s.get64 PQ_OTP_ARG_LO_ARG PQ_OTP_ARG_HI_ARG →
    s.get64 PQ_OTP_ARG_LO_ARG PQ_OTP_ARG_HI_ARG ≤ s.get64 PQ_ARB_IMG_LO_IMG PQ_ARB_IMG_HI_IMG →
    arbFree s = some k →
    mayStore s core A_PQ_OTP_CMD →
    ∃ t, exec (.arbAdv core) s = .next t ∧
      t.resp = ⟨0, false⟩ ∧
      t.on PQ_OTP_CMD_BUSY = true ∧
      t.get PQ_OTP_CMD_RESULT = 0 ∧
      t.get PQ_OTP_CMD_IDX = 0 ∧
      t.pq = { s.pq with otp := some { addr := otpArb k, data := natLE 8 (s.get64 PQ_OTP_ARG_LO_ARG PQ_OTP_ARG_HI_ARG), started := true } } ∧
      t.pm = { s.pm with loads := s.pm.loads ++ [.prog] } ∧
      t.get PM_STAT_LLVL = l ∧
      t.on PM_STAT_PEAK_HOLD = false ∧
      Frame s t ([PQ_OTP_CMD_BUSY, PQ_OTP_CMD_RESULT, PQ_OTP_CMD_IDX] ++ [PM_STAT_PEAK_HOLD, PM_STAT_LLVL, PM_STAT_LEVEL]) [.resp, .pq, .pm, .emitted] []) ∧
  (∀  (o : OtpOp) (s : State),
    s.power ≠ .off →
    s.pq.otp = some o →
    o.started = true →
    0x1FFF0000 ≤ o.addr →
    o.addr + o.data.length ≤ 0x1FFF2000 →
    ∃ t, exec .otpOpEnd s = .next t ∧
      t.bytes o.addr o.data.length = o.data ∧
      t.get64 PQ_ARB_LO_ARB PQ_ARB_HI_ARB = arbValue t % 2 ^ 64 ∧
      t.pq = { s.pq with otp := none } ∧
      t.pm = { s.pm with loads := s.pm.loads.filter (· != .prog), held := s.pm.held.filter (· != .prog) } ∧
      t.on PQ_OTP_CMD_BUSY = false ∧
      t.get PQ_OTP_CMD_RESULT = 1 ∧
      Raised s t PQ_INT_STAT_OTP_DONE ∧
      Frame s t ([PQ_OTP_CMD_BUSY, PQ_OTP_CMD_RESULT, PQ_ARB_LO_ARB, PQ_ARB_HI_ARB, PM_STAT_PEAK_HOLD, PM_STAT_LLVL, PM_STAT_LEVEL] ++ ((PQ_INT_STAT_OTP_DONE) :: latchOf (PQ_INT_STAT_OTP_DONE))) [.pq, .pm, .emitted] [(o.addr, o.data.length)]) ∧
  (∀ (e : BootEnv) (s : State),
    s.power = .active →
    s.on TB_STATUS_LOCKED = true →
    s.pm.buckWait = false →
    s.bt.stage = 0 →
    s.fl.op = none →
    allZero (s.bytes otpSeed 32) = true →
    s.on (PM_BOOTREC_REC.bit 31) = false →
    s.sp.length = 2 →
    e.test = true →
    bitOf (leNat (s.bytes 0x1FFF0000 4)) 2 = false →
    ∃ t, exec (.boot e) s = .next t ∧
      t.get BT_BOOTCFG_CFG = leNat (s.bytes 0x1FFF0000 4) ∧
      t.get64 LS_EUI_LO_EUI LS_EUI_HI_EUI = leNat (s.bytes 0x1FFF102C 8) ∧
      t.get TB_GD_TRIM_SILICON = Config.gdTrim % 2 ^ TB_GD_TRIM_SILICON.w ∧
      t.get64 PQ_ARB_LO_ARB PQ_ARB_HI_ARB = arbValue s % 2 ^ 64 ∧
      t.reg A_BT_FAIL = s.reg A_PM_BOOTREC ∧
      t.get BT_EINC_A_BLK = flFlags s 0 ∧
      t.get BT_EINC_B_BLK = flFlags s 1 ∧
      t.on BT_STATUS_IVORY = true ∧
      t.on BT_STATUS_WASIVORY = true ∧
      t.get (SP_CTL_MODE 1) = 2 ∧
      t.on (SP_CTL_SSPOL 1) = true ∧
      t.on (SP_CTL_EN 1) = true ∧
      t.on (SP_CTL_EN_ACK 1) = true ∧
      (t.port 1).saved = s.reg (A_SP_CTL 1) ∧
      t.sp = s.sp.set 1 (t.port 1) ∧
      t.get BT_STATUS_IVCAUSE = 1 ∧
      t.on BT_STATUS_TESTPIN = true ∧
      t.get BT_BANK_A = bankState e s 0 ∧
      t.get BT_BANK_B = bankState e s 1 ∧
      t.bt = { s.bt with stage := 1, relPend := false } ∧
      t.pins = { s.pins with test := true, req := t.pins.req, pri := t.pins.pri, antsw := t.pins.antsw, antSel := t.pins.antSel } ∧
      Frame s t ([BT_BOOTCFG_CFG, LS_EUI_LO_EUI, LS_EUI_HI_EUI, TB_GD_TRIM_SILICON, PQ_ARB_LO_ARB, PQ_ARB_HI_ARB, wordAt A_BT_FAIL, PM_BOOTREC_REC, BT_EINC_A_BLK, BT_EINC_B_BLK, BT_BANK_A, BT_BANK_B, BT_STATUS_TESTPIN, BT_STATUS_IVORY, BT_STATUS_IVCAUSE, BT_STATUS_WASIVORY, SP_CTL_MODE 1, SP_CTL_SSPOL 1, SP_CTL_EN 1, SP_CTL_EN_ACK 1, SP_STAT_STATE 1, FL_ECC_CNT_UNCORR, FL_ECC_CNT_CORR, FL_ECC_LOG_ADDR, FL_ECC_LOG_VALID] ++ (FL_INT_STAT_ECC_U :: latchOf FL_INT_STAT_ECC_U) ++ (FL_INT_STAT_ECC_C :: latchOf FL_INT_STAT_ECC_C)) [.bt, .sp, .pins] []) ∧
  (∀ (e : BootEnv) (s : State),
    s.power = .active →
    s.on TB_STATUS_LOCKED = true →
    s.pm.buckWait = false →
    s.bt.stage = 0 →
    s.fl.op = none →
    allZero (s.bytes otpSeed 32) = true →
    s.on (PM_BOOTREC_REC.bit 31) = false →
    s.sp.length = 2 →
    e.test = false →
    headReadable e s 0 = false →
    headReadable e s 1 = false →
    s.bytes 0x1FFF0000 4 = [0, 0, 0, 0] →
    ∃ t, exec (.boot e) s = .next t ∧
      t.get BT_BOOTCFG_CFG = leNat (s.bytes 0x1FFF0000 4) ∧
      t.get64 LS_EUI_LO_EUI LS_EUI_HI_EUI = leNat (s.bytes 0x1FFF102C 8) ∧
      t.get TB_GD_TRIM_SILICON = Config.gdTrim % 2 ^ TB_GD_TRIM_SILICON.w ∧
      t.get64 PQ_ARB_LO_ARB PQ_ARB_HI_ARB = arbValue s % 2 ^ 64 ∧
      t.reg A_BT_FAIL = s.reg A_PM_BOOTREC ∧
      t.get BT_EINC_A_BLK = flFlags s 0 ∧
      t.get BT_EINC_B_BLK = flFlags s 1 ∧
      t.on BT_STATUS_IVORY = true ∧
      t.on BT_STATUS_WASIVORY = true ∧
      t.get (SP_CTL_MODE 1) = 2 ∧
      t.on (SP_CTL_SSPOL 1) = true ∧
      t.on (SP_CTL_EN 1) = true ∧
      t.on (SP_CTL_EN_ACK 1) = true ∧
      (t.port 1).saved = s.reg (A_SP_CTL 1) ∧
      t.sp = s.sp.set 1 (t.port 1) ∧
      t.get BT_STATUS_IVCAUSE = 3 ∧
      t.on BT_STATUS_TESTPIN = false ∧
      t.get BT_STATUS_RESULT = 2 ∧
      t.get BT_BANK_A = 5 ∧
      t.get BT_BANK_B = 5 ∧
      t.bt = { s.bt with stage := 1, relPend := false } ∧
      t.pins = { s.pins with test := false, req := t.pins.req, pri := t.pins.pri, antsw := t.pins.antsw, antSel := t.pins.antSel } ∧
      Frame s t ([BT_BOOTCFG_CFG, LS_EUI_LO_EUI, LS_EUI_HI_EUI, TB_GD_TRIM_SILICON, PQ_ARB_LO_ARB, PQ_ARB_HI_ARB, wordAt A_BT_FAIL, PM_BOOTREC_REC, BT_EINC_A_BLK, BT_EINC_B_BLK, BT_BANK_A, BT_BANK_B, BT_STATUS_TESTPIN, BT_STATUS_IVORY, BT_STATUS_IVCAUSE, BT_STATUS_WASIVORY, SP_CTL_MODE 1, SP_CTL_SSPOL 1, SP_CTL_EN 1, SP_CTL_EN_ACK 1, SP_STAT_STATE 1, BT_STATUS_RESULT, FL_ECC_CNT_UNCORR, FL_ECC_CNT_CORR, FL_ECC_LOG_ADDR, FL_ECC_LOG_VALID] ++ (FL_INT_STAT_ECC_U :: latchOf FL_INT_STAT_ECC_U) ++ (FL_INT_STAT_ECC_C :: latchOf FL_INT_STAT_ECC_C)) [.bt, .sp, .pins] []) ∧
  (∀ (e : BootEnv) (s : State),
    s.power = .active →
    s.on TB_STATUS_LOCKED = true →
    s.pm.buckWait = false →
    s.bt.stage = 2 →
    s.fe.resetCal = 2 →
    (∀ w : Fin 9, s.on (WD_CFG_EN w) = false) →
    s.cores.length = 4 →
    (∀ c : Fin 4, (s.core c).dm = []) →
    ∃ t, exec (.boot e) s = .next t ∧
      (∀ c : Fin 4, t.reg (A_IC_CPU_ENTRY c) = w32 (hdrNat s (0x20 + 8 * c) 4) ∧ t.on (IC_CPU_STAT_NS c) = bitOf (hdrNat s (0x24 + 8 * c) 4) 1 ∧ (if bitOf (hdrNat s (0x24 + 8 * c) 4) 0 then t.coreState c = 1 ∧ (t.core c).csr = [(csrMtvec, w32 (hdrNat s (0x20 + 8 * c) 4) &&& ~~~ 3#32), (csrDcsr, w32 0x40000003)] else t.coreState c = s.coreState c ∧ t.core c = s.core c)) ∧
      t.get BT_STATUS_RESULT = 1 ∧
      t.get BT_STATUS_BTIME = min 0xFFFF (s.now / 20000) ∧
      t.bt = { s.bt with stage := 3 } ∧
      (Frame s t (([BT_STATUS_RESULT, BT_STATUS_BTIME, PM_STAT_LLVL, PM_STAT_LEVEL] ++ ((List.range 4).flatMap fun c => [wordAt (A_IC_CPU_ENTRY c), IC_CPU_STAT_NS c, IC_CPU_STAT_STATE c, IC_CPU_STAT_RPRI c]))) [.bt, .cores, .emitted] [])) ∧
  (∀ (e : BootEnv) (s : State),
    s.power ≠ .off →
    (s.get (SP_STAT_STATE 1) = 0 ∨ s.get (SP_STAT_STATE 1) = 5) →
    s.bt.stage = 1 →
    s.get BT_STATUS_IVCAUSE = 2 →
    s.fe.resetCal ≠ 2 →
    ∃ t, exec (.release e) s = .next t ∧
      t.on BT_STATUS_IVORY = false ∧
      t.get (SP_STAT_STATE 1) = 0 ∧
      t.reg (A_SP_CTL 1) = (s.port 1).saved ∧
      (∀ k : Fin 8, t.reg (A_PQ_MBD k) = w32 (leNat (((sha3 (measured s)).drop (4 * k.val)).take 4))) ∧
      t.get64 PQ_ARB_IMG_LO_IMG PQ_ARB_IMG_HI_IMG = hdrNat s 0x10 8 ∧
      t.get PQ_ID_STAT_BKEY = hdrNat s 0x18 1 % 4 ∧
      t.on PQ_ID_STAT_BKV = true ∧
      t.get BT_STATUS_PROFILE = s.profile % 4 ∧
      t.locked = true ∧
      t.bt = { s.bt with stage := 2, relPend := false } ∧
      (Frame s t (([BT_STATUS_IVORY, SP_STAT_STATE 1, wordAt (A_SP_CTL 1), PQ_ARB_IMG_LO_IMG, PQ_ARB_IMG_HI_IMG, PQ_ID_STAT_BKEY, PQ_ID_STAT_BKV, BT_STATUS_PROFILE] ++ ((List.range 8).map fun k => wordAt (A_PQ_MBD k)) ++ (SP_INT_STAT_FRAG 1 :: latchOf (SP_INT_STAT_FRAG 1)))) [.bt, .locked] []))

/-- R419, R421, R429: START runs a held core at its entry, WFI idles it. R431, R432, R436: an edge sets its latch, and an offered source goes to the eligible core, which the pointer then passes. R438: a read of svclaim makes the assigned source active, pushes svprio and raises it to PRIO, a write of svclaim pops it; R422: a form that svclaim does not allow, and any access in user mode, takes the illegal-instruction exception (mtval is a free value, log entry 28). R433: writes and atomic operations of the source arrays. R442: the disable withdraws every assignment. Each re-evaluation leaves the cores as they were but for assignments, and for the idle cores that one of them wakes; which source goes to which core is stated where no other source is offered. -/
def Obligations.CoresAndTheirInterrupts : Prop :=
  (∀ (core : Cpu) (c : Cpu) (s : State),
    s.power = .active →
    s.on (IC_CPU_STAT_NS core) = false →
    s.coreState c = 0 →
    bitOf ((assocGet (s.core c).dm dmControl).getD 0).toNat 31 = false →
    s.cores.length = 4 →
    mayStore s core (A_IC_CPU_CTL c) →
    ∃ t, exec (.coreStart core c) s = .next t ∧
      t.resp = ⟨0, false⟩ ∧
      t.coreState c = 1 ∧
      t.get (IC_CPU_STAT_RPRI c) = 0 ∧
      t.cores = s.cores.set c { CoreS.reset with csr := [(csrMtvec, s.reg (A_IC_CPU_ENTRY c) &&& ~~~ 3#32), (csrDcsr, w32 0x40000003)], dm := (s.core c).dm } ∧
      (if s.on (WD_CFG_EN c) = true then t.on (WD_STAT_RUN c) = true ∧ t.get (WD_STAT_ELAPSED c) = 0 ∧ t.on (WD_STAT_OPEN c) = decide (s.get (WD_WIN_WINDOW c) = 0) ∧ t.tm = { s.tm with wdTicks := updAt s.tm.wdTicks c fun _ => 0 } else t.reg (A_WD_STAT c) = s.reg (A_WD_STAT c) ∧ t.tm = s.tm) ∧
      Frame s t [IC_CPU_STAT_STATE c, IC_CPU_STAT_RPRI c, WD_STAT_RUN c, WD_STAT_ELAPSED c, WD_STAT_OPEN c, PM_STAT_LLVL, PM_STAT_LEVEL] [.resp, .cores, .emitted, .tm] []) ∧
  (∀ (c : Cpu) (s : State),
    s.power ≠ .off →
    s.coreState c = 1 →
    s.on (IC_CPU_STAT_ASG c) = false →
    s.cores.length = 4 →
    ∃ t, exec (.wfi c) s = .next t ∧
      (t.coreState c = if t.on (IC_CPU_STAT_ASG c) then 1 else 2) ∧
      (∀ d : Fin 4, t.core d = { s.core d with wasIdle := (t.core d).wasIdle }) ∧
      t.cores.length = s.cores.length ∧
      (∀ d : Fin 4, d = c ∨ t.coreState d = s.coreState d ∨ (s.coreState d = 2 ∧ t.coreState d = 1 ∧ t.on (IC_CPU_STAT_ASG d) = true)) ∧
      (s.power = .active → s.on IC_CTL_EN = false → ∀ d : Fin 4, t.on (IC_CPU_STAT_ASG d) = false) ∧
      (Frame s t ((((List.range 4).flatMap fun d => [IC_CPU_STAT_ASG d, IC_CPU_STAT_ASRC d, IC_CPU_STAT_STATE d]) ++ [IC_STATUS_PTR, PM_STAT_LLVL, PM_STAT_LEVEL])) [.cores, .emitted] [])) ∧
  (∀ (c : Cpu) (csr : DeviceCsr) (plain : Bool) (n : Nat) (s : State),
    s.power ≠ .off →
    csr = .svclaim →
    plain = true →
    (s.core c).user = false →
    s.on IC_CTL_EN = true →
    s.on (IC_CPU_STAT_ASG c) = true →
    s.get (IC_CPU_STAT_ASRC c) = n →
    n < 192 →
    srcOffered s n = true →
    eligible s n c = true →
    s.cores.length = 4 →
    ∃ t, exec (.claim ⟨c, csr, plain⟩) s = .next t ∧
      t.resp = ⟨w32 (2 ^ 31 + n), false⟩ ∧
      t.on (actField n) = true ∧
      (n < 128 → t.on (pendField n) = false) ∧
      t.get (IC_CPU_STAT_RPRI c) = srcPrio s n ∧
      (∀ d : Fin 4, t.core d = { (if d = c then { s.core d with stack := s.svprio c :: (s.core c).stack, active := n :: (s.core c).active } else s.core d) with wasIdle := (t.core d).wasIdle }) ∧
      t.cores.length = s.cores.length ∧
      (∀ d : Fin 4, t.coreState d = s.coreState d ∨ (s.coreState d = 2 ∧ t.coreState d = 1 ∧ t.on (IC_CPU_STAT_ASG d) = true)) ∧
      (s.power = .active → s.on IC_CTL_EN = false → ∀ d : Fin 4, t.on (IC_CPU_STAT_ASG d) = false) ∧
      (Frame s t (([IC_CPU_STAT_RPRI c, actField n] ++ (if n < 128 then [pendField n] else [])) ++ (((List.range 4).flatMap fun d => [IC_CPU_STAT_ASG d, IC_CPU_STAT_ASRC d, IC_CPU_STAT_STATE d]) ++ [IC_STATUS_PTR, PM_STAT_LLVL, PM_STAT_LEVEL])) [.cores, .resp, .emitted] [])) ∧
  (∀ (c : Cpu) (csr : DeviceCsr) (plain : Bool) (s : State),
    s.power ≠ .off →
    csr = .svclaim →
    plain = true →
    (s.core c).user = false →
    (s.on IC_CTL_EN = false ∨ s.on (IC_CPU_STAT_ASG c) = false) →
    ∃ t, exec (.claim ⟨c, csr, plain⟩) s = .next t ∧
      t.resp = ⟨0, false⟩ ∧
      Frame s t [] [.resp] []) ∧
  (∀ (c : Cpu) (csr : DeviceCsr) (plain : Bool) (n : Nat) (s : State),
    s.power ≠ .off →
    csr = .svclaim →
    plain = true →
    (s.core c).user = false →
    s.on IC_CTL_EN = true →
    s.on (IC_CPU_STAT_ASG c) = true →
    s.get (IC_CPU_STAT_ASRC c) = n →
    (srcOffered s n && eligible s n c) = false →
    s.cores.length = 4 →
    ∃ t, exec (.claim ⟨c, csr, plain⟩) s = .next t ∧
      t.resp = ⟨0, false⟩ ∧
      (∀ k : Fin 192, t.on (actField k) = s.on (actField k)) ∧
      (∀ d : Fin 4, t.core d = { s.core d with wasIdle := (t.core d).wasIdle }) ∧
      t.cores.length = s.cores.length ∧
      (∀ d : Fin 4, t.coreState d = s.coreState d ∨ (s.coreState d = 2 ∧ t.coreState d = 1 ∧ t.on (IC_CPU_STAT_ASG d) = true)) ∧
      (s.power = .active → s.on IC_CTL_EN = false → ∀ d : Fin 4, t.on (IC_CPU_STAT_ASG d) = false) ∧
      (Frame s t ((((List.range 4).flatMap fun d => [IC_CPU_STAT_ASG d, IC_CPU_STAT_ASRC d, IC_CPU_STAT_STATE d]) ++ [IC_STATUS_PTR, PM_STAT_LLVL, PM_STAT_LEVEL])) [.cores, .resp, .emitted] [])) ∧
  (∀ (c : Cpu) (csr : DeviceCsr) (plain : Bool) (s : State),
    s.power ≠ .off →
    csr ≠ .svclaim →
    (s.core c).user = false →
    ∃ t, exec (.claim ⟨c, csr, plain⟩) s = .next t ∧
      t.resp.err = false ∧
      (csr = .svprio → t.resp.data = w32 (s.get (IC_CPU_STAT_RPRI c))) ∧
      (csr = .svinfo → t.resp.data = w32 ((s.core c).stack.length * 0x10000 + s.get PM_STAT_LEVEL * 0x100 + s.get (IC_CPU_STAT_NS c) * 16 + c)) ∧
      Frame s t [] [.resp] []) ∧
  (∀ (c : Cpu) (csr : DeviceCsr) (plain : Bool) (s : State),
    s.power ≠ .off →
    ((s.core c).user = true ∨ (csr = .svclaim ∧ plain = false)) →
    s.cores.length = 4 →
    ∃ t, exec (.claim ⟨c, csr, plain⟩) s = .next t ∧
      t.resp = ⟨0, true⟩ ∧
      Trapped s t c 2 (t.csr c csrMtval) ∧
      (Frame s t ((((List.range 4).flatMap fun d => [IC_CPU_STAT_ASG d, IC_CPU_STAT_ASRC d, IC_CPU_STAT_STATE d]) ++ [IC_STATUS_PTR, PM_STAT_LLVL, PM_STAT_LEVEL])) [.cores, .resp, .free, .reservations, .emitted] [])) ∧
  (∀ (c : Cpu) (v : Word) (plain : Bool) (p : Nat) (q : List Nat) (s : State),
    s.power ≠ .off →
    plain = true →
    (s.core c).user = false →
    (s.core c).active.contains (v.toNat % 256) = true →
    v.toNat % 256 < 192 →
    (s.core c).stack = p :: q →
    p < 16 →
    s.cores.length = 4 →
    ∃ t, exec (.completion c ⟨v, plain⟩) s = .next t ∧
      t.resp = ⟨0, false⟩ ∧
      t.on (actField (v.toNat % 256)) = false ∧
      t.get (IC_CPU_STAT_RPRI c) = p ∧
      (∀ d : Fin 4, t.core d = { (if d = c then { s.core d with stack := q, active := (s.core c).active.erase (v.toNat % 256) } else s.core d) with wasIdle := (t.core d).wasIdle }) ∧
      t.cores.length = s.cores.length ∧
      (∀ d : Fin 4, t.coreState d = s.coreState d ∨ (s.coreState d = 2 ∧ t.coreState d = 1 ∧ t.on (IC_CPU_STAT_ASG d) = true)) ∧
      (s.power = .active → s.on IC_CTL_EN = false → ∀ d : Fin 4, t.on (IC_CPU_STAT_ASG d) = false) ∧
      (Frame s t ([actField (v.toNat % 256), IC_CPU_STAT_RPRI c] ++ (((List.range 4).flatMap fun d => [IC_CPU_STAT_ASG d, IC_CPU_STAT_ASRC d, IC_CPU_STAT_STATE d]) ++ [IC_STATUS_PTR, PM_STAT_LLVL, PM_STAT_LEVEL])) [.cores, .resp, .emitted] [])) ∧
  (∀ (c : Cpu) (v : Word) (plain : Bool) (s : State),
    s.power ≠ .off →
    plain = true →
    (s.core c).user = false →
    (s.core c).active.contains (v.toNat % 256) = false →
    ∃ t, exec (.completion c ⟨v, plain⟩) s = .next t ∧
      t.resp = ⟨0, false⟩ ∧
      Raised s t IC_ERR_BADCPL ∧
      Frame s t ((IC_ERR_BADCPL) :: latchOf (IC_ERR_BADCPL)) [.resp] []) ∧
  (∀ (c : Cpu) (v : Word) (plain : Bool) (s : State),
    s.power ≠ .off →
    ((s.core c).user = true ∨ plain = false) →
    s.cores.length = 4 →
    ∃ t, exec (.completion c ⟨v, plain⟩) s = .next t ∧
      t.resp = ⟨0, true⟩ ∧
      Trapped s t c 2 (t.csr c csrMtval) ∧
      (Frame s t ((((List.range 4).flatMap fun d => [IC_CPU_STAT_ASG d, IC_CPU_STAT_ASRC d, IC_CPU_STAT_STATE d]) ++ [IC_STATUS_PTR, PM_STAT_LLVL, PM_STAT_LEVEL])) [.cores, .resp, .free, .reservations, .emitted] [])) ∧
  (∀ (c : Cpu) (v : Word) (s : State),
    s.power ≠ .off →
    (s.core c).user = false →
    s.cores.length = 4 →
    ∃ t, exec (.svprioWrite c v) s = .next t ∧
      t.resp = ⟨0, false⟩ ∧
      t.get (IC_CPU_STAT_RPRI c) = v.toNat % 16 ∧
      (∀ d : Fin 4, t.core d = { s.core d with wasIdle := (t.core d).wasIdle }) ∧
      t.cores.length = s.cores.length ∧
      (∀ d : Fin 4, t.coreState d = s.coreState d ∨ (s.coreState d = 2 ∧ t.coreState d = 1 ∧ t.on (IC_CPU_STAT_ASG d) = true)) ∧
      (s.power = .active → s.on IC_CTL_EN = false → ∀ d : Fin 4, t.on (IC_CPU_STAT_ASG d) = false) ∧
      (Frame s t ([IC_CPU_STAT_RPRI c] ++ (((List.range 4).flatMap fun d => [IC_CPU_STAT_ASG d, IC_CPU_STAT_ASRC d, IC_CPU_STAT_STATE d]) ++ [IC_STATUS_PTR, PM_STAT_LLVL, PM_STAT_LEVEL])) [.resp, .cores, .emitted] [])) ∧
  (∀ (c : Cpu) (v : Word) (s : State),
    s.power ≠ .off →
    (s.core c).user = true →
    s.cores.length = 4 →
    ∃ t, exec (.svprioWrite c v) s = .next t ∧
      t.resp = ⟨0, true⟩ ∧
      Trapped s t c 2 (t.csr c csrMtval) ∧
      (Frame s t ((((List.range 4).flatMap fun d => [IC_CPU_STAT_ASG d, IC_CPU_STAT_ASRC d, IC_CPU_STAT_STATE d]) ++ [IC_STATUS_PTR, PM_STAT_LLVL, PM_STAT_LEVEL])) [.cores, .resp, .free, .reservations, .emitted] [])) ∧
  (∀ (core : Cpu) (mask : BitVec 4) (s : State),
    s.power = .active →
    s.on (IC_CPU_STAT_NS core) = false →
    mayStore s core A_IC_SWI →
    ∃ t, exec (.swi core mask) s = .next t ∧
      t.resp = ⟨0, false⟩ ∧
      (∀ k : Fin 4, t.on (pendField (111 + k)) = (s.on (pendField (111 + k)) || mask.getLsbD k.val)) ∧
      (Frame s t ((List.range 4).map fun k => pendField (111 + k)) [.resp] [])) ∧
  (∀ (core : Cpu) (k : Fin 6) (v hw : Word) (s : State),
    s.power = .active →
    s.on (IC_CPU_STAT_NS core) = false →
    k < 4 →
    s.cores.length = 4 →
    mayStore s core (arrAddr 0 k) →
    ∃ t, exec (.pendWrite core k v hw) s = .next t ∧
      t.resp = ⟨0, false⟩ ∧
      (∀ b : Fin 32, (t.reg (A_IC_PEND k)).getLsbD b.val = if edgeUsed (32 * k + b) then v.getLsbD b.val || hw.getLsbD b.val else (s.reg (A_IC_PEND k)).getLsbD b.val) ∧
      (∀ d : Fin 4, t.core d = { s.core d with wasIdle := (t.core d).wasIdle }) ∧
      t.cores.length = s.cores.length ∧
      (∀ d : Fin 4, t.coreState d = s.coreState d ∨ (s.coreState d = 2 ∧ t.coreState d = 1 ∧ t.on (IC_CPU_STAT_ASG d) = true)) ∧
      (s.power = .active → s.on IC_CTL_EN = false → ∀ d : Fin 4, t.on (IC_CPU_STAT_ASG d) = false) ∧
      (Frame s t ([wordAt (A_IC_PEND k)] ++ (((List.range 4).flatMap fun d => [IC_CPU_STAT_ASG d, IC_CPU_STAT_ASRC d, IC_CPU_STAT_STATE d]) ++ [IC_STATUS_PTR, PM_STAT_LLVL, PM_STAT_LEVEL])) [.resp, .cores, .emitted] [])) ∧
  (∀ (core : Cpu) (arr : Fin 3) (k : Fin 6) (op : Fin 3) (v : Word) (s : State),
    s.power = .active →
    s.on (IC_CPU_STAT_NS core) = false →
    1 ≤ arr →
    (arr = 2 → k < 4) →
    s.cores.length = 4 →
    mayStore s core (arrAddr arr k) →
    ∃ t, exec (.icAmo core arr k op v) s = .next t ∧
      t.resp = ⟨s.reg (arrAddr arr k) &&& arrMask (coreAcc s core) s k, false⟩ ∧
      (∀ b : Fin 32, (t.reg (arrAddr arr k)).getLsbD b.val = if sourceUsed (32 * k + b) then (if op = 0 then (s.reg (arrAddr arr k)).getLsbD b.val && v.getLsbD b.val else if op = 1 then (s.reg (arrAddr arr k)).getLsbD b.val || v.getLsbD b.val else v.getLsbD b.val) else (s.reg (arrAddr arr k)).getLsbD b.val) ∧
      (∀ d : Fin 4, t.core d = { s.core d with wasIdle := (t.core d).wasIdle }) ∧
      t.cores.length = s.cores.length ∧
      (∀ d : Fin 4, t.coreState d = s.coreState d ∨ (s.coreState d = 2 ∧ t.coreState d = 1 ∧ t.on (IC_CPU_STAT_ASG d) = true)) ∧
      (s.power = .active → s.on IC_CTL_EN = false → ∀ d : Fin 4, t.on (IC_CPU_STAT_ASG d) = false) ∧
      (Frame s t ([wordAt (arrAddr arr k)] ++ (((List.range 4).flatMap fun d => [IC_CPU_STAT_ASG d, IC_CPU_STAT_ASRC d, IC_CPU_STAT_STATE d]) ++ [IC_STATUS_PTR, PM_STAT_LLVL, PM_STAT_LEVEL])) [.resp, .cores, .emitted] [])) ∧
  (∀ (n : Fin 128) (s : State),
    s.power ≠ .off →
    n < 120 →
    s.cores.length = 4 →
    ∃ t, exec (.edgeLatch n) s = .next t ∧
      t.on (pendField n) = true ∧
      (∀ d : Fin 4, t.core d = { s.core d with wasIdle := (t.core d).wasIdle }) ∧
      t.cores.length = s.cores.length ∧
      (∀ d : Fin 4, t.coreState d = s.coreState d ∨ (s.coreState d = 2 ∧ t.coreState d = 1 ∧ t.on (IC_CPU_STAT_ASG d) = true)) ∧
      (s.power = .active → s.on IC_CTL_EN = false → ∀ d : Fin 4, t.on (IC_CPU_STAT_ASG d) = false) ∧
      (Frame s t ([pendField n] ++ (((List.range 4).flatMap fun d => [IC_CPU_STAT_ASG d, IC_CPU_STAT_ASRC d, IC_CPU_STAT_STATE d]) ++ [IC_STATUS_PTR, PM_STAT_LLVL, PM_STAT_LEVEL])) [.cores, .emitted] [])) ∧
  (∀ (n : Fin 128) (c : Fin 4) (s : State),
    n < 120 →
    s.on (enField n) = true →
    srcPrio s n ≠ 0 →
    s.on (actField n) = false →
    s.power = .active →
    s.on IC_CTL_EN = true →
    (∀ d : Fin 4, s.on (IC_CPU_STAT_ASG d) = false) →
    s.coreState c = 1 →
    (s.core c).wasIdle = false →
    eligible s n.val c = true →
    (∀ d : Fin 4, d ≠ c → eligible s n.val d = false) →
    (∀ k : Fin 192, k.val ≠ n.val → srcOffered s k = false) →
    ∃ t, exec (.edgeLatch n) s = .next t ∧
      t.on (pendField n) = true ∧
      t.on (IC_CPU_STAT_ASG c) = true ∧
      t.get (IC_CPU_STAT_ASRC c) = n.val ∧
      t.get IC_STATUS_PTR = (c + 1) % 4 ∧
      Frame s t [pendField n, IC_CPU_STAT_ASG c, IC_CPU_STAT_ASRC c, IC_STATUS_PTR] [] []) ∧
  (∀ (n : Fin 64) (level : Bool) (s : State),
    s.power ≠ .off →
    32 ≤ n.val →
    n.val ≠ 34 →
    n.val ≠ 35 →
    s.cores.length = 4 →
    ∃ t, exec (.levelChange n level) s = .next t ∧
      (∀ d : Fin 4, t.core d = { s.core d with wasIdle := (t.core d).wasIdle }) ∧
      t.cores.length = s.cores.length ∧
      (∀ d : Fin 4, t.coreState d = s.coreState d ∨ (s.coreState d = 2 ∧ t.coreState d = 1 ∧ t.on (IC_CPU_STAT_ASG d) = true)) ∧
      (s.power = .active → s.on IC_CTL_EN = false → ∀ d : Fin 4, t.on (IC_CPU_STAT_ASG d) = false) ∧
      (Frame s t ((((List.range 4).flatMap fun d => [IC_CPU_STAT_ASG d, IC_CPU_STAT_ASRC d, IC_CPU_STAT_STATE d]) ++ [IC_STATUS_PTR, PM_STAT_LLVL, PM_STAT_LEVEL])) [.cores, .emitted] [])) ∧
  (∀ (n : Fin 64) (level : Bool) (c : Fin 4) (s : State),
    32 ≤ n.val →
    n.val < 53 →
    n.val ≠ 34 →
    n.val ≠ 35 →
    srcOffered s (128 + n) = true →
    s.power = .active →
    s.on IC_CTL_EN = true →
    (∀ d : Fin 4, s.on (IC_CPU_STAT_ASG d) = false) →
    s.coreState c = 1 →
    (s.core c).wasIdle = false →
    eligible s (128 + n.val) c = true →
    (∀ d : Fin 4, d ≠ c → eligible s (128 + n.val) d = false) →
    (∀ k : Fin 192, k.val ≠ (128 + n.val) → srcOffered s k = false) →
    ∃ t, exec (.levelChange n level) s = .next t ∧
      t.on (IC_CPU_STAT_ASG c) = true ∧
      t.get (IC_CPU_STAT_ASRC c) = 128 + n.val ∧
      t.get IC_STATUS_PTR = (c + 1) % 4 ∧
      Frame s t [IC_CPU_STAT_ASG c, IC_CPU_STAT_ASRC c, IC_STATUS_PTR] [] []) ∧
  (∀ (core : Cpu) (s : State),
    s.power = .active →
    s.on (IC_CPU_STAT_NS core) = false →
    s.cores.length = 4 →
    mayStore s core IC_CTL_EN.addr →
    ∃ t, exec (.icDisable core) s = .next t ∧
      t.resp = ⟨0, false⟩ ∧
      t.on IC_CTL_EN = false ∧
      t.on IC_CTL_EN_ACK = false ∧
      (∀ c : Fin 4, t.on (IC_CPU_STAT_ASG c) = false ∧ t.get (IC_CPU_STAT_ASRC c) = 0) ∧
      (t.cores = s.cores.map fun k => { k with wasIdle := false }) ∧
      Frame s t (([IC_CTL_EN, IC_CTL_EN_ACK] ++ (List.range 4).map IC_CPU_STAT_ASG ++ (List.range 4).map IC_CPU_STAT_ASRC)) [.resp, .cores] []) ∧
  (∀ (c : Cpu) (mie meie user : Bool) (s : State),
    s.power ≠ .off →
    s.cores.length = 4 →
    ∃ t, exec (.mstatusMieChange c mie meie user) s = .next t ∧
      (∀ d : Fin 4, t.core d = { (if d = c then { s.core d with mie := mie, meie := meie, user := user } else s.core d) with wasIdle := (t.core d).wasIdle }) ∧
      t.cores.length = s.cores.length ∧
      (∀ d : Fin 4, t.coreState d = s.coreState d ∨ (s.coreState d = 2 ∧ t.coreState d = 1 ∧ t.on (IC_CPU_STAT_ASG d) = true)) ∧
      (s.power = .active → s.on IC_CTL_EN = false → ∀ d : Fin 4, t.on (IC_CPU_STAT_ASG d) = false) ∧
      (Frame s t ((((List.range 4).flatMap fun d => [IC_CPU_STAT_ASG d, IC_CPU_STAT_ASRC d, IC_CPU_STAT_STATE d]) ++ [IC_STATUS_PTR, PM_STAT_LLVL, PM_STAT_LEVEL])) [.cores, .emitted] []))

/-- R443 to R445, R448: with an access level in force SETADDR sets the port's window address, READ and WRITE make one access and advance it, RESULT returns what an access answered WAIT gave, STATUS the state of the chip; a request with a bad SYNC is not answered and keeps the port from looking for a request during 8 clock edges (160 ticks at 10 MHz, the model's choice, log entry 28), one with a bad CRC gets CRCERR, an unlisted OP BADOP. R446, R447: DMSEL, DMREAD and DMWRITE reach a register of a core's debug module; a core that meets ebreak, its step or its trigger and is asked to halts with dpc and cause. Accesses are stated for system SRAM; the debug module is that of RISC-V Debug 0.13.2 (a log entry, PRESUMED). -/
def Obligations.TheDebugPort : Prop :=
  (∀ (arg : Word) (s : State),
    s.power = .active →
    s.dbg.quietTo ≤ s.now →
    s.dbg.busy = none →
    dbgLevel s ≠ 0 →
    winValid (arg &&& 0x7FFFFFFF) = true →
    ∃ t, exec (.setaddr arg) s = .next t ∧
      t.on IC_DBG_CTL_ACTIVE = true ∧
      t.dbg = { s.dbg with status := 1, data := arg, frame := dbgFrame (1) (arg), sentAt := s.now, addr := bitsOf arg 0 24, space := bitsOf arg 26 4, inc := bitOf arg.toNat 30, bad := false, past := false } ∧
      Frame s t [IC_DBG_CTL_ACTIVE] [.dbg] []) ∧
  (∀ (arg : Word) (s : State),
    s.power = .active →
    s.dbg.quietTo ≤ s.now →
    dbgLevel s = 0 →
    ∃ t, exec (.setaddr arg) s = .next t ∧
      t.on IC_DBG_CTL_ACTIVE = true ∧
      t.dbg = { s.dbg with status := 3, data := 0, frame := dbgFrame (3) (0), sentAt := s.now } ∧
      Frame s t [IC_DBG_CTL_ACTIVE] [.dbg] []) ∧
  (∀ (late : Bool) (s : State),
    s.power = .active →
    s.dbg.quietTo ≤ s.now →
    s.dbg.busy = none →
    dbgLevel s = 2 →
    s.dbg.bad = false →
    s.dbg.past = false →
    s.dbg.space = 2 →
    s.dbg.addr + 4 ≤ 0x100000 →
    s.dbg.addr % 4 = 0 →
    late = false →
    memBusy s (0x20000000 + s.dbg.addr) 4 = false →
    ∃ t, exec (.dbgRead late) s = .next t ∧
      t.on IC_DBG_CTL_ACTIVE = true ∧
      (t.dbg = { s.dbg with status := 1, data := busData s 2 (0x20000000 + s.dbg.addr), frame := dbgFrame (1) (busData s 2 (0x20000000 + s.dbg.addr)), sentAt := s.now, addr := if s.dbg.inc = true ∧ s.dbg.addr + 4 < 0x100000 then s.dbg.addr + 4 else s.dbg.addr, past := decide (s.dbg.inc = true ∧ 0x100000 ≤ s.dbg.addr + 4) }) ∧
      Frame s t [IC_DBG_CTL_ACTIVE] [.dbg] []) ∧
  (∀ (v : Word) (late : Bool) (s : State),
    s.power = .active →
    s.dbg.quietTo ≤ s.now →
    s.dbg.busy = none →
    dbgLevel s = 2 →
    s.dbg.bad = false →
    s.dbg.past = false →
    s.dbg.space = 2 →
    s.dbg.addr + 4 ≤ 0x100000 →
    s.dbg.addr % 4 = 0 →
    late = false →
    sramWaits s (0x20000000 + s.dbg.addr) 4 = false →
    ∃ t, exec (.dbgWrite v late) s = .next t ∧
      t.on IC_DBG_CTL_ACTIVE = true ∧
      (t.dbg = { s.dbg with status := 1, data := 0, frame := dbgFrame (1) (0), sentAt := s.now, addr := if s.dbg.inc = true ∧ s.dbg.addr + 4 < 0x100000 then s.dbg.addr + 4 else s.dbg.addr, past := decide (s.dbg.inc = true ∧ 0x100000 ≤ s.dbg.addr + 4) }) ∧
      t.memWord (0x20000000 + s.dbg.addr) = v ∧
      Frame s t [IC_DBG_CTL_ACTIVE] [.dbg] [(0x20000000 + s.dbg.addr, 4)]) ∧
  (∀ (arg : Word) (s : State),
    s.power = .active →
    s.dbg.quietTo ≤ s.now →
    s.dbg.busy = none →
    dbgLevel s = 2 →
    ∃ t, exec (.dmsel arg) s = .next t ∧
      t.on IC_DBG_CTL_ACTIVE = true ∧
      t.dbg = { s.dbg with status := 1, data := arg, frame := dbgFrame (1) (arg), sentAt := s.now, selCore := bitsOf arg 8 2, selReg := bitsOf arg 0 7 } ∧
      Frame s t [IC_DBG_CTL_ACTIVE] [.dbg] []) ∧
  (∀ (s : State),
    s.power = .active →
    s.dbg.quietTo ≤ s.now →
    s.dbg.busy = none →
    dbgLevel s = 2 →
    s.dbg.selReg = 4 →
    ∃ t, exec .dmread s = .next t ∧
      t.on IC_DBG_CTL_ACTIVE = true ∧
      t.dbg = { s.dbg with status := 1, data := (assocGet (s.core s.dbg.selCore).dm 4).getD 0, frame := dbgFrame (1) ((assocGet (s.core s.dbg.selCore).dm 4).getD 0), sentAt := s.now } ∧
      Frame s t [IC_DBG_CTL_ACTIVE] [.dbg] []) ∧
  (∀ (v : Word) (s : State),
    s.power = .active →
    s.dbg.quietTo ≤ s.now →
    s.dbg.busy = none →
    dbgLevel s = 2 →
    s.dbg.selReg = 4 →
    bitOf ((assocGet (s.core s.dbg.selCore).dm 0x10).getD 0).toNat 0 = true →
    s.dbg.selCore < 4 →
    s.cores.length = 4 →
    ∃ t, exec (.dmwrite v) s = .next t ∧
      t.on IC_DBG_CTL_ACTIVE = true ∧
      t.dbg = { s.dbg with status := 1, data := 0, frame := dbgFrame (1) (0), sentAt := s.now } ∧
      (t.cores = updAt s.cores s.dbg.selCore fun k => { k with dm := assocPut k.dm 4 v }) ∧
      Frame s t [IC_DBG_CTL_ACTIVE] [.dbg, .cores] []) ∧
  (∀ (v : Word) (r : Nat) (s : State),
    s.power = .active →
    s.dbg.quietTo ≤ s.now →
    s.dbg.busy = none →
    dbgLevel s = 2 →
    s.dbg.selReg = 0x17 →
    bitOf ((assocGet (s.core s.dbg.selCore).dm 0x10).getD 0).toNat 0 = true →
    s.dbg.selCore < 4 →
    s.cores.length = 4 →
    bitsOf (dmReg s s.dbg.selCore 0x16) 8 3 = 0 →
    s.coreState s.dbg.selCore = 4 →
    0 < r →
    r < 32 →
    v = w32 (0x00221000 + r) →
    ∃ t, exec (.dmwrite v) s = .next t ∧
      t.on IC_DBG_CTL_ACTIVE = true ∧
      t.dbg = { s.dbg with status := 1, data := 0, frame := dbgFrame (1) (0), sentAt := s.now } ∧
      (t.cores = updAt s.cores s.dbg.selCore fun k => { k with dm := assocPut k.dm 4 ((assocGet k.gpr r).getD 0) }) ∧
      Frame s t [IC_DBG_CTL_ACTIVE] [.dbg, .cores] []) ∧
  (∀ (s : State),
    s.power = .active →
    s.dbg.quietTo ≤ s.now →
    ∃ t, exec .dbgStatus s = .next t ∧
      t.on IC_DBG_CTL_ACTIVE = true ∧
      (t.dbg = { s.dbg with status := 1, data := w32 (s.get IC_DBG_CTL_HALTED * 2 ^ 28 + fourBits (fun c => !s.on (IC_CPU_STAT_NS c)) * 2 ^ 24 + b2n (s.on BT_STATUS_IVORY) * 8 + dbgLevel s), frame := dbgFrame (1) (w32 (s.get IC_DBG_CTL_HALTED * 2 ^ 28 + fourBits (fun c => !s.on (IC_CPU_STAT_NS c)) * 2 ^ 24 + b2n (s.on BT_STATUS_IVORY) * 8 + dbgLevel s)), sentAt := s.now }) ∧
      Frame s t [IC_DBG_CTL_ACTIVE] [.dbg] []) ∧
  (∀ (s : State),
    s.power = .active →
    s.dbg.quietTo ≤ s.now →
    s.dbg.busy = none →
    dbgLevel s ≠ 0 →
    ∃ t, exec .result s = .next t ∧
      t.on IC_DBG_CTL_ACTIVE = true ∧
      t.dbg = { s.dbg with status := s.dbg.result.1, data := s.dbg.result.2, frame := dbgFrame (s.dbg.result.1) (s.dbg.result.2), sentAt := s.now } ∧
      Frame s t [IC_DBG_CTL_ACTIVE] [.dbg] []) ∧
  (∀ (head : BitVec 8) (rest : BitVec 40) (s : State),
    s.power = .active →
    s.dbg.quietTo ≤ s.now →
    head.toNat / 16 ≠ 5 →
    ∃ t, exec (.debugBadRequest head rest) s = .next t ∧
      t.dbg = { s.dbg with status := 0, data := 0, frame := 0, quietTo := s.now + 160 } ∧
      Frame s t [] [.dbg] []) ∧
  (∀ (head : BitVec 8) (rest : BitVec 40) (s : State),
    s.power = .active →
    s.dbg.quietTo ≤ s.now →
    head.toNat / 16 = 5 →
    crc8 40 (head.toNat * 2 ^ 32 + rest.toNat / 256) ≠ rest.toNat % 256 →
    ∃ t, exec (.debugBadRequest head rest) s = .next t ∧
      t.on IC_DBG_CTL_ACTIVE = true ∧
      t.dbg = { s.dbg with status := 5, data := 0, frame := dbgFrame (5) (0), sentAt := s.now } ∧
      Frame s t [IC_DBG_CTL_ACTIVE] [.dbg] []) ∧
  (∀ (head : BitVec 8) (rest : BitVec 40) (s : State),
    s.power = .active →
    s.dbg.quietTo ≤ s.now →
    s.dbg.busy = none →
    dbgLevel s ≠ 0 →
    head.toNat / 16 = 5 →
    crc8 40 (head.toNat * 2 ^ 32 + rest.toNat / 256) = rest.toNat % 256 →
    (head.toNat % 16 = 0 ∨ 8 < head.toNat % 16) →
    ∃ t, exec (.debugBadRequest head rest) s = .next t ∧
      t.on IC_DBG_CTL_ACTIVE = true ∧
      t.dbg = { s.dbg with status := 6, data := 0, frame := dbgFrame (6) (0), sentAt := s.now } ∧
      Frame s t [IC_DBG_CTL_ACTIVE] [.dbg] []) ∧
  (∀  (v : Word) (s : State),
    s.power = .active →
    dbgLevel s = 2 →
    s.dbg.busy = some (true, v) →
    sramWaits s (0x20000000 + s.dbg.addr) 4 = false →
    s.dbg.bad = false →
    s.dbg.past = false →
    s.dbg.space = 2 →
    s.dbg.addr + 4 ≤ 0x100000 →
    s.dbg.addr % 4 = 0 →
    ∃ t, exec .debugAccessDone s = .next t ∧
      t.memWord (0x20000000 + s.dbg.addr) = v ∧
      (t.dbg = { s.dbg with busy := none, result := (1, 0), addr := if s.dbg.inc = true ∧ s.dbg.addr + 4 < 0x100000 then s.dbg.addr + 4 else s.dbg.addr, past := decide (s.dbg.inc = true ∧ 0x100000 ≤ s.dbg.addr + 4) }) ∧
      Frame s t [] [.dbg] [(0x20000000 + s.dbg.addr, 4)]) ∧
  (∀ (c : Cpu) (cause : Fin 8) (pc : Word) (d : Word) (s : State),
    s.power ≠ .off →
    s.coreState c = 1 →
    cause = 1 →
    (s.core c).user = false →
    assocGet (s.core c).csr csrDcsr = some d →
    d.getLsbD 15 = true →
    s.cores.length = 4 →
    ∃ t, exec (.debugHalt c cause pc) s = .next t ∧
      t.coreState c = 4 ∧
      t.on (IC_CPU_STAT_ASG c) = false ∧
      t.get (IC_CPU_STAT_ASRC c) = 0 ∧
      t.on (IC_DBG_CTL_HALTED.bit c) = true ∧
      assocGet (t.core c).csr csrDpc = some pc ∧
      assocGet (t.core c).csr csrDcsr = some (insertBits (insertBits d 6 3 1) 0 2 3) ∧
      (∀ k : Fin 4, k ≠ c → t.core k = s.core k) ∧
      Frame s t [IC_CPU_STAT_STATE c, IC_CPU_STAT_ASG c, IC_CPU_STAT_ASRC c, PM_STAT_LLVL, PM_STAT_LEVEL] [.cores, .emitted, .free] []) ∧
  (∀ (core : Cpu) (s : State),
    s.power = .active →
    s.on (IC_CPU_STAT_NS core) = false →
    s.emitted = [] →
    mayStore s core EV_CTL_EN.addr →
    ∃ t, exec (.evDisable core) s = .next t ∧
      t.resp = ⟨0, false⟩ ∧
      t.on EV_CTL_EN = false ∧
      t.on EV_CTL_EN_ACK = false ∧
      Frame s t [EV_CTL_EN, EV_CTL_EN_ACK] [.resp] [])

/-- R470 to R472: PROGRAM and ERASE capture address, source and attribute and wait where every check of Table 16.1 passes; else the first that fails gives the code with which they end. R486: with EN at 0, and while another operation runs or waits, they set BADCMD. R473: a waiting operation starts once the ledger fits it and no OTP operation runs, a program whose source is under scan later (R567); an erase sets its flag cell first and leaves the block X (R476, R483); a program latches its page, or ends with BUS where the bus refuses it the source (R474). R474: the end of a program writes the page, marked at its first pulse (R471), or leaves it X. R476: the end of an erase leaves every byte of the block 0xFF, its marks and flag cell clear, or the flag cell set. R483: ABORT ends a waiting, running or suspended operation with ABORTED, or sets ABORT_LATE. R484: each end sets STATE, CODE, END and the interrupt with its event; a resume that waited for it takes effect (R480), and reads that wait for the bank are served (R469). R486: the disable; a running operation goes on, and its end clears EN_ACK. -/
def Obligations.FlashProgramsAndErases : Prop :=
  (∀ (core : Cpu) (s : State),
    s.power = .active →
    s.on FL_CTL_EN = true →
    s.get FL_STAT_STATE = 0 →
    ((if flProtected s (flBlock (s.get FL_ADDR_ADDR * 0x200)) then 5 else if s.on (IC_CPU_STAT_NS core) && (flashSecure s (s.get FL_ADDR_ADDR * 0x200) || sramSecure s (s.get FL_SRC_ADDR * 4) || sramSecure s ((s.get FL_SRC_ADDR * 4) + 0x1FF)) then 6 else if (s.get FL_SRC_ADDR * 4) < 0x20000000 ∨ 0x20100000 < (s.get FL_SRC_ADDR * 4) + 0x200 then 9 else if s.fl.flags.contains (flBlock (s.get FL_ADDR_ADDR * 0x200)) then 4 else if s.fl.susp.any (fun e => flBlock e.addr == flBlock (s.get FL_ADDR_ADDR * 0x200)) then 7 else if s.fl.marks.contains (flPage (s.get FL_ADDR_ADDR * 0x200)) then 3 else if s.fl.marks.any (fun m => decide (m / 128 = flPage (s.get FL_ADDR_ADDR * 0x200) / 128) && decide (flPage (s.get FL_ADDR_ADDR * 0x200) < m)) then 2 else 0 : Nat) = 0) →
    mayStore s core A_FL_CMD →
    ∃ t, exec (.program core) s = .next t ∧
      t.resp = ⟨0, false⟩ ∧
      t.get FL_STAT_STATE = 1 ∧
      t.on FL_STAT_END = false ∧
      t.get FL_STAT_LASTOP = 1 ∧
      t.fl = { s.fl with op := some { erase := false, addr := s.get FL_ADDR_ADDR * 0x200, src := s.get FL_SRC_ADDR * 4, ns := s.on (IC_CPU_STAT_NS core), page := [], pulsed := false, ran := 0, since := s.now } } ∧
      Frame s t [FL_STAT_STATE, FL_STAT_END, FL_STAT_LASTOP] [.resp, .fl] []) ∧
  (∀ (core : Cpu) (code : Nat) (s : State),
    s.power = .active →
    s.on FL_CTL_EN = true →
    s.get FL_STAT_STATE = 0 →
    ((if flProtected s (flBlock (s.get FL_ADDR_ADDR * 0x200)) then 5 else if s.on (IC_CPU_STAT_NS core) && (flashSecure s (s.get FL_ADDR_ADDR * 0x200) || sramSecure s (s.get FL_SRC_ADDR * 4) || sramSecure s ((s.get FL_SRC_ADDR * 4) + 0x1FF)) then 6 else if (s.get FL_SRC_ADDR * 4) < 0x20000000 ∨ 0x20100000 < (s.get FL_SRC_ADDR * 4) + 0x200 then 9 else if s.fl.flags.contains (flBlock (s.get FL_ADDR_ADDR * 0x200)) then 4 else if s.fl.susp.any (fun e => flBlock e.addr == flBlock (s.get FL_ADDR_ADDR * 0x200)) then 7 else if s.fl.marks.contains (flPage (s.get FL_ADDR_ADDR * 0x200)) then 3 else if s.fl.marks.any (fun m => decide (m / 128 = flPage (s.get FL_ADDR_ADDR * 0x200) / 128) && decide (flPage (s.get FL_ADDR_ADDR * 0x200) < m)) then 2 else 0 : Nat) = code) →
    code ≠ 0 →
    mayStore s core A_FL_CMD →
    ∃ t, exec (.program core) s = .next t ∧
      t.resp = ⟨0, false⟩ ∧
      t.get FL_STAT_STATE = 0 ∧
      t.get FL_STAT_CODE = code ∧
      t.on FL_STAT_END = true ∧
      Raised s t FL_INT_STAT_END ∧
      Raised s t FL_INT_STAT_ERR ∧
      t.emitted.getLast? = (s.emit 97).emitted.getLast? ∧
      t.on FL_CTL_EN_ACK = (s.on FL_CTL_EN_ACK && s.on FL_CTL_EN) ∧
      t.get FL_STAT_LASTOP = 1 ∧
      t.fl = { s.fl with op := none, waiting := [] } ∧
      Frame s t ([FL_STAT_STATE, FL_STAT_CODE, FL_STAT_END, FL_CTL_EN_ACK, FL_STAT_SUSP, FL_STAT_LASTOP] ++ ((FL_INT_STAT_END) :: latchOf (FL_INT_STAT_END)) ++ ((FL_INT_STAT_ERR) :: latchOf (FL_INT_STAT_ERR))) [.resp, .emitted, .fl, .resp] []) ∧
  (∀ (core : Cpu) (s : State),
    s.power = .active →
    (s.on FL_CTL_EN = false ∨ s.get FL_STAT_STATE ≠ 0) →
    mayStore s core A_FL_CMD →
    ∃ t, exec (.program core) s = .next t ∧
      t.resp = ⟨0, false⟩ ∧
      Raised s t FL_INT_STAT_BADCMD ∧
      Frame s t ((FL_INT_STAT_BADCMD) :: latchOf (FL_INT_STAT_BADCMD)) [.resp] []) ∧
  (∀ (core : Cpu) (s : State),
    s.power = .active →
    s.on FL_CTL_EN = true →
    s.get FL_STAT_STATE = 0 →
    ((if flProtected s (flBlock (s.get FL_ADDR_ADDR * 0x200)) then 5 else if s.on (IC_CPU_STAT_NS core) && flashSecure s (s.get FL_ADDR_ADDR * 0x200) then 6 else if s.fl.susp.isSome then 8 else 0 : Nat) = 0) →
    mayStore s core A_FL_CMD →
    ∃ t, exec (.erase core) s = .next t ∧
      t.resp = ⟨0, false⟩ ∧
      t.get FL_STAT_STATE = 1 ∧
      t.on FL_STAT_END = false ∧
      t.get FL_STAT_LASTOP = 2 ∧
      t.fl = { s.fl with op := some { erase := true, addr := s.get FL_ADDR_ADDR * 0x200, src := s.get FL_SRC_ADDR * 4, ns := s.on (IC_CPU_STAT_NS core), page := [], pulsed := false, ran := 0, since := s.now } } ∧
      Frame s t [FL_STAT_STATE, FL_STAT_END, FL_STAT_LASTOP] [.resp, .fl] []) ∧
  (∀ (core : Cpu) (code : Nat) (s : State),
    s.power = .active →
    s.on FL_CTL_EN = true →
    s.get FL_STAT_STATE = 0 →
    ((if flProtected s (flBlock (s.get FL_ADDR_ADDR * 0x200)) then 5 else if s.on (IC_CPU_STAT_NS core) && flashSecure s (s.get FL_ADDR_ADDR * 0x200) then 6 else if s.fl.susp.isSome then 8 else 0 : Nat) = code) →
    code ≠ 0 →
    mayStore s core A_FL_CMD →
    ∃ t, exec (.erase core) s = .next t ∧
      t.resp = ⟨0, false⟩ ∧
      t.get FL_STAT_STATE = 0 ∧
      t.get FL_STAT_CODE = code ∧
      t.on FL_STAT_END = true ∧
      Raised s t FL_INT_STAT_END ∧
      Raised s t FL_INT_STAT_ERR ∧
      t.emitted.getLast? = (s.emit 97).emitted.getLast? ∧
      t.on FL_CTL_EN_ACK = (s.on FL_CTL_EN_ACK && s.on FL_CTL_EN) ∧
      t.get FL_STAT_LASTOP = 2 ∧
      t.fl = { s.fl with op := none, waiting := [] } ∧
      Frame s t ([FL_STAT_STATE, FL_STAT_CODE, FL_STAT_END, FL_CTL_EN_ACK, FL_STAT_SUSP, FL_STAT_LASTOP] ++ ((FL_INT_STAT_END) :: latchOf (FL_INT_STAT_END)) ++ ((FL_INT_STAT_ERR) :: latchOf (FL_INT_STAT_ERR))) [.resp, .emitted, .fl, .resp] []) ∧
  (∀ (core : Cpu) (s : State),
    s.power = .active →
    (s.on FL_CTL_EN = false ∨ s.get FL_STAT_STATE ≠ 0) →
    mayStore s core A_FL_CMD →
    ∃ t, exec (.erase core) s = .next t ∧
      t.resp = ⟨0, false⟩ ∧
      Raised s t FL_INT_STAT_BADCMD ∧
      Frame s t ((FL_INT_STAT_BADCMD) :: latchOf (FL_INT_STAT_BADCMD)) [.resp] []) ∧
  (∀  (o : FlashOp) (l : Nat) (s : State),
    s.power ≠ .off →
    s.get FL_STAT_STATE = 1 →
    s.on PQ_OTP_CMD_BUSY = false →
    s.fl.op = some o →
    o.erase = true →
    s.fitLevel (some .erase) = some l →
    ∃ t, exec .flOpStart s = .next t ∧
      (t.xFlash = if o.pulsed then s.xFlash else s.xFlash ++ [(o.addr / 0x10000 * 0x10000, 0x10000, s.free)]) ∧
      (t.free = if o.pulsed then s.free else s.free + 1) ∧
      t.get FL_STAT_STATE = 3 ∧
      (t.fl = { s.fl with op := some { o with pulsed := true, since := s.now }, flags := if s.fl.flags.contains (flBlock o.addr) then s.fl.flags else s.fl.flags ++ [flBlock o.addr] }) ∧
      t.pm = { s.pm with loads := s.pm.loads ++ [.erase], held := s.pm.held.filter (· != .erase) } ∧
      t.get PM_STAT_LLVL = l ∧
      t.on PM_STAT_PEAK_HOLD = !(s.pm.held.filter (· != .erase)).isEmpty ∧
      Frame s t [FL_STAT_STATE, PM_STAT_PEAK_HOLD, PM_STAT_LLVL, PM_STAT_LEVEL] [.fl, .pm, .emitted, .xFlash, .free] [(o.addr / 0x10000 * 0x10000, 0x10000)]) ∧
  (∀  (o : FlashOp) (l : Nat) (s : State),
    s.power ≠ .off →
    s.get FL_STAT_STATE = 1 →
    s.on PQ_OTP_CMD_BUSY = false →
    s.fl.op = some o →
    o.erase = false →
    sramWaits s o.src 512 = false →
    (o.ns && (sramSecure s o.src || sramSecure s (o.src + 0x1FF))) = false →
    s.fitLevel (some .prog) = some l →
    ∃ t, exec .flOpStart s = .next t ∧
      t.get FL_STAT_STATE = 2 ∧
      t.fl = { s.fl with op := some { o with page := s.bytes o.src 512, since := s.now } } ∧
      t.pm = { s.pm with loads := s.pm.loads ++ [.prog], held := s.pm.held.filter (· != .prog) } ∧
      t.get PM_STAT_LLVL = l ∧
      t.on PM_STAT_PEAK_HOLD = !(s.pm.held.filter (· != .prog)).isEmpty ∧
      Frame s t [FL_STAT_STATE, PM_STAT_PEAK_HOLD, PM_STAT_LLVL, PM_STAT_LEVEL] [.fl, .pm, .emitted] []) ∧
  (∀  (o : FlashOp) (s : State),
    s.power ≠ .off →
    s.get FL_STAT_STATE = 1 →
    s.on PQ_OTP_CMD_BUSY = false →
    s.fl.op = some o →
    o.erase = false →
    sramWaits s o.src 512 = false →
    o.ns = true →
    (sramSecure s o.src = true ∨ sramSecure s (o.src + 0x1FF) = true) →
    (s.fitLevel (some .prog)).isSome = true →
    ∃ t, exec .flOpStart s = .next t ∧
      (t.get FL_STAT_STATE = if (s.fl.resume && s.on FL_CTL_EN && s.fl.susp.isSome) then 1 else 0) ∧
      t.get FL_STAT_CODE = 9 ∧
      t.on FL_STAT_END = true ∧
      Raised s t FL_INT_STAT_END ∧
      Raised s t FL_INT_STAT_ERR ∧
      t.emitted.getLast? = (s.emit 97).emitted.getLast? ∧
      t.on FL_CTL_EN_ACK = (s.on FL_CTL_EN_ACK && s.on FL_CTL_EN) ∧
      (t.resp = match s.fl.waiting.getLast? with | some e => ⟨w32 (leNat (t.bytes e.2.2 (2 ^ e.2.1))), false⟩ | none => s.resp) ∧
      t.on FL_STAT_SUSP = (s.on FL_STAT_SUSP && !(s.fl.resume && s.on FL_CTL_EN && s.fl.susp.isSome)) ∧
      t.get FL_TIME_DUR = min (o.ran / 2000) 0xFFFFFF ∧
      (t.fl = { s.fl with op := if (s.fl.resume && s.on FL_CTL_EN && s.fl.susp.isSome) then s.fl.susp else none, susp := if (s.fl.resume && s.on FL_CTL_EN && s.fl.susp.isSome) then none else s.fl.susp, resume := false, waiting := [] }) ∧
      Frame s t ([FL_STAT_STATE, FL_STAT_CODE, FL_STAT_END, FL_CTL_EN_ACK, FL_STAT_SUSP, FL_TIME_DUR, PM_STAT_PEAK_HOLD, PM_STAT_LLVL, PM_STAT_LEVEL] ++ ((FL_INT_STAT_END) :: latchOf (FL_INT_STAT_END)) ++ ((FL_INT_STAT_ERR) :: latchOf (FL_INT_STAT_ERR))) [.fl, .pm, .emitted, .resp] []) ∧
  (∀ (ok : Bool) (o : FlashOp) (s : State),
    s.power ≠ .off →
    ok = true →
    s.get FL_STAT_STATE = 2 →
    s.fl.op = some o →
    o.erase = false →
    o.page.length = 512 →
    o.addr + 512 ≤ 0x400000 →
    (∀ e ∈ s.xFlash, e.1 + e.2.1 ≤ o.addr ∨ o.addr + 512 ≤ e.1 ∨ (o.addr ≤ e.1 ∧ e.1 + e.2.1 ≤ o.addr + 512)) →
    ∃ t, exec (.programEnd ok) s = .next t ∧
      (t.get FL_STAT_STATE = if (s.fl.resume && s.on FL_CTL_EN && s.fl.susp.isSome) then 1 else 0) ∧
      t.get FL_STAT_CODE = 1 ∧
      t.on FL_STAT_END = true ∧
      Raised s t FL_INT_STAT_END ∧
      t.emitted.getLast? = (s.emit 96).emitted.getLast? ∧
      t.on FL_CTL_EN_ACK = (s.on FL_CTL_EN_ACK && s.on FL_CTL_EN) ∧
      (t.resp = match s.fl.waiting.getLast? with | some e => ⟨w32 (leNat (t.bytes e.2.2 (2 ^ e.2.1))), false⟩ | none => s.resp) ∧
      t.on FL_STAT_SUSP = (s.on FL_STAT_SUSP && !(s.fl.resume && s.on FL_CTL_EN && s.fl.susp.isSome)) ∧
      t.bytes o.addr 512 = o.page ∧
      (t.get FL_TIME_DUR = min ((if s.get FL_STAT_STATE = 1 then o.ran else o.ran + (s.now - o.since)) / 2000) 0xFFFFFF) ∧
      (t.fl = { s.fl with op := if (s.fl.resume && s.on FL_CTL_EN && s.fl.susp.isSome) then s.fl.susp else none, susp := if (s.fl.resume && s.on FL_CTL_EN && s.fl.susp.isSome) then none else s.fl.susp, resume := false, waiting := [], marks := if o.pulsed then s.fl.marks else s.fl.marks ++ [flPage o.addr] }) ∧
      (t.free = if o.pulsed then s.free else s.free + 1) ∧
      t.pm = { s.pm with loads := s.pm.loads.filter (· != .prog), held := s.pm.held.filter (· != .prog) } ∧
      Frame s t ([FL_STAT_STATE, FL_STAT_CODE, FL_STAT_END, FL_CTL_EN_ACK, FL_STAT_SUSP, FL_TIME_DUR, PM_STAT_PEAK_HOLD, PM_STAT_LLVL, PM_STAT_LEVEL] ++ ((FL_INT_STAT_END) :: latchOf (FL_INT_STAT_END))) [.fl, .pm, .emitted, .resp, .xFlash, .free] [(o.addr, 512)]) ∧
  (∀ (ok : Bool) (o : FlashOp) (s : State),
    s.power ≠ .off →
    ok = false →
    s.get FL_STAT_STATE = 2 →
    s.fl.op = some o →
    o.erase = false →
    ∃ t, exec (.programEnd ok) s = .next t ∧
      (t.get FL_STAT_STATE = if (s.fl.resume && s.on FL_CTL_EN && s.fl.susp.isSome) then 1 else 0) ∧
      t.get FL_STAT_CODE = 12 ∧
      t.on FL_STAT_END = true ∧
      Raised s t FL_INT_STAT_END ∧
      Raised s t FL_INT_STAT_ERR ∧
      t.emitted.getLast? = (s.emit 97).emitted.getLast? ∧
      t.on FL_CTL_EN_ACK = (s.on FL_CTL_EN_ACK && s.on FL_CTL_EN) ∧
      (t.resp = match s.fl.waiting.getLast? with | some e => ⟨w32 (leNat (t.bytes e.2.2 (2 ^ e.2.1))), false⟩ | none => s.resp) ∧
      t.on FL_STAT_SUSP = (s.on FL_STAT_SUSP && !(s.fl.resume && s.on FL_CTL_EN && s.fl.susp.isSome)) ∧
      (t.get FL_TIME_DUR = min ((if s.get FL_STAT_STATE = 1 then o.ran else o.ran + (s.now - o.since)) / 2000) 0xFFFFFF) ∧
      (t.fl = { s.fl with op := if (s.fl.resume && s.on FL_CTL_EN && s.fl.susp.isSome) then s.fl.susp else none, susp := if (s.fl.resume && s.on FL_CTL_EN && s.fl.susp.isSome) then none else s.fl.susp, resume := false, waiting := [], marks := if o.pulsed then s.fl.marks else s.fl.marks ++ [flPage o.addr] }) ∧
      (t.xFlash = if o.pulsed then s.xFlash else s.xFlash ++ [(o.addr, 0x200, s.free)]) ∧
      (t.free = if o.pulsed then s.free else s.free + 1) ∧
      t.pm = { s.pm with loads := s.pm.loads.filter (· != .prog), held := s.pm.held.filter (· != .prog) } ∧
      Frame s t ([FL_STAT_STATE, FL_STAT_CODE, FL_STAT_END, FL_CTL_EN_ACK, FL_STAT_SUSP, FL_TIME_DUR, PM_STAT_PEAK_HOLD, PM_STAT_LLVL, PM_STAT_LEVEL] ++ ((FL_INT_STAT_END) :: latchOf (FL_INT_STAT_END)) ++ ((FL_INT_STAT_ERR) :: latchOf (FL_INT_STAT_ERR))) [.fl, .pm, .emitted, .resp, .xFlash, .free] [(o.addr, 512)]) ∧
  (∀ (ok : Bool) (o : FlashOp) (s : State),
    s.power ≠ .off →
    ok = true →
    s.get FL_STAT_STATE = 3 →
    s.fl.op = some o →
    o.erase = true →
    o.addr < 0x400000 →
    (∀ e ∈ s.xFlash, e.1 + e.2.1 ≤ o.addr / 0x10000 * 0x10000 ∨ o.addr / 0x10000 * 0x10000 + 0x10000 ≤ e.1 ∨ (o.addr / 0x10000 * 0x10000 ≤ e.1 ∧ e.1 + e.2.1 ≤ o.addr / 0x10000 * 0x10000 + 0x10000)) →
    ∃ t, exec (.eraseEnd ok) s = .next t ∧
      (t.get FL_STAT_STATE = if (s.fl.resume && s.on FL_CTL_EN && s.fl.susp.isSome) then 1 else 0) ∧
      t.get FL_STAT_CODE = 1 ∧
      t.on FL_STAT_END = true ∧
      Raised s t FL_INT_STAT_END ∧
      t.emitted.getLast? = (s.emit 96).emitted.getLast? ∧
      t.on FL_CTL_EN_ACK = (s.on FL_CTL_EN_ACK && s.on FL_CTL_EN) ∧
      (t.resp = match s.fl.waiting.getLast? with | some e => ⟨w32 (leNat (t.bytes e.2.2 (2 ^ e.2.1))), false⟩ | none => s.resp) ∧
      t.on FL_STAT_SUSP = (s.on FL_STAT_SUSP && !(s.fl.resume && s.on FL_CTL_EN && s.fl.susp.isSome)) ∧
      (∀ k, k < 0x10000 → t.byte (o.addr / 0x10000 * 0x10000 + k) = 0xFF) ∧
      (t.get FL_TIME_DUR = min ((if s.get FL_STAT_STATE = 1 then o.ran else o.ran + (s.now - o.since)) / 2000) 0xFFFFFF) ∧
      (t.fl = { s.fl with op := if (s.fl.resume && s.on FL_CTL_EN && s.fl.susp.isSome) then s.fl.susp else none, susp := if (s.fl.resume && s.on FL_CTL_EN && s.fl.susp.isSome) then none else s.fl.susp, resume := false, waiting := [], marks := s.fl.marks.filter (· / 128 != o.addr / 0x10000), flags := s.fl.flags.filter (· != o.addr / 0x10000) }) ∧
      t.pm = { s.pm with loads := s.pm.loads.filter (· != .erase), held := s.pm.held.filter (· != .erase) } ∧
      Frame s t ([FL_STAT_STATE, FL_STAT_CODE, FL_STAT_END, FL_CTL_EN_ACK, FL_STAT_SUSP, FL_TIME_DUR, PM_STAT_PEAK_HOLD, PM_STAT_LLVL, PM_STAT_LEVEL] ++ ((FL_INT_STAT_END) :: latchOf (FL_INT_STAT_END))) [.fl, .pm, .emitted, .resp, .xFlash] [(o.addr / 0x10000 * 0x10000, 0x10000)]) ∧
  (∀ (ok : Bool) (o : FlashOp) (s : State),
    s.power ≠ .off →
    ok = false →
    s.get FL_STAT_STATE = 3 →
    s.fl.op = some o →
    o.erase = true →
    ∃ t, exec (.eraseEnd ok) s = .next t ∧
      (t.get FL_STAT_STATE = if (s.fl.resume && s.on FL_CTL_EN && s.fl.susp.isSome) then 1 else 0) ∧
      t.get FL_STAT_CODE = 12 ∧
      t.on FL_STAT_END = true ∧
      Raised s t FL_INT_STAT_END ∧
      Raised s t FL_INT_STAT_ERR ∧
      t.emitted.getLast? = (s.emit 97).emitted.getLast? ∧
      t.on FL_CTL_EN_ACK = (s.on FL_CTL_EN_ACK && s.on FL_CTL_EN) ∧
      (t.resp = match s.fl.waiting.getLast? with | some e => ⟨w32 (leNat (t.bytes e.2.2 (2 ^ e.2.1))), false⟩ | none => s.resp) ∧
      t.on FL_STAT_SUSP = (s.on FL_STAT_SUSP && !(s.fl.resume && s.on FL_CTL_EN && s.fl.susp.isSome)) ∧
      (t.get FL_TIME_DUR = min ((if s.get FL_STAT_STATE = 1 then o.ran else o.ran + (s.now - o.since)) / 2000) 0xFFFFFF) ∧
      (t.fl = { s.fl with op := if (s.fl.resume && s.on FL_CTL_EN && s.fl.susp.isSome) then s.fl.susp else none, susp := if (s.fl.resume && s.on FL_CTL_EN && s.fl.susp.isSome) then none else s.fl.susp, resume := false, waiting := [] }) ∧
      t.pm = { s.pm with loads := s.pm.loads.filter (· != .erase), held := s.pm.held.filter (· != .erase) } ∧
      Frame s t ([FL_STAT_STATE, FL_STAT_CODE, FL_STAT_END, FL_CTL_EN_ACK, FL_STAT_SUSP, FL_TIME_DUR, PM_STAT_PEAK_HOLD, PM_STAT_LLVL, PM_STAT_LEVEL] ++ ((FL_INT_STAT_END) :: latchOf (FL_INT_STAT_END)) ++ ((FL_INT_STAT_ERR) :: latchOf (FL_INT_STAT_ERR))) [.fl, .pm, .emitted, .resp] []) ∧
  (∀ (core : Cpu) (o : FlashOp) (s : State),
    s.power = .active →
    (s.get FL_STAT_STATE = 1 ∨ s.get FL_STAT_STATE = 3 ∨ (s.get FL_STAT_STATE = 2 ∧ o.pulsed = false)) →
    s.fl.op = some o →
    mayStore s core A_FL_CMD →
    ∃ t, exec (.flAbort core) s = .next t ∧
      t.resp = ⟨0, false⟩ ∧
      (t.get FL_STAT_STATE = if (s.fl.resume && s.on FL_CTL_EN && s.fl.susp.isSome) then 1 else 0) ∧
      t.get FL_STAT_CODE = 10 ∧
      t.on FL_STAT_END = true ∧
      Raised s t FL_INT_STAT_END ∧
      Raised s t FL_INT_STAT_ERR ∧
      t.emitted.getLast? = (s.emit 97).emitted.getLast? ∧
      t.on FL_CTL_EN_ACK = (s.on FL_CTL_EN_ACK && s.on FL_CTL_EN) ∧
      t.on FL_STAT_SUSP = (s.on FL_STAT_SUSP && !(s.fl.resume && s.on FL_CTL_EN && s.fl.susp.isSome)) ∧
      (t.get FL_TIME_DUR = min ((if s.get FL_STAT_STATE = 1 then o.ran else o.ran + (s.now - o.since)) / 2000) 0xFFFFFF) ∧
      (t.fl = { s.fl with op := if (s.fl.resume && s.on FL_CTL_EN && s.fl.susp.isSome) then s.fl.susp else none, susp := if (s.fl.resume && s.on FL_CTL_EN && s.fl.susp.isSome) then none else s.fl.susp, resume := false, waiting := [] }) ∧
      (t.pm = { s.pm with loads := s.pm.loads.filter (· != (if o.erase then Load.erase else Load.prog)), held := s.pm.held.filter (· != (if o.erase then Load.erase else Load.prog)) }) ∧
      Frame s t ([FL_STAT_STATE, FL_STAT_CODE, FL_STAT_END, FL_CTL_EN_ACK, FL_STAT_SUSP, FL_TIME_DUR, PM_STAT_PEAK_HOLD, PM_STAT_LLVL, PM_STAT_LEVEL] ++ ((FL_INT_STAT_END) :: latchOf (FL_INT_STAT_END)) ++ ((FL_INT_STAT_ERR) :: latchOf (FL_INT_STAT_ERR))) [.resp, .fl, .pm, .emitted, .resp] []) ∧
  (∀ (core : Cpu) (e : FlashOp) (s : State),
    s.power = .active →
    s.fl.op = none →
    s.fl.susp = some e →
    mayStore s core A_FL_CMD →
    ∃ t, exec (.flAbort core) s = .next t ∧
      t.resp = ⟨0, false⟩ ∧
      t.get FL_STAT_STATE = 0 ∧
      t.get FL_STAT_CODE = 10 ∧
      t.on FL_STAT_END = true ∧
      Raised s t FL_INT_STAT_END ∧
      Raised s t FL_INT_STAT_ERR ∧
      t.emitted.getLast? = (s.emit 97).emitted.getLast? ∧
      t.on FL_CTL_EN_ACK = (s.on FL_CTL_EN_ACK && s.on FL_CTL_EN) ∧
      t.on FL_STAT_SUSP = false ∧
      t.get FL_TIME_DUR = min (e.ran / 2000) 0xFFFFFF ∧
      t.fl = { s.fl with susp := none, resume := false, waiting := [] } ∧
      Frame s t ([FL_STAT_STATE, FL_STAT_CODE, FL_STAT_END, FL_CTL_EN_ACK, FL_STAT_SUSP, FL_TIME_DUR] ++ ((FL_INT_STAT_END) :: latchOf (FL_INT_STAT_END)) ++ ((FL_INT_STAT_ERR) :: latchOf (FL_INT_STAT_ERR))) [.resp, .fl, .emitted, .resp] []) ∧
  (∀ (core : Cpu) (s : State),
    s.power = .active →
    (s.fl.op = none ∧ s.fl.susp = none ∨ s.get FL_STAT_STATE = 2 ∧ s.fl.op.any (·.pulsed) = true) →
    mayStore s core A_FL_CMD →
    ∃ t, exec (.flAbort core) s = .next t ∧
      t.resp = ⟨0, false⟩ ∧
      t.on FL_STAT_ABORT_LATE = true ∧
      Frame s t [FL_STAT_ABORT_LATE] [.resp] []) ∧
  (∀ (core : Cpu) (s : State),
    s.power = .active →
    s.on (IC_CPU_STAT_NS core) = false →
    s.fl.op = none →
    mayStore s core FL_CTL_EN.addr →
    ∃ t, exec (.flDisable core) s = .next t ∧
      t.resp = ⟨0, false⟩ ∧
      t.on FL_CTL_EN = false ∧
      t.on FL_CTL_EN_ACK = false ∧
      Frame s t [FL_CTL_EN, FL_CTL_EN_ACK] [.resp] []) ∧
  (∀ (core : Cpu) (o : FlashOp) (s : State),
    s.power = .active →
    s.on (IC_CPU_STAT_NS core) = false →
    s.get FL_STAT_STATE = 1 →
    s.fl.op = some o →
    mayStore s core FL_CTL_EN.addr →
    ∃ t, exec (.flDisable core) s = .next t ∧
      t.resp = ⟨0, false⟩ ∧
      t.get FL_STAT_STATE = 0 ∧
      t.get FL_STAT_CODE = 11 ∧
      t.on FL_STAT_END = true ∧
      Raised s t FL_INT_STAT_END ∧
      Raised s t FL_INT_STAT_ERR ∧
      t.emitted.getLast? = (s.emit 97).emitted.getLast? ∧
      t.on FL_CTL_EN = false ∧
      t.on FL_CTL_EN_ACK = false ∧
      (t.get FL_TIME_DUR = min ((if s.get FL_STAT_STATE = 1 then o.ran else o.ran + (s.now - o.since)) / 2000) 0xFFFFFF) ∧
      t.fl = { s.fl with op := none, resume := false, waiting := [] } ∧
      (t.pm = { s.pm with loads := s.pm.loads.filter (· != (if o.erase then Load.erase else Load.prog)), held := s.pm.held.filter (· != (if o.erase then Load.erase else Load.prog)) }) ∧
      Frame s t ([FL_STAT_STATE, FL_STAT_CODE, FL_STAT_END, FL_CTL_EN_ACK, FL_STAT_SUSP, FL_TIME_DUR, FL_CTL_EN, PM_STAT_PEAK_HOLD, PM_STAT_LLVL, PM_STAT_LEVEL] ++ ((FL_INT_STAT_END) :: latchOf (FL_INT_STAT_END)) ++ ((FL_INT_STAT_ERR) :: latchOf (FL_INT_STAT_ERR))) [.resp, .fl, .pm, .emitted, .resp] []) ∧
  (∀ (core : Cpu) (o : FlashOp) (s : State),
    s.power = .active →
    s.on (IC_CPU_STAT_NS core) = false →
    s.get FL_STAT_STATE ≠ 1 →
    s.fl.op = some o →
    mayStore s core FL_CTL_EN.addr →
    ∃ t, exec (.flDisable core) s = .next t ∧
      t.resp = ⟨0, false⟩ ∧
      t.on FL_CTL_EN = false ∧
      Frame s t [FL_CTL_EN] [.resp] [])

/-- R479: SUSPEND of a running erase sets SUSP, SBLK and the interrupt, leaves IDLE and withdraws the ledger load; without a running erase it sets BADCMD. R480: RESUME returns it to WAIT, after a running program where there is one; with EN at 0, or with nothing suspended, it sets BADCMD. R481: with AUTOSUS a read of its bank, MINRUN after it started or last resumed, suspends it and is then answered with the word; after QUIET without such a read it resumes, where EN is 1. R468: a correctable error counts CORR and sets ECC_C, an uncorrectable one counts UNCORR, logs the address, sets ECC_U and ends the read of a core with an error response, for which it takes the access fault (R428), a cipher job with BUS. Reads by cores are stated word by word, where the attribute and the PMP permit them. -/
def Obligations.FlashEraseSuspends : Prop :=
  (∀ (core : Cpu) (o : FlashOp) (s : State),
    s.power = .active →
    s.get FL_STAT_STATE = 3 →
    s.fl.op = some o →
    mayStore s core A_FL_CMD →
    ∃ t, exec (.suspend core) s = .next t ∧
      t.resp = ⟨0, false⟩ ∧
      t.get FL_STAT_STATE = 0 ∧
      t.on FL_STAT_SUSP = true ∧
      t.get FL_STAT_SBLK = flBlock o.addr ∧
      t.on FL_CTL_EN_ACK = (s.on FL_CTL_EN_ACK && s.on FL_CTL_EN) ∧
      Raised s t FL_INT_STAT_SUSP ∧
      t.fl = { s.fl with op := none, susp := some { o with ran := o.ran + (s.now - o.since), since := s.now }, auto := false, lastRead := s.now, waiting := [] } ∧
      t.pm = { s.pm with loads := s.pm.loads.filter (· != .erase), held := s.pm.held.filter (· != .erase) } ∧
      Frame s t ([FL_STAT_STATE, FL_STAT_SUSP, FL_STAT_SBLK, FL_CTL_EN_ACK, PM_STAT_PEAK_HOLD, PM_STAT_LLVL, PM_STAT_LEVEL] ++ (FL_INT_STAT_SUSP :: latchOf FL_INT_STAT_SUSP)) [.resp, .fl, .pm, .emitted] []) ∧
  (∀ (core : Cpu) (s : State),
    s.power = .active →
    s.get FL_STAT_STATE ≠ 3 →
    mayStore s core A_FL_CMD →
    ∃ t, exec (.suspend core) s = .next t ∧
      t.resp = ⟨0, false⟩ ∧
      Raised s t FL_INT_STAT_BADCMD ∧
      Frame s t ((FL_INT_STAT_BADCMD) :: latchOf (FL_INT_STAT_BADCMD)) [.resp] []) ∧
  (∀ (core : Cpu) (o : FlashOp) (s : State),
    s.power = .active →
    s.on FL_CTL_EN = true →
    s.get FL_STAT_STATE = 0 →
    s.fl.susp = some o →
    mayStore s core A_FL_CMD →
    ∃ t, exec (.resume core) s = .next t ∧
      t.resp = ⟨0, false⟩ ∧
      t.get FL_STAT_STATE = 1 ∧
      t.on FL_STAT_SUSP = false ∧
      t.fl = { s.fl with op := some o, susp := none } ∧
      Frame s t [FL_STAT_STATE, FL_STAT_SUSP] [.resp, .fl] []) ∧
  (∀ (core : Cpu) (s : State),
    s.power = .active →
    s.on FL_CTL_EN = true →
    s.get FL_STAT_STATE ≠ 0 →
    s.fl.susp ≠ none →
    mayStore s core A_FL_CMD →
    ∃ t, exec (.resume core) s = .next t ∧
      t.resp = ⟨0, false⟩ ∧
      t.fl = { s.fl with resume := true } ∧
      Frame s t [] [.resp, .fl] []) ∧
  (∀ (core : Cpu) (s : State),
    s.power = .active →
    (s.on FL_CTL_EN = false ∨ s.fl.susp = none) →
    mayStore s core A_FL_CMD →
    ∃ t, exec (.resume core) s = .next t ∧
      t.resp = ⟨0, false⟩ ∧
      Raised s t FL_INT_STAT_BADCMD ∧
      Frame s t ((FL_INT_STAT_BADCMD) :: latchOf (FL_INT_STAT_BADCMD)) [.resp] []) ∧
  (∀ (core : Cpu) (addr : BitVec 22) (o : FlashOp) (s : State),
    s.power = .active →
    (s.on (IC_CPU_STAT_NS core) && flashSecure s addr.toNat) = false →
    s.get FL_STAT_STATE = 3 →
    s.fl.op = some o →
    flBank o.addr = flBank addr.toNat →
    s.on FL_CTL_AUTOSUS = true →
    o.since + s.get FL_CFG_MINRUN * 20000 ≤ s.now →
    addr.toNat % 4 = 0 →
    mayLoad s core addr.toNat →
    ∃ t, exec (.autoSuspend core addr) s = .next t ∧
      t.get FL_STAT_STATE = 0 ∧
      t.on FL_STAT_SUSP = true ∧
      t.get FL_STAT_SBLK = flBlock o.addr ∧
      t.on FL_CTL_EN_ACK = (s.on FL_CTL_EN_ACK && s.on FL_CTL_EN) ∧
      Raised s t FL_INT_STAT_SUSP ∧
      t.fl = { s.fl with op := none, susp := some { o with ran := o.ran + (s.now - o.since), since := s.now }, auto := true, lastRead := s.now, waiting := [] } ∧
      t.pm = { s.pm with loads := s.pm.loads.filter (· != .erase), held := s.pm.held.filter (· != .erase) } ∧
      t.resp = ⟨s.memWord addr.toNat, false⟩ ∧
      Frame s t ([FL_STAT_STATE, FL_STAT_SUSP, FL_STAT_SBLK, FL_CTL_EN_ACK, PM_STAT_PEAK_HOLD, PM_STAT_LLVL, PM_STAT_LEVEL] ++ (FL_INT_STAT_SUSP :: latchOf FL_INT_STAT_SUSP)) [.fl, .pm, .emitted, .resp] []) ∧
  (∀  (o : FlashOp) (s : State),
    s.power ≠ .off →
    s.on FL_CTL_EN = true →
    s.get FL_STAT_STATE = 0 →
    s.fl.susp = some o →
    s.fl.auto = true →
    s.fl.lastRead + max 1 (s.get FL_CFG_QUIET) * 2000 ≤ s.now →
    ∃ t, exec .autoResume s = .next t ∧
      t.get FL_STAT_STATE = 1 ∧
      t.on FL_STAT_SUSP = false ∧
      t.fl = { s.fl with op := some o, susp := none } ∧
      Frame s t [FL_STAT_STATE, FL_STAT_SUSP] [.fl] []) ∧
  (∀ (core : Cpu) (addr : BitVec 22) (uncorrectable : Bool) (s : State),
    s.power = .active →
    (s.on (IC_CPU_STAT_NS core) && flashSecure s addr.toNat) = false →
    flBankBusy s addr.toNat = false →
    addr.toNat % 4 = 0 →
    mayLoad s core addr.toNat →
    uncorrectable = false →
    ∃ t, exec (.flashEccError (.core core) addr uncorrectable) s = .next t ∧
      t.fl = { s.fl with lastRead := t.fl.lastRead } ∧
      t.resp = ⟨s.memWord addr.toNat, false⟩ ∧
      Counted s t FL_ECC_CNT_CORR ∧
      Raised s t FL_INT_STAT_ECC_C ∧
      Frame s t ([FL_ECC_CNT_CORR] ++ ((FL_INT_STAT_ECC_C) :: latchOf (FL_INT_STAT_ECC_C))) [.fl, .resp] []) ∧
  (∀ (core : Cpu) (addr : BitVec 22) (uncorrectable : Bool) (s : State),
    s.power = .active →
    (s.on (IC_CPU_STAT_NS core) && flashSecure s addr.toNat) = false →
    flBankBusy s addr.toNat = false →
    addr.toNat % 4 = 0 →
    mayLoad s core addr.toNat →
    uncorrectable = true →
    s.cores.length = 4 →
    ∃ t, exec (.flashEccError (.core core) addr uncorrectable) s = .next t ∧
      t.fl = { s.fl with lastRead := t.fl.lastRead } ∧
      t.resp = ⟨0, true⟩ ∧
      Counted s t FL_ECC_CNT_UNCORR ∧
      t.on FL_ECC_LOG_VALID = true ∧
      t.get FL_ECC_LOG_ADDR = addr.toNat / 8 ∧
      Raised s t FL_INT_STAT_ECC_U ∧
      Trapped s t core 5 (w32 addr.toNat) ∧
      Frame s t ([FL_ECC_CNT_UNCORR, FL_ECC_LOG_VALID, FL_ECC_LOG_ADDR] ++ ((FL_INT_STAT_ECC_U) :: latchOf (FL_INT_STAT_ECC_U)) ++ (wordAt A_IC_BERR_ADDR :: wordAt A_IC_BERR_INFO :: IC_ERR_BERR :: latchOf IC_ERR_BERR)) [.fl, .resp, .free, .cores, .reservations] []) ∧
  (∀ (agent : SramAgent) (addr : BitVec 22) (uncorrectable : Bool) (s : State),
    s.power ≠ .off →
    mapsFlash agent = true →
    agentReads s agent = true →
    flBankBusy s addr.toNat = false →
    uncorrectable = false →
    ∃ t, exec (.flashEccError agent addr uncorrectable) s = .next t ∧
      Counted s t FL_ECC_CNT_CORR ∧
      Raised s t FL_INT_STAT_ECC_C ∧
      Frame s t ([FL_ECC_CNT_CORR] ++ ((FL_INT_STAT_ECC_C) :: latchOf (FL_INT_STAT_ECC_C))) [] []) ∧
  (∀ (c : Cpu) (addr : BitVec 22) (uncorrectable : Bool) (s : State),
    s.power ≠ .off →
    s.get (CE_J_STAT_STATE c) = 2 →
    flBankBusy s addr.toNat = false →
    uncorrectable = true →
    (s.job c).reach ≤ refusedAt s (s.job c).ns (s.job c).dst (s.job c).plen →
    s.ce.jobs.length = 4 →
    ∃ t, exec (.flashEccError (.cipher c) addr uncorrectable) s = .next t ∧
      t.get (CE_J_STAT_STATE c) = 3 ∧
      t.get (CE_J_STAT_CODE c) = 5 ∧
      Raised s t (CE_INT_STAT_ERR.bit c) ∧
      Counted s t FL_ECC_CNT_UNCORR ∧
      t.on FL_ECC_LOG_VALID = true ∧
      t.get FL_ECC_LOG_ADDR = addr.toNat / 8 ∧
      Raised s t FL_INT_STAT_ECC_U)

/-- R496: START of an idle port takes count and select and sets out for its first word, or stalls at once. R497: each word takes from the transmit FIFO and gives to the receive FIFO, the low WLEN + 1 bits; the last word, or a disabled port, is followed by TRAIL and GAP; a port that lacks what its next word needs stalls until that clears. R498, R499: RDY low is noted, RDY high lets a paused transfer go on, a pause of RDYTO ends the transfer. R500: ABORT ends a clock that stands at once, a running one at its next bit boundary. The end sets CODE, END and its event. MASTER_WORD is the last bit boundary of a word; with SPREAD each half-period is a free choice (log entry 42). -/
def Obligations.SerialMastersTransfer : Prop :=
  (∀ (core : Cpu) (x : Fin 2) (rxign txfill : Bool) (sel : BitVec 5) (count : BitVec 16) (s : State),
    s.power = .active →
    s.get (SP_STAT_STATE x) = 0 →
    count ≠ 0 →
    s.get (SP_CTL_MODE x) = 0 →
    s.on (SP_CTL_EN x) = true →
    s.sp.length = 2 →
    mayStore s core (A_SP_XFER x) →
    ∃ t, exec (.xferStart core x rxign txfill sel count) s = .next t ∧
      t.resp = ⟨0, false⟩ ∧
      t.on (SP_XFER_RXIGN x) = rxign ∧
      t.on (SP_XFER_TXFILL x) = txfill ∧
      t.get (SP_XFER_SEL x) = sel.toNat ∧
      t.get (SP_XFER_COUNT x) = count.toNat ∧
      t.get (SP_STAT_WORDS x) = 0 ∧
      t.get (SP_STAT_CODE x) = 0 ∧
      t.on (SP_STAT_ABORT_LATE x) = false ∧
      (if ((txfill = false ∧ (s.port x).tx = []) ∨ (rxign = false ∧ 64 ≤ (s.port x).rx.length)) then t.get (SP_STAT_STATE x) = 3 ∧ (t.port x).word = (s.port x).word ∧ (t.port x).dout = (s.port x).dout ∧ (t.port x).inHand = (s.port x).inHand else t.get (SP_STAT_STATE x) = 1 ∧ NextWord s t x txfill (s.port x).tx) ∧
      t.sp = s.sp.set x { s.port x with left := count.toNat, code := 0, ending := 0, selen := false, selPins := sel.toNat, away := false, bit := 0, selAt := s.now + max 1 (s.get (SP_TIM_SETUP x)), edgeAt := s.now + max 1 (s.get (SP_TIM_SETUP x)) + max 1 (s.get (SP_TIM_LEAD x)), word := (t.port x).word, inHand := (t.port x).inHand, dout := (t.port x).dout } ∧
      Frame s t [SP_XFER_RXIGN x, SP_XFER_TXFILL x, SP_XFER_SEL x, SP_XFER_COUNT x, wordAt (A_SP_STAT x)] [.resp, .sp] []) ∧
  (∀ (core : Cpu) (x : Fin 2) (s : State),
    s.power = .active →
    (s.get (SP_STAT_STATE x) = 2 ∨ s.get (SP_STAT_STATE x) = 3) →
    s.get (SP_CTL_MODE x) = 0 →
    (s.port x).left ≠ 0 →
    spWordOver s x = false →
    s.sp.length = 2 →
    mayStore s core (SP_XFER_ABORT x).addr →
    ∃ t, exec (.xferAbort core x) s = .next t ∧
      t.resp = ⟨0, false⟩ ∧
      t.get (SP_STAT_STATE x) = 1 ∧
      t.sp = s.sp.set x { s.port x with left := 0, code := 2, ending := 0, fallAt := s.now + max 1 (s.get (SP_TIM_TRAIL x)), endAt := s.now + max 1 (s.get (SP_TIM_TRAIL x)) + max 1 (s.get (SP_TIM_GAP x)) } ∧
      Frame s t [SP_STAT_STATE x] [.resp, .sp] []) ∧
  (∀ (core : Cpu) (x : Fin 2) (s : State),
    s.power = .active →
    s.get (SP_STAT_STATE x) = 1 →
    s.get (SP_CTL_MODE x) = 0 →
    (s.port x).left ≠ 0 →
    ((s.port x).left ≠ 1 ∨ spWordOver s x = false) →
    s.sp.length = 2 →
    mayStore s core (SP_XFER_ABORT x).addr →
    ∃ t, exec (.xferAbort core x) s = .next t ∧
      t.resp = ⟨0, false⟩ ∧
      t.sp = s.sp.set x { s.port x with ending := 2 } ∧
      Frame s t [] [.resp, .sp] []) ∧
  (∀ (core : Cpu) (x : Fin 2) (s : State),
    s.power = .active →
    (s.get (SP_STAT_STATE x) = 0 ∨ (s.port x).left = 0) →
    mayStore s core (SP_XFER_ABORT x).addr →
    ∃ t, exec (.xferAbort core x) s = .next t ∧
      t.resp = ⟨0, false⟩ ∧
      t.on (SP_STAT_ABORT_LATE x) = true ∧
      Frame s t [SP_STAT_ABORT_LATE x] [.resp] []) ∧
  (∀ (x : Fin 2) (rx : Word) (s : State),
    s.power ≠ .off →
    (s.get (SP_STAT_STATE x) = 1 ∨ s.get (SP_STAT_STATE x) = 2) →
    s.get (SP_CTL_MODE x) = 0 →
    spWordOver s x = true →
    s.sp.length = 2 →
    2 ≤ (s.port x).left →
    (s.port x).ending = 0 →
    s.on (SP_CTL_EN x) = true →
    ∃ t, exec (.masterWord x rx) s = .next t ∧
      t.get (SP_STAT_WORDS x) = min (s.get (SP_STAT_WORDS x) + 1) 0xFFFF ∧
      (if s.get (SP_STAT_STATE x) = 2 then t.get (SP_STAT_STATE x) = 2 ∧ (t.port x).word = (s.port x).word ∧ (t.port x).dout = (s.port x).dout ∧ (t.port x).inHand = false else if ((s.on (SP_XFER_TXFILL x) = false ∧ (if (s.port x).inHand then (s.port x).tx.drop 1 else (s.port x).tx) = []) ∨ (s.on (SP_XFER_RXIGN x) = false ∧ 63 ≤ (s.port x).rx.length)) then t.get (SP_STAT_STATE x) = 3 ∧ (t.port x).word = (s.port x).word ∧ (t.port x).dout = (s.port x).dout ∧ (t.port x).inHand = false else t.get (SP_STAT_STATE x) = 1 ∧ NextWord s t x (s.on (SP_XFER_TXFILL x)) (if (s.port x).inHand then (s.port x).tx.drop 1 else (s.port x).tx)) ∧
      (t.sp = s.sp.set x { s.port x with left := (s.port x).left - 1, tx := (if (s.port x).inHand then (s.port x).tx.drop 1 else (s.port x).tx), rx := (if s.on (SP_XFER_RXIGN x) then (s.port x).rx else (s.port x).rx ++ [if s.pins.vioLost.getD x false then 0 else w32 (rx.toNat % 2 ^ (s.get (SP_FMT_WLEN x) + 1))]), bit := 0, word := (t.port x).word, inHand := (t.port x).inHand, dout := (t.port x).dout }) ∧
      (t.emitted = if s.on (SP_XFER_RXIGN x) = false ∧ (s.port x).rx.length + 1 = max 1 (s.get (SP_FIFOCFG_RXTHR x)) then (s.emit (147 + 2 * x)).emitted else s.emitted) ∧
      Frame s t [SP_STAT_WORDS x, SP_STAT_STATE x] [.sp, .emitted] []) ∧
  (∀ (x : Fin 2) (rx : Word) (s : State),
    s.power ≠ .off →
    (s.get (SP_STAT_STATE x) = 1 ∨ s.get (SP_STAT_STATE x) = 2) →
    s.get (SP_CTL_MODE x) = 0 →
    spWordOver s x = true →
    s.sp.length = 2 →
    1 ≤ (s.port x).left →
    ((s.port x).left = 1 ∨ s.on (SP_CTL_EN x) = false ∨ (s.port x).ending ≠ 0) →
    ∃ t, exec (.masterWord x rx) s = .next t ∧
      t.get (SP_STAT_WORDS x) = min (s.get (SP_STAT_WORDS x) + 1) 0xFFFF ∧
      t.get (SP_STAT_STATE x) = 1 ∧
      (t.sp = s.sp.set x { s.port x with tx := (if (s.port x).inHand then (s.port x).tx.drop 1 else (s.port x).tx), rx := (if s.on (SP_XFER_RXIGN x) then (s.port x).rx else (s.port x).rx ++ [if s.pins.vioLost.getD x false then 0 else w32 (rx.toNat % 2 ^ (s.get (SP_FMT_WLEN x) + 1))]), bit := 0, inHand := false, left := 0, code := if (s.port x).ending ≠ 0 then (s.port x).ending else if (s.port x).left = 1 then 1 else 4, ending := 0, fallAt := (if (s.port x).ending = 0 ∧ (s.port x).left = 1 then (s.port x).edgeAt else (s.port x).boundAt) + max 1 (s.get (SP_TIM_TRAIL x)), endAt := (if (s.port x).ending = 0 ∧ (s.port x).left = 1 then (s.port x).edgeAt else (s.port x).boundAt) + max 1 (s.get (SP_TIM_TRAIL x)) + max 1 (s.get (SP_TIM_GAP x)) }) ∧
      (t.emitted = if s.on (SP_XFER_RXIGN x) = false ∧ (s.port x).rx.length + 1 = max 1 (s.get (SP_FIFOCFG_RXTHR x)) then (s.emit (147 + 2 * x)).emitted else s.emitted) ∧
      Frame s t [SP_STAT_WORDS x, SP_STAT_STATE x] [.sp, .emitted] []) ∧
  (∀ (x : Fin 2) (s : State),
    s.power ≠ .off →
    s.get (SP_STAT_STATE x) = 3 →
    (¬((s.on (SP_XFER_TXFILL x) = false ∧ (s.port x).tx = []) ∨ (s.on (SP_XFER_RXIGN x) = false ∧ 64 ≤ (s.port x).rx.length))) →
    1 ≤ s.get (SP_CLKCFG_HALF x) →
    s.sp.length = 2 →
    ∃ t, exec (.stallClear x) s = .next t ∧
      t.get (SP_STAT_STATE x) = 1 ∧
      ((s.port x).bit = 0 → NextWord s t x (s.on (SP_XFER_TXFILL x)) ((s.port x).tx)) ∧
      ((s.port x).bit ≠ 0 → (t.port x).word = (s.port x).word ∧ (t.port x).dout = (s.port x).dout ∧ (t.port x).inHand = (s.port x).inHand ∧ (t.port x).bit = (s.port x).bit) ∧
      (if s.on (SP_CLKCFG_SPREAD x) then max (s.port x).edgeAt (s.now + (s.get (SP_CLKCFG_HALF x) - 1)) ≤ (t.port x).edgeAt ∧ (t.port x).edgeAt ≤ max (s.port x).edgeAt (s.now + s.get (SP_CLKCFG_HALF x) + 1) else (t.port x).edgeAt = max (s.port x).edgeAt (s.now + s.get (SP_CLKCFG_HALF x))) ∧
      t.sp = s.sp.set x { s.port x with word := (t.port x).word, inHand := (t.port x).inHand, dout := (t.port x).dout, bit := (t.port x).bit, edgeAt := (t.port x).edgeAt } ∧
      Frame s t [SP_STAT_STATE x] [.sp, .free] []) ∧
  (∀ (x : Fin 2) (s : State),
    s.power ≠ .off →
    s.get (SP_STAT_STATE x) = 1 →
    s.get (SP_CTL_MODE x) = 0 →
    s.sp.length = 2 →
    (s.port x).left = 0 →
    (s.port x).endAt ≤ s.now →
    (s.port x).code < 256 →
    ∃ t, exec (.xferEnd x) s = .next t ∧
      t.get (SP_STAT_STATE x) = 0 ∧
      t.get (SP_STAT_CODE x) = (s.port x).code ∧
      Raised s t (SP_INT_STAT_END x) ∧
      t.emitted = (s.emit (146 + 2 * x)).emitted ∧
      t.sp = s.sp.set x { s.port x with selen := false } ∧
      Frame s t ([SP_STAT_STATE x, SP_STAT_CODE x] ++ ((SP_INT_STAT_END x) :: latchOf (SP_INT_STAT_END x))) [.sp, .emitted] []) ∧
  (∀ (x : Fin 2) (s : State),
    s.power ≠ .off →
    s.sp.length = 2 →
    ∃ t, exec (.rdyLow x) s = .next t ∧
      t.sp = s.sp.set x { s.port x with rdyAt := s.now } ∧
      (t.pins = { s.pins with rdy := updAt s.pins.rdy x (fun _ => false), req := t.pins.req, pri := t.pins.pri, antsw := t.pins.antsw, antSel := t.pins.antSel }) ∧
      Frame s t [] [.sp, .pins] []) ∧
  (∀ (x : Fin 2) (s : State),
    s.power ≠ .off →
    s.get (SP_STAT_STATE x) = 2 →
    ((s.port x).bit ≠ 0 ∨ ¬((s.on (SP_XFER_TXFILL x) = false ∧ (s.port x).tx = []) ∨ (s.on (SP_XFER_RXIGN x) = false ∧ 64 ≤ (s.port x).rx.length))) →
    s.pins.vioLost.getD x false = false →
    1 ≤ s.get (SP_CLKCFG_HALF x) →
    s.sp.length = 2 →
    ∃ t, exec (.rdyHigh x) s = .next t ∧
      t.get (SP_STAT_STATE x) = 1 ∧
      ((s.port x).bit = 0 → NextWord s t x (s.on (SP_XFER_TXFILL x)) ((s.port x).tx)) ∧
      ((s.port x).bit ≠ 0 → (t.port x).word = (s.port x).word ∧ (t.port x).dout = (s.port x).dout ∧ (t.port x).inHand = (s.port x).inHand ∧ (t.port x).bit = (s.port x).bit) ∧
      (if s.on (SP_CLKCFG_SPREAD x) then max (s.port x).edgeAt (s.now + (s.get (SP_CLKCFG_HALF x) - 1)) ≤ (t.port x).edgeAt ∧ (t.port x).edgeAt ≤ max (s.port x).edgeAt (s.now + s.get (SP_CLKCFG_HALF x) + 1) else (t.port x).edgeAt = max (s.port x).edgeAt (s.now + s.get (SP_CLKCFG_HALF x))) ∧
      t.sp = s.sp.set x { s.port x with word := (t.port x).word, inHand := (t.port x).inHand, dout := (t.port x).dout, bit := (t.port x).bit, edgeAt := (t.port x).edgeAt } ∧
      (t.pins = { s.pins with rdy := updAt s.pins.rdy x (fun _ => true), req := t.pins.req, pri := t.pins.pri, antsw := t.pins.antsw, antSel := t.pins.antSel }) ∧
      Frame s t [SP_STAT_STATE x] [.sp, .pins, .free] []) ∧
  (∀ (x : Fin 2) (s : State),
    s.power ≠ .off →
    (s.get (SP_STAT_STATE x) ≠ 2 ∨ ((s.port x).bit = 0 ∧ ((s.on (SP_XFER_TXFILL x) = false ∧ (s.port x).tx = []) ∨ (s.on (SP_XFER_RXIGN x) = false ∧ 64 ≤ (s.port x).rx.length)))) →
    s.pins.vioLost.getD x false = false →
    s.sp.length = 2 →
    ∃ t, exec (.rdyHigh x) s = .next t ∧
      (t.get (SP_STAT_STATE x) = if s.get (SP_STAT_STATE x) = 2 then 3 else s.get (SP_STAT_STATE x)) ∧
      (t.pins = { s.pins with rdy := updAt s.pins.rdy x (fun _ => true), req := t.pins.req, pri := t.pins.pri, antsw := t.pins.antsw, antSel := t.pins.antSel }) ∧
      Frame s t [SP_STAT_STATE x] [.pins] []) ∧
  (∀ (x : Fin 2) (s : State),
    s.power ≠ .off →
    s.get (SP_STAT_STATE x) = 2 →
    s.get (SP_RDYCFG_RDYTO x) ≠ 0 →
    spWordOver s x = false →
    (s.port x).pauseAt + s.get (SP_RDYCFG_RDYTO x) * 200 ≤ s.now →
    s.sp.length = 2 →
    ∃ t, exec (.rdyTimeout x) s = .next t ∧
      t.get (SP_STAT_STATE x) = 1 ∧
      t.sp = s.sp.set x { s.port x with left := 0, code := 3, ending := 0, fallAt := s.now + max 1 (s.get (SP_TIM_TRAIL x)), endAt := s.now + max 1 (s.get (SP_TIM_TRAIL x)) + max 1 (s.get (SP_TIM_GAP x)) } ∧
      Raised s t (SP_INT_STAT_TIMEOUT x) ∧
      Raised s t (SP_INT_STAT_FRAG x) ∧
      Frame s t ([SP_STAT_STATE x] ++ ((SP_INT_STAT_TIMEOUT x) :: latchOf (SP_INT_STAT_TIMEOUT x)) ++ ((SP_INT_STAT_FRAG x) :: latchOf (SP_INT_STAT_FRAG x))) [.sp] [])

/-- R502 to R505: the select opens a slave selection or a window, each slave word takes from and gives to the FIFOs or sets TXUDF and RXOVF, the release ends it, with FRAG inside a word. R515: pushes, pops and flushes. R513: the disable. R507 to R511: a valid command word sets the window, read and write words make one access and advance the address up to the boundary. Window accesses are stated for system SRAM. -/
def Obligations.SerialSlavesAndTheWindow : Prop :=
  (∀ (x : Fin 2) (s : State),
    s.on (SP_CTL_EN x) = true →
    s.get (SP_STAT_STATE x) = 0 →
    s.power = .active →
    s.get (SP_CTL_MODE x) = 1 →
    s.pins.vioLost.getD x false = false →
    s.pins.selen.length = 2 →
    s.sp.length = 2 →
    ∃ t, exec (.slaveSelect x) s = .next t ∧
      t.get (SP_STAT_STATE x) = 4 ∧
      NextWord s t x false (s.port x).tx ∧
      t.sp = s.sp.set x { s.port x with sel := true, word := (t.port x).word, inHand := (t.port x).inHand, dout := (t.port x).dout, bit := (t.port x).bit } ∧
      (t.pins = { s.pins with selen := updAt s.pins.selen x (fun _ => some (!s.on (SP_CTL_SSPOL x))), req := t.pins.req, pri := t.pins.pri, antsw := t.pins.antsw, antSel := t.pins.antSel }) ∧
      Frame s t [SP_STAT_STATE x] [.sp, .pins] []) ∧
  (∀ (x : Fin 2) (s : State),
    s.on (SP_CTL_EN x) = true →
    s.get (SP_STAT_STATE x) = 0 →
    s.power = .active →
    s.get (SP_CTL_MODE x) = 2 →
    s.pins.vioLost.getD x false = false →
    s.pins.selen.length = 2 →
    s.sp.length = 2 →
    ∃ t, exec (.slaveSelect x) s = .next t ∧
      t.get (SP_STAT_STATE x) = 5 ∧
      t.sp = s.sp.set x { s.port x with sel := true, winCmd := false, winBad := false, winOver := false, dout := (t.port x).dout } ∧
      (t.pins = { s.pins with selen := updAt s.pins.selen x (fun _ => some (!s.on (SP_CTL_SSPOL x))), req := t.pins.req, pri := t.pins.pri, antsw := t.pins.antsw, antSel := t.pins.antSel }) ∧
      Frame s t [SP_STAT_STATE x] [.sp, .free, .pins] []) ∧
  (∀ (x : Fin 2) (s : State),
    (s.get (SP_CTL_MODE x) = 0 ∨ s.get (SP_STAT_STATE x) = 4 ∨ s.get (SP_STAT_STATE x) = 5) →
    s.power = .active →
    s.pins.vioLost.getD x false = false →
    s.pins.selen.length = 2 →
    s.sp.length = 2 →
    ∃ t, exec (.slaveSelect x) s = .next t ∧
      t.sp = s.sp.set x { s.port x with sel := s.get (SP_CTL_MODE x) != 0 } ∧
      (t.pins = { s.pins with selen := updAt s.pins.selen x (fun _ => some (!s.on (SP_CTL_SSPOL x))), req := t.pins.req, pri := t.pins.pri, antsw := t.pins.antsw, antSel := t.pins.antSel }) ∧
      Frame s t [] [.sp, .pins] []) ∧
  (∀ (x : Fin 2) (rx : Word) (s : State),
    s.power ≠ .off →
    s.get (SP_STAT_STATE x) = 4 →
    s.pins.vioLost.getD x false = false →
    s.sp.length = 2 →
    ∃ t, exec (.slaveWord x rx) s = .next t ∧
      (if (if s.on (SP_FMT_CPHA x) then !(s.port x).tx.isEmpty else (s.port x).inHand) then t.on (SP_INT_STAT_TXUDF x) = s.on (SP_INT_STAT_TXUDF x) else Raised s t (SP_INT_STAT_TXUDF x)) ∧
      (if (s.port x).rx.length < 64 then t.on (SP_INT_STAT_RXOVF x) = s.on (SP_INT_STAT_RXOVF x) else Raised s t (SP_INT_STAT_RXOVF x)) ∧
      (if s.on (SP_FMT_CPHA x) then (t.port x).word = ((s.port x).tx.headD (s.reg (A_SP_FILL x))) ∧ (t.port x).inHand = false ∧ (t.port x).bit = 0 ∧ (t.port x).dout = bitOf ((s.port x).tx.headD (s.reg (A_SP_FILL x))).toNat (if s.on (SP_FMT_LSBF x) then s.get (SP_FMT_WLEN x) else 0) else NextWord s t x false (if (if s.on (SP_FMT_CPHA x) then !(s.port x).tx.isEmpty else (s.port x).inHand) then (s.port x).tx.drop 1 else (s.port x).tx)) ∧
      (t.sp = s.sp.set x { s.port x with tx := (if (if s.on (SP_FMT_CPHA x) then !(s.port x).tx.isEmpty else (s.port x).inHand) then (s.port x).tx.drop 1 else (s.port x).tx), rx := if (s.port x).rx.length < 64 then (s.port x).rx ++ [w32 (rx.toNat % 2 ^ (s.get (SP_FMT_WLEN x) + 1))] else (s.port x).rx, word := (t.port x).word, inHand := (t.port x).inHand, dout := (t.port x).dout, bit := (t.port x).bit }) ∧
      (t.emitted = if (s.port x).rx.length < 64 ∧ (s.port x).rx.length + 1 = max 1 (s.get (SP_FIFOCFG_RXTHR x)) then (s.emit (147 + 2 * x)).emitted else s.emitted) ∧
      (t.get (SP_STAT_STATE x) = if s.on (SP_CTL_EN x) then 4 else 0) ∧
      Frame s t ([SP_STAT_STATE x] ++ ((SP_INT_STAT_TXUDF x) :: latchOf (SP_INT_STAT_TXUDF x)) ++ ((SP_INT_STAT_RXOVF x) :: latchOf (SP_INT_STAT_RXOVF x))) [.sp, .emitted] []) ∧
  (∀ (x : Fin 2) (rx : Word) (s : State),
    s.power ≠ .off →
    s.get (SP_STAT_STATE x) = 4 →
    s.on (SP_CTL_EN x) = true →
    (s.port x).tx = [] →
    (s.port x).inHand = false →
    64 ≤ (s.port x).rx.length →
    s.pins.vioLost.getD x false = false →
    s.sp.length = 2 →
    ∃ t, exec (.slaveWord x rx) s = .next t ∧
      Raised s t (SP_INT_STAT_TXUDF x) ∧
      Raised s t (SP_INT_STAT_RXOVF x) ∧
      (NextWord s t x false [] ∨ s.on (SP_FMT_CPHA x) = true) ∧
      t.sp = s.sp.set x { s.port x with word := (t.port x).word, inHand := (t.port x).inHand, dout := (t.port x).dout, bit := (t.port x).bit } ∧
      Frame s t ([] ++ ((SP_INT_STAT_TXUDF x) :: latchOf (SP_INT_STAT_TXUDF x)) ++ ((SP_INT_STAT_RXOVF x) :: latchOf (SP_INT_STAT_RXOVF x))) [.sp] []) ∧
  (∀ (x : Fin 2) (bits : Fin 32) (s : State),
    (s.get (SP_STAT_STATE x) = 4 ∨ s.get (SP_STAT_STATE x) = 5) →
    s.get (SP_CTL_MODE x) ≠ 0 →
    bits ≠ 0 →
    s.power = .active →
    s.pins.vioLost.getD x false = false →
    s.pins.selen.length = 2 →
    s.sp.length = 2 →
    ∃ t, exec (.slaveDeselect x bits) s = .next t ∧
      t.get (SP_STAT_STATE x) = 0 ∧
      Raised s t (SP_INT_STAT_FRAG x) ∧
      (if s.get (SP_STAT_STATE x) = 4 ∧ (if s.on (SP_FMT_CPHA x) then !(s.port x).tx.isEmpty else (s.port x).inHand) = false then Raised s t (SP_INT_STAT_TXUDF x) else t.on (SP_INT_STAT_TXUDF x) = s.on (SP_INT_STAT_TXUDF x)) ∧
      (if s.get (SP_STAT_STATE x) = 4 ∧ s.on (SP_FMT_CPHA x) = true then NextWord s t x false (s.port x).tx else (t.port x).word = (s.port x).word ∧ (t.port x).dout = (s.port x).dout ∧ (t.port x).inHand = (s.port x).inHand ∧ (t.port x).bit = (s.port x).bit) ∧
      t.sp = s.sp.set x { s.port x with sel := false, word := (t.port x).word, inHand := (t.port x).inHand, dout := (t.port x).dout, bit := (t.port x).bit } ∧
      (t.pins = { s.pins with selen := updAt s.pins.selen x (fun _ => some (s.on (SP_CTL_SSPOL x))), req := t.pins.req, pri := t.pins.pri, antsw := t.pins.antsw, antSel := t.pins.antSel }) ∧
      Frame s t ([SP_STAT_STATE x] ++ ((SP_INT_STAT_FRAG x) :: latchOf (SP_INT_STAT_FRAG x)) ++ ((SP_INT_STAT_TXUDF x) :: latchOf (SP_INT_STAT_TXUDF x))) [.sp, .pins] []) ∧
  (∀ (x : Fin 2) (bits : Fin 32) (s : State),
    (s.get (SP_STAT_STATE x) = 4 ∨ s.get (SP_STAT_STATE x) = 5) →
    s.get (SP_CTL_MODE x) ≠ 0 →
    bits = 0 →
    s.power = .active →
    s.pins.vioLost.getD x false = false →
    s.pins.selen.length = 2 →
    s.sp.length = 2 →
    ∃ t, exec (.slaveDeselect x bits) s = .next t ∧
      t.get (SP_STAT_STATE x) = 0 ∧
      t.sp = s.sp.set x { s.port x with sel := false } ∧
      (t.pins = { s.pins with selen := updAt s.pins.selen x (fun _ => some (s.on (SP_CTL_SSPOL x))), req := t.pins.req, pri := t.pins.pri, antsw := t.pins.antsw, antSel := t.pins.antSel }) ∧
      Frame s t [SP_STAT_STATE x] [.sp, .pins] []) ∧
  (∀ (x : Fin 2) (bits : Fin 32) (s : State),
    (s.get (SP_CTL_MODE x) = 0 ∨ (s.get (SP_STAT_STATE x) ≠ 4 ∧ s.get (SP_STAT_STATE x) ≠ 5)) →
    s.power = .active →
    s.pins.vioLost.getD x false = false →
    s.pins.selen.length = 2 →
    s.sp.length = 2 →
    ∃ t, exec (.slaveDeselect x bits) s = .next t ∧
      t.sp = s.sp.set x { s.port x with sel := false } ∧
      (t.pins = { s.pins with selen := updAt s.pins.selen x (fun _ => some (s.on (SP_CTL_SSPOL x))), req := t.pins.req, pri := t.pins.pri, antsw := t.pins.antsw, antSel := t.pins.antSel }) ∧
      Frame s t [] [.sp, .pins] []) ∧
  (∀ (core : Cpu) (x : Fin 2) (v : Word) (s : State),
    s.power = .active →
    (s.port x).tx.length < 64 →
    (s.get (SP_STAT_STATE x) = 3 → (s.on (SP_XFER_RXIGN x) = false ∧ 64 ≤ (s.port x).rx.length)) →
    s.sp.length = 2 →
    mayStore s core (A_SP_TXD x) →
    ∃ t, exec (.txdPush core x v) s = .next t ∧
      t.resp = ⟨0, false⟩ ∧
      t.sp = s.sp.set x { s.port x with tx := (s.port x).tx ++ [v] } ∧
      Frame s t [] [.resp, .sp] []) ∧
  (∀ (core : Cpu) (x : Fin 2) (v : Word) (s : State),
    s.power = .active →
    (s.port x).tx.length < 64 →
    s.get (SP_STAT_STATE x) = 3 →
    (¬((s.on (SP_XFER_RXIGN x) = false ∧ 64 ≤ (s.port x).rx.length))) →
    1 ≤ s.get (SP_CLKCFG_HALF x) →
    s.sp.length = 2 →
    mayStore s core (A_SP_TXD x) →
    ∃ t, exec (.txdPush core x v) s = .next t ∧
      t.resp = ⟨0, false⟩ ∧
      t.get (SP_STAT_STATE x) = 1 ∧
      ((s.port x).bit = 0 → NextWord s t x (s.on (SP_XFER_TXFILL x)) ((s.port x).tx ++ [v])) ∧
      ((s.port x).bit ≠ 0 → (t.port x).word = (s.port x).word ∧ (t.port x).dout = (s.port x).dout ∧ (t.port x).inHand = (s.port x).inHand ∧ (t.port x).bit = (s.port x).bit) ∧
      (if s.on (SP_CLKCFG_SPREAD x) then max (s.port x).edgeAt (s.now + (s.get (SP_CLKCFG_HALF x) - 1)) ≤ (t.port x).edgeAt ∧ (t.port x).edgeAt ≤ max (s.port x).edgeAt (s.now + s.get (SP_CLKCFG_HALF x) + 1) else (t.port x).edgeAt = max (s.port x).edgeAt (s.now + s.get (SP_CLKCFG_HALF x))) ∧
      t.sp = s.sp.set x { s.port x with word := (t.port x).word, inHand := (t.port x).inHand, dout := (t.port x).dout, bit := (t.port x).bit, edgeAt := (t.port x).edgeAt, tx := (s.port x).tx ++ [v] } ∧
      Frame s t [SP_STAT_STATE x] [.resp, .sp, .free] []) ∧
  (∀ (core : Cpu) (x : Fin 2) (v : Word) (s : State),
    s.power = .active →
    64 ≤ (s.port x).tx.length →
    mayStore s core (A_SP_TXD x) →
    ∃ t, exec (.txdPush core x v) s = .next t ∧
      t.resp = ⟨0, false⟩ ∧
      Raised s t (SP_INT_STAT_TXOVF x) ∧
      Frame s t ((SP_INT_STAT_TXOVF x) :: latchOf (SP_INT_STAT_TXOVF x)) [.resp] []) ∧
  (∀ (core : Cpu) (x : Fin 2) (w : Word) (q : List Word) (s : State),
    s.power = .active →
    (s.port x).rx = w :: q →
    (s.get (SP_STAT_STATE x) = 3 → (s.on (SP_XFER_TXFILL x) = false ∧ (s.port x).tx = []) ∨ (s.on (SP_XFER_RXIGN x) = false ∧ 64 ≤ q.length)) →
    s.sp.length = 2 →
    mayLoad s core (A_SP_RXD x) →
    ∃ t, exec (.rxdPop core x) s = .next t ∧
      t.resp = ⟨w, false⟩ ∧
      t.sp = s.sp.set x { s.port x with rx := q } ∧
      Frame s t [] [.sp, .resp] []) ∧
  (∀ (core : Cpu) (x : Fin 2) (w : Word) (q : List Word) (s : State),
    s.power = .active →
    (s.port x).rx = w :: q →
    s.get (SP_STAT_STATE x) = 3 →
    (¬((s.on (SP_XFER_TXFILL x) = false ∧ (s.port x).tx = []))) →
    q.length < 64 →
    1 ≤ s.get (SP_CLKCFG_HALF x) →
    s.sp.length = 2 →
    mayLoad s core (A_SP_RXD x) →
    ∃ t, exec (.rxdPop core x) s = .next t ∧
      t.resp = ⟨w, false⟩ ∧
      t.get (SP_STAT_STATE x) = 1 ∧
      ((s.port x).bit = 0 → NextWord s t x (s.on (SP_XFER_TXFILL x)) ((s.port x).tx)) ∧
      ((s.port x).bit ≠ 0 → (t.port x).word = (s.port x).word ∧ (t.port x).dout = (s.port x).dout ∧ (t.port x).inHand = (s.port x).inHand ∧ (t.port x).bit = (s.port x).bit) ∧
      (if s.on (SP_CLKCFG_SPREAD x) then max (s.port x).edgeAt (s.now + (s.get (SP_CLKCFG_HALF x) - 1)) ≤ (t.port x).edgeAt ∧ (t.port x).edgeAt ≤ max (s.port x).edgeAt (s.now + s.get (SP_CLKCFG_HALF x) + 1) else (t.port x).edgeAt = max (s.port x).edgeAt (s.now + s.get (SP_CLKCFG_HALF x))) ∧
      t.sp = s.sp.set x { s.port x with word := (t.port x).word, inHand := (t.port x).inHand, dout := (t.port x).dout, bit := (t.port x).bit, edgeAt := (t.port x).edgeAt, rx := q } ∧
      Frame s t [SP_STAT_STATE x] [.sp, .resp, .free] []) ∧
  (∀ (core : Cpu) (x : Fin 2) (s : State),
    s.power = .active →
    (s.port x).rx = [] →
    mayLoad s core (A_SP_RXD x) →
    ∃ t, exec (.rxdPop core x) s = .next t ∧
      t.resp = ⟨0, false⟩ ∧
      Raised s t (SP_INT_STAT_RXUDF x) ∧
      Frame s t ((SP_INT_STAT_RXUDF x) :: latchOf (SP_INT_STAT_RXUDF x)) [.resp] []) ∧
  (∀ (core : Cpu) (x : Fin 2) (s : State),
    s.power = .active →
    (s.get (SP_STAT_STATE x) = 3 → (s.on (SP_XFER_TXFILL x) = false ∧ (s.port x).tx = [])) →
    s.sp.length = 2 →
    mayStore s core (A_SP_FIFO x) →
    ∃ t, exec (.flushRx core x) s = .next t ∧
      t.resp = ⟨0, false⟩ ∧
      t.sp = s.sp.set x { s.port x with rx := [] } ∧
      Frame s t [] [.resp, .sp] []) ∧
  (∀ (core : Cpu) (x : Fin 2) (s : State),
    s.power = .active →
    s.get (SP_STAT_STATE x) = 3 →
    (¬((s.on (SP_XFER_TXFILL x) = false ∧ (s.port x).tx = []))) →
    1 ≤ s.get (SP_CLKCFG_HALF x) →
    s.sp.length = 2 →
    mayStore s core (A_SP_FIFO x) →
    ∃ t, exec (.flushRx core x) s = .next t ∧
      t.resp = ⟨0, false⟩ ∧
      t.get (SP_STAT_STATE x) = 1 ∧
      ((s.port x).bit = 0 → NextWord s t x (s.on (SP_XFER_TXFILL x)) ((s.port x).tx)) ∧
      ((s.port x).bit ≠ 0 → (t.port x).word = (s.port x).word ∧ (t.port x).dout = (s.port x).dout ∧ (t.port x).inHand = (s.port x).inHand ∧ (t.port x).bit = (s.port x).bit) ∧
      (if s.on (SP_CLKCFG_SPREAD x) then max (s.port x).edgeAt (s.now + (s.get (SP_CLKCFG_HALF x) - 1)) ≤ (t.port x).edgeAt ∧ (t.port x).edgeAt ≤ max (s.port x).edgeAt (s.now + s.get (SP_CLKCFG_HALF x) + 1) else (t.port x).edgeAt = max (s.port x).edgeAt (s.now + s.get (SP_CLKCFG_HALF x))) ∧
      t.sp = s.sp.set x { s.port x with word := (t.port x).word, inHand := (t.port x).inHand, dout := (t.port x).dout, bit := (t.port x).bit, edgeAt := (t.port x).edgeAt, rx := [] } ∧
      Frame s t [SP_STAT_STATE x] [.resp, .sp, .free] []) ∧
  (∀ (core : Cpu) (x : Fin 2) (s : State),
    s.power = .active →
    s.get (SP_STAT_STATE x) ≠ 4 →
    (s.get (SP_STAT_STATE x) = 3 → s.on (SP_XFER_TXFILL x) = false ∨ (s.on (SP_XFER_RXIGN x) = false ∧ 64 ≤ (s.port x).rx.length)) →
    s.sp.length = 2 →
    mayStore s core (A_SP_FIFO x) →
    ∃ t, exec (.flushTx core x) s = .next t ∧
      t.resp = ⟨0, false⟩ ∧
      t.sp = s.sp.set x { s.port x with tx := [], inHand := false } ∧
      Frame s t [] [.resp, .sp] []) ∧
  (∀ (core : Cpu) (x : Fin 2) (s : State),
    s.power = .active →
    s.get (SP_STAT_STATE x) = 4 →
    s.sp.length = 2 →
    mayStore s core (A_SP_FIFO x) →
    ∃ t, exec (.flushTx core x) s = .next t ∧
      t.resp = ⟨0, false⟩ ∧
      NextWord s t x false [] ∧
      t.sp = s.sp.set x { s.port x with tx := [], word := (t.port x).word, inHand := (t.port x).inHand, dout := (t.port x).dout, bit := (t.port x).bit } ∧
      Frame s t [] [.resp, .sp] []) ∧
  (∀ (core : Cpu) (x : Fin 2) (s : State),
    s.power = .active →
    s.get (SP_STAT_STATE x) ≠ 3 →
    (s.get (SP_STAT_STATE x) ≠ 2 ∨ (s.port x).bit ≠ 0) →
    s.get (SP_CTL_MODE x) ≠ 3 →
    mayStore s core (SP_CTL_EN x).addr →
    ∃ t, exec (.spDisable core x) s = .next t ∧
      t.resp = ⟨0, false⟩ ∧
      t.on (SP_CTL_EN x) = false ∧
      Frame s t [SP_CTL_EN x] [.resp] []) ∧
  (∀ (core : Cpu) (x : Fin 2) (s : State),
    s.power = .active →
    (s.get (SP_STAT_STATE x) = 3 ∨ (s.get (SP_STAT_STATE x) = 2 ∧ (s.port x).bit = 0)) →
    s.get (SP_CTL_MODE x) ≠ 3 →
    s.sp.length = 2 →
    mayStore s core (SP_CTL_EN x).addr →
    ∃ t, exec (.spDisable core x) s = .next t ∧
      t.resp = ⟨0, false⟩ ∧
      t.on (SP_CTL_EN x) = false ∧
      t.get (SP_STAT_STATE x) = 1 ∧
      t.sp = s.sp.set x { s.port x with left := 0, code := 4, ending := 0, fallAt := s.now + max 1 (s.get (SP_TIM_TRAIL x)), endAt := s.now + max 1 (s.get (SP_TIM_TRAIL x)) + max 1 (s.get (SP_TIM_GAP x)) } ∧
      Frame s t [SP_CTL_EN x, SP_STAT_STATE x] [.resp, .sp] []) ∧
  (∀ (x : Fin 2) (s : State),
    s.power ≠ .off →
    s.on (SP_CTL_EN x) = false →
    (s.get (SP_STAT_STATE x) = 0 ∨ s.get (SP_STAT_STATE x) = 4 ∨ s.get (SP_STAT_STATE x) = 5) →
    ∃ t, exec (.spDisableDone x) s = .next t ∧
      t.on (SP_CTL_EN_ACK x) = false ∧
      t.get (SP_STAT_STATE x) = 0 ∧
      Frame s t [SP_CTL_EN_ACK x, SP_STAT_STATE x] [] []) ∧
  (∀ (v : Word) (s : State),
    s.power ≠ .off →
    s.get (SP_STAT_STATE 1) = 5 →
    (s.port 1).winCmd = false →
    winValid v = true →
    s.pins.vioLost.getD 1 false = false →
    s.sp.length = 2 →
    ∃ t, exec (.windowCommand v) s = .next t ∧
      t.sp = s.sp.set 1 { s.port 1 with winCmd := true, winBad := false, winOver := false, winWrite := v.getLsbD 31, winInc := v.getLsbD 30, winSpace := bitsOf v 26 4, winOff := bitsOf v 0 24 } ∧
      Frame s t [] [.sp] []) ∧
  (∀ (v : Word) (s : State),
    s.power ≠ .off →
    s.get (SP_STAT_STATE 1) = 5 →
    (s.port 1).winCmd = false →
    winValid v = false →
    s.pins.vioLost.getD 1 false = false →
    s.sp.length = 2 →
    ∃ t, exec (.windowCommand v) s = .next t ∧
      Raised s t (SP_INT_STAT_WIN_BERR 1) ∧
      t.sp = s.sp.set 1 { s.port 1 with winCmd := true, winBad := true, winOver := false, winWrite := v.getLsbD 31, winInc := v.getLsbD 30, winSpace := bitsOf v 26 4, winOff := bitsOf v 0 24 } ∧
      Frame s t ((SP_INT_STAT_WIN_BERR 1) :: latchOf (SP_INT_STAT_WIN_BERR 1)) [.sp] []) ∧
  (∀ (early : Bool) (s : State),
    s.get (SP_STAT_STATE 1) = 5 →
    (s.port 1).winCmd = true →
    (s.port 1).winBad = false →
    (s.port 1).winOver = false →
    (s.port 1).winSpace = 2 →
    (s.port 1).winOff + 4 ≤ 0x100000 →
    (s.port 1).winOff % 4 = 0 →
    early = false →
    s.power = .active →
    s.sp.length = 2 →
    windowWaits s = false →
    s.pins.vioLost.getD 1 false = false →
    (s.port 1).winWrite = false →
    ∃ t, exec (.windowRead early) s = .next t ∧
      t.resp = ⟨s.memWord (0x20000000 + (s.port 1).winOff), false⟩ ∧
      (t.sp = s.sp.set 1 (if (s.port 1).winInc then (if (s.port 1).winOff + 4 < 0x100000 then { s.port 1 with winOff := (s.port 1).winOff + 4, word := s.memWord (0x20000000 + (s.port 1).winOff), dout := (s.memWord (0x20000000 + (s.port 1).winOff)).getLsbD 0 } else { s.port 1 with winOver := true, word := s.memWord (0x20000000 + (s.port 1).winOff), dout := (s.memWord (0x20000000 + (s.port 1).winOff)).getLsbD 0 }) else { s.port 1 with word := s.memWord (0x20000000 + (s.port 1).winOff), dout := (s.memWord (0x20000000 + (s.port 1).winOff)).getLsbD 0 })) ∧
      Frame s t [] [.sp, .resp] []) ∧
  (∀ (early : Bool) (s : State),
    s.power = .active →
    s.get (SP_STAT_STATE 1) = 5 →
    (s.port 1).winCmd = true →
    (s.port 1).winWrite = false →
    (early = true ∨ windowWaits s = true) →
    s.pins.vioLost.getD 1 false = false →
    s.sp.length = 2 →
    ∃ t, exec (.windowRead early) s = .next t ∧
      t.resp = ⟨s.reg (A_SP_FILL 1), false⟩ ∧
      Raised s t (SP_INT_STAT_TXUDF 1) ∧
      t.sp = s.sp.set 1 { s.port 1 with word := s.reg (A_SP_FILL 1), dout := (s.reg (A_SP_FILL 1)).getLsbD 0 } ∧
      Frame s t ((SP_INT_STAT_TXUDF 1) :: latchOf (SP_INT_STAT_TXUDF 1)) [.sp, .resp] []) ∧
  (∀ (v : Word) (early : Bool) (s : State),
    s.get (SP_STAT_STATE 1) = 5 →
    (s.port 1).winCmd = true →
    (s.port 1).winBad = false →
    (s.port 1).winOver = false →
    (s.port 1).winSpace = 2 →
    (s.port 1).winOff + 4 ≤ 0x100000 →
    (s.port 1).winOff % 4 = 0 →
    early = false →
    s.power = .active →
    s.sp.length = 2 →
    windowWaits s = false →
    s.pins.vioLost.getD 1 false = false →
    (s.port 1).winWrite = true →
    sramWaits s (0x20000000 + (s.port 1).winOff) 4 = false →
    ∃ t, exec (.windowWrite v early) s = .next t ∧
      t.resp.err = false ∧
      t.memWord (0x20000000 + (s.port 1).winOff) = v ∧
      (t.sp = s.sp.set 1 (if (s.port 1).winInc then (if (s.port 1).winOff + 4 < 0x100000 then { s.port 1 with winOff := (s.port 1).winOff + 4 } else { s.port 1 with winOver := true }) else (s.port 1))) ∧
      Frame s t [] [.sp, .resp] [((0x20000000 + (s.port 1).winOff), 4)]) ∧
  (∀ (v : Word) (early : Bool) (s : State),
    s.get (SP_STAT_STATE 1) = 5 →
    (s.port 1).winCmd = true →
    (s.port 1).winBad = false →
    (s.port 1).winOver = false →
    (s.port 1).winSpace = 2 →
    (s.port 1).winOff + 4 ≤ 0x100000 →
    (s.port 1).winOff % 4 = 0 →
    early = false →
    s.power = .active →
    s.sp.length = 2 →
    windowWaits s = false →
    s.pins.vioLost.getD 1 false = false →
    (s.port 1).winWrite = true →
    sramWaits s (0x20000000 + (s.port 1).winOff) 4 = true →
    ∃ t, exec (.windowWrite v early) s = .next t ∧
      t.sp = s.sp.set 1 { s.port 1 with winHeld := some ((0x20000000 + (s.port 1).winOff), v) } ∧
      Frame s t [] [.sp] []) ∧
  (∀ (v : Word) (early : Bool) (s : State),
    s.power = .active →
    s.get (SP_STAT_STATE 1) = 5 →
    (s.port 1).winCmd = true →
    (s.port 1).winWrite = true →
    (early = true ∨ windowWaits s = true) →
    s.pins.vioLost.getD 1 false = false →
    ∃ t, exec (.windowWrite v early) s = .next t ∧
      Raised s t (SP_INT_STAT_RXOVF 1) ∧
      Frame s t ((SP_INT_STAT_RXOVF 1) :: latchOf (SP_INT_STAT_RXOVF 1)) [] [])

/-- R516 to R519: START and STOP, a due prescaler output counts COUNT or wraps it from TOP with OVF and its event, a compare channel whose CMP it reaches sets MATCH with its event. R521, R522: a channel captures COUNT on a chosen edge into its queue of four, a pop returns the oldest entry. R524: in paired mode a rising edge stores RISE, the falling edge FALL and WIDTH. R517, R519: writes of COUNT up to TOP, and of CMP, which notes an equal COUNT. R529: the disable. -/
def Obligations.TimersCountAndCapture : Prop :=
  (∀ (core : Cpu) (m : Fin 8) (s : State),
    s.power = .active →
    mayStore s core (A_TM_CMD m) →
    ∃ t, exec (.tmStart core m) s = .next t ∧
      t.resp = ⟨0, false⟩ ∧
      t.on (TM_STAT_RUN m) = true ∧
      t.get (TM_STAT_PREM m) = 0 ∧
      Frame s t [TM_STAT_RUN m, TM_STAT_PREM m] [.resp] []) ∧
  (∀ (core : Cpu) (m : Fin 8) (s : State),
    s.power = .active →
    mayStore s core (A_TM_CMD m) →
    ∃ t, exec (.tmStop core m) s = .next t ∧
      t.resp = ⟨0, false⟩ ∧
      t.on (TM_STAT_RUN m) = false ∧
      Frame s t [TM_STAT_RUN m] [.resp] []) ∧
  (∀ (m : Fin 8) (s : State),
    s.power = .active →
    s.on TM_CTL_EN = true →
    s.on (TM_STAT_RUN m) = true →
    tmDebugStop s m = false →
    m.val ∈ s.tm.due →
    (s.get (TM_COUNT_COUNT m) < 2 ^ 32 - 1 ∨ s.get (TM_COUNT_COUNT m) = s.get (TM_TOP_TOP m)) →
    (∀ e ∈ s.tm.taken, e.1 ≠ m.val) →
    (∀ c : Fin 4, s.get (TM_CH_CFG_MODE m c) = 1 → s.get (TM_CH_CMP_CMP m c) ≠ (if s.get (TM_COUNT_COUNT m) = s.get (TM_TOP_TOP m) then 0 else s.get (TM_COUNT_COUNT m) + 1)) →
    s.get (TM_COUNT_COUNT m) ≠ s.get (TM_TOP_TOP m) →
    ∃ t, exec (.timerIncrement m) s = .next t ∧
      t.get (TM_COUNT_COUNT m) = s.get (TM_COUNT_COUNT m) + 1 ∧
      t.get (TM_STAT_PREM m) = 0 ∧
      t.tm = { s.tm with due := s.tm.due.filter (· != m.val) } ∧
      Frame s t [TM_COUNT_COUNT m, TM_STAT_PREM m] [.tm] []) ∧
  (∀ (m : Fin 8) (s : State),
    s.power = .active →
    s.on TM_CTL_EN = true →
    s.on (TM_STAT_RUN m) = true →
    tmDebugStop s m = false →
    m.val ∈ s.tm.due →
    (s.get (TM_COUNT_COUNT m) < 2 ^ 32 - 1 ∨ s.get (TM_COUNT_COUNT m) = s.get (TM_TOP_TOP m)) →
    (∀ e ∈ s.tm.taken, e.1 ≠ m.val) →
    (∀ c : Fin 4, s.get (TM_CH_CFG_MODE m c) = 1 → s.get (TM_CH_CMP_CMP m c) ≠ (if s.get (TM_COUNT_COUNT m) = s.get (TM_TOP_TOP m) then 0 else s.get (TM_COUNT_COUNT m) + 1)) →
    s.get (TM_COUNT_COUNT m) = s.get (TM_TOP_TOP m) →
    ∃ t, exec (.timerIncrement m) s = .next t ∧
      t.get (TM_COUNT_COUNT m) = 0 ∧
      t.get (TM_STAT_PREM m) = 0 ∧
      t.tm = { s.tm with due := s.tm.due.filter (· != m.val) } ∧
      Raised s t (TM_INT_STAT_OVF m) ∧
      t.emitted = (s.emit (130 + m)).emitted ∧
      Frame s t ([TM_COUNT_COUNT m, TM_STAT_PREM m] ++ ((TM_INT_STAT_OVF m) :: latchOf (TM_INT_STAT_OVF m))) [.emitted, .tm] []) ∧
  (∀ (m : Fin 8) (k : Fin 4) (s : State),
    s.power = .active →
    s.on TM_CTL_EN = true →
    s.on (TM_STAT_RUN m) = true →
    tmDebugStop s m = false →
    m.val ∈ s.tm.due →
    (s.get (TM_COUNT_COUNT m) < 2 ^ 32 - 1 ∨ s.get (TM_COUNT_COUNT m) = s.get (TM_TOP_TOP m)) →
    (∀ e ∈ s.tm.taken, e.1 ≠ m.val) →
    (∀ c : Fin 4, c ≠ k → s.get (TM_CH_CFG_MODE m c) = 1 → s.get (TM_CH_CMP_CMP m c) ≠ (if s.get (TM_COUNT_COUNT m) = s.get (TM_TOP_TOP m) then 0 else s.get (TM_COUNT_COUNT m) + 1)) →
    s.get (TM_CH_CFG_MODE m k) = 1 →
    (s.get (TM_CH_CMP_CMP m k) = (if s.get (TM_COUNT_COUNT m) = s.get (TM_TOP_TOP m) then 0 else s.get (TM_COUNT_COUNT m) + 1)) →
    s.get (TM_COUNT_COUNT m) ≠ s.get (TM_TOP_TOP m) →
    ∃ t, exec (.timerIncrement m) s = .next t ∧
      t.get (TM_COUNT_COUNT m) = s.get (TM_COUNT_COUNT m) + 1 ∧
      t.get (TM_STAT_PREM m) = 0 ∧
      t.tm = { s.tm with due := s.tm.due.filter (· != m.val) } ∧
      Raised s t ((TM_INT_STAT_MATCH m).bit k) ∧
      t.emitted = (s.emit (98 + 4 * m + k)).emitted ∧
      Frame s t ([TM_COUNT_COUNT m, TM_STAT_PREM m] ++ (((TM_INT_STAT_MATCH m).bit k) :: latchOf ((TM_INT_STAT_MATCH m).bit k))) [.emitted, .tm] []) ∧
  (∀ (m : Fin 8) (s : State),
    s.power = .active →
    s.on TM_CTL_EN = true →
    s.on (TM_STAT_RUN m) = true →
    tmDebugStop s m = false →
    m.val ∈ s.tm.due →
    (s.get (TM_COUNT_COUNT m) < 2 ^ 32 - 1 ∨ s.get (TM_COUNT_COUNT m) = s.get (TM_TOP_TOP m)) →
    (∀ e ∈ s.tm.taken, e.1 ≠ m.val) →
    ∃ t, exec (.timerIncrement m) s = .next t ∧
      (t.get (TM_COUNT_COUNT m) = (if s.get (TM_COUNT_COUNT m) = s.get (TM_TOP_TOP m) then 0 else s.get (TM_COUNT_COUNT m) + 1)) ∧
      t.get (TM_STAT_PREM m) = 0 ∧
      (if s.get (TM_COUNT_COUNT m) = s.get (TM_TOP_TOP m) then Raised s t (TM_INT_STAT_OVF m) else t.on (TM_INT_STAT_OVF m) = s.on (TM_INT_STAT_OVF m)) ∧
      (∀ k : Fin 4, if s.get (TM_CH_CFG_MODE m k) = 1 ∧ s.get (TM_CH_CMP_CMP m k) = (if s.get (TM_COUNT_COUNT m) = s.get (TM_TOP_TOP m) then 0 else s.get (TM_COUNT_COUNT m) + 1) then Raised s t ((TM_INT_STAT_MATCH m).bit k) else t.on ((TM_INT_STAT_MATCH m).bit k) = s.on ((TM_INT_STAT_MATCH m).bit k)) ∧
      t.tm = { s.tm with due := s.tm.due.filter (· != m.val) } ∧
      (Frame s t ([TM_COUNT_COUNT m, TM_STAT_PREM m] ++ ((TM_INT_STAT_OVF m) :: latchOf (TM_INT_STAT_OVF m)) ++ ((List.range 4).flatMap fun k => (TM_INT_STAT_MATCH m).bit k :: latchOf ((TM_INT_STAT_MATCH m).bit k))) [.emitted, .tm] [])) ∧
  (∀ (m : Fin 8) (s : State),
    s.power ≠ .off →
    m.val ∈ s.tm.due →
    tmCounting s m = false →
    (∀ e ∈ s.tm.taken, e.1 ≠ m.val) →
    ∃ t, exec (.timerIncrement m) s = .next t ∧
      t.tm = { s.tm with due := s.tm.due.filter (· != m.val) } ∧
      Frame s t [] [.tm] []) ∧
  (∀ (m : Fin 8) (k : Fin 4) (rising : Bool) (s : State),
    s.power = .active →
    s.on TM_CTL_EN = true →
    s.on (TM_STAT_RUN m) = true →
    tmDebugStop s m = false →
    m.val ∈ s.tm.due →
    (s.get (TM_COUNT_COUNT m) < 2 ^ 32 - 1 ∨ s.get (TM_COUNT_COUNT m) = s.get (TM_TOP_TOP m)) →
    (s.tm.taken.filter (fun e => e.1 == m.val) = [(m.val, k.val, rising, false)]) →
    (∀ c : Fin 4, s.get (TM_CH_CFG_MODE m c) = 1 → s.get (TM_CH_CMP_CMP m c) ≠ (if s.get (TM_COUNT_COUNT m) = s.get (TM_TOP_TOP m) then 0 else s.get (TM_COUNT_COUNT m) + 1)) →
    s.get (TM_COUNT_COUNT m) ≠ s.get (TM_TOP_TOP m) →
    (s.caps m k).length < 4 →
    s.tm.caps.length = 32 →
    ∃ t, exec (.timerIncrement m) s = .next t ∧
      t.get (TM_COUNT_COUNT m) = s.get (TM_COUNT_COUNT m) + 1 ∧
      t.get (TM_STAT_PREM m) = 0 ∧
      (t.tm = { s.tm with due := s.tm.due.filter (· != m.val), taken := s.tm.taken.filter (fun e => e.1 != m.val), caps := updAt s.tm.caps (4 * m + k) fun _ => (s.caps m k) ++ [(s.get (TM_COUNT_COUNT m) + 1, rising)] }) ∧
      t.get (TM_CH_STAT_QLVL m k) = (s.caps m k).length + 1 ∧
      (t.get (TM_CH_STAT_QEDGE m k)).testBit (s.caps m k).length = rising ∧
      Frame s t [TM_COUNT_COUNT m, TM_STAT_PREM m, TM_CH_STAT_QLVL m k, TM_CH_STAT_QEDGE m k] [.tm] []) ∧
  (∀ (m : Fin 8) (k : Fin 4) (rising : Bool) (s : State),
    s.power = .active →
    s.get (TM_CH_CFG_MODE m k) = 2 →
    s.on (TM_CH_CFG_EVT m k) = false →
    (s.tm.inTick = true ∨ m.val ∈ s.tm.due) →
    (tmPaired s = true ∨ (s.get (TM_CH_CFG_EDGE m k)).testBit (if rising then 0 else 1) = true) →
    ∃ t, exec (.capture m k rising) s = .next t ∧
      t.tm = { s.tm with taken := s.tm.taken ++ [(m.val, k.val, rising, tmPaired s)] } ∧
      Frame s t [] [.tm] []) ∧
  (∀ (m : Fin 8) (k : Fin 4) (rising : Bool) (s : State),
    s.power = .active →
    s.get (TM_CH_CFG_MODE m k) = 2 →
    s.on (TM_CH_CFG_EVT m k) = false →
    s.tm.inTick = false →
    m.val ∉ s.tm.due →
    tmPaired s = false →
    ((s.get (TM_CH_CFG_EDGE m k)).testBit (if rising then 0 else 1) = true) →
    (s.caps m k).length < 4 →
    s.tm.caps.length = 32 →
    s.on BT_STATUS_IVORY = false →
    s.on TM_CTL_TEST = false →
    s.fc.recov = [] →
    ∃ t, exec (.capture m k rising) s = .next t ∧
      (t.tm = { s.tm with caps := updAt s.tm.caps (4 * m + k) fun _ => (s.caps m k) ++ [(s.get (TM_COUNT_COUNT m), rising)] }) ∧
      t.get (TM_CH_STAT_QLVL m k) = (s.caps m k).length + 1 ∧
      (t.get (TM_CH_STAT_QEDGE m k)).testBit (s.caps m k).length = rising ∧
      Frame s t [TM_CH_STAT_QLVL m k, TM_CH_STAT_QEDGE m k] [.tm] []) ∧
  (∀ (m : Fin 8) (k : Fin 4) (rising : Bool) (s : State),
    s.power = .active →
    s.get (TM_CH_CFG_MODE m k) = 2 →
    s.on (TM_CH_CFG_EVT m k) = false →
    s.tm.inTick = false →
    m.val ∉ s.tm.due →
    tmPaired s = true →
    s.on TM_CTL_TEST = true →
    rising = true →
    s.on (TM_CH_STAT_RISE_V m k) = false →
    ∃ t, exec (.capture m k rising) s = .next t ∧
      t.get (TM_CH_RISE_RISE m k) = s.get (TM_COUNT_COUNT m) ∧
      t.on (TM_CH_STAT_RISE_V m k) = true ∧
      Frame s t [TM_CH_RISE_RISE m k] [] []) ∧
  (∀ (m : Fin 8) (k : Fin 4) (rising : Bool) (s : State),
    s.power = .active →
    s.get (TM_CH_CFG_MODE m k) = 2 →
    s.on (TM_CH_CFG_EVT m k) = false →
    s.tm.inTick = false →
    m.val ∉ s.tm.due →
    tmPaired s = true →
    s.on TM_CTL_TEST = true →
    rising = false →
    s.on (TM_CH_STAT_RISE_V m k) = true →
    s.get (TM_CH_RISE_RISE m k) ≤ s.get (TM_TOP_TOP m) →
    s.get (TM_COUNT_COUNT m) ≤ s.get (TM_TOP_TOP m) →
    ∃ t, exec (.capture m k rising) s = .next t ∧
      t.get (TM_CH_FALL_FALL m k) = s.get (TM_COUNT_COUNT m) ∧
      (t.get (TM_CH_WIDTH_WIDTH m k) = if s.get (TM_CH_RISE_RISE m k) ≤ s.get (TM_COUNT_COUNT m) then s.get (TM_COUNT_COUNT m) - s.get (TM_CH_RISE_RISE m k) else s.get (TM_COUNT_COUNT m) + (s.get (TM_TOP_TOP m) + 1) - s.get (TM_CH_RISE_RISE m k)) ∧
      t.on (TM_CH_STAT_RISE_V m k) = false ∧
      t.on (TM_CH_STAT_WIDTH_V m k) = true ∧
      Raised s t ((TM_INT_STAT_PAIR m).bit k) ∧
      Frame s t ([TM_CH_FALL_FALL m k, TM_CH_WIDTH_WIDTH m k, TM_CH_STAT_WIDTH_V m k] ++ (((TM_INT_STAT_PAIR m).bit k) :: latchOf ((TM_INT_STAT_PAIR m).bit k))) [] []) ∧
  (∀ (core : Cpu) (m : Fin 8) (k : Fin 4) (c : Nat) (e : Bool) (s : State),
    s.power = .active →
    (s.caps m k).head? = some (c, e) →
    (s.caps m k).length ≤ 4 →
    s.tm.caps.length = 32 →
    mayLoad s core (A_TM_CH_CAP m k) →
    ∃ t, exec (.capPop core m k) s = .next t ∧
      t.resp = ⟨w32 c, false⟩ ∧
      (t.tm = { s.tm with caps := updAt s.tm.caps (4 * m + k) fun _ => (s.caps m k).drop 1 }) ∧
      t.get (TM_CH_STAT_QLVL m k) = (s.caps m k).length - 1 ∧
      (∀ i : Fin 4, (t.get (TM_CH_STAT_QEDGE m k)).testBit i = ((s.caps m k).getD (i + 1) (0, false)).2) ∧
      Frame s t [TM_CH_STAT_QLVL m k, TM_CH_STAT_QEDGE m k] [.tm, .resp] []) ∧
  (∀ (core : Cpu) (m : Fin 8) (k : Fin 4) (s : State),
    s.power = .active →
    mayLoad s core (A_TM_CH_WIDTH m k) →
    ∃ t, exec (.widthRead core m k) s = .next t ∧
      t.resp = ⟨s.reg (A_TM_CH_WIDTH m k), false⟩ ∧
      t.on (TM_CH_STAT_WIDTH_V m k) = false ∧
      Frame s t [TM_CH_STAT_WIDTH_V m k] [.resp] []) ∧
  (∀ (core : Cpu) (m : Fin 8) (v : Word) (s : State),
    s.power = .active →
    v.toNat ≤ s.get (TM_TOP_TOP m) →
    mayStore s core (A_TM_COUNT m) →
    ∃ t, exec (.countWrite core m v) s = .next t ∧
      t.resp = ⟨0, false⟩ ∧
      t.get (TM_COUNT_COUNT m) = v.toNat ∧
      t.get (TM_STAT_PREM m) = 0 ∧
      Frame s t [TM_COUNT_COUNT m, TM_STAT_PREM m] [.resp] []) ∧
  (∀ (core : Cpu) (m : Fin 8) (k : Fin 4) (v : Word) (s : State),
    s.power = .active →
    mayStore s core (A_TM_CH_CMP m k) →
    ∃ t, exec (.cmpWrite core m k v) s = .next t ∧
      t.resp = ⟨0, false⟩ ∧
      t.get (TM_CH_CMP_CMP m k) = v.toNat ∧
      t.on (TM_CH_STAT_CMP_EQ_WRITE m k) = (s.on (TM_CH_STAT_CMP_EQ_WRITE m k) || decide (v.toNat = s.get (TM_COUNT_COUNT m))) ∧
      Frame s t [TM_CH_CMP_CMP m k, TM_CH_STAT_CMP_EQ_WRITE m k] [.resp] []) ∧
  (∀ (core : Cpu) (s : State),
    s.power = .active →
    mayStore s core TM_CTL_EN.addr →
    ∃ t, exec (.tmDisable core) s = .next t ∧
      t.resp = ⟨0, false⟩ ∧
      t.on TM_CTL_EN = false ∧
      t.on TM_CTL_EN_ACK = false ∧
      Frame s t [TM_CTL_EN, TM_CTL_EN_ACK] [.resp] [])

/-- R531, R532: a kick with the key inside the window returns ELAPSED to 0, one before the window or with another key lets the watchdog of a core expire with EARLY or BADKEY, and one while EN is 0, or that falls with the expiry (R533), is ignored. R533: TIMEOUT − WARN sets WARN with source and, for WD_SYS, event 154. R534: TIMEOUT puts the core into core restart with its state as after reset (R565, R441), or performs a system reset with cause 2 and sub-cause TIMEOUT. R572, R573: a restart's end runs the core at ENTRY and writes the fault record of the recovery. What else a core restart changes is stated with no job and no open commit group of the core, and the interrupt controller disabled; that its jobs end, its open groups are freed and its active sources become pending again, without these premises. -/
def Obligations.WatchdogsAndRestarts : Prop :=
  (∀ (core : Cpu) (w : Fin 5) (key : BitVec 16) (s : State),
    s.power = .active →
    (w.val < 4 → s.coreState w ≠ 0) →
    (core.val = w.val ∨ (w = 4 ∧ s.on (IC_CPU_STAT_NS core) = false)) →
    s.on (WD_CFG_EN (wdReg w)) = true →
    key = 0x5AC3 →
    (s.on (WD_STAT_RUN (wdReg w)) = true ∧ s.get (WD_CFG_TIMEOUT (wdReg w)) ≤ s.get (WD_STAT_ELAPSED (wdReg w)) → s.tm.wdTicks.getD w 0 ≠ 0) →
    s.get (WD_WIN_WINDOW (wdReg w)) ≤ s.get (WD_STAT_ELAPSED (wdReg w)) →
    mayStore s core (A_WD_KICK (wdReg w)) →
    ∃ t, exec (.kick core w key) s = .next t ∧
      t.resp = ⟨0, false⟩ ∧
      t.get (WD_STAT_ELAPSED (wdReg w)) = 0 ∧
      t.on (WD_STAT_OPEN (wdReg w)) = decide (s.get (WD_WIN_WINDOW (wdReg w)) = 0) ∧
      (t.tm = { s.tm with wdTicks := updAt s.tm.wdTicks w fun _ => 0 }) ∧
      Frame s t [WD_STAT_ELAPSED (wdReg w), WD_STAT_OPEN (wdReg w)] [.resp, .tm] []) ∧
  (∀ (core : Cpu) (w : Fin 5) (key : BitVec 16) (s : State),
    s.power = .active →
    (w.val < 4 → s.coreState w ≠ 0) →
    (core.val = w.val ∨ (w = 4 ∧ s.on (IC_CPU_STAT_NS core) = false)) →
    (s.on (WD_CFG_EN (wdReg w)) = false ∨ (s.on (WD_STAT_RUN (wdReg w)) = true ∧ s.get (WD_CFG_TIMEOUT (wdReg w)) ≤ s.get (WD_STAT_ELAPSED (wdReg w)) ∧ s.tm.wdTicks.getD w 0 = 0)) →
    mayStore s core (A_WD_KICK (wdReg w)) →
    ∃ t, exec (.kick core w key) s = .next t ∧
      t.resp = ⟨0, false⟩ ∧
      Frame s t [] [.resp] []) ∧
  (∀ (core : Cpu) (w : Fin 5) (key : BitVec 16) (s : State),
    s.power = .active →
    (w.val < 4 → s.coreState w ≠ 0) →
    core.val = w.val →
    s.on (WD_CFG_EN (wdReg w)) = true →
    (key ≠ 0x5AC3 ∨ s.get (WD_STAT_ELAPSED (wdReg w)) < s.get (WD_WIN_WINDOW (wdReg w))) →
    (s.on (WD_STAT_RUN (wdReg w)) = true ∧ s.get (WD_CFG_TIMEOUT (wdReg w)) ≤ s.get (WD_STAT_ELAPSED (wdReg w)) → s.tm.wdTicks.getD w 0 ≠ 0) →
    s.cores.length = 4 →
    mayStore s core (A_WD_KICK (wdReg w)) →
    ∃ t, exec (.kick core w key) s = .next t ∧
      t.resp = ⟨0, false⟩ ∧
      t.coreState w = 3 ∧
      (t.fc = { s.fc with recov := s.fc.recov ++ [{ code := 0x8, sub := if key = 0x5AC3 then 2 else 3, place := w.val, start := s.tb.now }] }) ∧
      t.on (WD_STAT_RUN (wdReg w)) = false) ∧
  (∀ (w : Fin 5) (s : State),
    s.power ≠ .off →
    s.on (WD_STAT_RUN (wdReg w)) = true →
    s.get (WD_WIN_WARN (wdReg w)) ≠ 0 →
    s.get (WD_STAT_ELAPSED (wdReg w)) + s.get (WD_WIN_WARN (wdReg w)) = s.get (WD_CFG_TIMEOUT (wdReg w)) →
    ∃ t, exec (.wdWarn w) s = .next t ∧
      Raised s t (WD_INT_STAT_WARN (wdReg w)) ∧
      (t.emitted = if w = 4 then (s.emit 154).emitted else s.emitted) ∧
      Frame s t ((WD_INT_STAT_WARN (wdReg w)) :: latchOf (WD_INT_STAT_WARN (wdReg w))) [.emitted] []) ∧
  (∀ (w : Fin 5) (c : Fin 4) (s : State),
    s.power ≠ .off →
    w.val = c.val →
    s.on (WD_STAT_RUN (wdReg w)) = true →
    s.get (WD_CFG_TIMEOUT (wdReg w)) ≤ s.get (WD_STAT_ELAPSED (wdReg w)) →
    (s.core c).active = [] →
    s.cores.length = 4 →
    (∀ c : Fin 4, s.get (CE_J_STAT_STATE c) ≠ 1 ∧ s.get (CE_J_STAT_STATE c) ≠ 2 ∧ s.get (PQ_J_STAT_STATE c) ≠ 1 ∧ s.get (PQ_J_STAT_STATE c) ≠ 2) →
    (∀ g : Fin 8, s.groupState g ≠ 1) →
    s.on IC_CTL_EN = false →
    (∀ c : Fin 4, s.on (IC_CPU_STAT_ASG c) = false) →
    ∃ t, exec (.wdExpiry w) s = .next t ∧
      t.coreState c = 3 ∧
      (t.reservations = s.reservations.filter fun r => r.1 != c.val) ∧
      t.cores = s.cores.set c { CoreS.reset with dm := assocPut (s.core c).dm dmHaveReset 1 } ∧
      Counted s t (IC_CPU_STAT_RESTARTS c) ∧
      t.get (IC_CPU_STAT_RPRI c) = 0 ∧
      t.on (WD_STAT_RUN c) = false ∧
      t.get (WD_STAT_ELAPSED c) = 0 ∧
      t.on (WD_INT_STAT_WARN c) = false ∧
      t.fc = { s.fc with recov := s.fc.recov ++ [{ code := 0x8, sub := 1, place := c.val, start := s.tb.now }] } ∧
      Frame s t [IC_CPU_STAT_STATE c, IC_CPU_STAT_RPRI c, IC_CPU_STAT_ASG c, IC_CPU_STAT_ASRC c, IC_CPU_STAT_RESTARTS c, WD_STAT_RUN c, WD_STAT_ELAPSED c, WD_STAT_OPEN c, WD_INT_STAT_WARN c, CE_J_STAT_ABORT_LATE c, PQ_J_STAT_ABORT_LATE c, PM_STAT_LLVL, PM_STAT_LEVEL, IC_DBG_CTL_HALTED.bit c] [.cores, .reservations, .fc, .emitted] []) ∧
  (∀ (w : Fin 5) (c : Fin 4) (s : State),
    s.power ≠ .off →
    w.val = c.val →
    s.on (WD_STAT_RUN (wdReg w)) = true →
    s.get (WD_CFG_TIMEOUT (wdReg w)) ≤ s.get (WD_STAT_ELAPSED (wdReg w)) →
    s.cores.length = 4 →
    ∃ t, exec (.wdExpiry w) s = .next t ∧
      t.coreState c = 3 ∧
      t.cores = s.cores.set c { CoreS.reset with dm := assocPut (s.core c).dm dmHaveReset 1 } ∧
      Counted s t (IC_CPU_STAT_RESTARTS c) ∧
      t.get (IC_CPU_STAT_RPRI c) = 0 ∧
      t.on (WD_STAT_RUN c) = false ∧
      t.get (WD_STAT_ELAPSED c) = 0 ∧
      t.on (WD_INT_STAT_WARN c) = false ∧
      (∀ r ∈ t.reservations, r.1 ≠ c.val) ∧
      (∀ n ∈ (s.core c).active, n < 192 → t.on (actField n) = false ∧ (n < 128 → t.on (pendField n) = true)) ∧
      t.on (IC_CPU_STAT_ASG c) = false ∧
      (s.get (CE_J_STAT_STATE c) = 1 ∨ s.get (CE_J_STAT_STATE c) = 2 → t.get (CE_J_STAT_STATE c) = 3) ∧
      (s.get (PQ_J_STAT_STATE c) = 1 ∨ s.get (PQ_J_STAT_STATE c) = 2 → t.get (PQ_J_STAT_STATE c) = 3) ∧
      (∀ g : Fin 8, s.groupState g = 1 → s.get (AC_G_STAT_OWNER g) = c → t.groupState g = 0) ∧
      t.fc = { s.fc with recov := s.fc.recov ++ [{ code := 0x8, sub := 1, place := c.val, start := s.tb.now }] }) ∧
  (∀ (w : Fin 5) (s : State),
    s.power ≠ .off →
    s.fl.op = none →
    s.pq.otp = none →
    w = 4 →
    s.on (WD_STAT_RUN 8) = true →
    s.get (WD_CFG_TIMEOUT 8) ≤ s.get (WD_STAT_ELAPSED 8) →
    s.on VR_CTL_EN_ACK = false →
    ∃ t, exec (.wdExpiry w) s = .next t ∧
      AfterSystemReset s t 2 1) ∧
  (∀ (c : Cpu) (k : Nat) (b : BitVec 64) (s : State),
    s.power ≠ .off →
    s.coreState c = 3 →
    s.fc.scan = [] →
    s.cores.length = 4 →
    bitOf ((assocGet (s.core c).dm dmControl).getD 0).toNat 31 = false →
    s.fc.recov = [{ code := 0x8, sub := k, place := c.val, start := b }] →
    k < 16 →
    s.fc.queue.length < 16 →
    s.get FC_CFG_ESC_LIM = 0 →
    ∃ t, exec (.coreRestartEnd c) s = .next t ∧
      (if s.on (WD_CFG_EN c) = true then t.on (WD_STAT_RUN c) = true ∧ t.get (WD_STAT_ELAPSED c) = 0 ∧ t.on (WD_STAT_OPEN c) = decide (s.get (WD_WIN_WINDOW c) = 0) ∧ t.tm = { s.tm with wdTicks := updAt s.tm.wdTicks c fun _ => 0 } else t.reg (A_WD_STAT c) = s.reg (A_WD_STAT c) ∧ t.tm = s.tm) ∧
      t.coreState c = 1 ∧
      t.cores = s.cores.set c { CoreS.reset with dm := (s.core c).dm, csr := [(csrMtvec, s.reg (A_IC_CPU_ENTRY c) &&& ~~~ 3#32), (csrDcsr, w32 0x40000003)] } ∧
      t.get (IC_CPU_STAT_RPRI c) = 0 ∧
      t.fc.recov = [] ∧
      t.fc.queue = s.fc.queue ++ [⟨w32 (0x8 * 2 ^ 28 + k * 2 ^ 24 + b2n (decide (650 < (s.now - b.toNat) / 200 + 100 * s.get (WD_CFG_TIMEOUT c))) * 2 ^ 23 + min ((s.now - b.toNat) / 200) 0xFFFF), w32 c.val, w32 b.toNat⟩] ∧
      t.fc = { s.fc with recov := [], queue := t.fc.queue, hist := t.fc.hist } ∧
      Counted s t FC_CNT0_RECORDS ∧
      Raised s t FC_INT_STAT_REC ∧
      Frame s t ([IC_CPU_STAT_STATE c, IC_CPU_STAT_RPRI c, FC_CNT0_RECORDS, PM_STAT_LLVL, PM_STAT_LEVEL, WD_STAT_RUN c, WD_STAT_ELAPSED c, WD_STAT_OPEN c] ++ ((FC_INT_STAT_REC) :: latchOf (FC_INT_STAT_REC))) [.cores, .fc, .emitted, .tm] []) ∧
  (∀ (c : Cpu) (s : State),
    s.power ≠ .off →
    s.coreState c = 3 →
    (∀ k ∈ s.fc.scan, unitOwner s k ≠ c.val) →
    s.cores.length = 4 →
    bitOf ((assocGet (s.core c).dm dmControl).getD 0).toNat 31 = false →
    s.get FC_CFG_ESC_LIM = 0 →
    ∃ t, exec (.coreRestartEnd c) s = .next t ∧
      t.coreState c = 1 ∧
      t.cores = s.cores.set c { CoreS.reset with dm := (s.core c).dm, csr := [(csrMtvec, s.reg (A_IC_CPU_ENTRY c) &&& ~~~ 3#32), (csrDcsr, w32 0x40000003)] } ∧
      t.get (IC_CPU_STAT_RPRI c) = 0 ∧
      (if s.on (WD_CFG_EN c) = true then t.on (WD_STAT_RUN c) = true ∧ t.get (WD_STAT_ELAPSED c) = 0 ∧ t.on (WD_STAT_OPEN c) = decide (s.get (WD_WIN_WINDOW c) = 0) ∧ t.tm = { s.tm with wdTicks := updAt s.tm.wdTicks c fun _ => 0 } else t.reg (A_WD_STAT c) = s.reg (A_WD_STAT c) ∧ t.tm = s.tm) ∧
      Frame s t ([IC_CPU_STAT_STATE c, IC_CPU_STAT_RPRI c, FC_CNT0_RECORDS, FC_CNT0_LOST, PM_STAT_LLVL, PM_STAT_LEVEL, WD_STAT_RUN c, WD_STAT_ELAPSED c, WD_STAT_OPEN c] ++ ((FC_INT_STAT_REC) :: latchOf (FC_INT_STAT_REC)) ++ ((FC_INT_STAT_OVF) :: latchOf (FC_INT_STAT_OVF))) [.cores, .fc, .emitted, .tm] [])

/-- R544, R545: PM_SLEEP takes ARM and TARGET, clearing ARM ends an attempt. R545, R546 with R53: with ARM set and no wait an attempt begins; at a slow-tick edge one that no reason of Table 19.5 stops enters Sleep or Deep sleep: the anchors of the counters are kept, LOCKED clears, the nearest alarm is set, searching lanes return to ATTACHED, the regulator is asked for the sleep value, SLEEPS counts; one that a reason stops is refused with it, counted and interrupting once. An open window of the rendezvous logic, or the reception that it led to, holds entry back without a refusal (log entry 26, DEDUCED). Entry is stated with no event to route. -/
def Obligations.SleepIsEnteredAndRefused : Prop :=
  (∀ (core : Cpu) (arm target : Bool) (s : State),
    s.power = .active →
    s.on (IC_CPU_STAT_NS core) = false →
    mayStore s core A_PM_SLEEP →
    ∃ t, exec (.sleepArm core arm target) s = .next t ∧
      t.resp = ⟨0, false⟩ ∧
      t.on PM_SLEEP_ARM = arm ∧
      t.on PM_SLEEP_TARGET = target ∧
      (t.pm = (if arm then s.pm else { s.pm with attempt := false })) ∧
      Frame s t [PM_SLEEP_ARM, PM_SLEEP_TARGET] [.resp, .pm] []) ∧
  (∀ (s : State),
    s.power = .active →
    s.on TB_STATUS_LOCKED = true →
    s.on PM_SLEEP_ARM = true →
    s.tb.edge = true →
    s.on TB_STATUS_SLOW_FAIL = false →
    (∀ a ∈ pmAlarms s, (s.slow : Int) + 1 < a) →
    (∀ g : Fin 8, s.groupState g ≠ 2) →
    wakeActive s = false →
    pmWait s = 0 →
    (s.pm.attempt = true → s.pm.abandoned = false) →
    pmHeld s = false →
    s.emitted = [] →
    (∀ p : Fin 16, s.laneState p = 2 ∨ s.laneState p = 3 ∨ s.laneState p = 4 → (s.lane p).rx = none) →
    s.cz.lanes.length = 16 →
    ∃ t, exec .sleepAttempt s = .next t ∧
      (t.power = (if s.on PM_SLEEP_TARGET then .deep else .sleep)) ∧
      (t.get PM_STAT_PREV = (if s.on PM_SLEEP_TARGET then 3 else 2)) ∧
      Counted s t PM_SCNT_SLEEPS ∧
      t.on TB_STATUS_LOCKED = false ∧
      t.tb = { s.tb with t0 := s.tb.now, d0 := s.tb.dtime, s0 := s.tb.slow, calOpen := false, calTicks := 0, calSlow := 0 } ∧
      (t.pm.alarm = (match pmAlarms s with | [] => none | a :: l => some (l.foldl (fun m b => min m b.toNat) a.toNat))) ∧
      (t.pm = if s.on VR_CTL_EN then { s.pm with alarm := t.pm.alarm, lastRefuse := 0, attempt := false, waking := 0, abandoned := t.pm.abandoned, vrSeq := (s.pm.vrSeq + 1) % 4, vrWait := 2, vrStart := some s.now, vrSlow := s.slow, buckWait := false } else { s.pm with alarm := t.pm.alarm, lastRefuse := 0, attempt := false, waking := 0, abandoned := t.pm.abandoned }) ∧
      (s.on VR_CTL_EN = true → t.get VR_STAT_LAST = vrFrame 2 0x14 s.pm.vrSeq % 2 ^ 16 ∧ t.on VR_STAT_BUSY = true) ∧
      (t.fe = { s.fe with relocked := false, swPos := if s.on FE_CTL_SWDIV = true ∧ ∃ p : Fin 16, (s.laneState p = 2 ∨ s.laneState p = 3 ∨ s.laneState p = 4) ∧ s.get (CZ_LANE_CFG_DIV p) = 0 then 0 else s.fe.swPos }) ∧
      t.evWas = none ∧
      t.pins.antsw = s.get FE_ASW_SLEEP ∧
      t.cz = { s.cz with windows := [] } ∧
      (∀ p : Fin 16, t.laneState p = if s.laneState p = 2 ∨ s.laneState p = 3 ∨ s.laneState p = 4 then 1 else if s.laneState p = 7 then 0 else s.laneState p) ∧
      pinsButSwitch s t ∧
      (Frame s t (([PM_STAT_PREV, PM_SCNT_SLEEPS, TB_STATUS_LOCKED, CZ_BSC_STAT_SURV] ++ (List.range 16).map CZ_LANE_STAT_STATE ++ if s.on VR_CTL_EN then [VR_STAT_LAST, VR_STAT_BUSY] else [])) [.power, .tb, .pm, .fe, .cz, .pins, .evWas] [])) ∧
  (∀ (s : State),
    s.power = .active →
    s.on TB_STATUS_LOCKED = true →
    s.on PM_SLEEP_ARM = true →
    s.tb.edge = false →
    s.pm.attempt = false →
    pmWait s = 0 →
    s.on TB_STATUS_SLOW_FAIL = false →
    ∃ t, exec .sleepAttempt s = .next t ∧
      t.pm = { s.pm with attempt := true, abandoned := false } ∧
      Frame s t [] [.pm] []) ∧
  (∀ (s : State),
    s.power = .active →
    s.on TB_STATUS_LOCKED = true →
    s.on PM_SLEEP_ARM = true →
    s.tb.edge = true →
    (s.pm.attempt = true ∨ pmWait s = 0) →
    s.on TB_STATUS_SLOW_FAIL = true →
    s.pm.attempt = true →
    ∃ t, exec .sleepAttempt s = .next t ∧
      t.get PM_STAT_REFUSE = 1 ∧
      (if s.pm.lastRefuse = 1 then t.get PM_SCNT_REFUSED = s.get PM_SCNT_REFUSED else Counted s t PM_SCNT_REFUSED ∧ Raised s t PM_INT_STAT_REFUSE) ∧
      t.pm = { s.pm with lastRefuse := 1, attempt := false, abandoned := t.pm.abandoned } ∧
      Frame s t ([PM_STAT_REFUSE, PM_SCNT_REFUSED] ++ ((PM_INT_STAT_REFUSE) :: latchOf (PM_INT_STAT_REFUSE))) [.pm] []) ∧
  (∀ (s : State),
    s.power = .active →
    s.on TB_STATUS_LOCKED = true →
    s.on PM_SLEEP_ARM = true →
    s.tb.edge = true →
    (s.pm.attempt = true ∨ pmWait s = 0) →
    s.on TB_STATUS_SLOW_FAIL = false →
    ((pmAlarms s).any (fun a => decide (a ≤ (s.slow : Int) + 1)) = true) →
    ∃ t, exec .sleepAttempt s = .next t ∧
      t.get PM_STAT_REFUSE = 2 ∧
      (if s.pm.lastRefuse = 2 then t.get PM_SCNT_REFUSED = s.get PM_SCNT_REFUSED else Counted s t PM_SCNT_REFUSED ∧ Raised s t PM_INT_STAT_REFUSE) ∧
      t.pm = { s.pm with lastRefuse := 2, attempt := false, abandoned := t.pm.abandoned } ∧
      Frame s t ([PM_STAT_REFUSE, PM_SCNT_REFUSED] ++ ((PM_INT_STAT_REFUSE) :: latchOf (PM_INT_STAT_REFUSE))) [.pm] []) ∧
  (∀ (s : State),
    s.power = .active →
    s.on TB_STATUS_LOCKED = true →
    s.on PM_SLEEP_ARM = true →
    s.tb.edge = true →
    (s.pm.attempt = true ∨ pmWait s = 0) →
    s.on TB_STATUS_SLOW_FAIL = false →
    (∀ a ∈ pmAlarms s, (s.slow : Int) + 1 < a) →
    (∀ g : Fin 8, s.groupState g ≠ 2) →
    wakeActive s = true →
    ∃ t, exec .sleepAttempt s = .next t ∧
      t.get PM_STAT_REFUSE = 4 ∧
      (if s.pm.lastRefuse = 4 then t.get PM_SCNT_REFUSED = s.get PM_SCNT_REFUSED else Counted s t PM_SCNT_REFUSED ∧ Raised s t PM_INT_STAT_REFUSE) ∧
      t.pm = { s.pm with lastRefuse := 4, attempt := false, abandoned := t.pm.abandoned } ∧
      Frame s t ([PM_STAT_REFUSE, PM_SCNT_REFUSED] ++ ((PM_INT_STAT_REFUSE) :: latchOf (PM_INT_STAT_REFUSE))) [.pm] []) ∧
  (∀ (s : State),
    s.power = .active →
    s.on TB_STATUS_LOCKED = true →
    s.on PM_SLEEP_ARM = true →
    s.tb.edge = true →
    (s.pm.attempt = true ∨ pmWait s = 0) →
    s.on TB_STATUS_SLOW_FAIL = false →
    (∀ a ∈ pmAlarms s, (s.slow : Int) + 1 < a) →
    (∃ g : Fin 8, s.groupState g = 2) →
    ∃ t, exec .sleepAttempt s = .next t ∧
      t.get PM_STAT_REFUSE = 3 ∧
      (if s.pm.lastRefuse = 3 then t.get PM_SCNT_REFUSED = s.get PM_SCNT_REFUSED else Counted s t PM_SCNT_REFUSED ∧ Raised s t PM_INT_STAT_REFUSE) ∧
      t.pm = { s.pm with lastRefuse := 3, attempt := false, abandoned := t.pm.abandoned } ∧
      Frame s t ([PM_STAT_REFUSE, PM_SCNT_REFUSED] ++ ((PM_INT_STAT_REFUSE) :: latchOf (PM_INT_STAT_REFUSE))) [.pm] []) ∧
  (∀ (s : State),
    s.power = .active →
    s.on TB_STATUS_LOCKED = true →
    s.on PM_SLEEP_ARM = true →
    s.tb.edge = true →
    s.pm.attempt = true →
    s.on TB_STATUS_SLOW_FAIL = false →
    (∀ a ∈ pmAlarms s, (s.slow : Int) + 1 < a) →
    (∀ g : Fin 8, s.groupState g ≠ 2) →
    wakeActive s = false →
    (pmWait s ≠ 0 ∨ s.pm.abandoned = true) →
    ∃ t, exec .sleepAttempt s = .next t ∧
      t.get PM_STAT_REFUSE = 5 ∧
      (if s.pm.lastRefuse = 5 then t.get PM_SCNT_REFUSED = s.get PM_SCNT_REFUSED else Counted s t PM_SCNT_REFUSED ∧ Raised s t PM_INT_STAT_REFUSE) ∧
      t.pm = { s.pm with lastRefuse := 5, attempt := false, abandoned := t.pm.abandoned } ∧
      Frame s t ([PM_STAT_REFUSE, PM_SCNT_REFUSED] ++ ((PM_INT_STAT_REFUSE) :: latchOf (PM_INT_STAT_REFUSE))) [.pm] []) ∧
  (∀ (s : State),
    s.power = .active →
    s.on TB_STATUS_LOCKED = true →
    s.on PM_SLEEP_ARM = true →
    s.tb.edge = true →
    (s.pm.attempt = true ∨ pmWait s = 0) →
    s.on TB_STATUS_SLOW_FAIL = false →
    (∀ a ∈ pmAlarms s, (s.slow : Int) + 1 < a) →
    (∀ g : Fin 8, s.groupState g ≠ 2) →
    wakeActive s = false →
    pmWait s = 0 →
    (s.pm.attempt = true → s.pm.abandoned = false) →
    pmHeld s = true →
    ∃ t, exec .sleepAttempt s = .next t ∧
      t.pm = { s.pm with attempt := true, abandoned := false } ∧
      Frame s t [] [.pm] [])

/-- R547 to R549: in Sleep an active source that is enabled is recognised, its cause bit set, and the wake starts; the alarm of the slow counter does so with its own bit, and in Run PM_ALARM emits event 150. R550: WAKE high in Run or Idle sets WAKEPIN, in Sleep wakes, in Off makes a power-on reset with cause 8. R551: a comparator's output change is shown, emits its event, and on a chosen edge interrupts. R552: OFF with the key loses all state but flash and OTP, and the fields of entered Off are the reset values. -/
def Obligations.WakeSourcesAndOff : Prop :=
  (∀ (s : State),
    (s.power = .sleep ∨ s.power = .deep) →
    s.pm.waking = 0 →
    (b2n (s.pins.wake && s.on PM_WAKE_EN_PIN) + 2 * b2n (icWakes s && s.on PM_WAKE_EN_IC)) ≠ 0 →
    ∃ t, exec .wake s = .next t ∧
      t.get PM_WAKE_CAUSE_CAUSE = s.get PM_WAKE_CAUSE_CAUSE ||| (b2n (s.pins.wake && s.on PM_WAKE_EN_PIN) + 2 * b2n (icWakes s && s.on PM_WAKE_EN_IC)) ∧
      (t.pm = (if s.on VR_CTL_EN then { s.pm with waking := 2, sniffWake := false, sniffUsed := false, vrSeq := (s.pm.vrSeq + 1) % 4, vrWait := 1, vrStart := none, vrSlow := s.slow, buckWait := false } else { s.pm with waking := 2, sniffWake := false, sniffUsed := false })) ∧
      (s.on VR_CTL_EN = true → t.get VR_STAT_LAST = vrFrame 1 (s.get PM_VCORE_RUN) s.pm.vrSeq % 2 ^ 16 ∧ t.on VR_STAT_BUSY = true) ∧
      (Frame s t ((PM_WAKE_CAUSE_CAUSE :: if s.on VR_CTL_EN then [VR_STAT_LAST, VR_STAT_BUSY] else [])) [.pm] [])) ∧
  (∀ (s : State),
    (s.power = .sleep ∨ s.power = .deep) →
    s.pm.waking = 1 →
    ∃ t, exec .wake s = .next t ∧
      (t.pm = (if s.on VR_CTL_EN then { s.pm with waking := 2, vrSeq := (s.pm.vrSeq + 1) % 4, vrWait := 1, vrStart := none, vrSlow := s.slow, buckWait := false } else { s.pm with waking := 2 })) ∧
      (s.on VR_CTL_EN = true → t.get VR_STAT_LAST = vrFrame 1 (s.get PM_VCORE_RUN) s.pm.vrSeq % 2 ^ 16 ∧ t.on VR_STAT_BUSY = true) ∧
      t.get PM_WAKE_CAUSE_CAUSE = s.get PM_WAKE_CAUSE_CAUSE ∧
      (Frame s t ((PM_WAKE_CAUSE_CAUSE :: if s.on VR_CTL_EN then [VR_STAT_LAST, VR_STAT_BUSY] else [])) [.pm] [])) ∧
  (∀ (high : Bool) (s : State),
    s.power = .active →
    high = true →
    s.pins.wake = false →
    ∃ t, exec (.wakePin high) s = .next t ∧
      Raised s t PM_INT_STAT_WAKEPIN ∧
      t.pins = { s.pins with wake := true, req := t.pins.req, pri := t.pins.pri, antsw := t.pins.antsw, antSel := t.pins.antSel } ∧
      Frame s t ((PM_INT_STAT_WAKEPIN) :: latchOf (PM_INT_STAT_WAKEPIN)) [.pins] []) ∧
  (∀ (high : Bool) (s : State),
    (s.power = .sleep ∨ s.power = .deep) →
    high = true →
    s.pins.wake = false →
    s.on PM_WAKE_EN_PIN = true →
    s.pm.waking = 0 →
    ∃ t, exec (.wakePin high) s = .next t ∧
      t.get PM_WAKE_CAUSE_CAUSE = s.get PM_WAKE_CAUSE_CAUSE ||| 1 ∧
      t.pm = { s.pm with waking := 1, sniffWake := false, sniffUsed := false } ∧
      t.pins = { s.pins with wake := true, req := t.pins.req, pri := t.pins.pri, antsw := t.pins.antsw, antSel := t.pins.antSel } ∧
      Frame s t [PM_WAKE_CAUSE_CAUSE] [.pins, .pm] []) ∧
  (∀ (high : Bool) (s : State),
    s.fl.op = none →
    s.pq.otp = none →
    s.power = .off →
    high = true →
    s.pins.wake = false →
    ∃ t, exec (.wakePin high) s = .next t ∧
      AfterPowerOn { s with pins := { s.pins with wake := true } } t 8) ∧
  (∀ (x : Fin 2) (out : Bool) (s : State),
    s.power = .active →
    s.on (PM_CMP_CFG_EN x) = true →
    s.pm.cmp.getD x false = !out →
    ((s.get (PM_CMP_CFG_EDGE x)).testBit (if out then 0 else 1) = true) →
    ∃ t, exec (.comparatorChange x out) s = .next t ∧
      t.on (PM_CMP_CFG_OUT x) = out ∧
      (t.pm = { s.pm with cmp := updAt s.pm.cmp x fun _ => out }) ∧
      t.emitted = (s.emit (151 + x)).emitted ∧
      (Raised s t (if x = 0 then PM_INT_STAT_CMPA else PM_INT_STAT_CMPB)) ∧
      (Frame s t ([PM_CMP_CFG_OUT x] ++ ((if x = 0 then PM_INT_STAT_CMPA else PM_INT_STAT_CMPB) :: latchOf (if x = 0 then PM_INT_STAT_CMPA else PM_INT_STAT_CMPB))) [.pm, .emitted] [])) ∧
  (∀ (x : Fin 2) (out : Bool) (s : State),
    (s.power = .sleep ∨ s.power = .deep) →
    s.pm.waking = 0 →
    s.on (PM_CMP_CFG_EN x) = true →
    s.pm.cmp.getD x false = !out →
    ((s.get (PM_CMP_CFG_EDGE x)).testBit (if out then 0 else 1) = true) →
    (s.on (if x = 0 then PM_WAKE_EN_CMPA else PM_WAKE_EN_CMPB) = true) →
    ∃ t, exec (.comparatorChange x out) s = .next t ∧
      t.on (PM_CMP_CFG_OUT x) = out ∧
      t.get PM_WAKE_CAUSE_CAUSE = s.get PM_WAKE_CAUSE_CAUSE ||| (4 * 2 ^ x.val) ∧
      (t.pm = { s.pm with cmp := updAt s.pm.cmp x (fun _ => out), waking := 1, sniffWake := false, sniffUsed := false }) ∧
      (Raised s t (if x = 0 then PM_INT_STAT_CMPA else PM_INT_STAT_CMPB)) ∧
      (Frame s t ([PM_CMP_CFG_OUT x, PM_WAKE_CAUSE_CAUSE] ++ ((if x = 0 then PM_INT_STAT_CMPA else PM_INT_STAT_CMPB) :: latchOf (if x = 0 then PM_INT_STAT_CMPA else PM_INT_STAT_CMPB))) [.pm] [])) ∧
  (∀  (a : Nat) (s : State),
    (s.power = .sleep ∨ s.power = .deep) →
    s.pm.waking = 0 →
    s.pm.alarm = some a →
    a ≤ s.slow →
    ∃ t, exec .slowAlarm s = .next t ∧
      t.get PM_WAKE_CAUSE_CAUSE = s.get PM_WAKE_CAUSE_CAUSE ||| 16 ∧
      t.pm.waking = 1 ∧
      t.pm = { s.pm with waking := 1, sniffWake := t.pm.sniffWake, sniffUsed := false } ∧
      Frame s t [PM_WAKE_CAUSE_CAUSE] [.pm] []) ∧
  (∀ (s : State),
    s.power = .active →
    s.tb.edge = true →
    s.on PM_ALARM_HI_EN = true →
    s.get64 PM_ALARM_LO_SLOW PM_ALARM_HI_SLOW = s.slow →
    ∃ t, exec .slowAlarm s = .next t ∧
      t.emitted = (s.emit 150).emitted ∧
      Frame s t [] [.emitted] []) ∧
  (∀ (core : Cpu) (key : BitVec 16) (s : State),
    s.fl.op = none →
    s.pq.otp = none →
    s.power = .active →
    s.on (IC_CPU_STAT_NS core) = false →
    key = 0xA55A →
    s.pins.wake = false →
    s.get FL_STAT_STATE = 0 →
    mayStore s core A_PM_CMD →
    ∃ t, exec (.off core key) s = .next t ∧
      t.power = .off ∧
      (∀ a, t.byte a = if a < 0x20000000 then s.byte a else 0) ∧
      (∀ a, t.reg a = resetWord a) ∧
      (t = { State.reset with power := .off, regs := t.regs, mem := t.mem, xFlash := s.xFlash, free := s.free, fl := { FlashS.reset with marks := s.fl.marks, flags := s.fl.flags, otpBad := s.fl.otpBad }, pins := { s.pins with req := false, pri := false, antsw := if s.pins.antSel = 0 then s.pins.antsw else s.get FE_ASW_SLEEP, antSel := 0 }, pending := s.pending })) ∧
  (∀ (core : Cpu) (key : BitVec 16) (s : State),
    s.power = .active →
    s.on (IC_CPU_STAT_NS core) = false →
    key ≠ 0xA55A →
    mayStore s core A_PM_CMD →
    ∃ t, exec (.off core key) s = .next t ∧
      t.resp = ⟨0, false⟩ ∧
      Raised s t PM_INT_STAT_BADCMD ∧
      Frame s t ((PM_INT_STAT_BADCMD) :: latchOf (PM_INT_STAT_BADCMD)) [.resp] [])

/-- R553: a legal PM_VCORE is taken. R557, R45: a droop level above the one in force raises the throttle level, counts and interrupts with event 153 where the level in force rises; a release steps it down by one. R554 to R556: enabling the link sends SET with the Run value, disabling it sends RELEASE; an acknowledgement sets VALUE, EN_ACK and ACK; no acknowledgement sends RELEASE, falls back and sets TIMEOUT. -/
def Obligations.SupplyDroopAndTheRegulatorLink : Prop :=
  (∀ (core : Cpu) (bspr : Bool) (run : BitVec 8) (s : State),
    s.power = .active →
    s.on (IC_CPU_STAT_NS core) = false →
    0x3C ≤ run.toNat →
    run.toNat ≤ 0x64 →
    s.on VR_CTL_EN = false →
    mayStore s core A_PM_VCORE →
    ∃ t, exec (.vcoreWrite core bspr run) s = .next t ∧
      t.resp = ⟨0, false⟩ ∧
      t.get PM_VCORE_RUN = run.toNat ∧
      t.on PM_VCORE_BSPR = bspr ∧
      Frame s t [PM_VCORE_RUN, PM_VCORE_BSPR] [.resp] []) ∧
  (∀ (core : Cpu) (bspr : Bool) (run : BitVec 8) (s : State),
    s.power = .active →
    s.on (IC_CPU_STAT_NS core) = false →
    0x3C ≤ run.toNat →
    run.toNat ≤ 0x64 →
    s.on VR_CTL_EN = true →
    mayStore s core A_PM_VCORE →
    ∃ t, exec (.vcoreWrite core bspr run) s = .next t ∧
      t.resp = ⟨0, false⟩ ∧
      t.get PM_VCORE_RUN = run.toNat ∧
      t.on PM_VCORE_BSPR = bspr ∧
      t.on VR_STAT_BUSY = true ∧
      t.get VR_STAT_LAST = vrFrame 1 run.toNat s.pm.vrSeq % 2 ^ 16 ∧
      (t.pm = { s.pm with vrSeq := (s.pm.vrSeq + 1) % 4, vrWait := 1, vrStart := if s.power = .active ∧ s.on TB_STATUS_LOCKED = true then some s.now else none, vrSlow := s.slow, buckWait := false }) ∧
      Frame s t [PM_VCORE_RUN, PM_VCORE_BSPR, VR_STAT_BUSY, VR_STAT_LAST] [.resp, .pm] []) ∧
  (∀ (core : Cpu) (bspr : Bool) (run : BitVec 8) (s : State),
    s.power = .active →
    s.on (IC_CPU_STAT_NS core) = false →
    (run.toNat < 0x3C ∨ 0x64 < run.toNat) →
    mayStore s core A_PM_VCORE →
    ∃ t, exec (.vcoreWrite core bspr run) s = .next t ∧
      t.resp = ⟨0, false⟩ ∧
      Raised s t PM_INT_STAT_BADCMD ∧
      Frame s t ((PM_INT_STAT_BADCMD) :: latchOf (PM_INT_STAT_BADCMD)) [.resp] []) ∧
  (∀ (level : Fin 3) (s : State),
    s.power = .active →
    s.get PM_STAT_DLVL < level.val →
    ∃ t, exec (.droop level) s = .next t ∧
      t.get PM_STAT_DLVL = level ∧
      t.get PM_STAT_LEVEL = max (s.get PM_STAT_LLVL) level ∧
      (t.emitted = if s.get PM_STAT_LEVEL < max (s.get PM_STAT_LLVL) level then (s.emit 153).emitted else s.emitted) ∧
      (Counted s t (if level = 1 then PM_CNT_DROOP1 else PM_CNT_DROOP2)) ∧
      Raised s t PM_INT_STAT_DROOP ∧
      (Frame s t ([PM_STAT_DLVL, PM_STAT_LEVEL, if level = 1 then PM_CNT_DROOP1 else PM_CNT_DROOP2] ++ ((PM_INT_STAT_DROOP) :: latchOf (PM_INT_STAT_DROOP))) [.emitted] [])) ∧
  (∀ (s : State),
    s.power = .active →
    ∃ t, exec .droopRelease s = .next t ∧
      t.get PM_STAT_DLVL = s.get PM_STAT_DLVL - 1 ∧
      t.get PM_STAT_LEVEL = max (s.get PM_STAT_LLVL) (s.get PM_STAT_DLVL - 1) ∧
      Frame s t [PM_STAT_DLVL, PM_STAT_LEVEL] [.emitted] []) ∧
  (∀ (core : Cpu) (s : State),
    s.power = .active →
    s.on (IC_CPU_STAT_NS core) = false →
    s.on VR_CTL_EN = false →
    mayStore s core VR_CTL_EN.addr →
    ∃ t, exec (.vrEnable core) s = .next t ∧
      t.resp = ⟨0, false⟩ ∧
      t.on VR_CTL_EN = true ∧
      t.on VR_CTL_FALLBACK = false ∧
      t.on VR_STAT_BUSY = true ∧
      t.get VR_STAT_LAST = vrFrame 1 (s.get PM_VCORE_RUN) s.pm.vrSeq % 2 ^ 16 ∧
      (t.pm = { s.pm with vrSeq := (s.pm.vrSeq + 1) % 4, vrWait := 1, vrStart := if s.power = .active ∧ s.on TB_STATUS_LOCKED = true then some s.now else none, vrSlow := s.slow, buckWait := false }) ∧
      Frame s t [VR_CTL_EN, VR_CTL_FALLBACK, VR_STAT_BUSY, VR_STAT_LAST] [.resp, .pm] []) ∧
  (∀ (core : Cpu) (s : State),
    s.power = .active →
    s.on (IC_CPU_STAT_NS core) = false →
    s.on VR_CTL_EN = true →
    mayStore s core VR_CTL_EN.addr →
    ∃ t, exec (.vrDisable core) s = .next t ∧
      t.resp = ⟨0, false⟩ ∧
      t.on VR_CTL_EN = false ∧
      t.on VR_STAT_BUSY = true ∧
      t.get VR_STAT_LAST = vrFrame 3 0x14 s.pm.vrSeq % 2 ^ 16 ∧
      (t.pm = { s.pm with vrSeq := (s.pm.vrSeq + 1) % 4, vrWait := 0, vrStart := if s.power = .active ∧ s.on TB_STATUS_LOCKED = true then some s.now else none, vrSlow := s.slow, buckWait := true }) ∧
      Frame s t [VR_CTL_EN, VR_STAT_BUSY, VR_STAT_LAST] [.resp, .pm] []) ∧
  (∀ (s : State),
    s.power ≠ .off →
    s.pm.vrWait ≠ 0 →
    vrOver s = true →
    ∃ t, exec .vrqAck s = .next t ∧
      t.on VR_CTL_EN_ACK = (s.on VR_CTL_EN_ACK || (decide (s.pm.vrWait = 1) && s.on VR_CTL_EN)) ∧
      t.get VR_STAT_VALUE = s.get VR_STAT_LAST / 32 % 256 ∧
      t.on VR_STAT_BUSY = false ∧
      Raised s t VR_INT_STAT_ACK ∧
      t.pm = { s.pm with vrWait := 0 } ∧
      Frame s t ([VR_CTL_EN_ACK, VR_STAT_VALUE, VR_STAT_BUSY] ++ ((VR_INT_STAT_ACK) :: latchOf (VR_INT_STAT_ACK))) [.pm] []) ∧
  (∀ (s : State),
    s.power ≠ .off →
    (s.pm.vrWait = 0 ∨ (vrOver s = false ∧ vrMaybe s = false)) →
    ∃ t, exec .vrqAck s = .next t ∧
      Frame s t [] [] []) ∧
  (∀ (s : State),
    s.power ≠ .off →
    vrLate s = true →
    ∃ t, exec .vrTimeout s = .next t ∧
      t.on VR_CTL_EN = false ∧
      t.on VR_CTL_EN_ACK = false ∧
      t.on VR_CTL_FALLBACK = true ∧
      t.on VR_STAT_BUSY = true ∧
      Raised s t VR_INT_STAT_TIMEOUT ∧
      t.get VR_STAT_LAST = vrFrame 3 0x14 s.pm.vrSeq % 2 ^ 16 ∧
      (t.pm = { s.pm with vrSeq := (s.pm.vrSeq + 1) % 4, vrWait := 0, vrStart := if s.power = .active ∧ s.on TB_STATUS_LOCKED = true then some s.now else none, vrSlow := s.slow, buckWait := true }) ∧
      Frame s t ([VR_CTL_EN, VR_CTL_EN_ACK, VR_CTL_FALLBACK, VR_STAT_BUSY, VR_STAT_LAST] ++ ((VR_INT_STAT_TIMEOUT) :: latchOf (VR_INT_STAT_TIMEOUT))) [.pm] [])

/-- R566: a correctable error counts, whichever agent reads, and the read of a core returns its word. R567: an uncorrectable error leaves the word zero, logs the first address, counts, and puts the owner core of the 32 KiB unit into core restart with the unit's scan under way; where SRAM_ACT says so it resets the system; the scan's end is followed by the core restart (R565). R573: a POP drops the oldest record. The unit's owner is that of FC_OWN0 for the units of the lower half. An access of a core fails with its exception (R428), a cipher job ends with BUS. In a unit under scan the scan alone reads, and counts and logs what it finds. -/
def Obligations.SystemSramErrorsAndRecords : Prop :=
  (∀ (agent : SramAgent) (addr : BitVec 20) (k : Nat) (c : Fin 4) (d : Fin 4) (s : State),
    s.power ≠ .off →
    addr.toNat / 0x8000 = k →
    k < 16 →
    agent = .core d →
    s.fc.scan.contains k = false →
    (s.get FC_SRAM_ACT_RST).testBit k = false →
    c.val = (s.get FC_OWN0_OWN / 4 ^ k % 4) →
    s.coreState c ≠ 0 →
    s.cores.length = 4 →
    (∀ r ∈ s.reservations, outlives none (0x20000000 + addr.toNat / 4 * 4) 4 r = true) →
    ∃ t, exec (.sramUncorrectable agent addr) s = .next t ∧
      t.memWord (0x20000000 + addr.toNat / 4 * 4) = 0 ∧
      t.on FC_SRAM_LOG_VALID = true ∧
      (t.get FC_SRAM_LOG_ADDR = if s.on FC_SRAM_LOG_VALID then s.get FC_SRAM_LOG_ADDR else addr.toNat / 4) ∧
      Counted s t FC_CNT1_SRAM_UNC ∧
      t.coreState c = 3 ∧
      t.resp = ⟨0, true⟩ ∧
      Trapped s t d 5 (w32 (0x20000000 + addr.toNat / 4 * 4)) ∧
      t.fc = { s.fc with recov := s.fc.recov ++ [{ code := 0x9, sub := c.val, place := addr.toNat / 4 * 4, start := s.tb.now }], scan := s.fc.scan ++ [k] } ∧
      Frame s t ([FC_SRAM_LOG_VALID, FC_SRAM_LOG_ADDR, FC_CNT1_SRAM_UNC, IC_CPU_STAT_STATE c, PM_STAT_LLVL, PM_STAT_LEVEL, IC_DBG_CTL_HALTED.bit c] ++ (wordAt A_IC_BERR_ADDR :: wordAt A_IC_BERR_INFO :: IC_ERR_BERR :: latchOf IC_ERR_BERR)) [.fc, .emitted, .resp, .free, .cores, .reservations] [((0x20000000 + addr.toNat / 4 * 4), 4)]) ∧
  (∀ (agent : SramAgent) (addr : BitVec 20) (k : Nat) (c : Fin 4) (d : Fin 4) (s : State),
    s.power ≠ .off →
    addr.toNat / 0x8000 = k →
    k < 16 →
    agent = .cipher d →
    s.get (CE_J_STAT_STATE d) = 2 →
    s.fc.scan.contains k = false →
    (s.get FC_SRAM_ACT_RST).testBit k = false →
    c.val = (s.get FC_OWN0_OWN / 4 ^ k % 4) →
    s.coreState c ≠ 0 →
    s.ce.jobs.length = 4 →
    ∃ t, exec (.sramUncorrectable agent addr) s = .next t ∧
      t.get (CE_J_STAT_STATE d) = 3 ∧
      t.get (CE_J_STAT_CODE d) = 5 ∧
      Raised s t (CE_INT_STAT_ERR.bit d) ∧
      t.coreState c = 3 ∧
      t.memWord (0x20000000 + addr.toNat / 4 * 4) = 0 ∧
      Counted s t FC_CNT1_SRAM_UNC ∧
      t.fc.scan = s.fc.scan ++ [k]) ∧
  (∀ (agent : SramAgent) (addr : BitVec 20) (k : Nat) (s : State),
    s.power ≠ .off →
    s.fl.op = none →
    s.pq.otp = none →
    addr.toNat / 0x8000 = k →
    k < 16 →
    (agent = .debug ∨ agent = .window ∨ (∃ r : Fin 4, agent = .ring r)) →
    s.fc.scan.contains k = false →
    (s.get FC_SRAM_ACT_RST).testBit k = true →
    s.on VR_CTL_EN_ACK = false →
    ∃ t, exec (.sramUncorrectable agent addr) s = .next t ∧
      AfterSystemReset s t 6 9) ∧
  (∀ (agent : SramAgent) (addr : BitVec 20) (k : Nat) (s : State),
    s.power ≠ .off →
    addr.toNat / 0x8000 = k →
    k < 16 →
    agent = .scan →
    s.fc.scan.contains k = true →
    ∃ t, exec (.sramUncorrectable agent addr) s = .next t ∧
      t.memWord (0x20000000 + addr.toNat / 4 * 4) = 0 ∧
      t.on FC_SRAM_LOG_VALID = true ∧
      (t.get FC_SRAM_LOG_ADDR = if s.on FC_SRAM_LOG_VALID then s.get FC_SRAM_LOG_ADDR else addr.toNat / 4) ∧
      Counted s t FC_CNT1_SRAM_UNC ∧
      Frame s t [FC_SRAM_LOG_VALID, FC_SRAM_LOG_ADDR, FC_CNT1_SRAM_UNC] [] [((0x20000000 + addr.toNat / 4 * 4), 4)]) ∧
  (∀ (agent : SramAgent) (addr : BitVec 20) (k : Nat) (s : State),
    s.power ≠ .off →
    addr.toNat / 0x8000 = k →
    k < 16 →
    agent ≠ .scan →
    s.fc.scan.contains k = true →
    ∃ t, exec (.sramUncorrectable agent addr) s = .next t ∧
      Frame s t [] [] []) ∧
  (∀ (k : Fin 32) (c : Fin 4) (s : State),
    s.power ≠ .off →
    k.val ∈ s.fc.scan →
    k.val < 16 →
    c.val = (s.get FC_OWN0_OWN / 4 ^ k.val % 4) →
    s.fc.stalls = [] →
    (s.core c).active = [] →
    s.cores.length = 4 →
    (∀ c : Fin 4, s.get (CE_J_STAT_STATE c) ≠ 1 ∧ s.get (CE_J_STAT_STATE c) ≠ 2 ∧ s.get (PQ_J_STAT_STATE c) ≠ 1 ∧ s.get (PQ_J_STAT_STATE c) ≠ 2) →
    (∀ g : Fin 8, s.groupState g ≠ 1) →
    s.on IC_CTL_EN = false →
    (∀ c : Fin 4, s.on (IC_CPU_STAT_ASG c) = false) →
    ∃ t, exec (.unitScanEnd k) s = .next t ∧
      t.coreState c = 3 ∧
      (t.reservations = s.reservations.filter fun r => r.1 != c.val) ∧
      t.cores = s.cores.set c { CoreS.reset with dm := assocPut (s.core c).dm dmHaveReset 1 } ∧
      Counted s t (IC_CPU_STAT_RESTARTS c) ∧
      t.get (IC_CPU_STAT_RPRI c) = 0 ∧
      t.on (WD_STAT_RUN c) = false ∧
      t.get (WD_STAT_ELAPSED c) = 0 ∧
      t.on (WD_INT_STAT_WARN c) = false ∧
      t.fc = { s.fc with scan := s.fc.scan.filter (· != k.val) } ∧
      Frame s t [IC_CPU_STAT_STATE c, IC_CPU_STAT_RPRI c, IC_CPU_STAT_ASG c, IC_CPU_STAT_ASRC c, IC_CPU_STAT_RESTARTS c, WD_STAT_RUN c, WD_STAT_ELAPSED c, WD_STAT_OPEN c, WD_INT_STAT_WARN c, CE_J_STAT_ABORT_LATE c, PQ_J_STAT_ABORT_LATE c, PM_STAT_LLVL, PM_STAT_LEVEL, IC_DBG_CTL_HALTED.bit c] [.cores, .reservations, .fc, .emitted] []) ∧
  (∀ (k : Fin 32) (c : Fin 4) (s : State),
    s.power ≠ .off →
    k.val ∈ s.fc.scan →
    k.val < 16 →
    c.val = (s.get FC_OWN0_OWN / 4 ^ k.val % 4) →
    s.fc.stalls = [] →
    s.cores.length = 4 →
    ∃ t, exec (.unitScanEnd k) s = .next t ∧
      t.coreState c = 3 ∧
      t.cores = s.cores.set c { CoreS.reset with dm := assocPut (s.core c).dm dmHaveReset 1 } ∧
      Counted s t (IC_CPU_STAT_RESTARTS c) ∧
      t.get (IC_CPU_STAT_RPRI c) = 0 ∧
      t.on (WD_STAT_RUN c) = false ∧
      t.get (WD_STAT_ELAPSED c) = 0 ∧
      t.on (WD_INT_STAT_WARN c) = false ∧
      (∀ r ∈ t.reservations, r.1 ≠ c.val) ∧
      (∀ n ∈ (s.core c).active, n < 192 → t.on (actField n) = false ∧ (n < 128 → t.on (pendField n) = true)) ∧
      t.on (IC_CPU_STAT_ASG c) = false ∧
      (s.get (CE_J_STAT_STATE c) = 1 ∨ s.get (CE_J_STAT_STATE c) = 2 → t.get (CE_J_STAT_STATE c) = 3) ∧
      (s.get (PQ_J_STAT_STATE c) = 1 ∨ s.get (PQ_J_STAT_STATE c) = 2 → t.get (PQ_J_STAT_STATE c) = 3) ∧
      (∀ g : Fin 8, s.groupState g = 1 → s.get (AC_G_STAT_OWNER g) = c → t.groupState g = 0) ∧
      t.fc = { s.fc with scan := s.fc.scan.filter (· != k.val) }) ∧
  (∀ (core : Cpu) (s : State),
    s.power = .active →
    s.on (IC_CPU_STAT_NS core) = false →
    s.fc.queue.length < 16 →
    mayStore s core A_FC_REC_POP →
    ∃ t, exec (.recPop core) s = .next t ∧
      t.resp = ⟨0, false⟩ ∧
      t.fc = { s.fc with queue := s.fc.queue.drop 1 } ∧
      t.get FC_STAT_LEVEL = s.fc.queue.length - 1 ∧
      Frame s t [] [.resp, .fc] []) ∧
  (∀ (core : Cpu) (addr : BitVec 20) (s : State),
    s.power = .active →
    s.on (IC_CPU_STAT_NS core) = false →
    sramScanned s (0x20000000 + addr.toNat / 4 * 4) = false →
    mayLoad s core (0x20000000 + addr.toNat / 4 * 4) →
    ∃ t, exec (.sramCorrectable (.core core) addr) s = .next t ∧
      t.resp = ⟨s.memWord (0x20000000 + addr.toNat / 4 * 4), false⟩ ∧
      Counted s t FC_CNT1_SRAM_CORR ∧
      Frame s t [FC_CNT1_SRAM_CORR] [.resp] []) ∧
  (∀ (agent : SramAgent) (addr : BitVec 20) (s : State),
    s.power ≠ .off →
    (agent = .scan ∧ sramScanned s (0x20000000 + addr.toNat / 4 * 4) = true ∨ (agentReads s agent = true ∧ agent ≠ .scan ∧ sramWaits s (0x20000000 + addr.toNat / 4 * 4) 4 = false)) →
    ∃ t, exec (.sramCorrectable agent addr) s = .next t ∧
      Counted s t FC_CNT1_SRAM_CORR ∧
      Frame s t [FC_CNT1_SRAM_CORR] [] [])

/-- R588: OUT_SET and OUT_CLR set and clear the bits of GP_OUT a Secure access names. R589: a filtered edge of an enabled input whose supply is present sets its bit of GP_EDGE_STAT where EDGE selects it; R590: an event producer on the pin emits its event. R581: a supply's loss is held, and a pin that it feeds reads 0 and makes no edge. The timers note the edge (R516; log entry 43). What else changes is stated where no timer captures the pin. -/
def Obligations.PinsAreDrivenAndSensed : Prop :=
  (∀ (core : Cpu) (mask : BitVec 24) (s : State),
    s.power = .active →
    s.on (IC_CPU_STAT_NS core) = false →
    mayStore s core A_GP_OUT_SET →
    ∃ t, exec (.outSet core mask) s = .next t ∧
      t.resp = ⟨0, false⟩ ∧
      (∀ k : Fin 24, (t.get GP_OUT_OUT).testBit k = ((s.get GP_OUT_OUT).testBit k || mask.getLsbD k)) ∧
      Frame s t [GP_OUT_OUT] [.resp] []) ∧
  (∀ (core : Cpu) (mask : BitVec 24) (s : State),
    s.power = .active →
    s.on (IC_CPU_STAT_NS core) = false →
    mayStore s core A_GP_OUT_CLR →
    ∃ t, exec (.outClr core mask) s = .next t ∧
      t.resp = ⟨0, false⟩ ∧
      (∀ k : Fin 24, (t.get GP_OUT_OUT).testBit k = ((s.get GP_OUT_OUT).testBit k && !mask.getLsbD k)) ∧
      Frame s t [GP_OUT_OUT] [.resp] []) ∧
  (∀ (n : Fin 24) (rising : Bool) (s : State),
    s.pins.gpio.getD n false = !rising →
    gpOutput s n = false →
    s.on (GP_PAD_CFG_IEN n) = true →
    pinLost s n = false →
    (s.power = .active ∨ s.power = .sleep) →
    ((s.get (GP_PAD_CFG_EDGE n)).testBit (if rising then 0 else 1) = true) →
    (∀ k : Fin 8, s.get (GP_EVP_PIN k) ≠ n.val ∨ (s.get (GP_EVP_EDGE k)).testBit (if rising then 0 else 1) = false) →
    (∀ m : Fin 8, ∀ k : Fin 4, s.get (TM_CH_CFG_MODE m k) = 2 → s.on (TM_CH_CFG_EVT m k) = true ∨ s.get (TM_CH_CFG_GSEL m k) ≠ n.val) →
    ∃ t, exec (.gpioEdge n rising) s = .next t ∧
      Raised s t (GP_EDGE_STAT_EDGE.bit n) ∧
      (t.pins = { s.pins with gpio := updAt s.pins.gpio n (fun _ => rising), req := t.pins.req, pri := t.pins.pri, antsw := t.pins.antsw, antSel := t.pins.antSel }) ∧
      (t.tm = { s.tm with pinAt := updAt s.tm.pinAt n (fun _ => s.now), edges := if s.power = .active then (if s.tm.pinAt.getD n 0 + 4 ≤ s.now then s.tm.edges.filter (fun e => e.1 != n.val || decide (e.2.2 + 4 ≤ s.now)) ++ [(n.val, rising, s.now)] else s.tm.edges.filter (fun e => e.1 != n.val || decide (e.2.2 + 4 ≤ s.now))) else s.tm.edges }) ∧
      Frame s t ((GP_EDGE_STAT_EDGE.bit n) :: latchOf (GP_EDGE_STAT_EDGE.bit n)) [.pins, .tm] []) ∧
  (∀ (n : Fin 24) (rising : Bool) (j : Fin 8) (s : State),
    s.pins.gpio.getD n false = !rising →
    gpOutput s n = false →
    s.on (GP_PAD_CFG_IEN n) = true →
    pinLost s n = false →
    s.power = .active →
    ((s.get (GP_PAD_CFG_EDGE n)).testBit (if rising then 0 else 1) = true) →
    s.get (GP_EVP_PIN j) = n.val →
    ((s.get (GP_EVP_EDGE j)).testBit (if rising then 0 else 1) = true) →
    (∀ k : Fin 8, k ≠ j → s.get (GP_EVP_PIN k) ≠ n.val) →
    (∀ m : Fin 8, ∀ k : Fin 4, s.get (TM_CH_CFG_MODE m k) = 2 → s.on (TM_CH_CFG_EVT m k) = true ∨ s.get (TM_CH_CFG_GSEL m k) ≠ n.val) →
    ∃ t, exec (.gpioEdge n rising) s = .next t ∧
      Raised s t (GP_EDGE_STAT_EDGE.bit n) ∧
      (t.pins = { s.pins with gpio := updAt s.pins.gpio n (fun _ => rising), req := t.pins.req, pri := t.pins.pri, antsw := t.pins.antsw, antSel := t.pins.antSel }) ∧
      t.emitted = (s.emit (138 + j)).emitted ∧
      (t.tm = { s.tm with pinAt := updAt s.tm.pinAt n (fun _ => s.now), edges := if True then (if s.tm.pinAt.getD n 0 + 4 ≤ s.now then s.tm.edges.filter (fun e => e.1 != n.val || decide (e.2.2 + 4 ≤ s.now)) ++ [(n.val, rising, s.now)] else s.tm.edges.filter (fun e => e.1 != n.val || decide (e.2.2 + 4 ≤ s.now))) else s.tm.edges }) ∧
      Frame s t ((GP_EDGE_STAT_EDGE.bit n) :: latchOf (GP_EDGE_STAT_EDGE.bit n)) [.pins, .emitted, .tm] []) ∧
  (∀ (n : Fin 24) (rising : Bool) (s : State),
    s.power ≠ .off →
    s.pins.gpio.getD n false = !rising →
    gpOutput s n = false →
    (s.on (GP_PAD_CFG_IEN n) = false ∨ pinLost s n = true) →
    ∃ t, exec (.gpioEdge n rising) s = .next t ∧
      (t.pins = { s.pins with gpio := updAt s.pins.gpio n (fun _ => rising), req := t.pins.req, pri := t.pins.pri, antsw := t.pins.antsw, antSel := t.pins.antSel }) ∧
      (t.tm = { s.tm with pinAt := updAt s.tm.pinAt n fun _ => s.now }) ∧
      Frame s t [] [.pins, .tm] []) ∧
  (∀ (n : Fin 24) (rising : Bool) (s : State),
    s.pins.gpio.getD n false = !rising →
    gpOutput s n = false →
    s.on (GP_PAD_CFG_IEN n) = true →
    pinLost s n = false →
    s.power = .active →
    ∃ t, exec (.gpioEdge n rising) s = .next t ∧
      (if (s.get (GP_PAD_CFG_EDGE n)).testBit (if rising then 0 else 1) = true then Raised s t (GP_EDGE_STAT_EDGE.bit n) else t.reg A_GP_EDGE_STAT = s.reg A_GP_EDGE_STAT) ∧
      (t.pins = { s.pins with gpio := updAt s.pins.gpio n (fun _ => rising), req := t.pins.req, pri := t.pins.pri, antsw := t.pins.antsw, antSel := t.pins.antSel }) ∧
      (t.tm.pinAt = updAt s.tm.pinAt n fun _ => s.now)) ∧
  (∀ (b lost : Bool) (s : State),
    s.power ≠ .off →
    s.pins.vioLost.length = 2 →
    ∃ t, exec (.vioSupplyLoss b lost) s = .next t ∧
      (t.pins = { s.pins with vioLost := updAt s.pins.vioLost (b2n b) (fun _ => lost), req := t.pins.req, pri := t.pins.pri, antsw := t.pins.antsw, antSel := t.pins.antSel }) ∧
      (∀ n : Fin 24, lost = true → n.val < 12 → b = false → gpLevel t n = false) ∧
      (∀ n : Fin 24, lost = true → 12 ≤ n.val → b = true → gpLevel t n = false) ∧
      (lost = true → t.sp = s.sp) ∧
      Frame s t [SP_STAT_STATE (b2n b)] [.pins, .sp, .free] [])

/-- R41: a Secure word write of PM_LEDGER leaves LIMIT at the written value where it lies from 88 to 100 and at the nearest end of the range where it does not; after reset LIMIT is 100. -/
def Obligations.TheLedgerLimitTakesTheNearestEnd : Prop :=
  (∀ (core : Cpu) (form : WriteForm) (addr : Word) (v : Word) (s : State),
    s.power = .active →
    s.on (IC_CPU_STAT_NS core) = false →
    addr.toNat = A_PM_LEDGER →
    form = .store 2 →
    s.cores.length = 4 →
    mayStore s core addr.toNat →
    ∃ t, exec (.registerWrite core form addr v) s = .next t ∧
      t.resp = ⟨0, false⟩ ∧
      (t.get PM_LEDGER_LIMIT = (if v.toNat / 2 ^ 16 % 256 < 88 then 88 else if 100 < v.toNat / 2 ^ 16 % 256 then 100 else v.toNat / 2 ^ 16 % 256)) ∧
      (∀ d : Fin 4, t.core d = { s.core d with wasIdle := (t.core d).wasIdle }) ∧
      t.cores.length = s.cores.length ∧
      (∀ d : Fin 4, t.coreState d = s.coreState d ∨ (s.coreState d = 2 ∧ t.coreState d = 1 ∧ t.on (IC_CPU_STAT_ASG d) = true)) ∧
      (s.power = .active → s.on IC_CTL_EN = false → ∀ d : Fin 4, t.on (IC_CPU_STAT_ASG d) = false) ∧
      (Frame s t ([PM_LEDGER_LIMIT, PM_STAT_LLVL, PM_STAT_LEVEL] ++ (((List.range 4).flatMap fun d => [IC_CPU_STAT_ASG d, IC_CPU_STAT_ASRC d, IC_CPU_STAT_STATE d]) ++ [IC_STATUS_PTR, PM_STAT_LLVL, PM_STAT_LEVEL])) [.resp, .cores, .emitted] [])) ∧
  State.reset.get PM_LEDGER_LIMIT = 100

/-- R74: OPEN of a group in OPEN, ARMING or ARMED, COMMIT_NOW or COMMIT_AT of one not in OPEN, RELEASE of one in FREE, ARMING or ARMED, ABORT of one in FREE, and a push into one neither OPEN nor FREE set AC_INT_STAT.BADCMD and change nothing else; a push into a FREE group ends with an error response and FOREIGN (R98). ABORT of an ended group is the case of R95. The commands are those of the owner with the group's attribute (R98). -/
def Obligations.GroupCommandsOutOfPlaceAreIgnored : Prop :=
  (∀ (core : Cpu) (g : Fin 8) (s : State),
    s.power = .active →
    (s.groupState g = 0 ∨ (s.get (AC_G_STAT_OWNER g) = core.val ∧ (s.on (AC_G_STAT_ATTR g) = false ∨ s.on (IC_CPU_STAT_NS core) = false))) →
    (s.groupState g = 1 ∨ s.groupState g = 2 ∨ s.groupState g = 3) →
    mayStore s core (A_AC_G_CMD g) →
    ∃ t, exec (.groupOpen core g) s = .next t ∧
      t.resp = ⟨0, false⟩ ∧
      Raised s t AC_INT_STAT_BADCMD ∧
      Frame s t ((AC_INT_STAT_BADCMD) :: latchOf (AC_INT_STAT_BADCMD)) [.resp] []) ∧
  (∀ (core : Cpu) (g : Fin 8) (s : State),
    s.power = .active →
    (s.groupState g = 0 ∨ (s.get (AC_G_STAT_OWNER g) = core.val ∧ (s.on (AC_G_STAT_ATTR g) = false ∨ s.on (IC_CPU_STAT_NS core) = false))) →
    s.groupState g ≠ 1 →
    mayStore s core (A_AC_G_CMD g) →
    ∃ t, exec (.commitNow core g) s = .next t ∧
      t.resp = ⟨0, false⟩ ∧
      Raised s t AC_INT_STAT_BADCMD ∧
      Frame s t ((AC_INT_STAT_BADCMD) :: latchOf (AC_INT_STAT_BADCMD)) [.resp] []) ∧
  (∀ (core : Cpu) (g : Fin 8) (sel : Bool) (s : State),
    s.power = .active →
    (s.groupState g = 0 ∨ (s.get (AC_G_STAT_OWNER g) = core.val ∧ (s.on (AC_G_STAT_ATTR g) = false ∨ s.on (IC_CPU_STAT_NS core) = false))) →
    s.groupState g ≠ 1 →
    mayStore s core (A_AC_G_CMD g) →
    ∃ t, exec (.commitAt core g sel) s = .next t ∧
      t.resp = ⟨0, false⟩ ∧
      Raised s t AC_INT_STAT_BADCMD ∧
      Frame s t ((AC_INT_STAT_BADCMD) :: latchOf (AC_INT_STAT_BADCMD)) [.resp] []) ∧
  (∀ (core : Cpu) (g : Fin 8) (s : State),
    s.power = .active →
    (s.groupState g = 0 ∨ (s.get (AC_G_STAT_OWNER g) = core.val ∧ (s.on (AC_G_STAT_ATTR g) = false ∨ s.on (IC_CPU_STAT_NS core) = false))) →
    (s.groupState g = 0 ∨ s.groupState g = 2 ∨ s.groupState g = 3) →
    mayStore s core (A_AC_G_CMD g) →
    ∃ t, exec (.groupRelease core g) s = .next t ∧
      t.resp = ⟨0, false⟩ ∧
      Raised s t AC_INT_STAT_BADCMD ∧
      Frame s t ((AC_INT_STAT_BADCMD) :: latchOf (AC_INT_STAT_BADCMD)) [.resp] []) ∧
  (∀ (core : Cpu) (g : Fin 8) (s : State),
    s.power = .active →
    s.groupState g = 0 →
    mayStore s core (A_AC_G_CMD g) →
    ∃ t, exec (.groupAbort core g) s = .next t ∧
      t.resp = ⟨0, false⟩ ∧
      Raised s t AC_INT_STAT_BADCMD ∧
      Frame s t ((AC_INT_STAT_BADCMD) :: latchOf (AC_INT_STAT_BADCMD)) [.resp] []) ∧
  (∀ (core : Cpu) (g : Fin 8) (v : Word) (s : State),
    s.power = .active →
    (s.groupState g = 0 ∨ (s.get (AC_G_STAT_OWNER g) = core.val ∧ (s.on (AC_G_STAT_ATTR g) = false ∨ s.on (IC_CPU_STAT_NS core) = false))) →
    s.groupState g ≠ 0 →
    s.groupState g ≠ 1 →
    mayStore s core (A_AC_G_SDATA g) →
    ∃ t, exec (.stagePush core g v) s = .next t ∧
      t.resp = ⟨0, false⟩ ∧
      Raised s t AC_INT_STAT_BADCMD ∧
      Frame s t ((AC_INT_STAT_BADCMD) :: latchOf (AC_INT_STAT_BADCMD)) [.resp] []) ∧
  (∀ (core : Cpu) (g : Fin 8) (v : Word) (s : State),
    s.power = .active →
    s.groupState g = 0 →
    s.cores.length = 4 →
    mayStore s core (A_AC_G_SDATA g) →
    ∃ t, exec (.stagePush core g v) s = .next t ∧
      t.resp = ⟨0, true⟩ ∧
      Raised s t AC_INT_STAT_FOREIGN ∧
      Trapped s t core 7 (w32 (A_AC_G_SDATA g)) ∧
      Frame s t (AC_INT_STAT_FOREIGN :: latchOf AC_INT_STAT_FOREIGN ++ (wordAt A_IC_BERR_ADDR :: wordAt A_IC_BERR_INFO :: IC_ERR_BERR :: latchOf IC_ERR_BERR)) [.resp, .free, .cores, .reservations] [])

/-- R94: an ABORT by the owner of a group in OPEN, ARMING or ARMED whose token has not passed leaves the group ABORTED with an empty staging store, and no other register, no memory and no other part of the state changes. -/
def Obligations.AbortEndsAGroupWithoutAWrite : Prop :=
  (∀ (core : Cpu) (g : Fin 8) (s : State),
    s.power = .active →
    (s.groupState g = 1 ∨ s.groupState g = 2 ∨ s.groupState g = 3) →
    s.get (AC_G_STAT_OWNER g) = core.val →
    (s.on (AC_G_STAT_ATTR g) = false ∨ s.on (IC_CPU_STAT_NS core) = false) →
    timedDue s g = false →
    s.groups.length = 8 →
    mayStore s core (A_AC_G_CMD g) →
    ∃ t, exec (.groupAbort core g) s = .next t ∧
      t.resp = ⟨0, false⟩ ∧
      t.groupState g = 6 ∧
      t.groups = s.groups.set g .reset ∧
      Frame s t [AC_G_STAT_STATE g] [.resp, .groups] [])

/-- R485: a PROGRAM or ERASE written while FL_STAT.STATE is not IDLE, or a write of FL_CMD whose OP is 0, 6 or 7, sets FL_INT_STAT.BADCMD and changes nothing else. -/
def Obligations.FlashCommandsOutOfPlaceAreIgnored : Prop :=
  (∀ (core : Cpu) (s : State),
    s.power = .active →
    s.get FL_STAT_STATE ≠ 0 →
    mayStore s core A_FL_CMD →
    ∃ t, exec (.program core) s = .next t ∧
      t.resp = ⟨0, false⟩ ∧
      Raised s t FL_INT_STAT_BADCMD ∧
      Frame s t ((FL_INT_STAT_BADCMD) :: latchOf (FL_INT_STAT_BADCMD)) [.resp] []) ∧
  (∀ (core : Cpu) (s : State),
    s.power = .active →
    s.get FL_STAT_STATE ≠ 0 →
    mayStore s core A_FL_CMD →
    ∃ t, exec (.erase core) s = .next t ∧
      t.resp = ⟨0, false⟩ ∧
      Raised s t FL_INT_STAT_BADCMD ∧
      Frame s t ((FL_INT_STAT_BADCMD) :: latchOf (FL_INT_STAT_BADCMD)) [.resp] []) ∧
  (∀ (core : Cpu) (form : WriteForm) (addr : Word) (v : Word) (s : State),
    s.power = .active →
    addr.toNat = A_FL_CMD →
    form = .store 2 →
    (v.toNat % 8 = 0 ∨ 5 < v.toNat % 8) →
    s.cores.length = 4 →
    mayStore s core addr.toNat →
    ∃ t, exec (.registerWrite core form addr v) s = .next t ∧
      t.resp = ⟨0, false⟩ ∧
      Raised s t FL_INT_STAT_BADCMD ∧
      (∀ d : Fin 4, t.core d = { s.core d with wasIdle := (t.core d).wasIdle }) ∧
      t.cores.length = s.cores.length ∧
      (∀ d : Fin 4, t.coreState d = s.coreState d ∨ (s.coreState d = 2 ∧ t.coreState d = 1 ∧ t.on (IC_CPU_STAT_ASG d) = true)) ∧
      (s.power = .active → s.on IC_CTL_EN = false → ∀ d : Fin 4, t.on (IC_CPU_STAT_ASG d) = false) ∧
      (Frame s t ((FL_INT_STAT_BADCMD) :: latchOf (FL_INT_STAT_BADCMD) ++ (((List.range 4).flatMap fun d => [IC_CPU_STAT_ASG d, IC_CPU_STAT_ASRC d, IC_CPU_STAT_STATE d]) ++ [IC_STATUS_PTR, PM_STAT_LLVL, PM_STAT_LEVEL])) [.resp, .cores, .emitted] []))

/-- R508: a command word with a SPACE above 4, non-zero bits [25:24] or [1:0], or an offset beyond its space sets SP1_INT_STAT.WIN_BERR and marks the selection; in a selection so marked every read word answers zero and every write word changes nothing, and the mark stays. -/
def Obligations.AnInvalidWindowCommandBlocksTheSelection : Prop :=
  (∀ (v : Word) (s : State),
    s.power ≠ .off →
    s.get (SP_STAT_STATE 1) = 5 →
    (s.port 1).winCmd = false →
    (4 < bitsOf v 26 4 ∨ bitsOf v 24 2 ≠ 0 ∨ bitsOf v 0 2 ≠ 0 ∨ (bitsOf v 26 4 = 0 ∧ 0x400000 ≤ bitsOf v 0 24) ∨ (bitsOf v 26 4 = 1 ∧ 0x2000 ≤ bitsOf v 0 24) ∨ (bitsOf v 26 4 = 2 ∧ 0x100000 ≤ bitsOf v 0 24) ∨ (bitsOf v 26 4 = 3 ∧ 0x80000 ≤ bitsOf v 0 24) ∨ (bitsOf v 26 4 = 4 ∧ 0x170000 ≤ bitsOf v 0 24)) →
    s.sp.length = 2 →
    ∃ t, exec (.windowCommand v) s = .next t ∧
      Raised s t (SP_INT_STAT_WIN_BERR 1) ∧
      (t.port 1).winBad = true ∧
      (t.port 1).winCmd = true ∧
      t.sp = s.sp.set 1 { s.port 1 with winCmd := true, winBad := true, winOver := false, winWrite := v.getLsbD 31, winInc := v.getLsbD 30, winSpace := bitsOf v 26 4, winOff := bitsOf v 0 24 } ∧
      Frame s t ((SP_INT_STAT_WIN_BERR 1) :: latchOf (SP_INT_STAT_WIN_BERR 1)) [.sp] []) ∧
  (∀ (early : Bool) (s : State),
    s.power ≠ .off →
    s.get (SP_STAT_STATE 1) = 5 →
    (s.port 1).winCmd = true →
    (s.port 1).winWrite = false →
    (s.port 1).winBad = true →
    early = false →
    ∃ t, exec (.windowRead early) s = .next t ∧
      t.resp = ⟨0, false⟩ ∧
      Frame s t [] [.resp] []) ∧
  (∀ (v : Word) (early : Bool) (s : State),
    s.power ≠ .off →
    s.get (SP_STAT_STATE 1) = 5 →
    (s.port 1).winCmd = true →
    (s.port 1).winWrite = true →
    (s.port 1).winBad = true →
    early = false →
    ∃ t, exec (.windowWrite v early) s = .next t ∧
      Frame s t [] [.resp] [])

/-- R461: for every register of channel n a Non-secure read with SEC = 1 answers zero without an error; a Secure read, or a read of a channel with SEC = 0, answers the register's value. A read clears the register's read-clear fields at most. -/
def Obligations.SecureChannelsReadZeroToNonSecureReaders : Prop :=
  (∀ (core : Cpu) (form : ReadForm) (addr : Word) (hw : Word) (ecc : Bool) (n : Fin 64) (k : Fin 16) (s : State),
    s.power = .active →
    form = .load 2 →
    addr.toNat = A_EV_CH_CFG n + 4 * k →
    s.on (IC_CPU_STAT_NS core) = true →
    s.on (EV_CH_CFG_SEC n) = true →
    mayLoad s core addr.toNat →
    ∃ t, exec (.rcRead core ⟨form, addr⟩ ⟨hw, ecc⟩) s = .next t ∧
      t.resp = ⟨0, false⟩ ∧
      Frame s t [wordAt addr.toNat] [.resp] []) ∧
  (∀ (core : Cpu) (form : ReadForm) (addr : Word) (hw : Word) (ecc : Bool) (n : Fin 64) (k : Fin 16) (s : State),
    s.power = .active →
    form = .load 2 →
    addr.toNat = A_EV_CH_CFG n + 4 * k →
    (s.on (IC_CPU_STAT_NS core) = false ∨ s.on (EV_CH_CFG_SEC n) = false) →
    mayLoad s core addr.toNat →
    ∃ t, exec (.rcRead core ⟨form, addr⟩ ⟨hw, ecc⟩) s = .next t ∧
      t.resp = ⟨s.reg addr.toNat, false⟩ ∧
      Frame s t [wordAt addr.toNat] [.resp] [])

/-- R560, R486, R575, R429, R532 and the registers of their chapters: sleep, Off, the core-rail setting, the flash and controller disables, a core's START, a record POP, a kick of WD_SYS by a Non-secure core have no effect: the access ends with an error, the record of it and the exception of the core (R428), with PM_INT_STAT.BADCMD for the PM registers and IC_ERR.BADCMD and FOREIGN for START. -/
def Obligations.NonSecureCommandsAreRefused : Prop :=
  (∀ (core : Cpu) (arm target : Bool) (s : State),
    s.power = .active →
    s.on (IC_CPU_STAT_NS core) = true →
    s.cores.length = 4 →
    mayStore s core A_PM_SLEEP →
    ∃ t, exec (.sleepArm core arm target) s = .next t ∧
      t.resp = ⟨0, true⟩ ∧
      Raised s t PM_INT_STAT_BADCMD ∧
      Trapped s t core 7 (w32 A_PM_SLEEP) ∧
      Raised s t IC_ERR_BERR ∧
      t.reg A_IC_BERR_ADDR = w32 A_PM_SLEEP ∧
      Frame s t ([] ++ ((PM_INT_STAT_BADCMD) :: latchOf (PM_INT_STAT_BADCMD)) ++ (wordAt A_IC_BERR_ADDR :: wordAt A_IC_BERR_INFO :: IC_ERR_BERR :: latchOf IC_ERR_BERR)) [.resp, .free, .cores, .reservations] []) ∧
  (∀ (core : Cpu) (key : BitVec 16) (s : State),
    s.power = .active →
    s.on (IC_CPU_STAT_NS core) = true →
    s.cores.length = 4 →
    mayStore s core A_PM_CMD →
    ∃ t, exec (.off core key) s = .next t ∧
      t.resp = ⟨0, true⟩ ∧
      Raised s t PM_INT_STAT_BADCMD ∧
      Trapped s t core 7 (w32 A_PM_CMD) ∧
      Raised s t IC_ERR_BERR ∧
      t.reg A_IC_BERR_ADDR = w32 A_PM_CMD ∧
      Frame s t ([] ++ ((PM_INT_STAT_BADCMD) :: latchOf (PM_INT_STAT_BADCMD)) ++ (wordAt A_IC_BERR_ADDR :: wordAt A_IC_BERR_INFO :: IC_ERR_BERR :: latchOf IC_ERR_BERR)) [.resp, .free, .cores, .reservations] []) ∧
  (∀ (core : Cpu) (key : BitVec 16) (s : State),
    s.power = .active →
    s.on (IC_CPU_STAT_NS core) = true →
    s.cores.length = 4 →
    mayStore s core A_PM_CMD →
    ∃ t, exec (.sysrst core key) s = .next t ∧
      t.resp = ⟨0, true⟩ ∧
      Raised s t PM_INT_STAT_BADCMD ∧
      Trapped s t core 7 (w32 A_PM_CMD) ∧
      Raised s t IC_ERR_BERR ∧
      t.reg A_IC_BERR_ADDR = w32 A_PM_CMD ∧
      Frame s t ([] ++ ((PM_INT_STAT_BADCMD) :: latchOf (PM_INT_STAT_BADCMD)) ++ (wordAt A_IC_BERR_ADDR :: wordAt A_IC_BERR_INFO :: IC_ERR_BERR :: latchOf IC_ERR_BERR)) [.resp, .free, .cores, .reservations] []) ∧
  (∀ (core : Cpu) (bspr : Bool) (run : BitVec 8) (s : State),
    s.power = .active →
    s.on (IC_CPU_STAT_NS core) = true →
    s.cores.length = 4 →
    mayStore s core A_PM_VCORE →
    ∃ t, exec (.vcoreWrite core bspr run) s = .next t ∧
      t.resp = ⟨0, true⟩ ∧
      Raised s t PM_INT_STAT_BADCMD ∧
      Trapped s t core 7 (w32 A_PM_VCORE) ∧
      Raised s t IC_ERR_BERR ∧
      t.reg A_IC_BERR_ADDR = w32 A_PM_VCORE ∧
      Frame s t ([] ++ ((PM_INT_STAT_BADCMD) :: latchOf (PM_INT_STAT_BADCMD)) ++ (wordAt A_IC_BERR_ADDR :: wordAt A_IC_BERR_INFO :: IC_ERR_BERR :: latchOf IC_ERR_BERR)) [.resp, .free, .cores, .reservations] []) ∧
  (∀ (core : Cpu) (s : State),
    s.power = .active →
    s.on (IC_CPU_STAT_NS core) = true →
    s.cores.length = 4 →
    mayStore s core VR_CTL_EN.addr →
    ∃ t, exec (.vrEnable core) s = .next t ∧
      t.resp = ⟨0, true⟩ ∧
      Trapped s t core 7 (w32 VR_CTL_EN.addr) ∧
      Raised s t IC_ERR_BERR ∧
      t.reg A_IC_BERR_ADDR = w32 VR_CTL_EN.addr ∧
      Frame s t ([] ++ (wordAt A_IC_BERR_ADDR :: wordAt A_IC_BERR_INFO :: IC_ERR_BERR :: latchOf IC_ERR_BERR)) [.resp, .free, .cores, .reservations] []) ∧
  (∀ (core : Cpu) (s : State),
    s.power = .active →
    s.on (IC_CPU_STAT_NS core) = true →
    s.cores.length = 4 →
    mayStore s core VR_CTL_EN.addr →
    ∃ t, exec (.vrDisable core) s = .next t ∧
      t.resp = ⟨0, true⟩ ∧
      Trapped s t core 7 (w32 VR_CTL_EN.addr) ∧
      Raised s t IC_ERR_BERR ∧
      t.reg A_IC_BERR_ADDR = w32 VR_CTL_EN.addr ∧
      Frame s t ([] ++ (wordAt A_IC_BERR_ADDR :: wordAt A_IC_BERR_INFO :: IC_ERR_BERR :: latchOf IC_ERR_BERR)) [.resp, .free, .cores, .reservations] []) ∧
  (∀ (core : Cpu) (s : State),
    s.power = .active →
    s.on (IC_CPU_STAT_NS core) = true →
    s.cores.length = 4 →
    mayStore s core FL_CTL_EN.addr →
    ∃ t, exec (.flDisable core) s = .next t ∧
      t.resp = ⟨0, true⟩ ∧
      Trapped s t core 7 (w32 FL_CTL_EN.addr) ∧
      Raised s t IC_ERR_BERR ∧
      t.reg A_IC_BERR_ADDR = w32 FL_CTL_EN.addr ∧
      Frame s t ([] ++ (wordAt A_IC_BERR_ADDR :: wordAt A_IC_BERR_INFO :: IC_ERR_BERR :: latchOf IC_ERR_BERR)) [.resp, .free, .cores, .reservations] []) ∧
  (∀ (core : Cpu) (s : State),
    s.power = .active →
    s.on (IC_CPU_STAT_NS core) = true →
    s.cores.length = 4 →
    mayStore s core A_FC_REC_POP →
    ∃ t, exec (.recPop core) s = .next t ∧
      t.resp = ⟨0, true⟩ ∧
      Trapped s t core 7 (w32 A_FC_REC_POP) ∧
      Raised s t IC_ERR_BERR ∧
      t.reg A_IC_BERR_ADDR = w32 A_FC_REC_POP ∧
      Frame s t ([] ++ (wordAt A_IC_BERR_ADDR :: wordAt A_IC_BERR_INFO :: IC_ERR_BERR :: latchOf IC_ERR_BERR)) [.resp, .free, .cores, .reservations] []) ∧
  (∀ (core : Cpu) (c : Cpu) (s : State),
    s.power = .active →
    s.on (IC_CPU_STAT_NS core) = true →
    s.cores.length = 4 →
    mayStore s core (A_IC_CPU_CTL c) →
    ∃ t, exec (.coreStart core c) s = .next t ∧
      t.resp = ⟨0, true⟩ ∧
      Raised s t IC_ERR_BADCMD ∧
      Raised s t IC_ERR_FOREIGN ∧
      Trapped s t core 7 (w32 (A_IC_CPU_CTL c)) ∧
      Raised s t IC_ERR_BERR ∧
      t.reg A_IC_BERR_ADDR = w32 (A_IC_CPU_CTL c) ∧
      Frame s t ([] ++ ((IC_ERR_BADCMD) :: latchOf (IC_ERR_BADCMD)) ++ ((IC_ERR_FOREIGN) :: latchOf (IC_ERR_FOREIGN)) ++ (wordAt A_IC_BERR_ADDR :: wordAt A_IC_BERR_INFO :: IC_ERR_BERR :: latchOf IC_ERR_BERR)) [.resp, .free, .cores, .reservations] []) ∧
  (∀ (core : Cpu) (w : Fin 5) (key : BitVec 16) (s : State),
    s.power = .active →
    s.on (IC_CPU_STAT_NS core) = true →
    w = 4 →
    s.cores.length = 4 →
    mayStore s core (A_WD_KICK (wdReg w)) →
    ∃ t, exec (.kick core w key) s = .next t ∧
      t.resp = ⟨0, true⟩ ∧
      Trapped s t core 7 (w32 (A_WD_KICK (wdReg w))) ∧
      Raised s t IC_ERR_BERR ∧
      t.reg A_IC_BERR_ADDR = w32 (A_WD_KICK (wdReg w)) ∧
      Frame s t ([] ++ (wordAt A_IC_BERR_ADDR :: wordAt A_IC_BERR_INFO :: IC_ERR_BERR :: latchOf IC_ERR_BERR)) [.resp, .free, .cores, .reservations] [])

/-- For every command c, queue rest and state s: a step of s with c in front of the queue is exec c on s with the queue rest. The queue is the model's (log entry 1). -/
def Obligations.AStepRunsTheCommandInFront : Prop :=
  ∀ (c : Instr) (rest : List Instr) (s : State),
    step { s with pending := c :: rest } = exec c { s with pending := rest }

/-- A command is answered with a next state exactly where its operands are well formed: a PSDU of at most 2,047 octets (R144), an entropy block of 1,024 bits (R374); otherwise it is answered with the fault illFormed. No command is refused. In Off every well-formed command but POWER_ON_RESET and WAKE_PIN leaves the whole state as it is, since the WAKE pin detector is the only circuit that operates (R21). -/
def Obligations.EveryWellFormedCommandCompletes : Prop :=
  (∀ (c : Instr) (s : State), c.wellFormed = true → ∃ t, exec c s = .next t) ∧
  (∀ (n : Fin 16) (psdu : List Byte) (s : State), 2047 < psdu.length → exec (.frameEnd n psdu) s = .fault .illFormed) ∧
  (∀ (raw : List Byte) (s : State), raw.length ≠ 128 → exec (.entropyWord raw) s = .fault .illFormed) ∧
  (∀ (c : Instr) (s : State), c.wellFormed = true → s.power = .off → c ≠ .powerOnReset → (∀ high, c ≠ .wakePin high) →
    exec c s = .next s)

/-- With the queue empty: in Run and Idle with LOCKED at 1 a step advances TB_NOW by one tick (R46), and TB_DTIME by one, the carry of its rate term and a pending step, on the time master to TB_NOW (R65), stated where no operation of the analogue core ends or starts, no launch, event or Off waits, which could reset the device; in Sleep and Deep sleep a step counts one slow tick in TB_SLOW and leaves TB_NOW, TB_DTIME, memory and the device state, and only an alarm, a restart or a regulator frame out of time follows (R49, R53); so it does in Run before the PLL has locked, and there nothing else moves but TB_STATUS.SLOW_FAIL, which the edge clears (R52), the end of a regulator frame or of the take-over after a RELEASE (R554, R556), and what registers show of the state; with a stopped crystal none of them moves; in Off a step leaves the whole state (R46). That a step on an empty queue is a tick is the model's choice (log entries 2 and 3). -/
def Obligations.TimePassesWhileNoCommandWaits : Prop :=
  (∀ s : State, s.pending = [] → s.asleep = true → s.tb.xoStopped = false →
    ∃ t, step s = .next t ∧ t.tb = { s.tb with slow := s.tb.slow + 1, sinceEdge := 0, edge := true } ∧ t.power = s.power ∧ (∀ a, t.byte a = s.byte a) ∧
      (∀ k ∈ t.pending, k = Instr.slowAlarm ∨ k = Instr.timeBaseRestart ∨ k = Instr.vrTimeout)) ∧
  (∀ s : State, s.pending = [] → s.power = .active → s.on TB_STATUS_LOCKED = false → s.tb.xoStopped = false →
    ∃ t, step s = .next t ∧ t.tb = { s.tb with slow := s.tb.slow + 1, sinceEdge := 0, edge := true } ∧ t.on TB_STATUS_SLOW_FAIL = false ∧ t.pm = { s.pm with buckWait := t.pm.buckWait } ∧
      Frame s t [TB_STATUS_SLOW_FAIL, VR_STAT_BUSY, VR_CTL_EN_ACK] [.tb, .pm] []) ∧
  (∀ s : State, s.pending = [] → s.power = .active → s.on TB_STATUS_LOCKED = true → s.on EV_CTL_EN = false → s.evWas = none →
    s.ls.launches = [] → s.fe.cal = none → s.fe.queue = [] → s.pm.offPend = false →
    ∃ t, step s = .next t ∧ t.power = .active ∧ t.on TB_STATUS_LOCKED = true ∧ t.tb.now = s.tb.now + 1 ∧
      t.tb.dtime = (if isMaster s then s.tb.now + 1
        else s.tb.dtime + BitVec.ofInt 64 (1 + ((s.tb.dacc.toNat : Int) + s.getS TB_DRATE_RATE) / 2 ^ 32) + BitVec.ofInt 64 (s.tb.stepPend.getD 0))) ∧
  (∀ s : State, s.pending = [] → s.power ≠ .off → s.asleep = true ∨ s.on TB_STATUS_LOCKED = false → s.tb.xoStopped = true →
    ∃ t, step s = .next t ∧ Frame s t [] [] []) ∧
  (∀ s : State, s.pending = [] → s.power = .off → step s = .next s)

/-- The invariant Views holds of State.reset: TM_CTL.PAIRED, FC_STAT, FE_CAL_STAT.BUSY, PQ_ENT_STAT.POOL, IC_DBG_CTL.HALTED and the coexistence pins show what they stand for. -/
def Obligations.ViewsHoldAtReset : Prop :=
  Views State.reset

/-- From every state, if a step answers a next state, then in that state TM_CTL.PAIRED is Ivory, TEST or a recovery (R523), FC_STAT shows the length of the record queue and whether a recovery is in progress (R572, R573), FE_CAL_STAT.BUSY whether a calibration or retune runs (R112), PQ_ENT_STAT.POOL the words ready (R374), IC_DBG_CTL.HALTED the cores in DEBUG (R447), and COEX_REQ and COEX_PRI the requests that stand (R271, R275), and ANTSW0 and ANTSW1 the code of the field due (R125). In Off, where nothing runs, the state before is assumed to show it too; of every other state before nothing is assumed. -/
def Obligations.ViewsHoldAfterEveryStep : Prop :=
  ∀ s t : State, (s.power = .off → Views s) → step s = .next t → Views t
end

