-- ==== Sys2Proof/Laws/State.lean ====
section
/-! SUPPORT. Laws/State.lean: what each update of the state leaves: registers and fields, memory, and one lemma per
other part of the state. -/

namespace Sys2Proof.Machine

/-! ### Association lists -/

theorem assocGet_assocPut {α : Type} (l : List (Nat × α)) (k k' : Nat) (v : α) :
    assocGet (assocPut l k v) k' = if k' = k then some v else assocGet l k' := by
  induction l with
  | nil => by_cases h : k = k' <;> simp [assocPut, assocGet, h, eq_comm]
  | cons e xs ih =>
    obtain ⟨a, b⟩ := e
    unfold assocPut
    split
    · simp only [assocGet]
      by_cases h : k = k'
      · simp [h]
      · simp [h, Ne.symm h]
    · split
      · rename_i h; subst h
        simp only [assocGet]
        by_cases h : k = k' <;> simp [h, eq_comm]
      · rename_i h
        simp only [assocGet, ih]
        by_cases h1 : a = k'
        · subst h1; simp [Ne.symm h]
        · simp [h1]

theorem assocGet_assocDel {α : Type} (l : List (Nat × α)) (k k' : Nat) :
    assocGet (assocDel l k) k' = if k' = k then none else assocGet l k' := by
  induction l with
  | nil => simp [assocDel, assocGet]
  | cons e xs ih =>
    obtain ⟨a, b⟩ := e
    simp only [assocDel]
    split
    · rename_i h; subst h
      rw [ih]
      by_cases h : k' = a
      · simp [h]
      · simp [h, assocGet, Ne.symm h]
    · rename_i h
      simp only [assocGet, ih]
      by_cases h1 : a = k'
      · subst h1; simp [h]
      · simp [h1]

/-! ### Registers and fields -/

@[simp] theorem State.reg_setReg_same (s : State) (a : Nat) (v : Word) : (s.setReg a v).reg a = v := by
  unfold State.reg State.setReg
  split <;> simp [assocGet_assocPut, assocGet_assocDel, *]

theorem State.reg_setReg_of_ne (s : State) {a b : Nat} (v : Word) (h : b ≠ a) : (s.setReg a v).reg b = s.reg b := by
  unfold State.reg State.setReg
  split <;> simp [assocGet_assocPut, assocGet_assocDel, h]

theorem State.reg_setReg (s : State) (a b : Nat) (v : Word) : (s.setReg a v).reg b = if b = a then v else s.reg b := by
  split
  · subst b; simp
  · exact s.reg_setReg_of_ne v (by assumption)

theorem toNat_maskOf_getLsbD (lo w i : Nat) (h : i < 32) :
    (maskOf lo w).getLsbD i = (decide (lo ≤ i) && decide (i < lo + w)) := by
  unfold maskOf
  simp only [BitVec.getLsbD_shiftLeft, h, decide_true, Bool.true_and, BitVec.getLsbD_ofNat, Nat.testBit_two_pow_sub_one]
  by_cases h1 : i < lo
  · simp [h1, Nat.not_le.mpr h1]
  · have h2 : i - lo < 32 := by omega
    simp [h1, h2, Nat.le_of_not_lt h1]
    omega

theorem getLsbD_insertBits (x : Word) (lo w v i : Nat) (h : i < 32) :
    (insertBits x lo w v).getLsbD i =
      if lo ≤ i ∧ i < lo + w then v.testBit (i - lo) else x.getLsbD i := by
  unfold insertBits
  simp only [BitVec.getLsbD_or, BitVec.getLsbD_and, BitVec.getLsbD_not, h, decide_true, Bool.true_and,
    toNat_maskOf_getLsbD _ _ _ h, BitVec.getLsbD_shiftLeft, BitVec.getLsbD_ofNat, Nat.testBit_mod_two_pow]
  by_cases h1 : lo ≤ i
  · by_cases h2 : i < lo + w
    · have h3 : i - lo < 32 := by omega
      have h4 : i - lo < w := by omega
      have h5 : ¬ i < lo := by omega
      simp [h1, h2, h3, h4, h5]
    · have h4 : ¬ i - lo < w := by omega
      simp [h1, h2, h4]
  · have h5 : i < lo := by omega
    simp [h1, h5]

theorem testBit_bitsOf (x : Word) (lo w i : Nat) :
    (bitsOf x lo w).testBit i = (decide (i < w) && x.getLsbD (lo + i)) := by
  unfold bitsOf
  rw [Nat.testBit_mod_two_pow, Nat.testBit_div_two_pow, Nat.add_comm]
  rfl

/-- A field written reads back the low bits written. -/
theorem bitsOf_insertBits_same (x : Word) (lo w v : Nat) (h : lo + w ≤ 32) :
    bitsOf (insertBits x lo w v) lo w = v % 2 ^ w := by
  apply Nat.eq_of_testBit_eq
  intro i
  rw [testBit_bitsOf, Nat.testBit_mod_two_pow]
  by_cases hi : i < w
  · rw [getLsbD_insertBits _ _ _ _ _ (by omega)]
    simp [hi]
  · simp [hi]

/-- A field written leaves a field beside it. -/
theorem bitsOf_insertBits_of_disjoint (x : Word) (lo w v lo' w' : Nat) (h : lo' + w' ≤ lo ∨ lo + w ≤ lo') :
    bitsOf (insertBits x lo w v) lo' w' = bitsOf x lo' w' := by
  apply Nat.eq_of_testBit_eq
  intro i
  rw [testBit_bitsOf, testBit_bitsOf]
  by_cases hi : i < w'
  · by_cases h32 : lo' + i < 32
    · rw [getLsbD_insertBits _ _ _ _ _ h32]
      have : ¬ (lo ≤ lo' + i ∧ lo' + i < lo + w) := by omega
      simp [this]
    · simp [BitVec.getLsbD_of_ge _ _ (Nat.le_of_not_lt h32)]
  · simp [hi]

/-- A field read after it is set. -/
theorem State.get_set_same (s : State) (f : Field) (v : Nat) (h : f.lo + f.w ≤ 32) : (s.set f v).get f = v % 2 ^ f.w := by
  simp [State.get, State.set, bitsOf_insertBits_same, h]

/-- A field of another register, or beside the one set, keeps its value. -/
theorem State.get_set_of_ne (s : State) (f g : Field) (v : Nat)
    (h : g.addr ≠ f.addr ∨ g.lo + g.w ≤ f.lo ∨ f.lo + f.w ≤ g.lo) : (s.set f v).get g = s.get g := by
  unfold State.get State.set
  by_cases ha : g.addr = f.addr
  · rw [ha, State.reg_setReg_same, bitsOf_insertBits_of_disjoint]
    · omega
  · rw [State.reg_setReg_of_ne _ _ ha]

/-- A flag set to a bit reads as it. -/
theorem State.on_set_same (s : State) (f : Field) (v : Nat) (h : f.lo + f.w ≤ 32) :
    (s.set f v).on f = (v % 2 ^ f.w == 1) := by
  unfold State.on; rw [s.get_set_same f v h]

theorem State.on_set_of_ne (s : State) (f g : Field) (v : Nat)
    (h : g.addr ≠ f.addr ∨ g.lo + g.w ≤ f.lo ∨ f.lo + f.w ≤ g.lo) : (s.set f v).on g = s.on g := by
  unfold State.on; rw [s.get_set_of_ne f g v h]

theorem State.reg_set_of_ne (s : State) (f : Field) (v b : Nat) (h : b ≠ f.addr) : (s.set f v).reg b = s.reg b :=
  s.reg_setReg_of_ne _ h

/-- A field is below its width's power of two. -/
theorem State.get_lt (s : State) (f : Field) : s.get f < 2 ^ f.w := Nat.mod_lt _ (Nat.two_pow_pos _)

/-! ### Memory -/

/-- A byte read after one is written, at an address that no X range covers. -/
theorem State.byte_setByte (s : State) (a b : Nat) (v : Byte) :
    (s.setByte a v).byte b = if b = a ∧ s.xDraw b = none then v else s.byte b := by
  have hx : (s.setByte a v).xDraw b = s.xDraw b := rfl
  unfold State.byte
  rw [hx]
  cases s.xDraw b with
  | some d => simp
  | none =>
    show (assocGet (if v = memDefault a then assocDel s.mem a else assocPut s.mem a v) b).getD (memDefault b) = _
    by_cases hb : b = a <;> by_cases hv : v = memDefault a <;> simp [assocGet_assocPut, assocGet_assocDel, hb, hv]

/-- Bytes outside the span written keep their values. -/
theorem State.byte_setBytes_of_out (s : State) (a b : Nat) (d : List Byte) (h : b < a ∨ a + d.length ≤ b) :
    (s.setBytes a d).byte b = s.byte b := by
  induction d generalizing s a with
  | nil => rfl
  | cons x xs ih =>
    simp only [State.setBytes, List.length_cons] at *
    rw [ih _ _ (by omega), State.byte_setByte]
    have : b ≠ a := by omega
    simp [this]

/-! ### What `State.setReg` leaves -/

@[simp] theorem State.setReg_mem (s : State) (a : Nat) (v : Word) : (s.setReg a v).mem = s.mem := rfl
@[simp] theorem State.setReg_xFlash (s : State) (a : Nat) (v : Word) : (s.setReg a v).xFlash = s.xFlash := rfl
@[simp] theorem State.setReg_resp (s : State) (a : Nat) (v : Word) : (s.setReg a v).resp = s.resp := rfl
@[simp] theorem State.setReg_free (s : State) (a : Nat) (v : Word) : (s.setReg a v).free = s.free := rfl
@[simp] theorem State.setReg_locked (s : State) (a : Nat) (v : Word) : (s.setReg a v).locked = s.locked := rfl
@[simp] theorem State.setReg_openRegs (s : State) (a : Nat) (v : Word) : (s.setReg a v).openRegs = s.openRegs := rfl
@[simp] theorem State.setReg_profile (s : State) (a : Nat) (v : Word) : (s.setReg a v).profile = s.profile := rfl
@[simp] theorem State.setReg_power (s : State) (a : Nat) (v : Word) : (s.setReg a v).power = s.power := rfl
@[simp] theorem State.setReg_tb (s : State) (a : Nat) (v : Word) : (s.setReg a v).tb = s.tb := rfl
@[simp] theorem State.setReg_groups (s : State) (a : Nat) (v : Word) : (s.setReg a v).groups = s.groups := rfl
@[simp] theorem State.setReg_cores (s : State) (a : Nat) (v : Word) : (s.setReg a v).cores = s.cores := rfl
@[simp] theorem State.setReg_reservations (s : State) (a : Nat) (v : Word) : (s.setReg a v).reservations = s.reservations := rfl
@[simp] theorem State.setReg_emitted (s : State) (a : Nat) (v : Word) : (s.setReg a v).emitted = s.emitted := rfl
@[simp] theorem State.setReg_evWas (s : State) (a : Nat) (v : Word) : (s.setReg a v).evWas = s.evWas := rfl
@[simp] theorem State.setReg_pm (s : State) (a : Nat) (v : Word) : (s.setReg a v).pm = s.pm := rfl
@[simp] theorem State.setReg_fc (s : State) (a : Nat) (v : Word) : (s.setReg a v).fc = s.fc := rfl
@[simp] theorem State.setReg_dbg (s : State) (a : Nat) (v : Word) : (s.setReg a v).dbg = s.dbg := rfl
@[simp] theorem State.setReg_fl (s : State) (a : Nat) (v : Word) : (s.setReg a v).fl = s.fl := rfl
@[simp] theorem State.setReg_tm (s : State) (a : Nat) (v : Word) : (s.setReg a v).tm = s.tm := rfl
@[simp] theorem State.setReg_pins (s : State) (a : Nat) (v : Word) : (s.setReg a v).pins = s.pins := rfl
@[simp] theorem State.setReg_sp (s : State) (a : Nat) (v : Word) : (s.setReg a v).sp = s.sp := rfl
@[simp] theorem State.setReg_fe (s : State) (a : Nat) (v : Word) : (s.setReg a v).fe = s.fe := rfl
@[simp] theorem State.setReg_cz (s : State) (a : Nat) (v : Word) : (s.setReg a v).cz = s.cz := rfl
@[simp] theorem State.setReg_ls (s : State) (a : Nat) (v : Word) : (s.setReg a v).ls = s.ls := rfl
@[simp] theorem State.setReg_rdv (s : State) (a : Nat) (v : Word) : (s.setReg a v).rdv = s.rdv := rfl
@[simp] theorem State.setReg_dc (s : State) (a : Nat) (v : Word) : (s.setReg a v).dc = s.dc := rfl
@[simp] theorem State.setReg_fw (s : State) (a : Nat) (v : Word) : (s.setReg a v).fw = s.fw := rfl
@[simp] theorem State.setReg_ce (s : State) (a : Nat) (v : Word) : (s.setReg a v).ce = s.ce := rfl
@[simp] theorem State.setReg_pq (s : State) (a : Nat) (v : Word) : (s.setReg a v).pq = s.pq := rfl
@[simp] theorem State.setReg_bt (s : State) (a : Nat) (v : Word) : (s.setReg a v).bt = s.bt := rfl
@[simp] theorem State.setReg_pending (s : State) (a : Nat) (v : Word) : (s.setReg a v).pending = s.pending := rfl

/-! ### What `State.set` leaves -/

@[simp] theorem State.set_mem (s : State) (f : Field) (v : Nat) : (s.set f v).mem = s.mem := rfl
@[simp] theorem State.set_xFlash (s : State) (f : Field) (v : Nat) : (s.set f v).xFlash = s.xFlash := rfl
@[simp] theorem State.set_resp (s : State) (f : Field) (v : Nat) : (s.set f v).resp = s.resp := rfl
@[simp] theorem State.set_free (s : State) (f : Field) (v : Nat) : (s.set f v).free = s.free := rfl
@[simp] theorem State.set_locked (s : State) (f : Field) (v : Nat) : (s.set f v).locked = s.locked := rfl
@[simp] theorem State.set_openRegs (s : State) (f : Field) (v : Nat) : (s.set f v).openRegs = s.openRegs := rfl
@[simp] theorem State.set_profile (s : State) (f : Field) (v : Nat) : (s.set f v).profile = s.profile := rfl
@[simp] theorem State.set_power (s : State) (f : Field) (v : Nat) : (s.set f v).power = s.power := rfl
@[simp] theorem State.set_tb (s : State) (f : Field) (v : Nat) : (s.set f v).tb = s.tb := rfl
@[simp] theorem State.set_groups (s : State) (f : Field) (v : Nat) : (s.set f v).groups = s.groups := rfl
@[simp] theorem State.set_cores (s : State) (f : Field) (v : Nat) : (s.set f v).cores = s.cores := rfl
@[simp] theorem State.set_reservations (s : State) (f : Field) (v : Nat) : (s.set f v).reservations = s.reservations := rfl
@[simp] theorem State.set_emitted (s : State) (f : Field) (v : Nat) : (s.set f v).emitted = s.emitted := rfl
@[simp] theorem State.set_evWas (s : State) (f : Field) (v : Nat) : (s.set f v).evWas = s.evWas := rfl
@[simp] theorem State.set_pm (s : State) (f : Field) (v : Nat) : (s.set f v).pm = s.pm := rfl
@[simp] theorem State.set_fc (s : State) (f : Field) (v : Nat) : (s.set f v).fc = s.fc := rfl
@[simp] theorem State.set_dbg (s : State) (f : Field) (v : Nat) : (s.set f v).dbg = s.dbg := rfl
@[simp] theorem State.set_fl (s : State) (f : Field) (v : Nat) : (s.set f v).fl = s.fl := rfl
@[simp] theorem State.set_tm (s : State) (f : Field) (v : Nat) : (s.set f v).tm = s.tm := rfl
@[simp] theorem State.set_pins (s : State) (f : Field) (v : Nat) : (s.set f v).pins = s.pins := rfl
@[simp] theorem State.set_sp (s : State) (f : Field) (v : Nat) : (s.set f v).sp = s.sp := rfl
@[simp] theorem State.set_fe (s : State) (f : Field) (v : Nat) : (s.set f v).fe = s.fe := rfl
@[simp] theorem State.set_cz (s : State) (f : Field) (v : Nat) : (s.set f v).cz = s.cz := rfl
@[simp] theorem State.set_ls (s : State) (f : Field) (v : Nat) : (s.set f v).ls = s.ls := rfl
@[simp] theorem State.set_rdv (s : State) (f : Field) (v : Nat) : (s.set f v).rdv = s.rdv := rfl
@[simp] theorem State.set_dc (s : State) (f : Field) (v : Nat) : (s.set f v).dc = s.dc := rfl
@[simp] theorem State.set_fw (s : State) (f : Field) (v : Nat) : (s.set f v).fw = s.fw := rfl
@[simp] theorem State.set_ce (s : State) (f : Field) (v : Nat) : (s.set f v).ce = s.ce := rfl
@[simp] theorem State.set_pq (s : State) (f : Field) (v : Nat) : (s.set f v).pq = s.pq := rfl
@[simp] theorem State.set_bt (s : State) (f : Field) (v : Nat) : (s.set f v).bt = s.bt := rfl
@[simp] theorem State.set_pending (s : State) (f : Field) (v : Nat) : (s.set f v).pending = s.pending := rfl

/-! ### What `State.addSat` leaves -/

@[simp] theorem State.addSat_mem (s : State) (f : Field) (k : Nat) : (s.addSat f k).mem = s.mem := rfl
@[simp] theorem State.addSat_xFlash (s : State) (f : Field) (k : Nat) : (s.addSat f k).xFlash = s.xFlash := rfl
@[simp] theorem State.addSat_resp (s : State) (f : Field) (k : Nat) : (s.addSat f k).resp = s.resp := rfl
@[simp] theorem State.addSat_free (s : State) (f : Field) (k : Nat) : (s.addSat f k).free = s.free := rfl
@[simp] theorem State.addSat_locked (s : State) (f : Field) (k : Nat) : (s.addSat f k).locked = s.locked := rfl
@[simp] theorem State.addSat_openRegs (s : State) (f : Field) (k : Nat) : (s.addSat f k).openRegs = s.openRegs := rfl
@[simp] theorem State.addSat_profile (s : State) (f : Field) (k : Nat) : (s.addSat f k).profile = s.profile := rfl
@[simp] theorem State.addSat_power (s : State) (f : Field) (k : Nat) : (s.addSat f k).power = s.power := rfl
@[simp] theorem State.addSat_tb (s : State) (f : Field) (k : Nat) : (s.addSat f k).tb = s.tb := rfl
@[simp] theorem State.addSat_groups (s : State) (f : Field) (k : Nat) : (s.addSat f k).groups = s.groups := rfl
@[simp] theorem State.addSat_cores (s : State) (f : Field) (k : Nat) : (s.addSat f k).cores = s.cores := rfl
@[simp] theorem State.addSat_reservations (s : State) (f : Field) (k : Nat) : (s.addSat f k).reservations = s.reservations := rfl
@[simp] theorem State.addSat_emitted (s : State) (f : Field) (k : Nat) : (s.addSat f k).emitted = s.emitted := rfl
@[simp] theorem State.addSat_evWas (s : State) (f : Field) (k : Nat) : (s.addSat f k).evWas = s.evWas := rfl
@[simp] theorem State.addSat_pm (s : State) (f : Field) (k : Nat) : (s.addSat f k).pm = s.pm := rfl
@[simp] theorem State.addSat_fc (s : State) (f : Field) (k : Nat) : (s.addSat f k).fc = s.fc := rfl
@[simp] theorem State.addSat_dbg (s : State) (f : Field) (k : Nat) : (s.addSat f k).dbg = s.dbg := rfl
@[simp] theorem State.addSat_fl (s : State) (f : Field) (k : Nat) : (s.addSat f k).fl = s.fl := rfl
@[simp] theorem State.addSat_tm (s : State) (f : Field) (k : Nat) : (s.addSat f k).tm = s.tm := rfl
@[simp] theorem State.addSat_pins (s : State) (f : Field) (k : Nat) : (s.addSat f k).pins = s.pins := rfl
@[simp] theorem State.addSat_sp (s : State) (f : Field) (k : Nat) : (s.addSat f k).sp = s.sp := rfl
@[simp] theorem State.addSat_fe (s : State) (f : Field) (k : Nat) : (s.addSat f k).fe = s.fe := rfl
@[simp] theorem State.addSat_cz (s : State) (f : Field) (k : Nat) : (s.addSat f k).cz = s.cz := rfl
@[simp] theorem State.addSat_ls (s : State) (f : Field) (k : Nat) : (s.addSat f k).ls = s.ls := rfl
@[simp] theorem State.addSat_rdv (s : State) (f : Field) (k : Nat) : (s.addSat f k).rdv = s.rdv := rfl
@[simp] theorem State.addSat_dc (s : State) (f : Field) (k : Nat) : (s.addSat f k).dc = s.dc := rfl
@[simp] theorem State.addSat_fw (s : State) (f : Field) (k : Nat) : (s.addSat f k).fw = s.fw := rfl
@[simp] theorem State.addSat_ce (s : State) (f : Field) (k : Nat) : (s.addSat f k).ce = s.ce := rfl
@[simp] theorem State.addSat_pq (s : State) (f : Field) (k : Nat) : (s.addSat f k).pq = s.pq := rfl
@[simp] theorem State.addSat_bt (s : State) (f : Field) (k : Nat) : (s.addSat f k).bt = s.bt := rfl
@[simp] theorem State.addSat_pending (s : State) (f : Field) (k : Nat) : (s.addSat f k).pending = s.pending := rfl

/-! ### What `State.bump` leaves -/

@[simp] theorem State.bump_mem (s : State) (f : Field) : (s.bump f).mem = s.mem := rfl
@[simp] theorem State.bump_xFlash (s : State) (f : Field) : (s.bump f).xFlash = s.xFlash := rfl
@[simp] theorem State.bump_resp (s : State) (f : Field) : (s.bump f).resp = s.resp := rfl
@[simp] theorem State.bump_free (s : State) (f : Field) : (s.bump f).free = s.free := rfl
@[simp] theorem State.bump_locked (s : State) (f : Field) : (s.bump f).locked = s.locked := rfl
@[simp] theorem State.bump_openRegs (s : State) (f : Field) : (s.bump f).openRegs = s.openRegs := rfl
@[simp] theorem State.bump_profile (s : State) (f : Field) : (s.bump f).profile = s.profile := rfl
@[simp] theorem State.bump_power (s : State) (f : Field) : (s.bump f).power = s.power := rfl
@[simp] theorem State.bump_tb (s : State) (f : Field) : (s.bump f).tb = s.tb := rfl
@[simp] theorem State.bump_groups (s : State) (f : Field) : (s.bump f).groups = s.groups := rfl
@[simp] theorem State.bump_cores (s : State) (f : Field) : (s.bump f).cores = s.cores := rfl
@[simp] theorem State.bump_reservations (s : State) (f : Field) : (s.bump f).reservations = s.reservations := rfl
@[simp] theorem State.bump_emitted (s : State) (f : Field) : (s.bump f).emitted = s.emitted := rfl
@[simp] theorem State.bump_evWas (s : State) (f : Field) : (s.bump f).evWas = s.evWas := rfl
@[simp] theorem State.bump_pm (s : State) (f : Field) : (s.bump f).pm = s.pm := rfl
@[simp] theorem State.bump_fc (s : State) (f : Field) : (s.bump f).fc = s.fc := rfl
@[simp] theorem State.bump_dbg (s : State) (f : Field) : (s.bump f).dbg = s.dbg := rfl
@[simp] theorem State.bump_fl (s : State) (f : Field) : (s.bump f).fl = s.fl := rfl
@[simp] theorem State.bump_tm (s : State) (f : Field) : (s.bump f).tm = s.tm := rfl
@[simp] theorem State.bump_pins (s : State) (f : Field) : (s.bump f).pins = s.pins := rfl
@[simp] theorem State.bump_sp (s : State) (f : Field) : (s.bump f).sp = s.sp := rfl
@[simp] theorem State.bump_fe (s : State) (f : Field) : (s.bump f).fe = s.fe := rfl
@[simp] theorem State.bump_cz (s : State) (f : Field) : (s.bump f).cz = s.cz := rfl
@[simp] theorem State.bump_ls (s : State) (f : Field) : (s.bump f).ls = s.ls := rfl
@[simp] theorem State.bump_rdv (s : State) (f : Field) : (s.bump f).rdv = s.rdv := rfl
@[simp] theorem State.bump_dc (s : State) (f : Field) : (s.bump f).dc = s.dc := rfl
@[simp] theorem State.bump_fw (s : State) (f : Field) : (s.bump f).fw = s.fw := rfl
@[simp] theorem State.bump_ce (s : State) (f : Field) : (s.bump f).ce = s.ce := rfl
@[simp] theorem State.bump_pq (s : State) (f : Field) : (s.bump f).pq = s.pq := rfl
@[simp] theorem State.bump_bt (s : State) (f : Field) : (s.bump f).bt = s.bt := rfl
@[simp] theorem State.bump_pending (s : State) (f : Field) : (s.bump f).pending = s.pending := rfl

/-! ### What `State.set64` leaves -/

@[simp] theorem State.set64_mem (s : State) (lo hi : Field) (v : Nat) : (s.set64 lo hi v).mem = s.mem := rfl
@[simp] theorem State.set64_xFlash (s : State) (lo hi : Field) (v : Nat) : (s.set64 lo hi v).xFlash = s.xFlash := rfl
@[simp] theorem State.set64_resp (s : State) (lo hi : Field) (v : Nat) : (s.set64 lo hi v).resp = s.resp := rfl
@[simp] theorem State.set64_free (s : State) (lo hi : Field) (v : Nat) : (s.set64 lo hi v).free = s.free := rfl
@[simp] theorem State.set64_locked (s : State) (lo hi : Field) (v : Nat) : (s.set64 lo hi v).locked = s.locked := rfl
@[simp] theorem State.set64_openRegs (s : State) (lo hi : Field) (v : Nat) : (s.set64 lo hi v).openRegs = s.openRegs := rfl
@[simp] theorem State.set64_profile (s : State) (lo hi : Field) (v : Nat) : (s.set64 lo hi v).profile = s.profile := rfl
@[simp] theorem State.set64_power (s : State) (lo hi : Field) (v : Nat) : (s.set64 lo hi v).power = s.power := rfl
@[simp] theorem State.set64_tb (s : State) (lo hi : Field) (v : Nat) : (s.set64 lo hi v).tb = s.tb := rfl
@[simp] theorem State.set64_groups (s : State) (lo hi : Field) (v : Nat) : (s.set64 lo hi v).groups = s.groups := rfl
@[simp] theorem State.set64_cores (s : State) (lo hi : Field) (v : Nat) : (s.set64 lo hi v).cores = s.cores := rfl
@[simp] theorem State.set64_reservations (s : State) (lo hi : Field) (v : Nat) : (s.set64 lo hi v).reservations = s.reservations := rfl
@[simp] theorem State.set64_emitted (s : State) (lo hi : Field) (v : Nat) : (s.set64 lo hi v).emitted = s.emitted := rfl
@[simp] theorem State.set64_evWas (s : State) (lo hi : Field) (v : Nat) : (s.set64 lo hi v).evWas = s.evWas := rfl
@[simp] theorem State.set64_pm (s : State) (lo hi : Field) (v : Nat) : (s.set64 lo hi v).pm = s.pm := rfl
@[simp] theorem State.set64_fc (s : State) (lo hi : Field) (v : Nat) : (s.set64 lo hi v).fc = s.fc := rfl
@[simp] theorem State.set64_dbg (s : State) (lo hi : Field) (v : Nat) : (s.set64 lo hi v).dbg = s.dbg := rfl
@[simp] theorem State.set64_fl (s : State) (lo hi : Field) (v : Nat) : (s.set64 lo hi v).fl = s.fl := rfl
@[simp] theorem State.set64_tm (s : State) (lo hi : Field) (v : Nat) : (s.set64 lo hi v).tm = s.tm := rfl
@[simp] theorem State.set64_pins (s : State) (lo hi : Field) (v : Nat) : (s.set64 lo hi v).pins = s.pins := rfl
@[simp] theorem State.set64_sp (s : State) (lo hi : Field) (v : Nat) : (s.set64 lo hi v).sp = s.sp := rfl
@[simp] theorem State.set64_fe (s : State) (lo hi : Field) (v : Nat) : (s.set64 lo hi v).fe = s.fe := rfl
@[simp] theorem State.set64_cz (s : State) (lo hi : Field) (v : Nat) : (s.set64 lo hi v).cz = s.cz := rfl
@[simp] theorem State.set64_ls (s : State) (lo hi : Field) (v : Nat) : (s.set64 lo hi v).ls = s.ls := rfl
@[simp] theorem State.set64_rdv (s : State) (lo hi : Field) (v : Nat) : (s.set64 lo hi v).rdv = s.rdv := rfl
@[simp] theorem State.set64_dc (s : State) (lo hi : Field) (v : Nat) : (s.set64 lo hi v).dc = s.dc := rfl
@[simp] theorem State.set64_fw (s : State) (lo hi : Field) (v : Nat) : (s.set64 lo hi v).fw = s.fw := rfl
@[simp] theorem State.set64_ce (s : State) (lo hi : Field) (v : Nat) : (s.set64 lo hi v).ce = s.ce := rfl
@[simp] theorem State.set64_pq (s : State) (lo hi : Field) (v : Nat) : (s.set64 lo hi v).pq = s.pq := rfl
@[simp] theorem State.set64_bt (s : State) (lo hi : Field) (v : Nat) : (s.set64 lo hi v).bt = s.bt := rfl
@[simp] theorem State.set64_pending (s : State) (lo hi : Field) (v : Nat) : (s.set64 lo hi v).pending = s.pending := rfl

/-! ### What `State.setByte` leaves -/

@[simp] theorem State.setByte_regs (s : State) (a : Nat) (v : Byte) : (s.setByte a v).regs = s.regs := rfl
@[simp] theorem State.setByte_xFlash (s : State) (a : Nat) (v : Byte) : (s.setByte a v).xFlash = s.xFlash := rfl
@[simp] theorem State.setByte_resp (s : State) (a : Nat) (v : Byte) : (s.setByte a v).resp = s.resp := rfl
@[simp] theorem State.setByte_free (s : State) (a : Nat) (v : Byte) : (s.setByte a v).free = s.free := rfl
@[simp] theorem State.setByte_locked (s : State) (a : Nat) (v : Byte) : (s.setByte a v).locked = s.locked := rfl
@[simp] theorem State.setByte_openRegs (s : State) (a : Nat) (v : Byte) : (s.setByte a v).openRegs = s.openRegs := rfl
@[simp] theorem State.setByte_profile (s : State) (a : Nat) (v : Byte) : (s.setByte a v).profile = s.profile := rfl
@[simp] theorem State.setByte_power (s : State) (a : Nat) (v : Byte) : (s.setByte a v).power = s.power := rfl
@[simp] theorem State.setByte_tb (s : State) (a : Nat) (v : Byte) : (s.setByte a v).tb = s.tb := rfl
@[simp] theorem State.setByte_groups (s : State) (a : Nat) (v : Byte) : (s.setByte a v).groups = s.groups := rfl
@[simp] theorem State.setByte_cores (s : State) (a : Nat) (v : Byte) : (s.setByte a v).cores = s.cores := rfl
@[simp] theorem State.setByte_reservations (s : State) (a : Nat) (v : Byte) : (s.setByte a v).reservations = s.reservations := rfl
@[simp] theorem State.setByte_emitted (s : State) (a : Nat) (v : Byte) : (s.setByte a v).emitted = s.emitted := rfl
@[simp] theorem State.setByte_evWas (s : State) (a : Nat) (v : Byte) : (s.setByte a v).evWas = s.evWas := rfl
@[simp] theorem State.setByte_pm (s : State) (a : Nat) (v : Byte) : (s.setByte a v).pm = s.pm := rfl
@[simp] theorem State.setByte_fc (s : State) (a : Nat) (v : Byte) : (s.setByte a v).fc = s.fc := rfl
@[simp] theorem State.setByte_dbg (s : State) (a : Nat) (v : Byte) : (s.setByte a v).dbg = s.dbg := rfl
@[simp] theorem State.setByte_fl (s : State) (a : Nat) (v : Byte) : (s.setByte a v).fl = s.fl := rfl
@[simp] theorem State.setByte_tm (s : State) (a : Nat) (v : Byte) : (s.setByte a v).tm = s.tm := rfl
@[simp] theorem State.setByte_pins (s : State) (a : Nat) (v : Byte) : (s.setByte a v).pins = s.pins := rfl
@[simp] theorem State.setByte_sp (s : State) (a : Nat) (v : Byte) : (s.setByte a v).sp = s.sp := rfl
@[simp] theorem State.setByte_fe (s : State) (a : Nat) (v : Byte) : (s.setByte a v).fe = s.fe := rfl
@[simp] theorem State.setByte_cz (s : State) (a : Nat) (v : Byte) : (s.setByte a v).cz = s.cz := rfl
@[simp] theorem State.setByte_ls (s : State) (a : Nat) (v : Byte) : (s.setByte a v).ls = s.ls := rfl
@[simp] theorem State.setByte_rdv (s : State) (a : Nat) (v : Byte) : (s.setByte a v).rdv = s.rdv := rfl
@[simp] theorem State.setByte_dc (s : State) (a : Nat) (v : Byte) : (s.setByte a v).dc = s.dc := rfl
@[simp] theorem State.setByte_fw (s : State) (a : Nat) (v : Byte) : (s.setByte a v).fw = s.fw := rfl
@[simp] theorem State.setByte_ce (s : State) (a : Nat) (v : Byte) : (s.setByte a v).ce = s.ce := rfl
@[simp] theorem State.setByte_pq (s : State) (a : Nat) (v : Byte) : (s.setByte a v).pq = s.pq := rfl
@[simp] theorem State.setByte_bt (s : State) (a : Nat) (v : Byte) : (s.setByte a v).bt = s.bt := rfl
@[simp] theorem State.setByte_pending (s : State) (a : Nat) (v : Byte) : (s.setByte a v).pending = s.pending := rfl

/-! ### What `State.setBytes` leaves -/

@[simp] theorem State.setBytes_regs (s : State) (a : Nat) (d : List Byte) : (s.setBytes a d).regs = s.regs := by
  induction d generalizing s a with
  | nil => rfl
  | cons x xs ih => exact ih _ _
@[simp] theorem State.setBytes_xFlash (s : State) (a : Nat) (d : List Byte) : (s.setBytes a d).xFlash = s.xFlash := by
  induction d generalizing s a with
  | nil => rfl
  | cons x xs ih => exact ih _ _
@[simp] theorem State.setBytes_resp (s : State) (a : Nat) (d : List Byte) : (s.setBytes a d).resp = s.resp := by
  induction d generalizing s a with
  | nil => rfl
  | cons x xs ih => exact ih _ _
@[simp] theorem State.setBytes_free (s : State) (a : Nat) (d : List Byte) : (s.setBytes a d).free = s.free := by
  induction d generalizing s a with
  | nil => rfl
  | cons x xs ih => exact ih _ _
@[simp] theorem State.setBytes_locked (s : State) (a : Nat) (d : List Byte) : (s.setBytes a d).locked = s.locked := by
  induction d generalizing s a with
  | nil => rfl
  | cons x xs ih => exact ih _ _
@[simp] theorem State.setBytes_openRegs (s : State) (a : Nat) (d : List Byte) : (s.setBytes a d).openRegs = s.openRegs := by
  induction d generalizing s a with
  | nil => rfl
  | cons x xs ih => exact ih _ _
@[simp] theorem State.setBytes_profile (s : State) (a : Nat) (d : List Byte) : (s.setBytes a d).profile = s.profile := by
  induction d generalizing s a with
  | nil => rfl
  | cons x xs ih => exact ih _ _
@[simp] theorem State.setBytes_power (s : State) (a : Nat) (d : List Byte) : (s.setBytes a d).power = s.power := by
  induction d generalizing s a with
  | nil => rfl
  | cons x xs ih => exact ih _ _
@[simp] theorem State.setBytes_tb (s : State) (a : Nat) (d : List Byte) : (s.setBytes a d).tb = s.tb := by
  induction d generalizing s a with
  | nil => rfl
  | cons x xs ih => exact ih _ _
@[simp] theorem State.setBytes_groups (s : State) (a : Nat) (d : List Byte) : (s.setBytes a d).groups = s.groups := by
  induction d generalizing s a with
  | nil => rfl
  | cons x xs ih => exact ih _ _
@[simp] theorem State.setBytes_cores (s : State) (a : Nat) (d : List Byte) : (s.setBytes a d).cores = s.cores := by
  induction d generalizing s a with
  | nil => rfl
  | cons x xs ih => exact ih _ _
@[simp] theorem State.setBytes_reservations (s : State) (a : Nat) (d : List Byte) : (s.setBytes a d).reservations = s.reservations := by
  induction d generalizing s a with
  | nil => rfl
  | cons x xs ih => exact ih _ _
@[simp] theorem State.setBytes_emitted (s : State) (a : Nat) (d : List Byte) : (s.setBytes a d).emitted = s.emitted := by
  induction d generalizing s a with
  | nil => rfl
  | cons x xs ih => exact ih _ _
@[simp] theorem State.setBytes_evWas (s : State) (a : Nat) (d : List Byte) : (s.setBytes a d).evWas = s.evWas := by
  induction d generalizing s a with
  | nil => rfl
  | cons x xs ih => exact ih _ _
@[simp] theorem State.setBytes_pm (s : State) (a : Nat) (d : List Byte) : (s.setBytes a d).pm = s.pm := by
  induction d generalizing s a with
  | nil => rfl
  | cons x xs ih => exact ih _ _
@[simp] theorem State.setBytes_fc (s : State) (a : Nat) (d : List Byte) : (s.setBytes a d).fc = s.fc := by
  induction d generalizing s a with
  | nil => rfl
  | cons x xs ih => exact ih _ _
@[simp] theorem State.setBytes_dbg (s : State) (a : Nat) (d : List Byte) : (s.setBytes a d).dbg = s.dbg := by
  induction d generalizing s a with
  | nil => rfl
  | cons x xs ih => exact ih _ _
@[simp] theorem State.setBytes_fl (s : State) (a : Nat) (d : List Byte) : (s.setBytes a d).fl = s.fl := by
  induction d generalizing s a with
  | nil => rfl
  | cons x xs ih => exact ih _ _
@[simp] theorem State.setBytes_tm (s : State) (a : Nat) (d : List Byte) : (s.setBytes a d).tm = s.tm := by
  induction d generalizing s a with
  | nil => rfl
  | cons x xs ih => exact ih _ _
@[simp] theorem State.setBytes_pins (s : State) (a : Nat) (d : List Byte) : (s.setBytes a d).pins = s.pins := by
  induction d generalizing s a with
  | nil => rfl
  | cons x xs ih => exact ih _ _
@[simp] theorem State.setBytes_sp (s : State) (a : Nat) (d : List Byte) : (s.setBytes a d).sp = s.sp := by
  induction d generalizing s a with
  | nil => rfl
  | cons x xs ih => exact ih _ _
@[simp] theorem State.setBytes_fe (s : State) (a : Nat) (d : List Byte) : (s.setBytes a d).fe = s.fe := by
  induction d generalizing s a with
  | nil => rfl
  | cons x xs ih => exact ih _ _
@[simp] theorem State.setBytes_cz (s : State) (a : Nat) (d : List Byte) : (s.setBytes a d).cz = s.cz := by
  induction d generalizing s a with
  | nil => rfl
  | cons x xs ih => exact ih _ _
@[simp] theorem State.setBytes_ls (s : State) (a : Nat) (d : List Byte) : (s.setBytes a d).ls = s.ls := by
  induction d generalizing s a with
  | nil => rfl
  | cons x xs ih => exact ih _ _
@[simp] theorem State.setBytes_rdv (s : State) (a : Nat) (d : List Byte) : (s.setBytes a d).rdv = s.rdv := by
  induction d generalizing s a with
  | nil => rfl
  | cons x xs ih => exact ih _ _
@[simp] theorem State.setBytes_dc (s : State) (a : Nat) (d : List Byte) : (s.setBytes a d).dc = s.dc := by
  induction d generalizing s a with
  | nil => rfl
  | cons x xs ih => exact ih _ _
@[simp] theorem State.setBytes_fw (s : State) (a : Nat) (d : List Byte) : (s.setBytes a d).fw = s.fw := by
  induction d generalizing s a with
  | nil => rfl
  | cons x xs ih => exact ih _ _
@[simp] theorem State.setBytes_ce (s : State) (a : Nat) (d : List Byte) : (s.setBytes a d).ce = s.ce := by
  induction d generalizing s a with
  | nil => rfl
  | cons x xs ih => exact ih _ _
@[simp] theorem State.setBytes_pq (s : State) (a : Nat) (d : List Byte) : (s.setBytes a d).pq = s.pq := by
  induction d generalizing s a with
  | nil => rfl
  | cons x xs ih => exact ih _ _
@[simp] theorem State.setBytes_bt (s : State) (a : Nat) (d : List Byte) : (s.setBytes a d).bt = s.bt := by
  induction d generalizing s a with
  | nil => rfl
  | cons x xs ih => exact ih _ _
@[simp] theorem State.setBytes_pending (s : State) (a : Nat) (d : List Byte) : (s.setBytes a d).pending = s.pending := by
  induction d generalizing s a with
  | nil => rfl
  | cons x xs ih => exact ih _ _

/-! ### What `State.respond` leaves -/

@[simp] theorem State.respond_regs (s : State) (d : Word) : (s.respond d).regs = s.regs := rfl
@[simp] theorem State.respond_mem (s : State) (d : Word) : (s.respond d).mem = s.mem := rfl
@[simp] theorem State.respond_xFlash (s : State) (d : Word) : (s.respond d).xFlash = s.xFlash := rfl
@[simp] theorem State.respond_free (s : State) (d : Word) : (s.respond d).free = s.free := rfl
@[simp] theorem State.respond_locked (s : State) (d : Word) : (s.respond d).locked = s.locked := rfl
@[simp] theorem State.respond_openRegs (s : State) (d : Word) : (s.respond d).openRegs = s.openRegs := rfl
@[simp] theorem State.respond_profile (s : State) (d : Word) : (s.respond d).profile = s.profile := rfl
@[simp] theorem State.respond_power (s : State) (d : Word) : (s.respond d).power = s.power := rfl
@[simp] theorem State.respond_tb (s : State) (d : Word) : (s.respond d).tb = s.tb := rfl
@[simp] theorem State.respond_groups (s : State) (d : Word) : (s.respond d).groups = s.groups := rfl
@[simp] theorem State.respond_cores (s : State) (d : Word) : (s.respond d).cores = s.cores := rfl
@[simp] theorem State.respond_reservations (s : State) (d : Word) : (s.respond d).reservations = s.reservations := rfl
@[simp] theorem State.respond_emitted (s : State) (d : Word) : (s.respond d).emitted = s.emitted := rfl
@[simp] theorem State.respond_evWas (s : State) (d : Word) : (s.respond d).evWas = s.evWas := rfl
@[simp] theorem State.respond_pm (s : State) (d : Word) : (s.respond d).pm = s.pm := rfl
@[simp] theorem State.respond_fc (s : State) (d : Word) : (s.respond d).fc = s.fc := rfl
@[simp] theorem State.respond_dbg (s : State) (d : Word) : (s.respond d).dbg = s.dbg := rfl
@[simp] theorem State.respond_fl (s : State) (d : Word) : (s.respond d).fl = s.fl := rfl
@[simp] theorem State.respond_tm (s : State) (d : Word) : (s.respond d).tm = s.tm := rfl
@[simp] theorem State.respond_pins (s : State) (d : Word) : (s.respond d).pins = s.pins := rfl
@[simp] theorem State.respond_sp (s : State) (d : Word) : (s.respond d).sp = s.sp := rfl
@[simp] theorem State.respond_fe (s : State) (d : Word) : (s.respond d).fe = s.fe := rfl
@[simp] theorem State.respond_cz (s : State) (d : Word) : (s.respond d).cz = s.cz := rfl
@[simp] theorem State.respond_ls (s : State) (d : Word) : (s.respond d).ls = s.ls := rfl
@[simp] theorem State.respond_rdv (s : State) (d : Word) : (s.respond d).rdv = s.rdv := rfl
@[simp] theorem State.respond_dc (s : State) (d : Word) : (s.respond d).dc = s.dc := rfl
@[simp] theorem State.respond_fw (s : State) (d : Word) : (s.respond d).fw = s.fw := rfl
@[simp] theorem State.respond_ce (s : State) (d : Word) : (s.respond d).ce = s.ce := rfl
@[simp] theorem State.respond_pq (s : State) (d : Word) : (s.respond d).pq = s.pq := rfl
@[simp] theorem State.respond_bt (s : State) (d : Word) : (s.respond d).bt = s.bt := rfl
@[simp] theorem State.respond_pending (s : State) (d : Word) : (s.respond d).pending = s.pending := rfl

/-! ### What `State.setCsr` leaves -/

@[simp] theorem State.setCsr_regs (s : State) (c n : Nat) (v : Word) : (s.setCsr c n v).regs = s.regs := rfl
@[simp] theorem State.setCsr_mem (s : State) (c n : Nat) (v : Word) : (s.setCsr c n v).mem = s.mem := rfl
@[simp] theorem State.setCsr_xFlash (s : State) (c n : Nat) (v : Word) : (s.setCsr c n v).xFlash = s.xFlash := rfl
@[simp] theorem State.setCsr_resp (s : State) (c n : Nat) (v : Word) : (s.setCsr c n v).resp = s.resp := rfl
@[simp] theorem State.setCsr_free (s : State) (c n : Nat) (v : Word) : (s.setCsr c n v).free = s.free := rfl
@[simp] theorem State.setCsr_locked (s : State) (c n : Nat) (v : Word) : (s.setCsr c n v).locked = s.locked := rfl
@[simp] theorem State.setCsr_openRegs (s : State) (c n : Nat) (v : Word) : (s.setCsr c n v).openRegs = s.openRegs := rfl
@[simp] theorem State.setCsr_profile (s : State) (c n : Nat) (v : Word) : (s.setCsr c n v).profile = s.profile := rfl
@[simp] theorem State.setCsr_power (s : State) (c n : Nat) (v : Word) : (s.setCsr c n v).power = s.power := rfl
@[simp] theorem State.setCsr_tb (s : State) (c n : Nat) (v : Word) : (s.setCsr c n v).tb = s.tb := rfl
@[simp] theorem State.setCsr_groups (s : State) (c n : Nat) (v : Word) : (s.setCsr c n v).groups = s.groups := rfl
@[simp] theorem State.setCsr_reservations (s : State) (c n : Nat) (v : Word) : (s.setCsr c n v).reservations = s.reservations := rfl
@[simp] theorem State.setCsr_emitted (s : State) (c n : Nat) (v : Word) : (s.setCsr c n v).emitted = s.emitted := rfl
@[simp] theorem State.setCsr_evWas (s : State) (c n : Nat) (v : Word) : (s.setCsr c n v).evWas = s.evWas := rfl
@[simp] theorem State.setCsr_pm (s : State) (c n : Nat) (v : Word) : (s.setCsr c n v).pm = s.pm := rfl
@[simp] theorem State.setCsr_fc (s : State) (c n : Nat) (v : Word) : (s.setCsr c n v).fc = s.fc := rfl
@[simp] theorem State.setCsr_dbg (s : State) (c n : Nat) (v : Word) : (s.setCsr c n v).dbg = s.dbg := rfl
@[simp] theorem State.setCsr_fl (s : State) (c n : Nat) (v : Word) : (s.setCsr c n v).fl = s.fl := rfl
@[simp] theorem State.setCsr_tm (s : State) (c n : Nat) (v : Word) : (s.setCsr c n v).tm = s.tm := rfl
@[simp] theorem State.setCsr_pins (s : State) (c n : Nat) (v : Word) : (s.setCsr c n v).pins = s.pins := rfl
@[simp] theorem State.setCsr_sp (s : State) (c n : Nat) (v : Word) : (s.setCsr c n v).sp = s.sp := rfl
@[simp] theorem State.setCsr_fe (s : State) (c n : Nat) (v : Word) : (s.setCsr c n v).fe = s.fe := rfl
@[simp] theorem State.setCsr_cz (s : State) (c n : Nat) (v : Word) : (s.setCsr c n v).cz = s.cz := rfl
@[simp] theorem State.setCsr_ls (s : State) (c n : Nat) (v : Word) : (s.setCsr c n v).ls = s.ls := rfl
@[simp] theorem State.setCsr_rdv (s : State) (c n : Nat) (v : Word) : (s.setCsr c n v).rdv = s.rdv := rfl
@[simp] theorem State.setCsr_dc (s : State) (c n : Nat) (v : Word) : (s.setCsr c n v).dc = s.dc := rfl
@[simp] theorem State.setCsr_fw (s : State) (c n : Nat) (v : Word) : (s.setCsr c n v).fw = s.fw := rfl
@[simp] theorem State.setCsr_ce (s : State) (c n : Nat) (v : Word) : (s.setCsr c n v).ce = s.ce := rfl
@[simp] theorem State.setCsr_pq (s : State) (c n : Nat) (v : Word) : (s.setCsr c n v).pq = s.pq := rfl
@[simp] theorem State.setCsr_bt (s : State) (c n : Nat) (v : Word) : (s.setCsr c n v).bt = s.bt := rfl
@[simp] theorem State.setCsr_pending (s : State) (c n : Nat) (v : Word) : (s.setCsr c n v).pending = s.pending := rfl

/-! ### What `State.trap` leaves -/

@[simp] theorem State.trap_regs (s : State) (c cause : Nat) (v : Word) : (s.trap c cause v).regs = s.regs := rfl
@[simp] theorem State.trap_mem (s : State) (c cause : Nat) (v : Word) : (s.trap c cause v).mem = s.mem := rfl
@[simp] theorem State.trap_xFlash (s : State) (c cause : Nat) (v : Word) : (s.trap c cause v).xFlash = s.xFlash := rfl
@[simp] theorem State.trap_resp (s : State) (c cause : Nat) (v : Word) : (s.trap c cause v).resp = s.resp := rfl
@[simp] theorem State.trap_locked (s : State) (c cause : Nat) (v : Word) : (s.trap c cause v).locked = s.locked := rfl
@[simp] theorem State.trap_openRegs (s : State) (c cause : Nat) (v : Word) : (s.trap c cause v).openRegs = s.openRegs := rfl
@[simp] theorem State.trap_profile (s : State) (c cause : Nat) (v : Word) : (s.trap c cause v).profile = s.profile := rfl
@[simp] theorem State.trap_power (s : State) (c cause : Nat) (v : Word) : (s.trap c cause v).power = s.power := rfl
@[simp] theorem State.trap_tb (s : State) (c cause : Nat) (v : Word) : (s.trap c cause v).tb = s.tb := rfl
@[simp] theorem State.trap_groups (s : State) (c cause : Nat) (v : Word) : (s.trap c cause v).groups = s.groups := rfl
@[simp] theorem State.trap_emitted (s : State) (c cause : Nat) (v : Word) : (s.trap c cause v).emitted = s.emitted := rfl
@[simp] theorem State.trap_evWas (s : State) (c cause : Nat) (v : Word) : (s.trap c cause v).evWas = s.evWas := rfl
@[simp] theorem State.trap_pm (s : State) (c cause : Nat) (v : Word) : (s.trap c cause v).pm = s.pm := rfl
@[simp] theorem State.trap_fc (s : State) (c cause : Nat) (v : Word) : (s.trap c cause v).fc = s.fc := rfl
@[simp] theorem State.trap_dbg (s : State) (c cause : Nat) (v : Word) : (s.trap c cause v).dbg = s.dbg := rfl
@[simp] theorem State.trap_fl (s : State) (c cause : Nat) (v : Word) : (s.trap c cause v).fl = s.fl := rfl
@[simp] theorem State.trap_tm (s : State) (c cause : Nat) (v : Word) : (s.trap c cause v).tm = s.tm := rfl
@[simp] theorem State.trap_pins (s : State) (c cause : Nat) (v : Word) : (s.trap c cause v).pins = s.pins := rfl
@[simp] theorem State.trap_sp (s : State) (c cause : Nat) (v : Word) : (s.trap c cause v).sp = s.sp := rfl
@[simp] theorem State.trap_fe (s : State) (c cause : Nat) (v : Word) : (s.trap c cause v).fe = s.fe := rfl
@[simp] theorem State.trap_cz (s : State) (c cause : Nat) (v : Word) : (s.trap c cause v).cz = s.cz := rfl
@[simp] theorem State.trap_ls (s : State) (c cause : Nat) (v : Word) : (s.trap c cause v).ls = s.ls := rfl
@[simp] theorem State.trap_rdv (s : State) (c cause : Nat) (v : Word) : (s.trap c cause v).rdv = s.rdv := rfl
@[simp] theorem State.trap_dc (s : State) (c cause : Nat) (v : Word) : (s.trap c cause v).dc = s.dc := rfl
@[simp] theorem State.trap_fw (s : State) (c cause : Nat) (v : Word) : (s.trap c cause v).fw = s.fw := rfl
@[simp] theorem State.trap_ce (s : State) (c cause : Nat) (v : Word) : (s.trap c cause v).ce = s.ce := rfl
@[simp] theorem State.trap_pq (s : State) (c cause : Nat) (v : Word) : (s.trap c cause v).pq = s.pq := rfl
@[simp] theorem State.trap_bt (s : State) (c cause : Nat) (v : Word) : (s.trap c cause v).bt = s.bt := rfl
@[simp] theorem State.trap_pending (s : State) (c cause : Nat) (v : Word) : (s.trap c cause v).pending = s.pending := rfl

/-! ### What `State.emit` leaves -/

@[simp] theorem State.emit_regs (s : State) (p : Nat) : (s.emit p).regs = s.regs := by unfold State.emit; split <;> rfl
@[simp] theorem State.emit_mem (s : State) (p : Nat) : (s.emit p).mem = s.mem := by unfold State.emit; split <;> rfl
@[simp] theorem State.emit_xFlash (s : State) (p : Nat) : (s.emit p).xFlash = s.xFlash := by unfold State.emit; split <;> rfl
@[simp] theorem State.emit_resp (s : State) (p : Nat) : (s.emit p).resp = s.resp := by unfold State.emit; split <;> rfl
@[simp] theorem State.emit_free (s : State) (p : Nat) : (s.emit p).free = s.free := by unfold State.emit; split <;> rfl
@[simp] theorem State.emit_locked (s : State) (p : Nat) : (s.emit p).locked = s.locked := by unfold State.emit; split <;> rfl
@[simp] theorem State.emit_openRegs (s : State) (p : Nat) : (s.emit p).openRegs = s.openRegs := by unfold State.emit; split <;> rfl
@[simp] theorem State.emit_profile (s : State) (p : Nat) : (s.emit p).profile = s.profile := by unfold State.emit; split <;> rfl
@[simp] theorem State.emit_power (s : State) (p : Nat) : (s.emit p).power = s.power := by unfold State.emit; split <;> rfl
@[simp] theorem State.emit_tb (s : State) (p : Nat) : (s.emit p).tb = s.tb := by unfold State.emit; split <;> rfl
@[simp] theorem State.emit_groups (s : State) (p : Nat) : (s.emit p).groups = s.groups := by unfold State.emit; split <;> rfl
@[simp] theorem State.emit_cores (s : State) (p : Nat) : (s.emit p).cores = s.cores := by unfold State.emit; split <;> rfl
@[simp] theorem State.emit_reservations (s : State) (p : Nat) : (s.emit p).reservations = s.reservations := by unfold State.emit; split <;> rfl
@[simp] theorem State.emit_evWas (s : State) (p : Nat) : (s.emit p).evWas = s.evWas := by unfold State.emit; split <;> rfl
@[simp] theorem State.emit_pm (s : State) (p : Nat) : (s.emit p).pm = s.pm := by unfold State.emit; split <;> rfl
@[simp] theorem State.emit_fc (s : State) (p : Nat) : (s.emit p).fc = s.fc := by unfold State.emit; split <;> rfl
@[simp] theorem State.emit_dbg (s : State) (p : Nat) : (s.emit p).dbg = s.dbg := by unfold State.emit; split <;> rfl
@[simp] theorem State.emit_fl (s : State) (p : Nat) : (s.emit p).fl = s.fl := by unfold State.emit; split <;> rfl
@[simp] theorem State.emit_tm (s : State) (p : Nat) : (s.emit p).tm = s.tm := by unfold State.emit; split <;> rfl
@[simp] theorem State.emit_pins (s : State) (p : Nat) : (s.emit p).pins = s.pins := by unfold State.emit; split <;> rfl
@[simp] theorem State.emit_sp (s : State) (p : Nat) : (s.emit p).sp = s.sp := by unfold State.emit; split <;> rfl
@[simp] theorem State.emit_fe (s : State) (p : Nat) : (s.emit p).fe = s.fe := by unfold State.emit; split <;> rfl
@[simp] theorem State.emit_cz (s : State) (p : Nat) : (s.emit p).cz = s.cz := by unfold State.emit; split <;> rfl
@[simp] theorem State.emit_ls (s : State) (p : Nat) : (s.emit p).ls = s.ls := by unfold State.emit; split <;> rfl
@[simp] theorem State.emit_rdv (s : State) (p : Nat) : (s.emit p).rdv = s.rdv := by unfold State.emit; split <;> rfl
@[simp] theorem State.emit_dc (s : State) (p : Nat) : (s.emit p).dc = s.dc := by unfold State.emit; split <;> rfl
@[simp] theorem State.emit_fw (s : State) (p : Nat) : (s.emit p).fw = s.fw := by unfold State.emit; split <;> rfl
@[simp] theorem State.emit_ce (s : State) (p : Nat) : (s.emit p).ce = s.ce := by unfold State.emit; split <;> rfl
@[simp] theorem State.emit_pq (s : State) (p : Nat) : (s.emit p).pq = s.pq := by unfold State.emit; split <;> rfl
@[simp] theorem State.emit_bt (s : State) (p : Nat) : (s.emit p).bt = s.bt := by unfold State.emit; split <;> rfl
@[simp] theorem State.emit_pending (s : State) (p : Nat) : (s.emit p).pending = s.pending := by unfold State.emit; split <;> rfl

/-! ### What `State.raise` leaves -/

@[simp] theorem State.raise_mem (s : State) (f : Field) : (s.raise f).mem = s.mem := by
  simp only [State.raise, State.edge]; (repeat' split) <;> rfl
@[simp] theorem State.raise_xFlash (s : State) (f : Field) : (s.raise f).xFlash = s.xFlash := by
  simp only [State.raise, State.edge]; (repeat' split) <;> rfl
@[simp] theorem State.raise_resp (s : State) (f : Field) : (s.raise f).resp = s.resp := by
  simp only [State.raise, State.edge]; (repeat' split) <;> rfl
@[simp] theorem State.raise_free (s : State) (f : Field) : (s.raise f).free = s.free := by
  simp only [State.raise, State.edge]; (repeat' split) <;> rfl
@[simp] theorem State.raise_locked (s : State) (f : Field) : (s.raise f).locked = s.locked := by
  simp only [State.raise, State.edge]; (repeat' split) <;> rfl
@[simp] theorem State.raise_openRegs (s : State) (f : Field) : (s.raise f).openRegs = s.openRegs := by
  simp only [State.raise, State.edge]; (repeat' split) <;> rfl
@[simp] theorem State.raise_profile (s : State) (f : Field) : (s.raise f).profile = s.profile := by
  simp only [State.raise, State.edge]; (repeat' split) <;> rfl
@[simp] theorem State.raise_power (s : State) (f : Field) : (s.raise f).power = s.power := by
  simp only [State.raise, State.edge]; (repeat' split) <;> rfl
@[simp] theorem State.raise_tb (s : State) (f : Field) : (s.raise f).tb = s.tb := by
  simp only [State.raise, State.edge]; (repeat' split) <;> rfl
@[simp] theorem State.raise_groups (s : State) (f : Field) : (s.raise f).groups = s.groups := by
  simp only [State.raise, State.edge]; (repeat' split) <;> rfl
@[simp] theorem State.raise_cores (s : State) (f : Field) : (s.raise f).cores = s.cores := by
  simp only [State.raise, State.edge]; (repeat' split) <;> rfl
@[simp] theorem State.raise_reservations (s : State) (f : Field) : (s.raise f).reservations = s.reservations := by
  simp only [State.raise, State.edge]; (repeat' split) <;> rfl
@[simp] theorem State.raise_emitted (s : State) (f : Field) : (s.raise f).emitted = s.emitted := by
  simp only [State.raise, State.edge]; (repeat' split) <;> rfl
@[simp] theorem State.raise_evWas (s : State) (f : Field) : (s.raise f).evWas = s.evWas := by
  simp only [State.raise, State.edge]; (repeat' split) <;> rfl
@[simp] theorem State.raise_pm (s : State) (f : Field) : (s.raise f).pm = s.pm := by
  simp only [State.raise, State.edge]; (repeat' split) <;> rfl
@[simp] theorem State.raise_fc (s : State) (f : Field) : (s.raise f).fc = s.fc := by
  simp only [State.raise, State.edge]; (repeat' split) <;> rfl
@[simp] theorem State.raise_dbg (s : State) (f : Field) : (s.raise f).dbg = s.dbg := by
  simp only [State.raise, State.edge]; (repeat' split) <;> rfl
@[simp] theorem State.raise_fl (s : State) (f : Field) : (s.raise f).fl = s.fl := by
  simp only [State.raise, State.edge]; (repeat' split) <;> rfl
@[simp] theorem State.raise_tm (s : State) (f : Field) : (s.raise f).tm = s.tm := by
  simp only [State.raise, State.edge]; (repeat' split) <;> rfl
@[simp] theorem State.raise_pins (s : State) (f : Field) : (s.raise f).pins = s.pins := by
  simp only [State.raise, State.edge]; (repeat' split) <;> rfl
@[simp] theorem State.raise_sp (s : State) (f : Field) : (s.raise f).sp = s.sp := by
  simp only [State.raise, State.edge]; (repeat' split) <;> rfl
@[simp] theorem State.raise_fe (s : State) (f : Field) : (s.raise f).fe = s.fe := by
  simp only [State.raise, State.edge]; (repeat' split) <;> rfl
@[simp] theorem State.raise_cz (s : State) (f : Field) : (s.raise f).cz = s.cz := by
  simp only [State.raise, State.edge]; (repeat' split) <;> rfl
@[simp] theorem State.raise_ls (s : State) (f : Field) : (s.raise f).ls = s.ls := by
  simp only [State.raise, State.edge]; (repeat' split) <;> rfl
@[simp] theorem State.raise_rdv (s : State) (f : Field) : (s.raise f).rdv = s.rdv := by
  simp only [State.raise, State.edge]; (repeat' split) <;> rfl
@[simp] theorem State.raise_dc (s : State) (f : Field) : (s.raise f).dc = s.dc := by
  simp only [State.raise, State.edge]; (repeat' split) <;> rfl
@[simp] theorem State.raise_fw (s : State) (f : Field) : (s.raise f).fw = s.fw := by
  simp only [State.raise, State.edge]; (repeat' split) <;> rfl
@[simp] theorem State.raise_ce (s : State) (f : Field) : (s.raise f).ce = s.ce := by
  simp only [State.raise, State.edge]; (repeat' split) <;> rfl
@[simp] theorem State.raise_pq (s : State) (f : Field) : (s.raise f).pq = s.pq := by
  simp only [State.raise, State.edge]; (repeat' split) <;> rfl
@[simp] theorem State.raise_bt (s : State) (f : Field) : (s.raise f).bt = s.bt := by
  simp only [State.raise, State.edge]; (repeat' split) <;> rfl
@[simp] theorem State.raise_pending (s : State) (f : Field) : (s.raise f).pending = s.pending := by
  simp only [State.raise, State.edge]; (repeat' split) <;> rfl

@[simp] theorem State.respond_reg (s : State) (d : Word) (a : Nat) : (s.respond d).reg a = s.reg a := rfl
@[simp] theorem State.respond_get (s : State) (d : Word) (f : Field) : (s.respond d).get f = s.get f := rfl
@[simp] theorem State.respond_resp (s : State) (d : Word) : (s.respond d).resp = ⟨d, false⟩ := rfl
@[simp] theorem State.respond_byte (s : State) (d : Word) (a : Nat) : (s.respond d).byte a = s.byte a := rfl
@[simp] theorem State.set_byte (s : State) (f : Field) (v a : Nat) : (s.set f v).byte a = s.byte a := rfl
@[simp] theorem State.setReg_byte (s : State) (r : Nat) (v : Word) (a : Nat) : (s.setReg r v).byte a = s.byte a := rfl
@[simp] theorem State.setByte_reg (s : State) (b : Nat) (v : Byte) (a : Nat) : (s.setByte b v).reg a = s.reg a := rfl

end Sys2Proof.Machine
end

