-- ==== Sys2Proof/Laws/Settle.lean ====
section
/-! SUPPORT. Laws/Settle.lean: what the end of every command leaves: no memory, no other register and no other part of the
state but the coexistence pins and the aerial switch. -/

namespace Sys2Proof.Machine

/-! ### The paired mode -/

/-- A fold of updates that each keep a view of the state keeps it. -/
theorem foldl_keeps {α β : Type} (g : State → β) (f : State → α → State) (h : ∀ t x, g (f t x) = g t) (l : List α)
    (s : State) : g (l.foldl f s) = g s := by
  induction l generalizing s with
  | nil => rfl
  | cons x xs ih => rw [List.foldl_cons, ih, h]

/-- Entering or leaving the paired mode keeps whatever registers and fields it does not write. -/
theorem updPaired_keeps {β : Type} (g : State → β) (h : ∀ (t : State) (f : Field) (v : Nat),
    f.addr = 0x40100000 ∨ (0x4010014c ≤ f.addr ∧ f.addr < 0x40100900) → g (t.set f v) = g t) (s : State) :
    g s.updPaired = g s := by
  simp only [State.updPaired]
  split
  · rw [show g ((List.range 32).foldl (fun t i => t.set (TM_CH_STAT_RISE_V (i / 4) (i % 4)) 0) (s.set TM_CTL_PAIRED 1))
      = g (s.set TM_CTL_PAIRED 1) from ?_]
    · exact h _ _ _ (Or.inl rfl)
    · generalize s.set TM_CTL_PAIRED 1 = u
      suffices ∀ (l : List Nat) (u : State), (∀ i ∈ l, i < 32) →
          g (l.foldl (fun t i => t.set (TM_CH_STAT_RISE_V (i / 4) (i % 4)) 0) u) = g u from
        this _ _ (fun i hi => List.mem_range.1 hi)
      intro l
      induction l with
      | nil => intros; rfl
      | cons x xs ih =>
        intro u hl
        rw [List.foldl_cons, ih _ fun i hi => hl i (List.mem_cons_of_mem _ hi)]
        refine h _ _ _ (Or.inr ?_)
        have := hl x List.mem_cons_self
        show 0x4010014c ≤ 0x4010014c + x / 4 * 256 + x % 4 * 32 ∧ 0x4010014c + x / 4 * 256 + x % 4 * 32 < 0x40100900
        omega
  · exact h _ _ _ (Or.inl rfl)

/-- Registers that `settle` writes: TM_CTL, the capture channels' status, FC_STAT, FE_CAL_STAT, PQ_ENT_STAT, IC_DBG_CTL. -/
def settleWrites (a : Nat) : Bool :=
  a == 0x40100000 || (decide (0x4010014c ≤ a) && decide (a < 0x40100900)) || a == A_FC_STAT || a == A_FE_CAL_STAT ||
    a == A_PQ_ENT_STAT || a == A_IC_DBG_CTL

/-- The aerial switch is a pin. -/
theorem updAnt_keeps {β : Type} (g : State → β) (hp : ∀ (t : State) (p : PinS), g { t with pins := p } = g t) (s : State) :
    g s.updAnt = g s := by
  simp only [State.updAnt]
  split
  · rfl
  · exact hp s _

/-- A view that no write to those registers and no change of pins changes. -/
theorem settle_keeps {β : Type} (g : State → β)
    (h : ∀ (t : State) (f : Field) (v : Nat), settleWrites f.addr = true → g (t.set f v) = g t)
    (hp : ∀ (t : State) (p : PinS), g { t with pins := p } = g t) (s : State) : g (settle s) = g s := by
  have h1 : g s.updPaired = g s := updPaired_keeps g (fun t f v hf => h t f v (by
    rcases hf with hf | hf <;> simp [settleWrites, hf])) s
  simp only [settle]
  rw [updAnt_keeps g hp]
  simp only [cxSync, dbgSync, poolSync, feSync, State.fcSync]
  rw [hp, h _ _ _ rfl, h _ _ _ rfl, h _ _ _ rfl]
  rw [updPaired_keeps g (fun t f v hf => h t f v (by rcases hf with hf | hf <;> simp [settleWrites, hf]))]
  rw [h _ _ _ rfl, h _ _ _ rfl]

@[simp] theorem settle_mem (s : State) : (settle s).mem = s.mem :=
  settle_keeps (·.mem) (fun _ _ _ _ => rfl) (fun _ _ => rfl) s

@[simp] theorem settle_resp (s : State) : (settle s).resp = s.resp :=
  settle_keeps (·.resp) (fun _ _ _ _ => rfl) (fun _ _ => rfl) s

@[simp] theorem settle_byte (s : State) (a : Nat) : (settle s).byte a = s.byte a :=
  settle_keeps (fun t => t.byte a) (fun _ _ _ _ => rfl) (fun _ _ => rfl) s

@[simp] theorem settle_xFlash (s : State) : (settle s).xFlash = s.xFlash :=
  settle_keeps (·.xFlash) (fun _ _ _ _ => rfl) (fun _ _ => rfl) s
@[simp] theorem settle_free (s : State) : (settle s).free = s.free :=
  settle_keeps (·.free) (fun _ _ _ _ => rfl) (fun _ _ => rfl) s
@[simp] theorem settle_locked (s : State) : (settle s).locked = s.locked :=
  settle_keeps (·.locked) (fun _ _ _ _ => rfl) (fun _ _ => rfl) s
@[simp] theorem settle_openRegs (s : State) : (settle s).openRegs = s.openRegs :=
  settle_keeps (·.openRegs) (fun _ _ _ _ => rfl) (fun _ _ => rfl) s
@[simp] theorem settle_profile (s : State) : (settle s).profile = s.profile :=
  settle_keeps (·.profile) (fun _ _ _ _ => rfl) (fun _ _ => rfl) s
@[simp] theorem settle_power (s : State) : (settle s).power = s.power :=
  settle_keeps (·.power) (fun _ _ _ _ => rfl) (fun _ _ => rfl) s
@[simp] theorem settle_tb (s : State) : (settle s).tb = s.tb :=
  settle_keeps (·.tb) (fun _ _ _ _ => rfl) (fun _ _ => rfl) s
@[simp] theorem settle_groups (s : State) : (settle s).groups = s.groups :=
  settle_keeps (·.groups) (fun _ _ _ _ => rfl) (fun _ _ => rfl) s
@[simp] theorem settle_cores (s : State) : (settle s).cores = s.cores :=
  settle_keeps (·.cores) (fun _ _ _ _ => rfl) (fun _ _ => rfl) s
@[simp] theorem settle_emitted (s : State) : (settle s).emitted = s.emitted :=
  settle_keeps (·.emitted) (fun _ _ _ _ => rfl) (fun _ _ => rfl) s
@[simp] theorem settle_pm (s : State) : (settle s).pm = s.pm :=
  settle_keeps (·.pm) (fun _ _ _ _ => rfl) (fun _ _ => rfl) s
@[simp] theorem settle_fc (s : State) : (settle s).fc = s.fc :=
  settle_keeps (·.fc) (fun _ _ _ _ => rfl) (fun _ _ => rfl) s
@[simp] theorem settle_dbg (s : State) : (settle s).dbg = s.dbg :=
  settle_keeps (·.dbg) (fun _ _ _ _ => rfl) (fun _ _ => rfl) s
@[simp] theorem settle_fl (s : State) : (settle s).fl = s.fl :=
  settle_keeps (·.fl) (fun _ _ _ _ => rfl) (fun _ _ => rfl) s
@[simp] theorem settle_tm (s : State) : (settle s).tm = s.tm :=
  settle_keeps (·.tm) (fun _ _ _ _ => rfl) (fun _ _ => rfl) s
@[simp] theorem settle_sp (s : State) : (settle s).sp = s.sp :=
  settle_keeps (·.sp) (fun _ _ _ _ => rfl) (fun _ _ => rfl) s
@[simp] theorem settle_fe (s : State) : (settle s).fe = s.fe :=
  settle_keeps (·.fe) (fun _ _ _ _ => rfl) (fun _ _ => rfl) s
@[simp] theorem settle_cz (s : State) : (settle s).cz = s.cz :=
  settle_keeps (·.cz) (fun _ _ _ _ => rfl) (fun _ _ => rfl) s
@[simp] theorem settle_ls (s : State) : (settle s).ls = s.ls :=
  settle_keeps (·.ls) (fun _ _ _ _ => rfl) (fun _ _ => rfl) s
@[simp] theorem settle_rdv (s : State) : (settle s).rdv = s.rdv :=
  settle_keeps (·.rdv) (fun _ _ _ _ => rfl) (fun _ _ => rfl) s
@[simp] theorem settle_dc (s : State) : (settle s).dc = s.dc :=
  settle_keeps (·.dc) (fun _ _ _ _ => rfl) (fun _ _ => rfl) s
@[simp] theorem settle_fw (s : State) : (settle s).fw = s.fw :=
  settle_keeps (·.fw) (fun _ _ _ _ => rfl) (fun _ _ => rfl) s
@[simp] theorem settle_ce (s : State) : (settle s).ce = s.ce :=
  settle_keeps (·.ce) (fun _ _ _ _ => rfl) (fun _ _ => rfl) s
@[simp] theorem settle_pq (s : State) : (settle s).pq = s.pq :=
  settle_keeps (·.pq) (fun _ _ _ _ => rfl) (fun _ _ => rfl) s
@[simp] theorem settle_bt (s : State) : (settle s).bt = s.bt :=
  settle_keeps (·.bt) (fun _ _ _ _ => rfl) (fun _ _ => rfl) s
@[simp] theorem settle_pending (s : State) : (settle s).pending = s.pending :=
  settle_keeps (·.pending) (fun _ _ _ _ => rfl) (fun _ _ => rfl) s

/-- A register that `settle` does not write. -/
theorem settle_reg (s : State) {a : Nat} (ha : settleWrites a = false) : (settle s).reg a = s.reg a :=
  settle_keeps (fun t => t.reg a) (fun t f v hf => t.reg_set_of_ne f v a (fun e => by simp [← e, ha] at hf))
    (fun _ _ => rfl) s

/-- A field of a register that `settle` does not write. -/
theorem settle_get (s : State) {f : Field} (hf : settleWrites f.addr = false) : (settle s).get f = s.get f := by
  unfold State.get; rw [settle_reg s hf]

theorem settle_on (s : State) {f : Field} (hf : settleWrites f.addr = false) : (settle s).on f = s.on f := by
  unfold State.on; rw [settle_get s hf]

/-- A field of IC_DBG_CTL, TM_CTL, … beside the one that is written. -/
theorem settle_get_beside (s : State) {f : Field} (hf : ∀ (t : State) (g : Field) (v : Nat),
    g = TM_CTL_PAIRED ∨ (∃ i k, i < 8 ∧ k < 4 ∧ g = TM_CH_STAT_RISE_V i k) ∨ g = FC_STAT_LEVEL ∨ g = FC_STAT_RECOV ∨
      g = FE_CAL_STAT_BUSY ∨ g = PQ_ENT_STAT_POOL ∨ g = IC_DBG_CTL_HALTED → (t.set g v).get f = t.get f) :
    (settle s).get f = s.get f := by
  have hu : ∀ t : State, t.updPaired.get f = t.get f := by
    intro t
    simp only [State.updPaired]
    split
    · suffices ∀ (l : List Nat) (u : State), (∀ i ∈ l, i < 32) →
          (l.foldl (fun t i => t.set (TM_CH_STAT_RISE_V (i / 4) (i % 4)) 0) u).get f = u.get f by
        rw [this _ _ (fun i hi => List.mem_range.1 hi), hf _ _ _ (Or.inl rfl)]
      intro l
      induction l with
      | nil => intros; rfl
      | cons x xs ih =>
        intro u hl
        rw [List.foldl_cons, ih _ fun i hi => hl i (List.mem_cons_of_mem _ hi)]
        have := hl x List.mem_cons_self
        exact hf _ _ _ (Or.inr (Or.inl ⟨x / 4, x % 4, by omega, by omega, rfl⟩))
    · exact hf _ _ _ (Or.inl rfl)
  have hc : ∀ t : State, (cxSync t).get f = t.get f := fun _ => rfl
  simp only [settle]
  rw [updAnt_keeps (fun t => t.get f) (fun _ _ => rfl)]
  simp only [dbgSync, poolSync, feSync, State.fcSync]
  rw [hc, hf _ _ _ (by simp), hf _ _ _ (by simp), hf _ _ _ (by simp), hu, hf _ _ _ (by simp), hf _ _ _ (by simp)]

end Sys2Proof.Machine
end

