-- ==== Sys2Proof/Laws/Bus.lean ====
section
/-! SUPPORT. Laws/Bus.lean: what an access of a core to a block window comes to: the block's own handling of it, and the
response. -/

namespace Sys2Proof.Machine

/-- Block window `m` starts at 0x40000000 + 0x10000 × m (Table 14.4). -/
theorem regionOf_window {a m : Nat} (h : 0x40000000 + 0x10000 * m ≤ a) (h' : a < 0x40000000 + 0x10000 * (m + 1))
    (hm : m < 23) : regionOf a = .window m := by
  unfold regionOf
  have h1 : ¬ a < 0x400000 := by omega
  have h2 : ¬ (0x1FFF0000 ≤ a ∧ a < 0x1FFF2000) := by omega
  have h3 : ¬ (0x20000000 ≤ a ∧ a < 0x20100000) := by omega
  have h4 : ¬ (0x24000000 ≤ a ∧ a < 0x24080000) := by omega
  have h5 : 0x40000000 ≤ a ∧ a < 0x40170000 := by omega
  simp only [h1, h2, h3, h4, h5, if_false, if_true, and_self]
  congr 1
  omega

/-- A block window has no misaligned accesses (R10). -/
theorem memMisaligned_window {a m : Nat} (size : Nat) (hr : regionOf a = .window m) : memMisaligned size a = false := by
  simp [memMisaligned, hr]

/-- PMP that allows an access of a core does not refuse it (R419). -/
theorem pmpRefuses_of_allows {core : Cpu} {s : State} {u a n : Nat} (hp : pmpAllows s core u a n = true) :
    pmpRefuses (coreAcc s core) s u a n = false := by
  have : (coreAcc s core).core = core.val := rfl
  simp [pmpRefuses, this, hp]

/-- A word write of a core to a register of a block window whose domain is on, where PMP lets it store (R10, R14, R20, R419). -/
theorem coreWrite_window {core : Cpu} {a m : Nat} {v : Word} {s : State} (hr : regionOf a = .window m) (h4 : a % 4 = 0)
    (hd : domainOff s a = false) (hn : reservedOffset a = false) (hp : mayStore s core a) :
    coreWrite core a v s =
      (blockWrite (coreAcc s core) s m a v).1.finishWrite (coreAcc s core) a (blockWrite (coreAcc s core) s m a v).2 := by
  simp [coreWrite, busWrite, busWriteEnd, accessOff, memMisaligned_window 2 hr, pmpRefuses_of_allows hp, hr, h4, hd, hn]

/-- A word read by a core of a register of a block window whose domain is on, where PMP lets it load. -/
theorem coreRead_window {core : Cpu} {a m : Nat} {s : State} (hr : regionOf a = .window m) (h4 : a % 4 = 0)
    (hd : domainOff s a = false) (hn : reservedOffset a = false) (hc : readClosed (coreAcc s core) s m = false)
    (hp : mayLoad s core a) :
    coreRead core a s =
      (windowRegRead (coreAcc s core) s m a 0).2.respond (windowRegRead (coreAcc s core) s m a 0).1 := by
  simp [coreRead, busRead, busReadEnd, accessOff, memMisaligned_window 2 hr, pmpRefuses_of_allows hp, hr, h4, hd, hn, hc]

@[simp] theorem State.finishWrite_ok (s : State) (acc : Acc) (a : Nat) : s.finishWrite acc a .ok = s.respond 0 := rfl

@[simp] theorem coreAcc_staged (s : State) (c : Cpu) : (coreAcc s c).staged = false := rfl
@[simp] theorem coreAcc_image (s : State) (c : Cpu) : (coreAcc s c).image = false := rfl
@[simp] theorem coreAcc_core (s : State) (c : Cpu) : (coreAcc s c).core = c := rfl
@[simp] theorem coreAcc_ns (s : State) (c : Cpu) : (coreAcc s c).ns = s.on (IC_CPU_STAT_NS c) := rfl
@[simp] theorem coreAcc_kind (s : State) (c : Cpu) : (coreAcc s c).kind = .core := rfl

/-- A write under the access codes alone to a register that has a row and no LK bits locked. -/
theorem fieldWrite_of_row {s : State} {a : Nat} {v : Word} {d : RegDesc} (hd : findReg a = some d)
    (hl : lockedBits s d a = 0) : fieldWrite s a v = (s.setReg a (fieldWord s d a v), .ok) := by
  simp [fieldWrite, hd, hl]

/-- A register whose row has no LK bits. -/
theorem lockedBits_of_lk {s : State} {d : RegDesc} {a : Nat} (h : d.lk = 0) : lockedBits s d a = 0 := by
  simp [lockedBits, h]

end Sys2Proof.Machine
end

