-- ==== Sys2Proof/Laws/Memory.lean ====
section
/-! SUPPORT. Laws/Memory.lean: every operation on memory and on the register list keeps its canonical form. -/

namespace Sys2Proof.Machine

/-! ### Association lists in canonical form: keys rising, no entry equal to its default -/

theorem assocPut_rising {α : Type} {l : List (Nat × α)} {k : Nat} {v : α} (h : l.Pairwise fun x y => x.1 < y.1) :
    (assocPut l k v).Pairwise fun x y => x.1 < y.1 := by
  suffices (assocPut l k v).Pairwise (fun x y => x.1 < y.1) ∧ ∀ e ∈ assocPut l k v, e.1 = k ∨ e ∈ l from this.1
  induction l with
  | nil => simp [assocPut]
  | cons x xs ih =>
    obtain ⟨a, b⟩ := x
    rw [List.pairwise_cons] at h
    obtain ⟨hp, hm⟩ := ih h.2
    unfold assocPut
    split
    · rename_i hk
      refine ⟨List.pairwise_cons.2 ⟨?_, List.pairwise_cons.2 h⟩, ?_⟩
      · intro e he
        rcases List.mem_cons.1 he with rfl | he
        · exact hk
        · exact Nat.lt_trans hk (h.1 e he)
      · intro e he
        rcases List.mem_cons.1 he with rfl | he
        · exact .inl rfl
        · exact .inr he
    · split
      · rename_i hk
        subst hk
        refine ⟨List.pairwise_cons.2 ⟨h.1, h.2⟩, ?_⟩
        intro e he
        rcases List.mem_cons.1 he with rfl | he
        · exact .inl rfl
        · exact .inr (List.mem_cons_of_mem _ he)
      · rename_i h1 h2
        refine ⟨List.pairwise_cons.2 ⟨?_, hp⟩, ?_⟩
        · intro e he
          rcases hm e he with h3 | h3
          · simp only [h3]; omega
          · exact h.1 e h3
        · intro e he
          rcases List.mem_cons.1 he with rfl | he
          · exact .inr List.mem_cons_self
          · rcases hm e he with h3 | h3
            · exact .inl h3
            · exact .inr (List.mem_cons_of_mem _ h3)

theorem mem_assocPut {α : Type} {l : List (Nat × α)} {k : Nat} {v : α} {e : Nat × α} (h : e ∈ assocPut l k v) :
    e = (k, v) ∨ e ∈ l := by
  induction l with
  | nil => simp [assocPut] at h; exact .inl h
  | cons x xs ih =>
    obtain ⟨a, b⟩ := x
    unfold assocPut at h
    split at h
    · exact List.mem_cons.1 h
    · split at h
      · rcases List.mem_cons.1 h with h | h
        · exact .inl h
        · exact .inr (List.mem_cons_of_mem _ h)
      · rcases List.mem_cons.1 h with h | h
        · exact .inr (h ▸ List.mem_cons_self)
        · exact (ih h).imp id (List.mem_cons_of_mem _)

theorem assocDel_sublist {α : Type} (l : List (Nat × α)) (k : Nat) : (assocDel l k).Sublist l := by
  induction l with
  | nil => exact List.Sublist.refl _
  | cons x xs ih =>
    obtain ⟨a, b⟩ := x
    unfold assocDel
    split
    · exact ih.cons _
    · exact ih.cons_cons _

/-! ### Memory -/

/-- A part of a canonical memory is canonical. -/
theorem Memory.wf_sublist {m n : List Host.Cell} (hm : Memory.wf m) (h : n.Sublist m) : Memory.wf n :=
  ⟨hm.1.sublist h, fun c hc => hm.2 c (h.subset hc)⟩

theorem Memory.wf_filter {m : List Host.Cell} (hm : Memory.wf m) (p : Host.Cell → Bool) : Memory.wf (m.filter p) :=
  Memory.wf_sublist hm List.filter_sublist

theorem setByte_wf {s : State} (h : Memory.wf s.mem) (a : Nat) (v : Byte) : Memory.wf (s.setByte a v).mem := by
  unfold State.setByte
  simp only
  split
  · exact Memory.wf_sublist h (assocDel_sublist _ _)
  · rename_i hv
    exact ⟨assocPut_rising h.1, fun c hc => (mem_assocPut hc).elim (fun e => e ▸ hv) (h.2 c)⟩

theorem setBytes_wf {s : State} (h : Memory.wf s.mem) (a : Nat) (l : List Byte) : Memory.wf (s.setBytes a l).mem := by
  induction l generalizing s a with
  | nil => exact h
  | cons b bs ih => exact ih (setByte_wf h a b) (a + 1)

theorem setMemWord_wf {s : State} (h : Memory.wf s.mem) (a : Nat) (v : Word) : Memory.wf (s.setMemWord a v).mem :=
  setBytes_wf h a _

theorem keptMem_wf {s : State} (h : Memory.wf s.mem) : Memory.wf (keptMem s) := Memory.wf_filter h _

theorem reset_mem_wf : Memory.wf State.reset.mem := by decide

/-! ### Registers -/

theorem Registers.wf_sublist {l n : List (Nat × Word)} (hl : Registers.wf l) (h : n.Sublist l) : Registers.wf n :=
  ⟨hl.1.sublist h, fun c hc => hl.2 c (h.subset hc)⟩

theorem setReg_wf {s : State} (h : Registers.wf s.regs) (a : Nat) (v : Word) : Registers.wf (s.setReg a v).regs := by
  unfold State.setReg
  simp only
  split
  · exact Registers.wf_sublist h (assocDel_sublist _ _)
  · rename_i hv
    exact ⟨assocPut_rising h.1, fun c hc => (mem_assocPut hc).elim (fun e => e ▸ hv) (h.2 c)⟩

theorem set_wf {s : State} (h : Registers.wf s.regs) (f : Field) (v : Nat) : Registers.wf (s.set f v).regs :=
  setReg_wf h _ _

theorem aonRegs_wf {s : State} (h : Registers.wf s.regs) : Registers.wf (aonRegs s) :=
  Registers.wf_sublist h List.filter_sublist

theorem reset_regs_wf : Registers.wf State.reset.regs := by decide

end Sys2Proof.Machine
end

