-- ==== Sys2Proof/Laws/Shared.lean ====
section
/-! SUPPORT. Laws/Shared.lean: what the shared operations on status bits, events, the ledger and
exceptions do, each once. -/

namespace Sys2Proof.Machine

/-! ### Status bits (R431) -/

/-- The registers that a raise of `f` touches are three different ones. -/
def raiseApart (f : Field) : Bool :=
  match irqOf f.addr f.lo with
  | some (en, src) => A_IC_PEND (src / 32) != f.addr && en != f.addr
  | none => true

/-- A raise leaves every register but the status register and the latch word of its source. -/
theorem raise_reg_of_ne (s : State) (f : Field) {a : Nat} (h : a ≠ f.addr)
    (hl : ∀ en src, irqOf f.addr f.lo = some (en, src) → a ≠ A_IC_PEND (src / 32)) : (s.raise f).reg a = s.reg a := by
  unfold State.raise
  simp only
  split
  · rename_i en src hq
    split
    · unfold State.edge
      split
      · rw [State.reg_set_of_ne _ _ _ _ (hl en src hq), State.reg_set_of_ne _ _ _ _ h]
      · exact State.reg_set_of_ne _ _ _ _ h
    · exact State.reg_set_of_ne _ _ _ _ h
  · exact State.reg_set_of_ne _ _ _ _ h

/-- After a raise the bit is 1, and the latch of its source follows the bit's enable. -/
theorem raise_raised (s : State) (f : Field) (hw : f.w = 1) (hl : f.lo < 32) (ha : raiseApart f = true) :
    Raised s (s.raise f) f := by
  obtain ⟨a, lo, w⟩ := f
  subst hw
  have h1 : ∀ u : State, (u.set ⟨a, lo, 1⟩ 1).on ⟨a, lo, 1⟩ = true := fun u => by
    rw [State.on_set_same _ _ _ (by simp only at hl ⊢; omega)]; rfl
  unfold Raised State.raise
  unfold raiseApart at ha
  simp only at ha ⊢
  cases hq : irqOf a lo with
  | none => exact ⟨h1 s, trivial⟩
  | some p =>
    obtain ⟨en, src⟩ := p
    rw [hq] at ha
    simp only [Bool.and_eq_true, bne_iff_ne, ne_eq] at ha
    have hen : (s.set ⟨a, lo, 1⟩ 1).on ⟨en, lo, 1⟩ = s.on ⟨en, lo, 1⟩ := State.on_set_of_ne _ _ _ _ (.inl ha.2)
    have hpe : (s.set ⟨a, lo, 1⟩ 1).on (pendField src) = s.on (pendField src) := State.on_set_of_ne _ _ _ _ (.inl ha.1)
    have hb : (pendField src).lo + (pendField src).w ≤ 32 := by
      have := Nat.mod_lt src (show 0 < 32 by decide); simp only; omega
    simp only [hen]
    cases s.on ⟨en, lo, 1⟩ with
    | false => simp [h1, hpe]
    | true =>
      unfold State.edge
      cases he : edgeUsed src with
      | false => simp [h1, hpe]
      | true =>
        simp only [if_true, Bool.and_self, Bool.or_true]
        refine ⟨?_, by rw [State.on_set_same _ _ _ hb]; rfl⟩
        rw [State.on_set_of_ne _ _ _ _ (.inl (Ne.symm ha.1)), h1]

/-! ### Events -/

theorem emit_off (s : State) (p : Nat) (h : (s.awake && s.on EV_CTL_EN) = false) : s.emit p = s := by
  simp [State.emit, h]

theorem emit_on (s : State) (p : Nat) (h : (s.awake && s.on EV_CTL_EN) = true) :
    s.emit p = { s with emitted := s.emitted ++ [p] } := by
  simp [State.emit, h]

@[simp] theorem emit_reg (s : State) (p a : Nat) : (s.emit p).reg a = s.reg a := by
  unfold State.emit; split <;> rfl
@[simp] theorem emit_get (s : State) (p : Nat) (f : Field) : (s.emit p).get f = s.get f := by
  unfold State.get; rw [emit_reg]
@[simp] theorem emit_on_field (s : State) (p : Nat) (f : Field) : (s.emit p).on f = s.on f := by
  unfold State.on; rw [emit_get]

/-! ### The level and the ledger (R43, R557) -/

/-- A view that neither PM_STAT nor the events emitted change. -/
theorem applyLevel_keeps {β : Type} (g : State → β) (h : ∀ (t : State) (f : Field) (v : Nat), f.addr = A_PM_STAT → g (t.set f v) = g t)
    (he : ∀ (t : State) (p : Nat), g (t.emit p) = g t) (s : State) : g s.applyLevel = g s := by
  unfold State.applyLevel
  simp only
  split
  · rw [he, h _ _ _ rfl]
  · exact h _ _ _ rfl

theorem relevel_keeps {β : Type} (g : State → β) (h : ∀ (t : State) (f : Field) (v : Nat), f.addr = A_PM_STAT → g (t.set f v) = g t)
    (he : ∀ (t : State) (p : Nat), g (t.emit p) = g t) (s : State) : g s.relevel = g s := by
  unfold State.relevel
  simp only
  rw [applyLevel_keeps g h he, h _ _ _ rfl]

/-- A load that stops leaves the ledger and the held requests, and the level is judged again: nothing else but PM_STAT
and the events emitted changes. -/
theorem ledgerStop_keeps {β : Type} (g : State → β) (h : ∀ (t : State) (f : Field) (v : Nat), f.addr = A_PM_STAT → g (t.set f v) = g t)
    (he : ∀ (t : State) (p : Nat), g (t.emit p) = g t) (s : State) (l : Load) :
    g (s.ledgerStop l) =
      g { s with pm := { s.pm with loads := s.pm.loads.filter (· != l), held := s.pm.held.filter (· != l) } } := by
  unfold State.ledgerStop
  simp only
  rw [relevel_keeps g h he, h _ _ _ rfl]

/-- A load starts where a level fits it. -/
theorem ledgerStart_fits (s : State) (l : Load) (n : Nat) (hf : s.fitLevel (some l) = some n) : (s.ledgerStart l).1 = true := by
  simp [State.ledgerStart, hf]

/-- A load is held where no level fits it. -/
theorem ledgerStart_held (s : State) (l : Load) (hf : s.fitLevel (some l) = none) : (s.ledgerStart l).1 = false := by
  simp [State.ledgerStart, hf]

/-! ### Lists of one entry per core, lane or port -/

@[simp] theorem updAt_length {α : Type} (l : List α) (i : Nat) (f : α → α) : (updAt l i f).length = l.length := by
  induction l generalizing i with
  | nil => rfl
  | cons x xs ih => cases i <;> simp [updAt, ih]

/-- An entry read after one is changed. -/
theorem getD_updAt {α : Type} (l : List α) (i j : Nat) (f : α → α) (d : α) :
    (updAt l i f).getD j d = if j = i ∧ i < l.length then f (l.getD i d) else l.getD j d := by
  induction l generalizing i j with
  | nil => simp [updAt]
  | cons x xs ih =>
    cases i with
    | zero => cases j <;> simp [updAt]
    | succ i =>
      cases j with
      | zero => simp [updAt]
      | succ j =>
        have := ih i j
        simp only [updAt, List.getD_cons_succ, this, List.length_cons, Nat.add_right_cancel_iff, Nat.add_lt_add_iff_right]

/-- Two changes of one entry are one change. -/
theorem updAt_updAt {α : Type} (l : List α) (i : Nat) (f g : α → α) : updAt (updAt l i f) i g = updAt l i fun x => g (f x) := by
  induction l generalizing i with
  | nil => rfl
  | cons x xs ih => cases i <;> simp [updAt, ih]

/-! ### Exceptions of a core (R417) -/

theorem core_updCore (s : State) (c d : Nat) (f : CoreS → CoreS) (h : c < s.cores.length) :
    (s.updCore c f).core d = if d = c then f (s.core c) else s.core d := by
  unfold State.core State.updCore
  rw [getD_updAt]
  simp only [h, and_true]

/-- The word that an exception leaves in mstatus: MPIE is the interrupt enable, MPP the mode (R417). -/
theorem bits_trapStatus (x : Word) (b : Bool) (m : Nat) :
    bitsOf (insertBits (insertBits x 7 1 (b2n b)) 11 2 m) 11 2 = m % 4 ∧
      bitOf (insertBits (insertBits x 7 1 (b2n b)) 11 2 m).toNat 7 = b := by
  refine ⟨bitsOf_insertBits_same _ 11 2 m (by decide), ?_⟩
  have hb : ∀ y : Word, bitOf y.toNat 7 = y.getLsbD 7 := fun y => by
    simp only [bitOf, BitVec.getLsbD, Nat.testBit_eq_decide_div_mod_eq]; rfl
  rw [hb, getLsbD_insertBits _ _ _ _ _ (by decide), getLsbD_insertBits _ _ _ _ _ (by decide)]
  cases b <;> rfl

/-- What an exception of core `c` does to cores and reservations, all of it. -/
theorem trap_trapped (s : State) (c cause : Nat) (v : Word) (h : c < s.cores.length) :
    Trapped s (s.trap c cause v) c cause v := by
  have hk : ∀ d, (s.trap c cause v).core d = if d = c then
      { s.core c with
        csr := assocPut (assocPut (assocPut (assocPut (s.core c).csr csrMstatus
          (insertBits (insertBits (s.csr c csrMstatus) 7 1 (b2n (s.core c).mie)) 11 2 (if (s.core c).user then 0 else 3)))
          csrMepc (Config.freeWord s.free &&& ~~~ 1#32)) csrMcause (w32 cause)) csrMtval v
        mie := false, user := false } else s.core d := fun d => by
    unfold State.trap State.setCsr
    simp only [State.fresh, State.updCore, updAt_updAt]
    show List.getD (updAt _ c _) d _ = _
    rw [getD_updAt]
    simp only [h, and_true]
    rfl
  have hc := hk c
  simp only [if_true] at hc
  refine ⟨?_, ?_, ?_, ?_, ?_, ?_, ?_, ?_, rfl⟩
  · simp [State.csr, hc, assocGet_assocPut, csrMcause, csrMtval]
  · simp [State.csr, hc, assocGet_assocPut]
  · simp [State.csr, hc, assocGet_assocPut, csrMepc, csrMcause, csrMtval]
  · simp only [State.csr, hc, assocGet_assocPut, csrMstatus, csrMepc, csrMcause, csrMtval]
    exact (bits_trapStatus _ _ _).1.trans (by cases (s.core c).user <;> rfl)
  · simp only [State.csr, hc, assocGet_assocPut, csrMstatus, csrMepc, csrMcause, csrMtval]
    exact (bits_trapStatus _ _ _).2
  · intro n hn
    simp only [List.mem_cons, List.not_mem_nil, or_false, not_or] at hn
    simp [State.csr, hc, assocGet_assocPut, hn]
  · rw [hc]
  · intro d hd
    rw [hk d]
    simp [hd]

end Sys2Proof.Machine
end

