-- ==== Sys2Proof/Machine/Pads.lean ====
section
/-! DEFINITION. Machine/Pads.lean: what the device drives on each pin in each device state (R443, R578 to R581, R587, Tables
17.1, 19.10 and 21.2). Every pad is a function of State: what controls it keeps its value in Sleep and Deep sleep, so a held pad
(R580) shows what it gave at entry. -/

namespace Sys2Proof.Machine

/-- The pull of a pad. -/
inductive Pull where
  | none
  | up
  | down
  deriving DecidableEq, Repr

/-- A pad: the level it drives, none where it is an input or high impedance, its pull, and its slew setting where it can drive
(R587). -/
structure Pad where
  drive : Option Bool
  pull : Pull
  slew : Option Nat
  deriving DecidableEq, Repr

abbrev Pad.floating : Pad := ⟨.none, .none, .none⟩
abbrev Pad.up : Pad := ⟨.none, .up, .none⟩
abbrev Pad.down : Pad := ⟨.none, .down, .none⟩
abbrev Pad.out (level : Bool) : Pad := ⟨some level, .none, .none⟩

/-- The digital pins of Table 21.1. -/
inductive Pin where
  | spClk (x : Fin 2)
  | spDo (x : Fin 2)
  | spDi (x : Fin 2)
  | spSel (x : Fin 2) (i : Fin 5)
  | spSelen (x : Fin 2)
  | spRdy (x : Fin 2)
  | gpio (n : Fin 24)
  | antsw (i : Fin 2)
  | coexReq
  | coexPri
  | coexGnt
  | vrqC
  | vrqD
  | vrqAck
  | wake
  | rstN
  | test
  | dbgClk
  | dbgIo
  deriving DecidableEq, Repr

/-- Half-periods of VRQ_C that have passed in the frame last sent (Table 19.10): 32 once it is over. -/
def vrHalves (s : State) : Nat :=
  if s.on VR_STAT_BUSY then min 32 (vrElapsed s / s.get VR_CFG_HALF) else 32

/-- VRQ_C and VRQ_D: bit 15 first, changing at each fall of VRQ_C; both low between frames (Table 19.10). -/
def vrqLevels (s : State) : Bool × Bool :=
  let k := vrHalves s
  if k < 32 then (k % 2 == 1, bitOf (s.get VR_STAT_LAST) (15 - k / 2)) else (false, false)

/-- Is the port's EN at 0 in master mode, and no transfer goes on to its end, so that its pins rest (R513, R579; log entry 61)? -/
def spResting (s : State) (x : Nat) : Bool :=
  !s.on (SP_CTL_EN x) && s.get (SP_CTL_MODE x) == 0 && s.get (SP_STAT_STATE x) == spIdle

/-- Is the port the slave of a host, in slave or window mode? -/
def spHosted (s : State) (x : Nat) : Bool := s.get (SP_CTL_MODE x) == 1 || s.get (SP_CTL_MODE x) == 2

/-- A pad of a serial port in Run to Deep sleep (R579, R580, Table 17.1). -/
def serialPad (s : State) (x : Nat) (master hosted : Pad) : Pad :=
  if spResting s x then .down else if spHosted s x then hosted else master

/-- The pad of a GPIO (R588, Table 21.8). -/
def gpioPad (s : State) (n : Nat) : Pad :=
  let pull := match s.get (GP_PAD_CFG_PULL n) with | 1 => .down | 2 => .up | _ => .none
  ⟨if bitOf (s.get GP_DIR_DIR) n then some (bitOf (s.get GP_OUT_OUT) n) else .none, pull, .none⟩

/-- DBG_IO: driven with the 44 bits of a response, after two turnaround clocks, most significant bit first, at the 10 MHz that the host
may use (R443; log entry 28). -/
def dbgPad (s : State) : Pad :=
  let k := (s.now - s.dbg.sentAt) / 20
  if s.dbg.status ≠ 0 ∧ 2 ≤ k ∧ k < 46 then .out (bitOf s.dbg.frame (45 - k)) else .up

/-- The slew setting of a pin that can drive (R587, Tables 21.7 and 21.8). -/
def padSlew (s : State) (p : Pin) : Option Nat :=
  let sp := fun x : Fin 2 => some (s.get (if x = 0 then GP_SLEW_SP0 else GP_SLEW_SP1))
  match p with
  | .spClk x => sp x
  | .spDo x => sp x
  | .spSel x _ => sp x
  | .spSelen x => sp x
  | .spRdy x => sp x
  | .gpio n => some (s.get (GP_PAD_CFG_SLEW n))
  | .antsw _ => some (s.get GP_SLEW_ANTSW)
  | .coexReq => some (s.get GP_SLEW_COEX)
  | .coexPri => some (s.get GP_SLEW_COEX)
  | .vrqC => some (s.get GP_SLEW_VRQ)
  | .vrqD => some (s.get GP_SLEW_VRQ)
  | .dbgIo => some (s.get GP_SLEW_DBG)
  | _ => .none

/-- The pad while its supply stands and the device is not in Off (Table 21.2). -/
def padOn (s : State) (p : Pin) : Pad :=
  match p with
  | .spClk x => serialPad s x (.out (spClk s x)) .floating
  | .spDo x => serialPad s x (.out (s.port x).dout) (if (s.port x).sel then .out (s.port x).dout else .down)
  | .spDi _ => .down
  | .spSel x i => serialPad s x (.out (bitOf (s.port x).selPins i)) .floating
  | .spSelen x => serialPad s x (.out (s.port x).selen) (if s.on (SP_CTL_SSPOL x) then .up else .down)
  | .spRdy x => if spHosted s x then .out (!spSlaveRdyLow s x) else .up
  | .gpio n => gpioPad s n
  | .antsw i => .out (bitOf s.pins.antsw i)
  | .coexReq => .out (s.awake && s.pins.req)
  | .coexPri => .out (s.awake && s.pins.pri)
  | .coexGnt => .down
  | .vrqC => .out (vrqLevels s).1
  | .vrqD => .out (vrqLevels s).2
  | .vrqAck => .down
  | .wake => .floating
  | .rstN => .up
  | .test => .down
  | .dbgClk => .down
  | .dbgIo => dbgPad s

/-- The supply that sets a pin's levels, where it is VIO_A (0) or VIO_B (1) (Table 21.1). -/
def pinSupply (p : Pin) : Option Nat :=
  match p with
  | .spClk x => some x
  | .spDo x => some x
  | .spDi x => some x
  | .spSel x _ => some x
  | .spSelen x => some x
  | .spRdy x => some x
  | .gpio n => some (if n.val < 12 then 0 else 1)
  | _ => none

/-- The pad of a pin: high impedance while its supply is lost, and in Off but for WAKE and RST_N (R578, R581). -/
def pad (s : State) (p : Pin) : Pad :=
  let lost := match pinSupply p with | some b => s.pins.vioLost.getD b false | none => false
  if lost then .floating
  else if s.power == .off then (if p = .rstN then .up else .floating)
  else { padOn s p with slew := padSlew s p }

/-! ### Analogue pins (R117, R551, R578) -/

/-- The analogue pins of Table 21.1: crystals, aerial inputs, transmit outputs and comparator inputs. -/
inductive AnaPin where
  | xo40 (i : Fin 2)
  | xo32 (i : Fin 2)
  | ant (c : Fin 2)
  | tx (high : Bool)
  | cmp (x : Fin 2)
  deriving DecidableEq, Repr

/-- What an analogue pin is (Table 21.2): `stopped` with whether it is high impedance; an LNA in service, in standby or off; a PA off
or driven; a comparator input with whether the comparator is on. -/
inductive AnaPad where
  | oscillating
  | stopped (highZ : Bool)
  | lna (service : Bool)
  | lnaOff
  | pa (driven : Bool)
  | input (comparator : Bool)
  | highZ
  deriving DecidableEq, Repr

/-- The state of an analogue pin. The crystal oscillator starts again in step 2 of a wake (Table 19.8). -/
def anaPad (s : State) (p : AnaPin) : AnaPad :=
  match p with
  | .xo40 _ => if s.awake || (s.asleep && decide (2 ≤ s.pm.waking)) then .oscillating else .stopped true
  | .xo32 _ => if s.power == .off || s.tb.xoStopped then .stopped false else .oscillating
  | .ant c => if s.awake then .lna (chainLive s c) else .lnaOff
  | .tx high => .pa (s.awake && s.fe.air.any fun a => a.hp == high)
  | .cmp x => if s.power == .off then .highZ else .input (s.on (PM_CMP_CFG_EN x))

end Sys2Proof.Machine
end

