-- ==== Sys2Proof/Tests/Slice0.lean ====
section
/-! SUPPORT. Tests/Slice0.lean: the model's own tests, and for every statement a state that meets its hypotheses. -/

set_option maxRecDepth 200000
set_option linter.unusedVariables false

namespace Sys2Proof.Tests

open Sys2Proof Sys2Proof.Machine

/-- Reset with the given fields set. -/
def st (l : List (Field × Nat)) : State := l.foldl (fun s p => s.set p.1 p.2) State.reset


/-- A TXF in a phase, everything else zero. -/
def txf0 (phase : Nat) : TxfS :=
  { phase := phase, desc0 := 0, desc1 := 0, sel := false, inst := 0, dest := 0, fixed := true, anchor := 0, anchor0 := 0,
    late := 0, cell := none, nb := none, cls := 0, psdu := [], seq := 0, preamble := 0, air := 0, want := false, tries := 0,
    lbt := false, heard := false, granted := true, wd := false, abortLate := false, te := 0, laneOk := false, ackBy := 0,
    preSeen := false, train := none, phr := 0, levels := [] }

/-- A transmission of thread 1 that started at tick 0. -/
def air0 : AirS :=
  { ack := false, thread := 1, hp := false, setting := 0, shell := false, paid := [], mode := 2, pre := 16, coded := false,
    phr := 0, dw := false, down := false, cut := false, wd := false, start := 0, lastBit := 10, ramp := 100,
    planned := 210, freq := 8680000, wakes := 0, psdu := [] }

/-- A reception whose sync word came at tick 0. -/
def rx0 : Reception :=
  { ts := 0, dts := 0, seen := 0, opened := none, coded := false, mode := 2, rssi := 0, lqi := 0, phr := false, len := 0,
    fcs2 := false, dw := false, adm := 0, cells := 0, taken := [], fend := 0 }

/-- An acknowledgement owed on physical lane 3. -/
def ack0 : AckS :=
  { id := 2, wd := false, phase := 0, logical := 3, phys := 3, mode := 2, freq := 8700000, fend := 1000000, seq := 7, opened := none, ofs := 0,
    dly := 0, fcs2 := false, dw := false, coded := false, nb := none, fp := false, room := 0, known := true, cell := 0, auth := 1,
    anchor := 0, air := 0 }

/-- `s` at tick `n` of TB_NOW. -/
def atTick (s : State) (n : Nat) : State := { s with tb := { s.tb with now := BitVec.ofNat 64 n } }

/-- `s` with a TXF on thread 1. -/
def withTxf (s : State) (x : TxfS) : State :=
  { s with ls := { s.ls with threads := s.ls.threads.set 1 { ThreadS.reset with txf := some x } } }

/-- `s` with a reception on lane 3. -/
def withRx (s : State) (r : Reception) : State :=
  { s with cz := { s.cz with lanes := s.cz.lanes.set 3 { LaneS.reset with rx := some r } } }

/-- Thread `n` READY at word 5 of the instruction memory, which is `w`. -/
def atInsn (s : State) (n : Nat) (w : Word) : State :=
  ((s.setReg 0x40078014 w).set (LS_T_PC_PC n) 5).set (LS_T_STAT_STATE n) 1

/-- `s` with thread 1 as given. -/
def withThread (s : State) (t : ThreadS) : State := { s with ls := { s.ls with threads := s.ls.threads.set 1 t } }

/-- A wait of thread 1 that counts as prepared. -/
def wait0 : WaitS :=
  { sel := false, inst := 3, dest := 6, bundle := [], cond := 2, mask := 0xF0, tmo := some 5, prepared := true }

/-- A raw frame of 11 octets in cell 7. -/
def raw0 : FrameS :=
  { use := 4, cls := 0, retry := 0, snbv := false, snbr := 0, charged := 0, apend := false, cells := [7], len := 11, lane := 0,
    nh := 0, ts := 0, dts := 0, lqi := 0, rssi := 0, busy := false, cause := 0, auth := false, ring := 0, passed := false, fate := 0,
    ieSkip := [], ieAt := none }

/-- `s` with frames in the frame store. -/
def withFrames (s : State) (l : List (Nat × FrameS)) : State := { s with fw := { s.fw with frames := l } }

/-- The sniff's window of lane 3, open since tick 0. -/
def win0 (o : WinOwner) : Window := { owner := o, lane := 3, opened := 0, close := some 9, pre := false, voided := false }

/-- `s` with windows and a state of the rendezvous. -/
def withRdv (s : State) (ws : List Window) (r : RdvS) : State :=
  { s with cz := { ChannelS.reset with windows := ws }, rdv := r }

/-- A frame of 23 octets received in cell 7. -/
def rxf0 : FrameS := { raw0 with use := 1, len := 23 }

/-- A sealed frame from node 5 to node 1, its mesh destination node 1 or, with `far`, node 6. -/
def sealed0 (far : Bool) : List Byte :=
  [73, 168, 7, 0, 0, 1, 0, 5, 0, 5, 3, 0, 0, 0] ++
    (if far then [11, 128, 126, 232, 159, 215, 212, 166, 187] else [12, 128, 126, 232, 159, 176, 61, 223, 169])

/-- Node 1 with the frame `d` from node 5 waiting for the forwarding engine; entry 8 is the next hop to node 6. -/
def atForward (d : List Byte) : State :=
  let s := st [(FW_CTL_EN, 1), (FW_CTL_RELAY, 1), (FW_CTL_LEARN, 0), (LS_SHORT_NODE_ID, 1), (NB_W0_VALID 9, 1), (NB_W0_NODE_ID 9, 5), (NB_W3_RXKS 9, 4),
    (NB_W0_VALID 8, 1), (NB_W0_NODE_ID 8, 3), (NB_W3_TXKS 8, 4), (NB_W3_TXLVL 8, 1), (NB_ROUTE_RV 6, 1), (NB_ROUTE_NH 6, 8),
    (NB_ROUTE_NV 5, 1), (NB_ROUTE_NBR 5, 9), (CE_KS_ATTR_VALID 4, 1), (CE_KS_ATTR_USAGE 4, 1), (FW_CFG_RMAP, 0x40), (FW_DISP_DISP, 0xFFFF),
    (FW_CFG_EXRING, 2)]
  { s.setBytes (cellAddr 7) d with
    fw := { ForwardS.reset with frames := [(7, { rxf0 with len := d.length })], work := [7] }
    ce := { CipherS.reset with slots := CipherS.reset.slots.set 4 ⟨List.replicate 16 0, []⟩ } }

/-- Ring or submission descriptor `k` at 0x20001000: word 0 and word 1. -/
def atRing (k w0 w1 : Nat) : State :=
  ((st [(FW_CTL_EN, 1), (FW_RING_CFG_EN k, 1), (FW_RING_CFG_COUNT k, 4), (FW_RING_BASE_BASE k, 0x2000100)]).setMemWord 0x20001000 (BitVec.ofNat 32 w0)).setMemWord 0x20001004
    (BitVec.ofNat 32 w1)

/-- A CTR job of 16 octets from 0x20000100 to 0x20000200. -/
def job0 : JobS :=
  { JobS.reset with key := List.replicate 16 0, mode := 4, src := 0x20000100, dst := 0x20000200, plen := 16, nonce := List.replicate 16 1 }

/-- A SHA3-256 job over 4 octets. -/
def pqj0 : PqJob := { PqJob.reset with mode := 4, src := 0x20000100, dst := 0x20000200, mlen := 4 }

/-- OTP with owner slots 0 and 1 programmed. -/
def withOtp (s : State) : State := (s.setBytes 0x1FFF1A00 [1, 2, 3]).setBytes 0x1FFF1A20 [4]

/-! ### Ill-formed commands -/

theorem test_frame_too_long : Instr.wellFormed (.frameEnd 0 (List.replicate 2048 0)) = false := by decide
theorem test_entropy_short : Instr.wellFormed (.entropyWord (List.replicate 127 0)) = false := by decide
theorem test_entropy_exact : Instr.wellFormed (.entropyWord (List.replicate 128 0)) = true := by decide

/-! ### States that meet the hypotheses of the statements -/

theorem witness_narrowWrite : ∃ (core : Cpu) (form : WriteForm) (addr : Word) (v : Word) (m : Nat) (s : State),
    s.power ≠ .off ∧ regionOf addr.toNat = .window m ∧ ((∃ size : Fin 3, form = .store size ∧ size ≠ 2) ∨ addr.toNat % 4 ≠ 0) ∧ s.cores.length = 4 :=
  ⟨1, (.store 0), 0x40010004, 0xFFFF, 1, State.reset, by decide⟩
theorem witness_misalignedRead : ∃ (core : Cpu) (form : ReadForm) (addr : Word) (hw : Word) (ecc : Bool) (m : Nat) (s : State),
    s.power ≠ .off ∧ regionOf addr.toNat = .window m ∧ form ≠ .fetch ∧ (form ≠ .load 2 ∨ addr.toNat % 4 ≠ 0) ∧ s.cores.length = 4 :=
  ⟨2, (.load 1), 0x40060118, 0, false, 6, State.reset, by decide⟩
theorem witness_registerWrite : ∃ (core : Cpu) (form : WriteForm) (addr : Word) (v : Word) (d : RegDesc) (s : State),
    s.power = .active ∧ s.on (IC_CPU_STAT_NS core) = false ∧ addr.toNat ∈ [A_TB_CTL, A_TB_DISC_CTL, A_TB_INT_EN, A_AC_INT_EN, A_FE_INT_EN, A_FE_CAL_CTL, A_CZ_INT_EN, A_DC_INT_EN, A_PM_WAKE_EN, A_PM_INT_EN, A_TB_INT_STAT, A_AC_INT_STAT, A_FE_INT_STAT, A_DC_INT_STAT, A_PM_INT_STAT] ∧ form = .store 2 ∧ findReg addr.toNat = some d ∧ lockedBits s d addr.toNat = 0 ∧ s.cores.length = 4 ∧ mayStore s core addr.toNat :=
  ⟨1, (.store 2), 0x40010050, 0xABCD, ((findReg 0x40010050).getD ⟨0, [], 0, 0, 0, 0, 0, 0⟩), State.reset, by decide⟩
theorem witness_rcRead : ∃ (core : Cpu) (form : ReadForm) (addr : Word) (hw : Word) (ecc : Bool) (d : RegDesc) (s : State),
    s.power = .active ∧ s.on (IC_CPU_STAT_NS core) = false ∧ form = .load 2 ∧ addr.toNat ∈ [A_CZ_LANE_CNT0 5, A_CZ_LANE_CNT1 15, A_LS_FH_CNT0, A_LS_FH_CNT3, A_DC_CNT, A_CX_CNT0, A_FW_CNT0, A_CE_CNT0, A_PM_CNT, A_FC_CNT0] ∧ findReg addr.toNat = some d ∧ mayLoad s core addr.toNat :=
  ⟨1, (.load 2), 0x40060618, 0, false, ((findReg 0x40060618).getD ⟨0, [], 0, 0, 0, 0, 0, 0⟩), st [(CZ_LANE_CNT0_OK 5, 9)], by decide⟩
theorem witness_lockedWrite : ∃ (core : Cpu) (form : WriteForm) (addr : Word) (v : Word) (d : RegDesc) (s : State),
    s.power = .active ∧ s.on (IC_CPU_STAT_NS core) = false ∧ addr.toNat ∈ [A_TB_DISC_CTL, A_TB_GD_TRIM, A_FC_SRAM_ACT] ∧ form = .store 2 ∧ findReg addr.toNat = some d ∧ s.locked = true ∧ addr.toNat ∉ s.openRegs ∧ s.cores.length = 4 ∧ mayStore s core addr.toNat :=
  ⟨1, (.store 2), 0x4001003C, 0xABCD, ((findReg 0x4001003C).getD ⟨0, [], 0, 0, 0, 0, 0, 0⟩), { st [] with locked := true }, by decide⟩
theorem witness_powerOnReset : ∃ (s : State),
    s.fl.op = none ∧ s.pq.otp = none :=
  ⟨{ st [(TB_RATIO_VALUE, 25000001), (TB_INT_EN_EN, 3), (PM_BOOTREC_REC, 1)] with mem := [(16, 5), (0x20000000, 1)], tb := { TimeBase.reset with now := 7, slow := 5 } }, by decide⟩
theorem witness_systemReset : ∃ (s : State),
    s.fl.op = none ∧ s.pq.otp = none ∧ s.power ≠ .off ∧ s.on VR_CTL_EN_ACK = false :=
  ⟨{ st [(TB_RATIO_VALUE, 25000001), (TB_INT_EN_EN, 3), (PM_BOOTREC_REC, 1)] with mem := [(16, 5), (0x20000000, 1)], tb := { TimeBase.reset with now := 7, slow := 5 } }, by decide⟩
theorem witness_brownOut : ∃ (coreRail : Bool) (s : State),
    s.fl.op = none ∧ s.pq.otp = none ∧ s.power ≠ .off ∧ (coreRail = false ∨ s.power = .active) ∧ s.on VR_CTL_EN_ACK = false :=
  ⟨true, { st [(TB_RATIO_VALUE, 25000001), (TB_INT_EN_EN, 3), (PM_BOOTREC_REC, 1)] with mem := [(16, 5), (0x20000000, 1)], tb := { TimeBase.reset with now := 7, slow := 5 } }, by decide⟩
theorem witness_tbaseUnlock : ∃ (s : State),
    s.fl.op = none ∧ s.pq.otp = none ∧ s.power = .active ∧ s.on TB_STATUS_LOCKED = true ∧ s.on VR_CTL_EN_ACK = false :=
  ⟨{ st [(TB_STATUS_LOCKED, 1), (TB_RATIO_VALUE, 25000001), (TB_INT_EN_EN, 3), (PM_BOOTREC_REC, 1)] with mem := [(16, 5), (0x20000000, 1)], tb := { TimeBase.reset with now := 7, slow := 5 } }, by decide⟩
theorem witness_sysrst : ∃ (core : Cpu) (key : BitVec 16) (s : State),
    s.fl.op = none ∧ s.pq.otp = none ∧ s.power = .active ∧ s.on (IC_CPU_STAT_NS core) = false ∧ key = 0xA55A ∧ s.on VR_CTL_EN_ACK = false ∧ mayStore s core A_PM_CMD :=
  ⟨1, 0xA55A, { st [(TB_RATIO_VALUE, 25000001), (TB_INT_EN_EN, 3), (PM_BOOTREC_REC, 1)] with mem := [(16, 5), (0x20000000, 1)], tb := { TimeBase.reset with now := 7, slow := 5 } }, by decide⟩
theorem witness_pllLock : ∃ (s : State),
    s.power = .active ∧ s.on TB_STATUS_LOCKED = false ∧ s.fe.resetCal = 0 ∧ s.fe.cal = none ∧ s.fe.air = none ∧ s.on FE_RT_STAT_BUSY = false ∧ noReception s :=
  ⟨State.reset, by decide⟩
theorem witness_loReadCapture : ∃ (core : Cpu) (r : TsReg) (s : State),
    s.power = .active ∧ s.on (IC_CPU_STAT_NS core) = false ∧ mayLoad s core (tsLoAddr r) :=
  ⟨1, (.rxts 3), State.reset, by decide⟩
theorem witness_hiReadShadow : ∃ (core : Cpu) (r : TsReg) (s : State),
    s.power = .active ∧ s.on (IC_CPU_STAT_NS core) = false ∧ mayLoad s core (tsLoAddr r + 4) :=
  ⟨1, .now, { st [] with tb := { TimeBase.reset with shadow := [(0x40010008 + 2 ^ 32, 7)] } }, by decide⟩
theorem witness_ratioUpdate : ∃ (m : Word) (s : State),
    s.power ≠ .off ∧ s.on TB_STATUS_LOCKED = true ∧ s.on TB_CAL_CTL_EN = true ∧ 24960000 ≤ 16 * m.toNat ∧ 16 * m.toNat ≤ 25040000 :=
  ⟨1562500, st [(TB_STATUS_LOCKED, 1), (TB_CAL_CTL_EN, 1)], by decide⟩
theorem witness_ratioOutOfRange : ∃ (m : Word) (s : State),
    s.power ≠ .off ∧ s.on TB_STATUS_LOCKED = true ∧ s.on TB_CAL_CTL_EN = true ∧ (16 * m.toNat < 24960000 ∨ 25040000 < 16 * m.toNat) :=
  ⟨1, st [(TB_STATUS_LOCKED, 1), (TB_CAL_CTL_EN, 1)], by decide⟩
theorem witness_slowFail : ∃ (s : State),
    s.power = .active ∧ s.on TB_STATUS_LOCKED = true ∧ s.on TB_STATUS_SLOW_FAIL = false ∧ 65536 ≤ s.tb.sinceEdge :=
  ⟨{ st [(TB_STATUS_LOCKED, 1), (TB_CAL_CTL_EN, 1)] with tb := { TimeBase.reset with sinceEdge := 65536 } }, by decide⟩
theorem witness_slowEdgeReturn : ∃ (s : State),
    s.power = .active ∧ s.on TB_STATUS_LOCKED = true ∧ s.on TB_STATUS_SLOW_FAIL = true ∧ s.on TB_CAL_CTL_EN = false ∧ s.on PM_ALARM_HI_EN = false ∧ s.on PM_SLEEP_ARM = false :=
  ⟨st [(TB_STATUS_SLOW_FAIL, 1), (TB_STATUS_LOCKED, 1), (TB_CAL_CTL_EN, 0)], by decide⟩
theorem witness_timeBaseRestart : ∃ (s : State),
    (s.power = .sleep ∨ s.power = .deep) ∧ s.pm.waking = 3 ∧ s.tb.s0.toNat ≤ s.tb.slow.toNat ∧ (∀ i : Fin 8, s.on (TM_STAT_RUN i) = false) ∧ (∀ i : Fin 8, s.on (TB_CMP_CTL_ARMED i) = false) ∧ (∀ i : Fin 8, s.on (DC_REC_CFG_EN i) = false) ∧ s.get FW_AGE_PERIOD = 0 ∧ s.on CZ_BSC_STAT_PEND = false ∧ s.tb.edge = true :=
  ⟨{ st [(FW_AGE_PERIOD, 0), (TB_RATIO_VALUE, 25000000)] with power := .sleep, tb := { TimeBase.reset with now := 5, t0 := 1000, d0 := 2000, s0 := 10, slow := 20, edge := true }, pm := { PowerS.reset with waking := 3 } }, by decide⟩
theorem witness_slowFailRestart : ∃ (s : State),
    (s.power = .sleep ∨ s.power = .deep) ∧ s.pm.waking = 3 ∧ s.tb.s0.toNat ≤ s.tb.slow.toNat ∧ (∀ i : Fin 8, s.on (TM_STAT_RUN i) = false) ∧ (∀ i : Fin 8, s.on (TB_CMP_CTL_ARMED i) = false) ∧ (∀ i : Fin 8, s.on (DC_REC_CFG_EN i) = false) ∧ s.get FW_AGE_PERIOD = 0 ∧ s.on CZ_BSC_STAT_PEND = false :=
  ⟨{ st [(FW_AGE_PERIOD, 0), (TB_RATIO_VALUE, 25000000)] with power := .sleep, tb := { TimeBase.reset with now := 5, t0 := 1000, d0 := 2000, s0 := 10, slow := 20, edge := true }, pm := { PowerS.reset with waking := 3 } }, by decide⟩
theorem witness_compareArm : ∃ (core : Cpu) (n : Fin 8) (wake sel per : Bool) (s : State),
    s.power = .active ∧ s.on (TB_CMP_CTL_ARMED n) = false ∧ s.counter sel < cmpTarget s n ∧ mayStore s core (A_TB_CMP_CTL n) :=
  ⟨0, 2, true, false, true, { st [(TB_STATUS_LOCKED, 1), (TB_CMP_TGT_LO_TGT 2, 50)] with tb := { TimeBase.reset with now := 5 } }, by decide⟩
theorem witness_compareDisarm : ∃ (core : Cpu) (n : Fin 8) (s : State),
    s.power = .active ∧ s.on (TB_CMP_CTL_ARMED n) = true ∧ s.counter (s.on (TB_CMP_CTL_SEL n)) < cmpTarget s n ∧ mayStore s core (TB_CMP_CTL_ARMED n).addr :=
  ⟨0, 2, { st [(TB_CMP_CTL_ARMED 2, 1), (TB_STATUS_LOCKED, 1), (TB_CMP_TGT_LO_TGT 2, 50)] with tb := { TimeBase.reset with now := 5 } }, by decide⟩
theorem witness_compareFire : ∃ (n : Fin 8) (s : State),
    s.power = .active ∧ s.on TB_STATUS_LOCKED = true ∧ s.on (TB_CMP_CTL_ARMED n) = true ∧ cmpTarget s n ≤ s.counter (s.on (TB_CMP_CTL_SEL n)) ∧ s.on (TB_CMP_CTL_PER n) = false :=
  ⟨2, { st [(TB_STATUS_LOCKED, 1), (TB_CMP_CTL_ARMED 2, 1), (TB_CMP_TGT_LO_TGT 2, 50), (TB_CMP_PERIOD_PERIOD 2, 10), (TB_INT_EN_EN, 0xFF)] with tb := { TimeBase.reset with now := 75 } }, by decide⟩
theorem witness_compareFirePeriodic : ∃ (n : Fin 8) (s : State),
    s.power = .active ∧ s.on TB_STATUS_LOCKED = true ∧ s.on (TB_CMP_CTL_ARMED n) = true ∧ cmpTarget s n ≤ s.counter (s.on (TB_CMP_CTL_SEL n)) ∧ s.on (TB_CMP_CTL_PER n) = true ∧ s.get (TB_CMP_PERIOD_PERIOD n) ≠ 0 ∧ s.counter (s.on (TB_CMP_CTL_SEL n)) + s.get (TB_CMP_PERIOD_PERIOD n) < 2 ^ 64 :=
  ⟨2, { st [(TB_CMP_CTL_PER 2, 1), (TB_STATUS_LOCKED, 1), (TB_CMP_CTL_ARMED 2, 1), (TB_CMP_TGT_LO_TGT 2, 50), (TB_CMP_PERIOD_PERIOD 2, 10), (TB_INT_EN_EN, 0xFF)] with tb := { TimeBase.reset with now := 75 } }, by decide⟩
theorem witness_dtimeSlewStep : ∃ (s : State),
    s.power ≠ .off ∧ s.on TB_STATUS_LOCKED = true ∧ s.on TB_DISC_STAT_MASTER = false ∧ s.tb.slewRem ≠ 0 ∧ s.tb.slewWait = 0 :=
  ⟨{ st [(TB_STATUS_LOCKED, 1)] with tb := { TimeBase.reset with slewRem := -3 } }, by decide⟩
theorem witness_groupOpen : ∃ (core : Cpu) (g : Fin 8) (s : State),
    s.power = .active ∧ (s.groupState g = 0 ∨ ((s.groupState g = 4 ∨ s.groupState g = 5 ∨ s.groupState g = 6) ∧ s.get (AC_G_STAT_OWNER g) = core.val ∧ (s.on (AC_G_STAT_ATTR g) = true → s.on (IC_CPU_STAT_NS core) = false))) ∧ s.on AC_CTL_EN = true ∧ bitOf (s.get (AC_G_CFG_CORES g)) core = true ∧ (s.on (IC_CPU_STAT_NS core) = true → s.on (AC_G_CFG_NS_OK g) = true) ∧ s.groups.length = 8 ∧ mayStore s core (A_AC_G_CMD g) :=
  ⟨1, 3, st [(AC_CTL_EN, 1)], by decide⟩
theorem witness_openRefused : ∃ (core : Cpu) (g : Fin 8) (s : State),
    s.power = .active ∧ (s.groupState g = 0 ∨ ((s.groupState g = 4 ∨ s.groupState g = 5 ∨ s.groupState g = 6) ∧ s.get (AC_G_STAT_OWNER g) = core.val ∧ (s.on (AC_G_STAT_ATTR g) = true → s.on (IC_CPU_STAT_NS core) = false))) ∧ s.on AC_CTL_EN = true ∧ (bitOf (s.get (AC_G_CFG_CORES g)) core = false ∨ (s.on (IC_CPU_STAT_NS core) = true ∧ s.on (AC_G_CFG_NS_OK g) = false)) ∧ s.cores.length = 4 ∧ mayStore s core (A_AC_G_CMD g) :=
  ⟨1, 3, { st [(AC_G_CFG_CORES 3, 0), (AC_CTL_EN, 1), (AC_G_STAT_STATE 3, 5), (AC_G_STAT_REASON 3, 6), (AC_G_STAT_OWNER 3, 1), (AC_G_STAT_ATTR 3, 1), (AC_G_SADDR_ADDR 3, 0x1000), (AC_G_SMASK_MASK 3, 0xFF)] with groups := List.replicate 8 .reset }, by decide⟩
theorem witness_openDisabled : ∃ (core : Cpu) (g : Fin 8) (s : State),
    s.power = .active ∧ (s.groupState g = 0 ∨ ((s.groupState g = 4 ∨ s.groupState g = 5 ∨ s.groupState g = 6) ∧ s.get (AC_G_STAT_OWNER g) = core.val ∧ (s.on (AC_G_STAT_ATTR g) = true → s.on (IC_CPU_STAT_NS core) = false))) ∧ s.on AC_CTL_EN = false ∧ mayStore s core (A_AC_G_CMD g) :=
  ⟨1, 3, { st [(AC_CTL_EN, 0), (AC_G_STAT_STATE 3, 4), (AC_G_STAT_REASON 3, 6), (AC_G_STAT_OWNER 3, 1), (AC_G_STAT_ATTR 3, 1), (AC_G_SADDR_ADDR 3, 0x1000), (AC_G_SMASK_MASK 3, 0xFF)] with groups := List.replicate 8 .reset }, by decide⟩
theorem witness_stagePush : ∃ (core : Cpu) (g : Fin 8) (v : Word) (s : State),
    s.power = .active ∧ s.groupState g = 1 ∧ s.get (AC_G_STAT_OWNER g) = core.val ∧ (s.on (AC_G_STAT_ATTR g) = true → s.on (IC_CPU_STAT_NS core) = false) ∧ s.get (AC_G_STAT_COUNT g) < 64 ∧ s.groups.length = 8 ∧ mayStore s core (A_AC_G_SDATA g) :=
  ⟨1, 3, 0x55, { st [(AC_CTL_EN, 1), (AC_G_STAT_STATE 3, 1), (AC_G_STAT_OWNER 3, 1), (AC_G_STAT_ATTR 3, 1), (AC_G_SADDR_ADDR 3, 0x1000), (AC_G_SMASK_MASK 3, 0xFF)] with groups := List.replicate 8 .reset }, by decide⟩
theorem witness_pushOverflow : ∃ (core : Cpu) (g : Fin 8) (v : Word) (s : State),
    s.power = .active ∧ s.groupState g = 1 ∧ s.get (AC_G_STAT_OWNER g) = core.val ∧ (s.on (AC_G_STAT_ATTR g) = true → s.on (IC_CPU_STAT_NS core) = false) ∧ 64 ≤ s.get (AC_G_STAT_COUNT g) ∧ s.groups.length = 8 ∧ mayStore s core (A_AC_G_SDATA g) :=
  ⟨1, 3, 0x55, { st [(AC_G_STAT_COUNT 3, 64), (AC_CTL_EN, 1), (AC_G_STAT_STATE 3, 1), (AC_G_STAT_OWNER 3, 1), (AC_G_STAT_ATTR 3, 1), (AC_G_SADDR_ADDR 3, 0x1000), (AC_G_SMASK_MASK 3, 0xFF)] with groups := List.replicate 8 .reset }, by decide⟩
theorem witness_commitNow : ∃ (core : Cpu) (g : Fin 8) (s : State),
    s.power = .active ∧ s.groupState g = 1 ∧ s.get (AC_G_STAT_OWNER g) = core.val ∧ (s.on (AC_G_STAT_ATTR g) = true → s.on (IC_CPU_STAT_NS core) = false) ∧ s.on AC_CTL_EN = true ∧ s.groups.length = 8 ∧ mayStore s core (A_AC_G_CMD g) :=
  ⟨1, 3, { st [(AC_CTL_EN, 1), (AC_G_STAT_STATE 3, 1), (AC_G_STAT_OWNER 3, 1), (AC_G_STAT_ATTR 3, 1), (AC_G_SADDR_ADDR 3, 0x1000), (AC_G_SMASK_MASK 3, 0xFF)] with groups := List.replicate 8 .reset }, by decide⟩
theorem witness_commitAt : ∃ (core : Cpu) (g : Fin 8) (sel : Bool) (s : State),
    s.power = .active ∧ s.groupState g = 1 ∧ s.get (AC_G_STAT_OWNER g) = core.val ∧ (s.on (AC_G_STAT_ATTR g) = true → s.on (IC_CPU_STAT_NS core) = false) ∧ s.on AC_CTL_EN = true ∧ s.groups.length = 8 ∧ mayStore s core (A_AC_G_CMD g) :=
  ⟨1, 3, true, { st [(AC_CTL_EN, 1), (AC_G_STAT_STATE 3, 1), (AC_G_STAT_OWNER 3, 1), (AC_G_STAT_ATTR 3, 1), (AC_G_SADDR_ADDR 3, 0x1000), (AC_G_SMASK_MASK 3, 0xFF)] with groups := List.replicate 8 .reset }, by decide⟩
theorem witness_commitNowDisabled : ∃ (core : Cpu) (g : Fin 8) (s : State),
    s.power = .active ∧ s.groupState g = 1 ∧ s.get (AC_G_STAT_OWNER g) = core.val ∧ (s.on (AC_G_STAT_ATTR g) = true → s.on (IC_CPU_STAT_NS core) = false) ∧ s.on AC_CTL_EN = false ∧ mayStore s core (A_AC_G_CMD g) :=
  ⟨1, 3, { st [(AC_CTL_EN, 0), (AC_G_STAT_STATE 3, 1), (AC_G_STAT_OWNER 3, 1), (AC_G_STAT_ATTR 3, 1), (AC_G_SADDR_ADDR 3, 0x1000), (AC_G_SMASK_MASK 3, 0xFF)] with groups := List.replicate 8 .reset }, by decide⟩
theorem witness_commitAtDisabled : ∃ (core : Cpu) (g : Fin 8) (sel : Bool) (s : State),
    s.power = .active ∧ s.groupState g = 1 ∧ s.get (AC_G_STAT_OWNER g) = core.val ∧ (s.on (AC_G_STAT_ATTR g) = true → s.on (IC_CPU_STAT_NS core) = false) ∧ s.on AC_CTL_EN = false ∧ mayStore s core (A_AC_G_CMD g) :=
  ⟨1, 3, true, { st [(AC_CTL_EN, 0), (AC_G_STAT_STATE 3, 1), (AC_G_STAT_OWNER 3, 1), (AC_G_STAT_ATTR 3, 1), (AC_G_SADDR_ADDR 3, 0x1000), (AC_G_SMASK_MASK 3, 0xFF)] with groups := List.replicate 8 .reset }, by decide⟩
theorem witness_groupAbort : ∃ (core : Cpu) (g : Fin 8) (s : State),
    s.power = .active ∧ s.groupState g = 1 ∧ s.get (AC_G_STAT_OWNER g) = core.val ∧ (s.on (AC_G_STAT_ATTR g) = true → s.on (IC_CPU_STAT_NS core) = false) ∧ s.groups.length = 8 ∧ mayStore s core (A_AC_G_CMD g) :=
  ⟨1, 3, { st [(AC_CTL_EN, 1), (AC_G_STAT_STATE 3, 1), (AC_G_STAT_OWNER 3, 1), (AC_G_STAT_ATTR 3, 1), (AC_G_SADDR_ADDR 3, 0x1000), (AC_G_SMASK_MASK 3, 0xFF)] with groups := List.replicate 8 .reset }, by decide⟩
theorem witness_abortEnded : ∃ (core : Cpu) (g : Fin 8) (s : State),
    s.power = .active ∧ (s.groupState g = 4 ∨ s.groupState g = 5 ∨ s.groupState g = 6) ∧ s.get (AC_G_STAT_OWNER g) = core.val ∧ (s.on (AC_G_STAT_ATTR g) = true → s.on (IC_CPU_STAT_NS core) = false) ∧ mayStore s core (A_AC_G_CMD g) :=
  ⟨1, 3, { st [(AC_CTL_EN, 1), (AC_G_STAT_STATE 3, 4), (AC_G_STAT_REASON 3, 6), (AC_G_STAT_OWNER 3, 1), (AC_G_STAT_ATTR 3, 1), (AC_G_SADDR_ADDR 3, 0x1000), (AC_G_SMASK_MASK 3, 0xFF)] with groups := List.replicate 8 .reset }, by decide⟩
theorem witness_groupRelease : ∃ (core : Cpu) (g : Fin 8) (s : State),
    s.power = .active ∧ (s.groupState g = 1 ∨ s.groupState g = 4 ∨ s.groupState g = 5 ∨ s.groupState g = 6) ∧ s.get (AC_G_STAT_OWNER g) = core.val ∧ (s.on (AC_G_STAT_ATTR g) = true → s.on (IC_CPU_STAT_NS core) = false) ∧ s.groups.length = 8 ∧ mayStore s core (A_AC_G_CMD g) :=
  ⟨1, 3, { st [(AC_CTL_EN, 1), (AC_G_STAT_STATE 3, 5), (AC_G_STAT_REASON 3, 6), (AC_G_STAT_OWNER 3, 1), (AC_G_STAT_ATTR 3, 1), (AC_G_SADDR_ADDR 3, 0x1000), (AC_G_SMASK_MASK 3, 0xFF)] with groups := List.replicate 8 .reset }, by decide⟩
theorem witness_preDeliveryEnd : ∃ (g : Fin 8) (s : State),
    s.power = .active ∧ s.groupState g = 2 ∧ s.on (AC_G_STAT_ATTR g) = true ∧ (∀ e ∈ (s.group g).entries, e.addr ∈ [A_TB_CTL, A_TB_INT_EN, A_FE_INT_EN, A_FE_CAL_CTL, A_CZ_INT_EN, A_DC_INT_EN, A_PM_INT_EN]) ∧ (∀ k : Fin 8, k ≠ g → s.groupState k ≠ 2 ∧ s.groupState k ≠ 3) ∧ ((s.group g).timed = true → s.counter (s.on (AC_G_STAT_SEL g)) < s.get64 (AC_G_TGT_LO_TGT g) (AC_G_TGT_HI_TGT g)) ∧ (s.group g).delivered ≤ (s.group g).entries.length ∧ s.groups.length = 8 :=
  ⟨3, { st [(EV_CTL_EN, 0), (AC_CTL_EN, 1), (AC_G_STAT_STATE 3, 2), (AC_G_STAT_OWNER 3, 1), (AC_G_STAT_ATTR 3, 1)] with groups := (List.replicate 8 Group.reset).set 3 { Group.reset with entries := [⟨A_TB_CTL, 0xF0, 0xAB⟩, ⟨A_FE_INT_EN, 0xFF, 3⟩, ⟨A_TB_CTL, 3, 1⟩] } }, by decide⟩
theorem witness_preDeliveryAny : ∃ (g : Fin 8) (s : State),
    s.power = .active ∧ s.groupState g = 2 ∧ (∀ e ∈ (s.group g).entries.drop (s.group g).delivered, ∀ k ≤ (s.group g).entries.length, entryCheck (s.updGroup g fun p => { p with delivered := k }) g e = 0) ∧ ((s.group g).timed = true → s.counter (s.on (AC_G_STAT_SEL g)) < s.get64 (AC_G_TGT_LO_TGT g) (AC_G_TGT_HI_TGT g)) ∧ (s.group g).delivered ≤ (s.group g).entries.length ∧ s.groups.length = 8 :=
  ⟨3, { st [(EV_CTL_EN, 0), (AC_CTL_EN, 1), (AC_G_STAT_STATE 3, 2), (AC_G_STAT_OWNER 3, 1), (AC_G_STAT_ATTR 3, 1)] with groups := (List.replicate 8 Group.reset).set 3 { Group.reset with entries := [⟨A_TB_CTL, 0xF0, 0xAB⟩, ⟨A_FE_INT_EN, 0xFF, 3⟩, ⟨A_TB_CTL, 3, 1⟩] } }, by decide⟩
theorem witness_preDeliveryFails : ∃ (g : Fin 8) (e : StageEntry) (l : List StageEntry) (r : Nat) (s : State),
    s.power = .active ∧ s.groupState g = 2 ∧ (s.group g).entries.drop (s.group g).delivered = e :: l ∧ entryCheck s g e = r ∧ r ≠ 0 ∧ s.groups.length = 8 :=
  ⟨3, ⟨A_AC_CTL, 1, 1⟩, [], 5, { { st [(EV_CTL_EN, 0), (AC_CTL_EN, 1), (AC_G_STAT_STATE 3, 2), (AC_G_STAT_OWNER 3, 1), (AC_G_STAT_ATTR 3, 1)] with groups := (List.replicate 8 Group.reset).set 3 { Group.reset with entries := [⟨A_TB_CTL, 0xF0, 0xAB⟩, ⟨A_FE_INT_EN, 0xFF, 3⟩, ⟨A_TB_CTL, 3, 1⟩] } } with groups := (List.replicate 8 Group.reset).set 3 { Group.reset with entries := [⟨A_AC_CTL, 1, 1⟩] } }, by decide⟩
theorem witness_commitPoint : ∃ (g : Fin 8) (s : State),
    s.power = .active ∧ s.groupState g = 3 ∧ s.on (AC_G_STAT_ATTR g) = true ∧ (∀ e ∈ (s.group g).entries, e.addr ∈ [A_TB_CTL, A_TB_INT_EN, A_FE_INT_EN, A_FE_CAL_CTL, A_CZ_INT_EN, A_DC_INT_EN, A_PM_INT_EN]) ∧ (s.group g).timed = false ∧ (∀ k : Fin 8, k ≠ g → s.groupState k ≠ 3) ∧ s.tb.timedAt ≠ some s.now ∧ s.on EV_CTL_EN = false ∧ s.emitted = [] ∧ s.groups.length = 8 :=
  ⟨3, { st [(EV_CTL_EN, 0), (AC_CTL_EN, 1), (AC_G_STAT_STATE 3, 3), (AC_G_STAT_OWNER 3, 1), (AC_G_STAT_ATTR 3, 1)] with groups := (List.replicate 8 Group.reset).set 3 { Group.reset with entries := [⟨A_TB_CTL, 0xF0, 0xAB⟩, ⟨A_FE_INT_EN, 0xFF, 3⟩, ⟨A_TB_CTL, 3, 1⟩] } }, by decide⟩
theorem witness_commitPointAny : ∃ (g : Fin 8) (s : State),
    s.power = .active ∧ tokenPasses s g = true ∧ (∀ e ∈ (s.group g).entries, stageable e.addr = true) ∧ commitWrong s g = [] ∧ (commitApplied s g).groupState g = 3 ∧ s.groups.length = 8 :=
  ⟨3, atTick ({ st [(EV_CTL_EN, 0), (AC_CTL_EN, 1), (AC_G_STAT_STATE 3, 3), (AC_G_STAT_OWNER 3, 1), (AC_G_STAT_ATTR 3, 1)] with groups := (List.replicate 8 Group.reset).set 3 { Group.reset with entries := [⟨A_TB_CTL, 0xF0, 0xAB⟩, ⟨A_FE_INT_EN, 0xFF, 3⟩, ⟨A_TB_CTL, 3, 1⟩] } }) 9, by decide⟩
theorem witness_commitPointFails : ∃ (g : Fin 8) (l : List IndexedEntry) (e : IndexedEntry) (s : State),
    s.power = .active ∧ tokenPasses s g = true ∧ commitWrong s g = l ++ [e] ∧ s.groups.length = 8 :=
  ⟨3, [], (⟨A_CX_CFG, 0xFFFFFFFF, 0xFFFFFFFF⟩, 0), { { st [(EV_CTL_EN, 0), (AC_CTL_EN, 1), (AC_G_STAT_STATE 3, 3), (AC_G_STAT_OWNER 3, 1), (AC_G_STAT_ATTR 3, 1)] with groups := (List.replicate 8 Group.reset).set 3 { Group.reset with entries := [⟨A_TB_CTL, 0xF0, 0xAB⟩, ⟨A_FE_INT_EN, 0xFF, 3⟩, ⟨A_TB_CTL, 3, 1⟩] } } with groups := (List.replicate 8 Group.reset).set 3 { Group.reset with entries := [⟨A_CX_CFG, 0xFFFFFFFF, 0xFFFFFFFF⟩] } }, by decide⟩
theorem witness_acDisable : ∃ (core : Cpu) (s : State),
    s.power = .active ∧ s.on AC_CTL_EN = true ∧ s.groups.length = 8 ∧ mayStore s core AC_CTL_EN.addr :=
  ⟨0, { st [(EV_CTL_EN, 0), (AC_CTL_EN, 1), (AC_G_STAT_STATE 3, 2), (AC_G_STAT_OWNER 3, 1), (AC_G_STAT_ATTR 3, 1)] with groups := (List.replicate 8 Group.reset).set 3 { Group.reset with entries := [⟨A_TB_CTL, 0xF0, 0xAB⟩, ⟨A_FE_INT_EN, 0xFF, 3⟩, ⟨A_TB_CTL, 3, 1⟩] } }, by decide⟩
theorem witness_retune : ∃ (core : Cpu) (freq : BitVec 24) (s : State),
    s.power = .active ∧ s.on FE_CTL_EN = true ∧ 4082000 ≤ freq.toNat ∧ freq.toNat ≤ 9568000 ∧ mayStore s core A_FE_WIN_CTL :=
  ⟨0, 8680000, st [(TB_STATUS_LOCKED, 1), (FE_CTL_EN, 1), (FE_CTL_EN_ACK, 1), (FE_CTL_CHA_EN, 1), (FE_WIN_CTL_FREQ, 8680000)], by decide⟩
theorem witness_retuneOutOfRange : ∃ (core : Cpu) (freq : BitVec 24) (s : State),
    s.power = .active ∧ (freq.toNat < 4082000 ∨ 9568000 < freq.toNat) ∧ mayStore s core A_FE_WIN_CTL :=
  ⟨0, 9, st [(TB_STATUS_LOCKED, 1), (FE_CTL_EN, 1), (FE_CTL_EN_ACK, 1), (FE_CTL_CHA_EN, 1), (FE_WIN_CTL_FREQ, 8680000)], by decide⟩
theorem witness_retuneComplete : ∃ (ok : Bool) (temp : BitVec 16) (s : State),
    s.power ≠ .off ∧ ok = true ∧ s.fe.unlock = false ∧ s.on FE_RT_STAT_BUSY = true ∧ s.fe.air = none ∧ s.fe.cal = none ∧ s.fe.queue = [] ∧ noReception s ∧ (signed 16 temp.toNat - s.getS FE_CAL_STAT_LAST_T).natAbs ≤ 32 :=
  ⟨true, 7, st [(TB_STATUS_LOCKED, 1), (FE_CTL_EN, 1), (FE_CTL_EN_ACK, 1), (FE_CTL_CHA_EN, 1), (FE_WIN_CTL_FREQ, 8680000), (FE_RT_STAT_BUSY, 1)], by decide⟩
theorem witness_feDisable : ∃ (core : Cpu) (s : State),
    s.power = .active ∧ s.on FE_CTL_EN = true ∧ (s.fe.cal ≠ none ∨ s.on FE_RT_STAT_BUSY = true ∨ (∀ c ∈ s.fe.queue, c.auto = false)) ∧ s.fe.calDone = false ∧ s.fe.resetCal ≠ 1 ∧ (s.on FE_CTL_SWDIV = true ∨ s.fe.swPos = 0) ∧ noReception s ∧ mayStore s core FE_CTL_EN.addr :=
  ⟨0, st [(TB_STATUS_LOCKED, 1), (FE_CTL_EN, 1), (FE_CTL_EN_ACK, 1), (FE_CTL_CHA_EN, 1), (FE_WIN_CTL_FREQ, 8680000)], by decide⟩
theorem witness_feDisableDone : ∃ (s : State),
    s.power ≠ .off ∧ s.on FE_CTL_EN = false ∧ s.fe.air = none ∧ s.fe.cal = none ∧ s.fe.queue = [] ∧ s.on FE_RT_STAT_BUSY = false ∧ noReception s :=
  ⟨st [(FE_CTL_EN, 0), (FE_CTL_EN_ACK, 1)], by decide⟩
theorem witness_feEnable : ∃ (core : Cpu) (s : State),
    s.power = .active ∧ s.on FE_CTL_EN = false ∧ s.get FE_WIN_CTL_FREQ ≠ 0 ∧ (s.on FE_CTL_SWDIV = true ∨ s.fe.swPos = 0) ∧ s.fe.queue = [] ∧ s.fe.cal = none ∧ noReception s ∧ mayStore s core FE_CTL_EN.addr :=
  ⟨0, st [(FE_CTL_EN, 0), (FE_WIN_CTL_FREQ, 8680000)], by decide⟩
theorem witness_calSyn : ∃ (core : Cpu) (s : State),
    s.power = .active ∧ s.on FE_CTL_EN = true ∧ s.get FE_WIN_CTL_FREQ ≠ 0 ∧ s.fe.cal = none ∧ s.fe.queue = [] ∧ s.on FE_RT_STAT_BUSY = false ∧ s.fe.air = none ∧ noReception s ∧ mayStore s core A_FE_CAL_CMD :=
  ⟨0, st [(TB_STATUS_LOCKED, 1), (FE_CTL_EN, 1), (FE_CTL_EN_ACK, 1), (FE_CTL_CHA_EN, 1), (FE_WIN_CTL_FREQ, 8680000)], by decide⟩
theorem witness_calDc : ∃ (core : Cpu) (s : State),
    s.power = .active ∧ s.on FE_CTL_EN = true ∧ s.get FE_WIN_CTL_FREQ ≠ 0 ∧ s.fe.cal = none ∧ s.fe.queue = [] ∧ s.on FE_RT_STAT_BUSY = false ∧ s.fe.air = none ∧ noReception s ∧ mayStore s core A_FE_CAL_CMD :=
  ⟨0, st [(TB_STATUS_LOCKED, 1), (FE_CTL_EN, 1), (FE_CTL_EN_ACK, 1), (FE_CTL_CHA_EN, 1), (FE_WIN_CTL_FREQ, 8680000)], by decide⟩
theorem witness_calIqadc : ∃ (core : Cpu) (s : State),
    s.power = .active ∧ s.on FE_CTL_EN = true ∧ s.fe.cal = none ∧ s.fe.queue = [] ∧ s.on FE_RT_STAT_BUSY = false ∧ s.fe.air = none ∧ noReception s ∧ mayStore s core A_FE_CAL_CMD :=
  ⟨0, st [(TB_STATUS_LOCKED, 1), (FE_CTL_EN, 1), (FE_CTL_EN_ACK, 1), (FE_CTL_CHA_EN, 1), (FE_WIN_CTL_FREQ, 8680000)], by decide⟩
theorem witness_calPalp : ∃ (core : Cpu) (s : State),
    s.power = .active ∧ s.on FE_CTL_EN = true ∧ s.fe.cal = none ∧ s.fe.queue = [] ∧ s.on FE_RT_STAT_BUSY = false ∧ s.fe.air = none ∧ noReception s ∧ mayStore s core A_FE_CAL_CMD :=
  ⟨0, st [(TB_STATUS_LOCKED, 1), (FE_CTL_EN, 1), (FE_CTL_EN_ACK, 1), (FE_CTL_CHA_EN, 1), (FE_WIN_CTL_FREQ, 8680000)], by decide⟩
theorem witness_calPahp : ∃ (core : Cpu) (s : State),
    s.power = .active ∧ s.on FE_CTL_EN = true ∧ s.fe.cal = none ∧ s.fe.queue = [] ∧ s.on FE_RT_STAT_BUSY = false ∧ s.fe.air = none ∧ noReception s ∧ mayStore s core A_FE_CAL_CMD :=
  ⟨0, st [(TB_STATUS_LOCKED, 1), (FE_CTL_EN, 1), (FE_CTL_EN_ACK, 1), (FE_CTL_CHA_EN, 1), (FE_WIN_CTL_FREQ, 8680000)], by decide⟩
theorem witness_calComplete : ∃ (ok : Bool) (temp : BitVec 16) (k m : Nat) (au : Bool) (s : State),
    s.power ≠ .off ∧ s.fe.cal = some ⟨k, m, true, au⟩ ∧ 1 ≤ k ∧ k ≤ 4 ∧ s.fe.queue = [] ∧ s.on FE_RT_STAT_BUSY = false ∧ s.fe.unlock = false :=
  ⟨true, 5, 3, 3, false, { st [(TB_STATUS_LOCKED, 1), (FE_CTL_EN, 1), (FE_CTL_EN_ACK, 1), (FE_CTL_CHA_EN, 1), (FE_WIN_CTL_FREQ, 8680000)] with fe := { AnalogueS.reset with cal := some (calCmd 3 3) } }, by decide⟩
theorem witness_forcedCal : ∃ (s : State),
    s.power ≠ .off ∧ s.get FE_CAL_CTL_FORCE_T ≠ 0 ∧ s.on FE_CAL_STAT_TEMP_DUE = true ∧ s.fe.dueAt + s.get FE_CAL_CTL_FORCE_T * 200000000 ≤ s.now ∧ s.fe.air = none ∧ s.ls.acks = [] ∧ noReception s ∧ s.on FE_CTL_EN = true ∧ s.get FE_WIN_CTL_FREQ ≠ 0 ∧ s.on FE_CAL_STAT_BUSY = false ∧ s.fe.cal = none ∧ s.fe.queue = [] ∧ s.on FE_RT_STAT_BUSY = false :=
  ⟨{ st [(TB_STATUS_LOCKED, 1), (FE_CTL_EN, 1), (FE_CTL_EN_ACK, 1), (FE_CTL_CHA_EN, 1), (FE_WIN_CTL_FREQ, 8680000), (FE_CAL_CTL_FORCE_T, 1), (FE_CAL_STAT_TEMP_DUE, 1)] with tb := { TimeBase.reset with now := 900000000 } }, by decide⟩
theorem witness_synthUnlock : ∃ (s : State),
    s.power = .active ∧ s.on FE_CTL_EN = true ∧ s.get FE_WIN_CTL_FREQ ≠ 0 ∧ s.fe.relocked = true ∧ s.on FE_CAL_STAT_SYN_FAIL = false ∧ s.fe.air = none ∧ noReception s ∧ s.fe.cal = none ∧ s.fe.queue = [] ∧ s.on FE_RT_STAT_BUSY = false :=
  ⟨st [(TB_STATUS_LOCKED, 1), (FE_CTL_EN, 1), (FE_CTL_EN_ACK, 1), (FE_CTL_CHA_EN, 1), (FE_WIN_CTL_FREQ, 8680000)], by decide⟩
theorem witness_synthRelock : ∃ (s : State),
    s.power = .active ∧ s.on TB_STATUS_LOCKED = true ∧ s.fe.relocked = false ∧ (∀ p : Fin 16, s.laneState p = 0 ∨ s.laneState p = 1 ∨ s.laneState p = 15) ∧ s.on CZ_BSC_CTL_EN = false :=
  ⟨{ st [(TB_STATUS_LOCKED, 1), (FE_CTL_EN, 1), (FE_CTL_EN_ACK, 1), (FE_CTL_CHA_EN, 1), (FE_WIN_CTL_FREQ, 8680000), (CZ_CTL_EN, 1), (CZ_LANE_CFG_EN 3, 1), (CZ_LANE_STAT_STATE 3, 1), (CZ_LANE_STAT_ARMED_FW 3, 1)] with fe := { AnalogueS.reset with relocked := false } }, by decide⟩
theorem witness_chainEnable : ∃ (core : Cpu) (chain : Fin 2) (s : State),
    s.power = .active ∧ (s.on (if chain = 0 then FE_CTL_CHA_EN else FE_CTL_CHB_EN) = false) ∧ (s.on FE_CTL_SWDIV = true ∨ s.fe.swPos = 0) ∧ s.on FE_CTL_EN = true ∧ s.get FE_WIN_CTL_FREQ ≠ 0 ∧ noReception s ∧ s.fe.cal = none ∧ s.fe.queue = [] ∧ s.on FE_RT_STAT_BUSY = false ∧ (mayStore s core (if chain = 0 then FE_CTL_CHA_EN else FE_CTL_CHB_EN).addr) :=
  ⟨0, 1, st [(TB_STATUS_LOCKED, 1), (FE_CTL_EN, 1), (FE_CTL_EN_ACK, 1), (FE_CTL_CHA_EN, 1), (FE_WIN_CTL_FREQ, 8680000), (FE_CTL_CHB_EN, 0)], by decide⟩
theorem witness_chainDisable : ∃ (core : Cpu) (chain : Fin 2) (s : State),
    s.power = .active ∧ (s.on (if chain = 0 then FE_CTL_CHA_EN else FE_CTL_CHB_EN) = true) ∧ (s.on FE_CTL_SWDIV = true ∨ s.fe.swPos = 0) ∧ noReception s ∧ s.fe.cal = none ∧ s.fe.queue = [] ∧ s.on FE_RT_STAT_BUSY = false ∧ (mayStore s core (if chain = 0 then FE_CTL_CHA_EN else FE_CTL_CHB_EN).addr) :=
  ⟨0, 0, st [(TB_STATUS_LOCKED, 1), (FE_CTL_EN, 1), (FE_CTL_EN_ACK, 1), (FE_CTL_CHA_EN, 1), (FE_WIN_CTL_FREQ, 8680000)], by decide⟩
theorem witness_gainStepDown : ∃ (chain : Fin 2) (s : State),
    s.power ≠ .off ∧ s.chainUp chain = true :=
  ⟨0, st [(TB_STATUS_LOCKED, 1), (FE_CTL_EN, 1), (FE_CTL_EN_ACK, 1), (FE_CTL_CHA_EN, 1), (FE_WIN_CTL_FREQ, 8680000)], by decide⟩
theorem witness_gainStepUp : ∃ (chain : Fin 2) (s : State),
    s.power ≠ .off ∧ s.chainUp chain = true :=
  ⟨0, st [(TB_STATUS_LOCKED, 1), (FE_CTL_EN, 1), (FE_CTL_EN_ACK, 1), (FE_CTL_CHA_EN, 1), (FE_WIN_CTL_FREQ, 8680000)], by decide⟩
theorem witness_rssiRefresh : ∃ (n : Fin 16) (a b : BitVec 16) (s : State),
    s.power ≠ .off ∧ (s.chainUp 0 = true ∨ s.chainUp 1 = true) ∧ (s.get (CZ_LANE_CFG_DIV n) = 1 ∨ s.get (CZ_LANE_CFG_DIV n) = 2) :=
  ⟨3, 0xFF38, 0xFFF0, st [(TB_STATUS_LOCKED, 1), (FE_CTL_EN, 1), (FE_CTL_EN_ACK, 1), (FE_CTL_CHA_EN, 1), (FE_WIN_CTL_FREQ, 8680000), (CZ_LANE_CFG_DIV 3, 1)], by decide⟩
theorem witness_sensePeriod : ∃ (temp mv : BitVec 16) (s : State),
    s.power = .active ∧ s.fe.senseWake = false ∧ s.get FE_SENSE_CTL_PERIOD ≠ 0 ∧ s.fe.senseNext + s.get FE_SENSE_CTL_PERIOD * 200000 ≤ s.now ∧ (signed 16 temp.toNat - s.getS FE_CAL_STAT_LAST_T).natAbs ≤ 32 :=
  ⟨5, 3000, { st [(TB_STATUS_LOCKED, 1), (FE_CTL_EN, 1), (FE_CTL_EN_ACK, 1), (FE_CTL_CHA_EN, 1), (FE_WIN_CTL_FREQ, 8680000), (FE_SENSE_CTL_PERIOD, 10)] with tb := { TimeBase.reset with now := 9000000 } }, by decide⟩
theorem witness_senseNow : ∃ (core : Cpu) (temp mv : BitVec 16) (s : State),
    s.power = .active ∧ 32 < (signed 16 temp.toNat - s.getS FE_CAL_STAT_LAST_T).natAbs ∧ mayStore s core FE_SENSE_CTL_PERIOD.addr :=
  ⟨0, 500, 3000, st [(TB_STATUS_LOCKED, 1), (FE_CTL_EN, 1), (FE_CTL_EN_ACK, 1), (FE_CTL_CHA_EN, 1), (FE_WIN_CTL_FREQ, 8680000)], by decide⟩
theorem witness_txRampUp : ∃  (n : Fin 4) (x : TxfS) (s : State),
    s.power ≠ .off ∧ s.ls.acks = [] ∧ s.txf n = some x ∧ s.ls.threads.length = 4 ∧ txfDue s n = true ∧ (∀ k : Fin 4, k < n → txfDue s k = false) ∧ shellReady s = true ∧ s.fe.air = none ∧ s.dc.reserved = [] ∧ x.train = none ∧ x.src < 5 ∧ x.wd = false ∧ txfSusp s n = false ∧ launchBusy s n (airOf s x.preset x.air) = false ∧ noReception s :=
  ⟨1, (txf0 1), withTxf (atTick (st [(TB_STATUS_LOCKED, 1), (FE_CTL_EN, 1), (FE_CTL_EN_ACK, 1), (FE_CTL_CHA_EN, 1), (FE_WIN_CTL_FREQ, 8680000)]) 5000) (txf0 1), by decide⟩
theorem witness_txRampUpAny : ∃  (n : Fin 4) (x : TxfS) (s : State),
    s.power ≠ .off ∧ s.ls.acks = [] ∧ s.txf n = some x ∧ s.ls.threads.length = 4 ∧ txfDue s n = true ∧ (∀ k : Fin 4, k < n → txfDue s k = false) ∧ shellReady s = true ∧ txfSusp s n = false ∧ s.fe.air = none ∧ launchBusy s n (airOf s x.preset x.air) = false :=
  ⟨1, (txf0 1), { withTxf (atTick (st [(TB_STATUS_LOCKED, 1), (FE_CTL_EN, 1), (FE_CTL_EN_ACK, 1), (FE_CTL_CHA_EN, 1), (FE_WIN_CTL_FREQ, 8680000)]) 5000) (txf0 1) with dc := { BudgetS.reset with reserved := [⟨2, 7, 0, 100⟩] } }, by decide⟩
theorem witness_txLastBit : ∃  (a : AirS) (s : State),
    s.power ≠ .off ∧ s.fe.air = some a ∧ a.down = false ∧ a.lastBit + 100 ≤ s.now :=
  ⟨air0, { withTxf (atTick (st [(TB_STATUS_LOCKED, 1), (FE_CTL_EN, 1), (FE_CTL_EN_ACK, 1), (FE_CTL_CHA_EN, 1), (FE_WIN_CTL_FREQ, 8680000)]) 5000) (txf0 2) with fe := { AnalogueS.reset with air := some air0 } }, by decide⟩
theorem witness_txRampDownEnd : ∃  (a : AirS) (x : TxfS) (s : State),
    s.power ≠ .off ∧ s.fe.air = some a ∧ a.down = true ∧ a.cut = false ∧ a.wd = false ∧ a.lastBit + 100 + a.ramp ≤ s.now ∧ s.txf a.thread = some x ∧ s.ls.threads.length = 4 ∧ a.ack = false ∧ a.thread < 4 ∧ x.want = true ∧ x.laneOk = true ∧ s.dc.coex = [] :=
  ⟨{ air0 with down := true }, { txf0 2 with want := true, laneOk := true }, { withTxf (atTick (st [(TB_STATUS_LOCKED, 1), (FE_CTL_EN, 1), (FE_CTL_EN_ACK, 1), (FE_CTL_CHA_EN, 1), (FE_WIN_CTL_FREQ, 8680000)]) 5000) { txf0 2 with want := true, laneOk := true } with fe := { AnalogueS.reset with air := some { air0 with down := true } } }, by decide⟩
theorem witness_txRampDownEndAny : ∃  (a : AirS) (x : TxfS) (s : State),
    s.power ≠ .off ∧ s.fe.air = some a ∧ rampEndDue s = true ∧ a.ack = false ∧ a.thread < 4 ∧ s.txf a.thread = some x ∧ s.ls.threads.length = 4 ∧ x.dest < 16 ∧ (a.cut = true ∨ a.wd = true ∨ x.want = false) ∧ (s.thread a.thread).haltReq = false ∧ (s.thread a.thread).replay = none :=
  ⟨{ air0 with down := true }, { txf0 2 with want := false }, { withTxf (atTick (st [(TB_STATUS_LOCKED, 1), (FE_CTL_EN, 1), (FE_CTL_EN_ACK, 1), (FE_CTL_CHA_EN, 1), (FE_WIN_CTL_FREQ, 8680000)]) 5000) { txf0 2 with want := false } with fe := { AnalogueS.reset with air := some { air0 with down := true } } }, by decide⟩
theorem witness_chainsInService : ∃ (s : State),
    s.power ≠ .off ∧ s.fe.air = none ∧ s.fe.blank = true :=
  ⟨{ st [(TB_STATUS_LOCKED, 1), (FE_CTL_EN, 1), (FE_CTL_EN_ACK, 1), (FE_CTL_CHA_EN, 1), (FE_WIN_CTL_FREQ, 8680000)] with fe := { AnalogueS.reset with blank := true } }, by decide⟩
theorem witness_laneArm : ∃ (core : Cpu) (n : Fin 16) (s : State),
    s.power = .active ∧ s.on CZ_CTL_EN = true ∧ 1 ≤ s.laneState n ∧ s.laneState n ≤ 5 ∧ mayStore s core (A_CZ_LANE_CMD n) :=
  ⟨0, 3, st [(TB_STATUS_LOCKED, 1), (FE_CTL_EN, 1), (FE_CTL_EN_ACK, 1), (FE_CTL_CHA_EN, 1), (FE_WIN_CTL_FREQ, 8680000), (CZ_CTL_EN, 1), (CZ_LANE_CFG_EN 3, 1), (CZ_LANE_CFG_MODE 3, 2), (CZ_LANE_CFG_BIN 3, 9), (CZ_LANE_CFG_DIV 3, 1), (CZ_LANE_STAT_STATE 3, 1)], by decide⟩
theorem witness_laneDisarm : ∃ (core : Cpu) (n : Fin 16) (s : State),
    s.power = .active ∧ mayStore s core (A_CZ_LANE_CMD n) :=
  ⟨0, 3, st [(TB_STATUS_LOCKED, 1), (FE_CTL_EN, 1), (FE_CTL_EN_ACK, 1), (FE_CTL_CHA_EN, 1), (FE_WIN_CTL_FREQ, 8680000), (CZ_CTL_EN, 1), (CZ_LANE_CFG_EN 3, 1), (CZ_LANE_CFG_MODE 3, 2), (CZ_LANE_CFG_BIN 3, 9), (CZ_LANE_CFG_DIV 3, 1), (CZ_LANE_STAT_STATE 3, 2), (CZ_LANE_STAT_ARMED_FW 3, 1)], by decide⟩
theorem witness_laneCfgWrite : ∃ (core : Cpu) (n : Fin 16) (v : Word) (s : State),
    s.power = .active ∧ s.laneState n ≠ 15 ∧ s.laneState n ≠ 7 ∧ s.on CZ_CTL_PATH = false ∧ s.on CZ_BSC_CTL_EN = false ∧ (∀ p : Fin 16, p ≠ n → s.on (CZ_LANE_CFG_EN p) = false ∧ s.laneState p ≠ 7) ∧ (∀ p : Fin 16, s.get (CZ_LANE_CFG_DIV p) ≠ 3 ∧ s.get (CZ_LANE_DCFG_DSPAN p) ≠ 3) ∧ 3000 ≤ (s.getS CZ_NARROW_OFS).natAbs ∧ (s.getS CZ_NARROW_OFS).natAbs ≤ 29000 ∧ bitsOf v 31 1 = 1 ∧ 1 ≤ bitsOf v 8 4 ∧ bitsOf v 8 4 ≤ 3 ∧ 4 ≤ bitsOf v 0 6 ∧ bitsOf v 0 6 ≤ 35 ∧ bitsOf v 22 2 ≠ 3 ∧ s.on (CZ_LANE_CFG_EN n) = false ∧ mayStore s core (A_CZ_LANE_CFG n) :=
  ⟨0, 3, 0x80430209, st [(CZ_CTL_EN, 1)], by decide⟩
theorem witness_laneCfgForbidden : ∃ (core : Cpu) (n : Fin 16) (v : Word) (s : State),
    s.power = .active ∧ s.laneState n ≠ 15 ∧ (∀ p : Fin 16, s.on (CZ_LANE_CFG_EN p) = true → s.laneState p ≠ 15) ∧ s.on CZ_CTL_PATH = false ∧ bitsOf v 31 1 = 1 ∧ (bitsOf v 0 6 < 4 ∨ 35 < bitsOf v 0 6) ∧ mayStore s core (A_CZ_LANE_CFG n) :=
  ⟨0, 3, 0x80430201, st [(CZ_CTL_EN, 1)], by decide⟩
theorem witness_czDisable : ∃ (core : Cpu) (s : State),
    s.power = .active ∧ s.on CZ_CTL_EN = true ∧ noReception s ∧ czForbidden s = false ∧ (∀ p : Fin 16, s.on (CZ_LANE_CFG_EN p) = true → s.laneState p ≠ 15) ∧ mayStore s core CZ_CTL_EN.addr :=
  ⟨0, st [(TB_STATUS_LOCKED, 1), (FE_CTL_EN, 1), (FE_CTL_EN_ACK, 1), (FE_CTL_CHA_EN, 1), (FE_WIN_CTL_FREQ, 8680000), (CZ_CTL_EN, 1), (CZ_LANE_CFG_EN 3, 1), (CZ_LANE_CFG_MODE 3, 2), (CZ_LANE_CFG_BIN 3, 9), (CZ_LANE_CFG_DIV 3, 1), (CZ_LANE_STAT_STATE 3, 2), (CZ_LANE_STAT_ARMED_FW 3, 1)], by decide⟩
theorem witness_czEnable : ∃ (core : Cpu) (s : State),
    s.power = .active ∧ s.on CZ_CTL_EN = false ∧ noReception s ∧ (∀ p : Fin 16, s.laneState p ≠ 7) ∧ czForbidden s = false ∧ (∀ p : Fin 16, s.on (CZ_LANE_CFG_EN p) = true → s.laneState p ≠ 15) ∧ s.on CZ_BSC_CTL_EN = false ∧ mayStore s core CZ_CTL_EN.addr :=
  ⟨0, st [(TB_STATUS_LOCKED, 1), (FE_CTL_EN, 1), (FE_CTL_EN_ACK, 1), (FE_CTL_CHA_EN, 1), (FE_WIN_CTL_FREQ, 8680000), (CZ_CTL_EN, 0), (CZ_LANE_CFG_EN 3, 1), (CZ_LANE_CFG_MODE 3, 2), (CZ_LANE_CFG_BIN 3, 9), (CZ_LANE_CFG_DIV 3, 1), (CZ_LANE_STAT_STATE 3, 1)], by decide⟩
theorem witness_preambleDetect : ∃ (n : Fin 16) (chain : Fin 2) (l : Nat) (s : State),
    s.power ≠ .off ∧ s.laneState n = 2 ∧ s.chainUp chain = true ∧ s.laneUses n chain = true ∧ s.on FE_CTL_SWDIV = false ∧ s.cz.windows = [] ∧ (∀ k : Fin 4, s.txf k = none) ∧ s.rdv.sniff = 0 ∧ s.logicalOf n = some l ∧ s.cz.lanes.length = 16 ∧ s.get (CZ_LANE_CFG_DIV n) ≠ 0 :=
  ⟨3, 0, 3, st [(TB_STATUS_LOCKED, 1), (FE_CTL_EN, 1), (FE_CTL_EN_ACK, 1), (FE_CTL_CHA_EN, 1), (FE_WIN_CTL_FREQ, 8680000), (CZ_CTL_EN, 1), (CZ_LANE_CFG_EN 3, 1), (CZ_LANE_CFG_MODE 3, 2), (CZ_LANE_CFG_BIN 3, 9), (CZ_LANE_CFG_DIV 3, 1), (CZ_LANE_STAT_STATE 3, 2)], by decide⟩
theorem witness_preambleDetectBoth : ∃ (n : Fin 16) (chain : Fin 2) (l : Nat) (s : State),
    s.power ≠ .off ∧ s.laneState n = 2 ∧ s.chainUp chain = true ∧ s.laneUses n chain = true ∧ s.on FE_CTL_SWDIV = false ∧ s.cz.windows = [] ∧ (∀ k : Fin 4, s.txf k = none) ∧ s.rdv.sniff = 0 ∧ s.logicalOf n = some l ∧ s.cz.lanes.length = 16 ∧ s.get (CZ_LANE_CFG_DIV n) = 0 ∧ s.chainUp 0 = true ∧ s.chainUp 1 = true :=
  ⟨3, 1, 3, st [(TB_STATUS_LOCKED, 1), (FE_CTL_EN, 1), (FE_CTL_EN_ACK, 1), (FE_CTL_CHA_EN, 1), (FE_WIN_CTL_FREQ, 8680000), (CZ_CTL_EN, 1), (CZ_LANE_CFG_EN 3, 1), (CZ_LANE_CFG_MODE 3, 2), (CZ_LANE_CFG_BIN 3, 9), (CZ_LANE_CFG_DIV 3, 1), (CZ_LANE_STAT_STATE 3, 2), (CZ_LANE_CFG_DIV 3, 0), (FE_CTL_CHB_EN, 1)], by decide⟩
theorem witness_diversityDecision : ∃ (n : Fin 16) (ma mb : BitVec 16) (s : State),
    s.power ≠ .off ∧ s.laneState n = 4 ∧ s.on FE_CTL_SWDIV = false ∧ (s.lane n).first < 2 :=
  ⟨3, 9, 4, st [(TB_STATUS_LOCKED, 1), (FE_CTL_EN, 1), (FE_CTL_EN_ACK, 1), (FE_CTL_CHA_EN, 1), (FE_WIN_CTL_FREQ, 8680000), (CZ_CTL_EN, 1), (CZ_LANE_CFG_EN 3, 1), (CZ_LANE_CFG_MODE 3, 2), (CZ_LANE_CFG_BIN 3, 9), (CZ_LANE_CFG_DIV 3, 1), (CZ_LANE_STAT_STATE 3, 4)], by decide⟩
theorem witness_syncWordDetect : ∃ (n : Fin 16) (rssi snr8 cfo : BitVec 16) (coded : Bool) (s : State),
    s.power ≠ .off ∧ s.laneState n = 3 ∧ s.chainUp (s.laneChain n) = true ∧ s.get LS_SNF_INT_INT = 0 ∧ s.cz.lanes.length = 16 :=
  ⟨3, 0xFF38, 80, 5, false, atTick (st [(TB_STATUS_LOCKED, 1), (FE_CTL_EN, 1), (FE_CTL_EN_ACK, 1), (FE_CTL_CHA_EN, 1), (FE_WIN_CTL_FREQ, 8680000), (CZ_CTL_EN, 1), (CZ_LANE_CFG_EN 3, 1), (CZ_LANE_CFG_MODE 3, 2), (CZ_LANE_CFG_BIN 3, 9), (CZ_LANE_CFG_DIV 3, 1), (CZ_LANE_STAT_STATE 3, 3)]) 100000, by decide⟩
theorem witness_syncTimeout : ∃ (n : Fin 16) (s : State),
    s.power ≠ .off ∧ (s.laneState n = 3 ∨ s.laneState n = 4) ∧ (CZ_LANE_DCFG_STO n).ofWord (s.lane n).dcfg ≠ 0 ∧ (s.lane n).detAt + (CZ_LANE_DCFG_STO n).ofWord (s.lane n).dcfg * 64 * sym3 (s.get (CZ_LANE_CFG_MODE n)) / 3 ≤ s.now ∧ s.on FE_CTL_SWDIV = false :=
  ⟨3, { atTick (st [(TB_STATUS_LOCKED, 1), (FE_CTL_EN, 1), (FE_CTL_EN_ACK, 1), (FE_CTL_CHA_EN, 1), (FE_WIN_CTL_FREQ, 8680000), (CZ_CTL_EN, 1), (CZ_LANE_CFG_EN 3, 1), (CZ_LANE_CFG_MODE 3, 2), (CZ_LANE_CFG_BIN 3, 9), (CZ_LANE_CFG_DIV 3, 1), (CZ_LANE_STAT_STATE 3, 3)]) 1000000000 with cz := { ChannelS.reset with lanes := ChannelS.reset.lanes.set 3 { LaneS.reset with dcfg := 0xFFFFFFFF } } }, by decide⟩
theorem witness_preambleLost : ∃ (n : Fin 16) (s : State),
    s.power ≠ .off ∧ (s.laneState n = 3 ∨ s.laneState n = 4) ∧ s.on FE_CTL_SWDIV = false :=
  ⟨3, st [(TB_STATUS_LOCKED, 1), (FE_CTL_EN, 1), (FE_CTL_EN_ACK, 1), (FE_CTL_CHA_EN, 1), (FE_WIN_CTL_FREQ, 8680000), (CZ_CTL_EN, 1), (CZ_LANE_CFG_EN 3, 1), (CZ_LANE_CFG_MODE 3, 2), (CZ_LANE_CFG_BIN 3, 9), (CZ_LANE_CFG_DIV 3, 1), (CZ_LANE_STAT_STATE 3, 3)], by decide⟩
theorem witness_phrEnd : ∃ (n : Fin 16) (phr : BitVec 16) (r : Reception) (len : Nat) (fcs2 dw : Bool) (s : State),
    s.power ≠ .off ∧ s.laneState n = 5 ∧ (s.lane n).rx = some r ∧ s.cz.lanes.length = 16 ∧ r.phr = false ∧ readPhr r.mode phr.toNat = some (len, fcs2, dw) ∧ s.get FW_ADM0_RXMIN + cellsFor (len - fcsLen fcs2) ≤ freeCells s :=
  ⟨3, 100, rx0, 100, false, false, withRx (st [(TB_STATUS_LOCKED, 1), (FE_CTL_EN, 1), (FE_CTL_EN_ACK, 1), (FE_CTL_CHA_EN, 1), (FE_WIN_CTL_FREQ, 8680000), (CZ_CTL_EN, 1), (CZ_LANE_CFG_EN 3, 1), (CZ_LANE_CFG_MODE 3, 2), (CZ_LANE_CFG_BIN 3, 9), (CZ_LANE_CFG_DIV 3, 1), (CZ_LANE_STAT_STATE 3, 5)]) rx0, by decide⟩
theorem witness_phrRefused : ∃ (n : Fin 16) (phr : BitVec 16) (r : Reception) (len : Nat) (fcs2 dw : Bool) (s : State),
    s.power ≠ .off ∧ s.laneState n = 5 ∧ (s.lane n).rx = some r ∧ s.cz.lanes.length = 16 ∧ r.phr = false ∧ readPhr r.mode phr.toNat = some (len, fcs2, dw) ∧ freeCells s < s.get FW_ADM0_RXMIN + cellsFor (len - fcsLen fcs2) :=
  ⟨3, 100, rx0, 100, false, false, { withRx (st [(TB_STATUS_LOCKED, 1), (FE_CTL_EN, 1), (FE_CTL_EN_ACK, 1), (FE_CTL_CHA_EN, 1), (FE_WIN_CTL_FREQ, 8680000), (CZ_CTL_EN, 1), (CZ_LANE_CFG_EN 3, 1), (CZ_LANE_CFG_MODE 3, 2), (CZ_LANE_CFG_BIN 3, 9), (CZ_LANE_CFG_DIV 3, 1), (CZ_LANE_STAT_STATE 3, 5)]) rx0 with fw := { ForwardS.reset with freeNext := 4096 } }, by decide⟩
theorem witness_phrError : ∃ (n : Fin 16) (phr : BitVec 16) (r : Reception) (s : State),
    s.power ≠ .off ∧ s.laneState n = 5 ∧ (s.lane n).rx = some r ∧ s.cz.lanes.length = 16 ∧ r.phr = false ∧ r.taken = [] ∧ readPhr r.mode phr.toNat = none ∧ (s.lane n).move = none :=
  ⟨3, 0x8000, rx0, withRx (st [(TB_STATUS_LOCKED, 1), (FE_CTL_EN, 1), (FE_CTL_EN_ACK, 1), (FE_CTL_CHA_EN, 1), (FE_WIN_CTL_FREQ, 8680000), (CZ_CTL_EN, 1), (CZ_LANE_CFG_EN 3, 1), (CZ_LANE_CFG_MODE 3, 2), (CZ_LANE_CFG_BIN 3, 9), (CZ_LANE_CFG_DIV 3, 1), (CZ_LANE_STAT_STATE 3, 5)]) rx0, by decide⟩
theorem witness_frameEndBadFcs : ∃ (n : Fin 16) (psdu : List Byte) (r : Reception) (d body : List Byte) (s : State),
    s.power ≠ .off ∧ s.laneState n = 5 ∧ (s.lane n).rx = some r ∧ r.phr = true ∧ r.adm = 1 ∧ psdu.length = r.len ∧ psdu.length ≤ 2047 ∧ (d = if r.dw then whiten psdu else psdu) ∧ body = d.take (d.length - fcsLen r.fcs2) ∧ r.cells ≤ r.taken.length ∧ r.taken ≠ [] ∧ r.taken.Nodup ∧ (∀ c ∈ r.taken, c < 4096) ∧ body.length ≤ 128 * r.taken.length ∧ (s.lane n).move = none ∧ s.cz.lanes.length = 16 ∧ fcsOk r.fcs2 d = false :=
  ⟨3, [0x41, 0x88, 1, 2, 3, 4, 5], { rx0 with phr := true, adm := 1, len := 7, cells := 1, taken := [7] }, [0x41, 0x88, 1, 2, 3, 4, 5], [0x41, 0x88, 1], withRx (st [(TB_STATUS_LOCKED, 1), (FE_CTL_EN, 1), (FE_CTL_EN_ACK, 1), (FE_CTL_CHA_EN, 1), (FE_WIN_CTL_FREQ, 8680000), (CZ_CTL_EN, 1), (CZ_LANE_CFG_EN 3, 1), (CZ_LANE_CFG_MODE 3, 2), (CZ_LANE_CFG_BIN 3, 9), (CZ_LANE_CFG_DIV 3, 1), (CZ_LANE_STAT_STATE 3, 5)]) { rx0 with phr := true, adm := 1, len := 7, cells := 1, taken := [7] }, by decide⟩
theorem witness_frameEndPassed : ∃ (n : Fin 16) (psdu : List Byte) (r : Reception) (d body : List Byte) (s : State),
    s.power ≠ .off ∧ s.laneState n = 5 ∧ (s.lane n).rx = some r ∧ r.phr = true ∧ r.adm = 1 ∧ psdu.length = r.len ∧ psdu.length ≤ 2047 ∧ (d = if r.dw then whiten psdu else psdu) ∧ body = d.take (d.length - fcsLen r.fcs2) ∧ r.cells ≤ r.taken.length ∧ r.taken ≠ [] ∧ r.taken.Nodup ∧ (∀ c ∈ r.taken, c < 4096) ∧ body.length ≤ 128 * r.taken.length ∧ (s.lane n).move = none ∧ s.cz.lanes.length = 16 ∧ fcsOk r.fcs2 d = true ∧ s.on FW_CTL_EN = true ∧ s.on LS_FILT_CFG_PROMISC = true :=
  ⟨3, ([0x41, 0x88, 1, 2, 3, 4, 5] ++ fcsOf false [0x41, 0x88, 1, 2, 3, 4, 5]), { rx0 with phr := true, adm := 1, len := 11, cells := 1, taken := [7] }, ([0x41, 0x88, 1, 2, 3, 4, 5] ++ fcsOf false [0x41, 0x88, 1, 2, 3, 4, 5]), [0x41, 0x88, 1, 2, 3, 4, 5], withRx (st [(TB_STATUS_LOCKED, 1), (FE_CTL_EN, 1), (FE_CTL_EN_ACK, 1), (FE_CTL_CHA_EN, 1), (FE_WIN_CTL_FREQ, 8680000), (CZ_CTL_EN, 1), (CZ_LANE_CFG_EN 3, 1), (CZ_LANE_CFG_MODE 3, 2), (CZ_LANE_CFG_BIN 3, 9), (CZ_LANE_CFG_DIV 3, 1), (CZ_LANE_STAT_STATE 3, 5), (LS_FILT_CFG_PROMISC, 1), (FW_CTL_EN, 1)]) { rx0 with phr := true, adm := 1, len := 11, cells := 1, taken := [7] }, by decide⟩
theorem witness_frameEnd : ∃ (n : Fin 16) (psdu : List Byte) (r : Reception) (d body : List Byte) (m : Mac) (e : Ies) (s : State),
    s.power ≠ .off ∧ s.laneState n = 5 ∧ (s.lane n).rx = some r ∧ r.phr = true ∧ r.adm = 1 ∧ psdu.length = r.len ∧ psdu.length ≤ 2047 ∧ (d = if r.dw then whiten psdu else psdu) ∧ body = d.take (d.length - fcsLen r.fcs2) ∧ r.cells ≤ r.taken.length ∧ r.taken ≠ [] ∧ r.taken.Nodup ∧ (∀ c ∈ r.taken, c < 4096) ∧ body.length ≤ 128 * r.taken.length ∧ (s.lane n).move = none ∧ s.cz.lanes.length = 16 ∧ fcsOk r.fcs2 d = true ∧ s.on FW_CTL_EN = true ∧ readMac body = m ∧ s.on LS_FILT_CFG_PROMISC = false ∧ m.ver = 2 ∧ (m.typ = 1 ∨ m.typ = 3) ∧ frameIes body m (s.get LS_OUI_OUI) = e ∧ e.err = false ∧ filterPass s m = true ∧ m.sec = false ∧ e.wake = none ∧ ackDue s m = false :=
  ⟨3, (whiten ([0x41, 0xA8, 1, 0x34, 0x12, 1, 0, 5, 0, 9, 9] ++ fcsOf false [0x41, 0xA8, 1, 0x34, 0x12, 1, 0, 5, 0, 9, 9])), { rx0 with phr := true, adm := 1, len := 15, cells := 1, taken := [7], dw := true }, ([0x41, 0xA8, 1, 0x34, 0x12, 1, 0, 5, 0, 9, 9] ++ fcsOf false [0x41, 0xA8, 1, 0x34, 0x12, 1, 0, 5, 0, 9, 9]), [0x41, 0xA8, 1, 0x34, 0x12, 1, 0, 5, 0, 9, 9], (readMac [0x41, 0xA8, 1, 0x34, 0x12, 1, 0, 5, 0, 9, 9]), (frameIes [0x41, 0xA8, 1, 0x34, 0x12, 1, 0, 5, 0, 9, 9] (readMac [0x41, 0xA8, 1, 0x34, 0x12, 1, 0, 5, 0, 9, 9]) 0), withRx (st [(TB_STATUS_LOCKED, 1), (FE_CTL_EN, 1), (FE_CTL_EN_ACK, 1), (FE_CTL_CHA_EN, 1), (FE_WIN_CTL_FREQ, 8680000), (CZ_CTL_EN, 1), (CZ_LANE_CFG_EN 3, 1), (CZ_LANE_CFG_MODE 3, 2), (CZ_LANE_CFG_BIN 3, 9), (CZ_LANE_CFG_DIV 3, 1), (CZ_LANE_STAT_STATE 3, 5), (LS_FILT_CFG_PAN_ID, 0x1234), (LS_SHORT_NODE_ID, 1), (FW_CTL_EN, 1)]) { rx0 with phr := true, adm := 1, len := 15, cells := 1, taken := [7], dw := true }, by decide⟩
theorem witness_frameEndAcknowledged : ∃ (n : Fin 16) (psdu : List Byte) (r : Reception) (d body : List Byte) (m : Mac) (e : Ies) (s : State),
    s.power ≠ .off ∧ s.laneState n = 5 ∧ (s.lane n).rx = some r ∧ r.phr = true ∧ r.adm = 1 ∧ psdu.length = r.len ∧ psdu.length ≤ 2047 ∧ (d = if r.dw then whiten psdu else psdu) ∧ body = d.take (d.length - fcsLen r.fcs2) ∧ r.cells ≤ r.taken.length ∧ r.taken ≠ [] ∧ r.taken.Nodup ∧ (∀ c ∈ r.taken, c < 4096) ∧ body.length ≤ 128 * r.taken.length ∧ (s.lane n).move = none ∧ s.cz.lanes.length = 16 ∧ fcsOk r.fcs2 d = true ∧ s.on FW_CTL_EN = true ∧ readMac body = m ∧ s.on LS_FILT_CFG_PROMISC = false ∧ m.ver = 2 ∧ (m.typ = 1 ∨ m.typ = 3) ∧ frameIes body m (s.get LS_OUI_OUI) = e ∧ e.err = false ∧ filterPass s m = true ∧ m.sec = false ∧ e.wake = none ∧ ackDue s m = true ∧ s.on CX_CTL_EN = false ∧ s.dc.coex = [] :=
  ⟨3, ([0x61, 0xA8, 1, 0x34, 0x12, 1, 0, 5, 0, 9, 9] ++ fcsOf false [0x61, 0xA8, 1, 0x34, 0x12, 1, 0, 5, 0, 9, 9]), { rx0 with phr := true, adm := 1, len := 15, cells := 1, taken := [7] }, ([0x61, 0xA8, 1, 0x34, 0x12, 1, 0, 5, 0, 9, 9] ++ fcsOf false [0x61, 0xA8, 1, 0x34, 0x12, 1, 0, 5, 0, 9, 9]), [0x61, 0xA8, 1, 0x34, 0x12, 1, 0, 5, 0, 9, 9], (readMac [0x61, 0xA8, 1, 0x34, 0x12, 1, 0, 5, 0, 9, 9]), (frameIes [0x61, 0xA8, 1, 0x34, 0x12, 1, 0, 5, 0, 9, 9] (readMac [0x61, 0xA8, 1, 0x34, 0x12, 1, 0, 5, 0, 9, 9]) 0), withRx (st [(TB_STATUS_LOCKED, 1), (FE_CTL_EN, 1), (FE_CTL_EN_ACK, 1), (FE_CTL_CHA_EN, 1), (FE_WIN_CTL_FREQ, 8680000), (CZ_CTL_EN, 1), (CZ_LANE_CFG_EN 3, 1), (CZ_LANE_CFG_MODE 3, 2), (CZ_LANE_CFG_BIN 3, 9), (CZ_LANE_CFG_DIV 3, 1), (CZ_LANE_STAT_STATE 3, 5), (LS_FILT_CFG_PAN_ID, 0x1234), (LS_SHORT_NODE_ID, 1), (FW_CTL_EN, 1), (LS_CTL_EN, 1)]) { rx0 with phr := true, adm := 1, len := 15, cells := 1, taken := [7] }, by (repeat' apply And.intro) <;> decide⟩
theorem witness_selftestStart : ∃ (s : State),
    s.power = .active ∧ s.on CZ_SELF_CTL_EN = true ∧ s.get CZ_SELF_CTL_PERIOD ≠ 0 ∧ s.cz.selfNext ≤ s.now :=
  ⟨atTick (st [(TB_STATUS_LOCKED, 1), (FE_CTL_EN, 1), (FE_CTL_EN_ACK, 1), (FE_CTL_CHA_EN, 1), (FE_WIN_CTL_FREQ, 8680000), (CZ_CTL_EN, 1), (CZ_LANE_CFG_EN 3, 1), (CZ_LANE_CFG_MODE 3, 2), (CZ_LANE_CFG_BIN 3, 9), (CZ_LANE_CFG_DIV 3, 1), (CZ_LANE_STAT_STATE 3, 1), (CZ_SELF_CTL_EN, 1), (CZ_SELF_CTL_PERIOD, 2)]) 200000000, by decide⟩
theorem witness_selftestEnd : ∃ (n : Fin 16) (ok : Bool) (s : State),
    s.power ≠ .off ∧ ok = true ∧ s.laneState n = 6 :=
  ⟨3, true, st [(TB_STATUS_LOCKED, 1), (FE_CTL_EN, 1), (FE_CTL_EN_ACK, 1), (FE_CTL_CHA_EN, 1), (FE_WIN_CTL_FREQ, 8680000), (CZ_CTL_EN, 1), (CZ_LANE_CFG_EN 3, 1), (CZ_LANE_CFG_MODE 3, 2), (CZ_LANE_CFG_BIN 3, 9), (CZ_LANE_CFG_DIV 3, 1), (CZ_LANE_STAT_STATE 3, 6)], by decide⟩
theorem witness_laneFail : ∃ (n : Fin 16) (s : State),
    s.power ≠ .off ∧ s.laneState n ≠ 15 ∧ noReception s ∧ s.on CZ_SELF_CTL_SPARE = false ∧ s.fc.recov = [] ∧ s.fc.hist = [] ∧ s.fc.queue.length < 16 ∧ s.get FC_CFG_ESC_LIM ≠ 1 :=
  ⟨3, st [(TB_STATUS_LOCKED, 1), (FE_CTL_EN, 1), (FE_CTL_EN_ACK, 1), (FE_CTL_CHA_EN, 1), (FE_WIN_CTL_FREQ, 8680000), (CZ_CTL_EN, 1), (CZ_LANE_CFG_EN 3, 1), (CZ_LANE_CFG_MODE 3, 2), (CZ_LANE_CFG_BIN 3, 9), (CZ_LANE_CFG_DIV 3, 1), (CZ_LANE_STAT_STATE 3, 1), (CZ_SELF_CTL_SPARE, 0)], by decide⟩
theorem witness_bscSample : ∃ (s : State),
    s.power ≠ .off ∧ s.on CZ_CTL_PATH = false ∧ s.on CZ_BSC_CTL_EN = true ∧ s.cz.sampleNext ≤ s.now ∧ (s.chainUp 0 = true ∨ s.chainUp 1 = true) ∧ s.on CZ_BSC_STAT_SURV = false :=
  ⟨{ st [(TB_STATUS_LOCKED, 1), (FE_CTL_EN, 1), (FE_CTL_EN_ACK, 1), (FE_CTL_CHA_EN, 1), (FE_WIN_CTL_FREQ, 8680000), (CZ_CTL_EN, 1), (CZ_LANE_CFG_EN 3, 1), (CZ_LANE_CFG_MODE 3, 2), (CZ_LANE_CFG_BIN 3, 9), (CZ_LANE_CFG_DIV 3, 1), (CZ_LANE_STAT_STATE 3, 2), (CZ_LANE_CFG_BSC 3, 1), (CZ_BSC_CTL_EN, 1), (FE_LRPT_NOW_RSSI 3, 0xFF38)] with cz := { ChannelS.reset with nf := [(9, 0xFF00)] } }, by decide⟩
theorem witness_surveyStep : ∃ (s : State),
    s.power ≠ .off ∧ s.on CZ_BSC_STAT_SURV = true ∧ s.cz.surveyNext ≤ s.now ∧ (surveyLane s).isSome = true :=
  ⟨st [(TB_STATUS_LOCKED, 1), (FE_CTL_EN, 1), (FE_CTL_EN_ACK, 1), (FE_CTL_CHA_EN, 1), (FE_WIN_CTL_FREQ, 8680000), (CZ_CTL_EN, 1), (CZ_LANE_CFG_EN 3, 1), (CZ_LANE_CFG_MODE 3, 2), (CZ_LANE_CFG_BIN 3, 9), (CZ_LANE_CFG_DIV 3, 1), (CZ_LANE_STAT_STATE 3, 2), (CZ_LANE_CFG_BSC 3, 1), (CZ_BSC_CTL_EN, 1), (CZ_BSC_CTL_PERIOD, 4), (CZ_BSC_CTL_SURVEY, 5), (CZ_LANE_STAT_STATE 5, 7), (CZ_BSC_STAT_SURV, 1), (CZ_BSC_STAT_SBIN, 35)], by decide⟩
theorem witness_bscDecision : ∃  (out inn : Nat) (s : State),
    s.power ≠ .off ∧ s.on CZ_CTL_PATH = false ∧ s.on CZ_BSC_CTL_EN = true ∧ s.get CZ_BSC_CTL_PERIOD ≠ 0 ∧ s.cz.decideNext ≤ s.now ∧ s.on CZ_BSC_STAT_PEND = false ∧ (4 ≤ out ∧ out ≤ 35 ∧ inSet s out = true ∧ bitOf (s.get CZ_BSC_KEEP_KEEP) (out - 4) = false) ∧ (∀ i : Fin 32, inSet s (i + 4) = true → bitOf (s.get CZ_BSC_KEEP_KEEP) i = false → binCost s (i + 4) < binCost s out ∨ (binCost s (i + 4) = binCost s out ∧ out ≤ i + 4)) ∧ (inn ∈ candidates s ∧ (assocGet s.cz.nf inn).isSome = true) ∧ (∀ k ∈ candidates s, (assocGet s.cz.nf k).isSome = true → binCost s inn < binCost s k ∨ (binCost s k = binCost s inn ∧ inn ≤ k)) ∧ (s.get CZ_BSC_CTL_HYST : Int) ≤ binCost s out - binCost s inn :=
  ⟨9, 20, { st [(TB_STATUS_LOCKED, 1), (FE_CTL_EN, 1), (FE_CTL_EN_ACK, 1), (FE_CTL_CHA_EN, 1), (FE_WIN_CTL_FREQ, 8680000), (CZ_CTL_EN, 1), (CZ_LANE_CFG_EN 3, 1), (CZ_LANE_CFG_MODE 3, 2), (CZ_LANE_CFG_BIN 3, 9), (CZ_LANE_CFG_DIV 3, 1), (CZ_LANE_STAT_STATE 3, 2), (CZ_LANE_CFG_BSC 3, 1), (CZ_BSC_CTL_EN, 1), (CZ_BSC_CTL_PERIOD, 4), (CZ_BSC_CTL_HYST, 2)] with cz := { ChannelS.reset with nf := [(20, 0xFF00)] } }, by decide⟩
theorem witness_bscDecisionKeeps : ∃ (s : State),
    s.power ≠ .off ∧ s.on CZ_CTL_PATH = false ∧ s.on CZ_BSC_CTL_EN = true ∧ s.get CZ_BSC_CTL_PERIOD ≠ 0 ∧ s.cz.decideNext ≤ s.now ∧ s.on CZ_BSC_STAT_PEND = false ∧ (∀ o ∈ List.range 36, ∀ i ∈ candidates s, (4 ≤ o ∧ o ≤ 35 ∧ inSet s o = true ∧ bitOf (s.get CZ_BSC_KEEP_KEEP) (o - 4) = false) → (assocGet s.cz.nf i).isSome = true → binCost s o - binCost s i < (s.get CZ_BSC_CTL_HYST : Int)) :=
  ⟨{ st [(TB_STATUS_LOCKED, 1), (FE_CTL_EN, 1), (FE_CTL_EN_ACK, 1), (FE_CTL_CHA_EN, 1), (FE_WIN_CTL_FREQ, 8680000), (CZ_CTL_EN, 1), (CZ_LANE_CFG_EN 3, 1), (CZ_LANE_CFG_MODE 3, 2), (CZ_LANE_CFG_BIN 3, 9), (CZ_LANE_CFG_DIV 3, 1), (CZ_LANE_STAT_STATE 3, 2), (CZ_LANE_CFG_BSC 3, 1), (CZ_BSC_CTL_EN, 1), (CZ_BSC_CTL_PERIOD, 4), (CZ_BSC_CTL_HYST, 60)] with cz := { ChannelS.reset with nf := [(20, 0)] } }, by decide⟩
theorem witness_bscChange : ∃ (s : State),
    s.power ≠ .off ∧ noReception s ∧ s.on CZ_CTL_PATH = false ∧ s.on CZ_BSC_STAT_PEND = true ∧ s.get64 CZ_BSC_EFF_LO_EFF CZ_BSC_EFF_HI_EFF ≤ s.dtime ∧ binHeld s (s.get CZ_BSC_STAT_IN) = false ∧ inSet s (s.get CZ_BSC_STAT_OUT) = true ∧ (∀ p : Fin 16, managed s p = true → s.laneState p = s.restState p) :=
  ⟨st [(TB_STATUS_LOCKED, 1), (FE_CTL_EN, 1), (FE_CTL_EN_ACK, 1), (FE_CTL_CHA_EN, 1), (FE_WIN_CTL_FREQ, 8680000), (CZ_CTL_EN, 1), (CZ_LANE_CFG_EN 3, 1), (CZ_LANE_CFG_MODE 3, 2), (CZ_LANE_CFG_BIN 3, 9), (CZ_LANE_CFG_DIV 3, 1), (CZ_LANE_STAT_STATE 3, 2), (CZ_LANE_CFG_BSC 3, 1), (CZ_BSC_CTL_EN, 1), (CZ_LANE_STAT_ARMED_FW 3, 1), (CZ_BSC_STAT_PEND, 1), (CZ_BSC_STAT_OUT, 9), (CZ_BSC_STAT_IN, 20)], by decide⟩
theorem witness_bscDisable : ∃ (core : Cpu) (s : State),
    s.power = .active ∧ s.on CZ_BSC_CTL_EN = true ∧ mayStore s core CZ_BSC_CTL_EN.addr :=
  ⟨0, st [(TB_STATUS_LOCKED, 1), (FE_CTL_EN, 1), (FE_CTL_EN_ACK, 1), (FE_CTL_CHA_EN, 1), (FE_WIN_CTL_FREQ, 8680000), (CZ_CTL_EN, 1), (CZ_LANE_CFG_EN 3, 1), (CZ_LANE_CFG_MODE 3, 2), (CZ_LANE_CFG_BIN 3, 9), (CZ_LANE_CFG_DIV 3, 1), (CZ_LANE_STAT_STATE 3, 2), (CZ_LANE_CFG_BSC 3, 1), (CZ_BSC_CTL_EN, 1), (CZ_BSC_CTL_PERIOD, 4), (CZ_BSC_CTL_SURVEY, 5), (CZ_LANE_STAT_STATE 5, 7), (CZ_BSC_STAT_SURV, 1)], by decide⟩
theorem witness_mov : ∃ (n : Fin 4) (w : Word) (s : State),
    issueTurn s = some n.val ∧ s.power = .active ∧ imemWord s (s.thPc n) = w ∧ insnOp w = opMov ∧ legalWord w = true ∧ (s.thread n).since < 1023 ∧ s.ls.threads.length = 4 ∧ (s.thread n).replay = none :=
  ⟨1, 0x3044000, atInsn (st [(LS_T_S_VALUE 1 2, 7), (LS_T_S_VALUE 1 3, 0x80000000), (LS_T_S_VALUE 1 4, 9), (LS_T_S_VALUE 1 5, 0x80000001)]) 1 0x3044000, by decide⟩
theorem witness_movi : ∃ (n : Fin 4) (w : Word) (s : State),
    issueTurn s = some n.val ∧ s.power = .active ∧ imemWord s (s.thPc n) = w ∧ insnOp w = opMovi ∧ legalWord w = true ∧ (s.thread n).since < 1023 ∧ s.ls.threads.length = 4 ∧ (s.thread n).replay = none :=
  ⟨1, 0xa40abcd, atInsn (st [(LS_T_S_VALUE 1 2, 7), (LS_T_S_VALUE 1 3, 0x80000000), (LS_T_S_VALUE 1 4, 9), (LS_T_S_VALUE 1 5, 0x80000001)]) 1 0xa40abcd, by decide⟩
theorem witness_add : ∃ (n : Fin 4) (w : Word) (s : State),
    issueTurn s = some n.val ∧ s.power = .active ∧ imemWord s (s.thPc n) = w ∧ insnOp w = opAdd ∧ legalWord w = true ∧ (s.thread n).since < 1023 ∧ s.ls.threads.length = 4 ∧ (s.thread n).replay = none :=
  ⟨1, 0x13148000, atInsn (st [(LS_T_S_VALUE 1 2, 7), (LS_T_S_VALUE 1 3, 0x80000000), (LS_T_S_VALUE 1 4, 9), (LS_T_S_VALUE 1 5, 0x80000001)]) 1 0x13148000, by decide⟩
theorem witness_sub : ∃ (n : Fin 4) (w : Word) (s : State),
    issueTurn s = some n.val ∧ s.power = .active ∧ imemWord s (s.thPc n) = w ∧ insnOp w = opSub ∧ legalWord w = true ∧ (s.thread n).since < 1023 ∧ s.ls.threads.length = 4 ∧ (s.thread n).replay = none :=
  ⟨1, 0x1b18a000, atInsn (st [(LS_T_S_VALUE 1 2, 7), (LS_T_S_VALUE 1 3, 0x80000000), (LS_T_S_VALUE 1 4, 9), (LS_T_S_VALUE 1 5, 0x80000001)]) 1 0x1b18a000, by decide⟩
theorem witness_cmp : ∃ (n : Fin 4) (w : Word) (s : State),
    issueTurn s = some n.val ∧ s.power = .active ∧ imemWord s (s.thPc n) = w ∧ insnOp w = opCmp ∧ legalWord w = true ∧ (s.thread n).since < 1023 ∧ s.ls.threads.length = 4 ∧ (s.thread n).replay = none :=
  ⟨1, 0x2013fff8, atInsn (st [(LS_T_S_VALUE 1 2, 7), (LS_T_S_VALUE 1 3, 0x80000000), (LS_T_S_VALUE 1 4, 9), (LS_T_S_VALUE 1 5, 0x80000001)]) 1 0x2013fff8, by decide⟩
theorem witness_ldt : ∃ (n : Fin 4) (w : Word) (s : State),
    issueTurn s = some n.val ∧ s.power = .active ∧ imemWord s (s.thPc n) = w ∧ insnOp w = opLdt ∧ legalWord w = true ∧ (s.thread n).since < 1023 ∧ s.ls.threads.length = 4 ∧ (s.thread n).replay = none :=
  ⟨1, 0x5b100002, atInsn (atTick (st [(LS_T_S_VALUE 1 2, 7), (LS_T_S_VALUE 1 3, 0x80000000), (LS_T_S_VALUE 1 4, 9), (LS_T_S_VALUE 1 5, 0x80000001)]) 77) 1 0x5b100002, by decide⟩
theorem witness_yieldCheckpoint : ∃ (n : Fin 4) (w : Word) (s : State),
    issueTurn s = some n.val ∧ s.power = .active ∧ imemWord s (s.thPc n) = w ∧ insnOp w = opYield ∧ legalWord w = true ∧ s.ls.threads.length = 4 ∧ (s.thread n).replay = none ∧ (s.thread n).since = 1023 :=
  ⟨1, 0x48000000, withThread (atInsn (st []) 1 0x48000000) { ThreadS.reset with since := 1023 }, by decide⟩
theorem witness_jmp : ∃ (n : Fin 4) (w : Word) (s : State),
    issueTurn s = some n.val ∧ s.power = .active ∧ imemWord s (s.thPc n) = w ∧ insnOp w = opJmp ∧ legalWord w = true ∧ (s.thread n).since < 1023 ∧ s.ls.threads.length = 4 ∧ (s.thread n).replay = none :=
  ⟨1, 0x28000123, atInsn (st []) 1 0x28000123, by decide⟩
theorem witness_jcc : ∃ (n : Fin 4) (w : Word) (s : State),
    issueTurn s = some n.val ∧ s.power = .active ∧ imemWord s (s.thPc n) = w ∧ insnOp w = opJcc ∧ legalWord w = true ∧ (s.thread n).since < 1023 ∧ s.ls.threads.length = 4 ∧ (s.thread n).replay = none :=
  ⟨1, 0x32000123, atInsn (st []) 1 0x32000123, by decide⟩
theorem witness_call : ∃ (n : Fin 4) (w : Word) (l : List Nat) (s : State),
    issueTurn s = some n.val ∧ s.power = .active ∧ imemWord s (s.thPc n) = w ∧ insnOp w = opCall ∧ legalWord w = true ∧ (s.thread n).since < 1023 ∧ s.ls.threads.length = 4 ∧ (s.thread n).replay = none ∧ (s.thread n).stack = l ∧ l.length < 2 :=
  ⟨1, 0x38000123, [9], withThread (atInsn (st []) 1 0x38000123) { ThreadS.reset with stack := [9] }, by decide⟩
theorem witness_callOverflow : ∃ (n : Fin 4) (w : Word) (s : State),
    issueTurn s = some n.val ∧ s.power = .active ∧ imemWord s (s.thPc n) = w ∧ insnOp w = opCall ∧ legalWord w = true ∧ (s.thread n).since < 1023 ∧ s.ls.threads.length = 4 ∧ (s.thread n).replay = none ∧ (s.thread n).stack.length = 2 :=
  ⟨1, 0x38000123, withThread (atInsn (st []) 1 0x38000123) { ThreadS.reset with stack := [9, 10] }, by decide⟩
theorem witness_ret : ∃ (n : Fin 4) (w : Word) (r : Nat) (l : List Nat) (s : State),
    issueTurn s = some n.val ∧ s.power = .active ∧ imemWord s (s.thPc n) = w ∧ insnOp w = opRet ∧ legalWord w = true ∧ (s.thread n).since < 1023 ∧ s.ls.threads.length = 4 ∧ (s.thread n).replay = none ∧ (s.thread n).stack = r :: l ∧ l.length < 2 :=
  ⟨1, 0x40000000, 9, [], withThread (atInsn (st []) 1 0x40000000) { ThreadS.reset with stack := [9] }, by decide⟩
theorem witness_retUnderflow : ∃ (n : Fin 4) (w : Word) (s : State),
    issueTurn s = some n.val ∧ s.power = .active ∧ imemWord s (s.thPc n) = w ∧ insnOp w = opRet ∧ legalWord w = true ∧ (s.thread n).since < 1023 ∧ s.ls.threads.length = 4 ∧ (s.thread n).replay = none ∧ (s.thread n).stack = [] :=
  ⟨1, 0x40000000, withThread (atInsn (st []) 1 0x40000000) { ThreadS.reset with stack := [] }, by decide⟩
theorem witness_yield : ∃ (n : Fin 4) (w : Word) (s : State),
    issueTurn s = some n.val ∧ s.power = .active ∧ imemWord s (s.thPc n) = w ∧ insnOp w = opYield ∧ legalWord w = true ∧ (s.thread n).since < 1023 ∧ s.ls.threads.length = 4 ∧ (s.thread n).replay = none :=
  ⟨1, 0x48000000, atInsn (st []) 1 0x48000000, by decide⟩
theorem witness_haltInsn : ∃ (n : Fin 4) (w : Word) (s : State),
    issueTurn s = some n.val ∧ s.power = .active ∧ imemWord s (s.thPc n) = w ∧ insnOp w = opHalt ∧ legalWord w = true ∧ (s.thread n).since < 1023 ∧ s.ls.threads.length = 4 ∧ (s.thread n).replay = none :=
  ⟨1, 0x50000000, atInsn (st []) 1 0x50000000, by decide⟩
theorem witness_illegal : ∃ (n : Fin 4) (s : State),
    issueTurn s = some n.val ∧ s.power = .active ∧ legalWord (imemWord s (s.thPc n)) = false ∧ s.ls.threads.length = 4 ∧ (s.thread n).replay = none :=
  ⟨1, atInsn (st []) 1 0xFFFFFFFF, by decide⟩
theorem witness_imemEcc : ∃ (n : Fin 4) (s : State),
    issueTurn s = some n.val ∧ s.power = .active ∧ s.ls.threads.length = 4 ∧ (s.thread n).replay = none ∧ s.on FC_CFG_IMEM_RST = false ∧ s.fc.queue.length < 16 :=
  ⟨1, atInsn (st []) 1 0x48000000, by decide⟩
theorem witness_waitt : ∃ (n : Fin 4) (w : Word) (s : State),
    issueTurn s = some n.val ∧ s.power = .active ∧ imemWord s (s.thPc n) = w ∧ insnOp w = opWaitt ∧ legalWord w = true ∧ (s.thread n).since < 1023 ∧ s.ls.threads.length = 4 ∧ (s.thread n).replay = none ∧ s.on LS_CTL_EN = true :=
  ⟨1, 0x63100000, atInsn ((st [(LS_CTL_EN, 1)]).setReg 0x40078018 0x98180001) 1 0x63100000, by decide⟩
theorem witness_waittDisabled : ∃ (n : Fin 4) (w : Word) (s : State),
    issueTurn s = some n.val ∧ s.power = .active ∧ imemWord s (s.thPc n) = w ∧ insnOp w = opWaitt ∧ legalWord w = true ∧ (s.thread n).since < 1023 ∧ s.ls.threads.length = 4 ∧ (s.thread n).replay = none ∧ s.on LS_CTL_EN = false :=
  ⟨1, 0x63100000, atInsn (st [(LS_CTL_EN, 0)]) 1 0x63100000, by decide⟩
theorem witness_waittRelease : ∃ (n : Fin 4) (x : WaitS) (s : State),
    s.power ≠ .off ∧ (s.thread n).wait = some x ∧ s.ls.threads.length = 4 ∧ (s.thread n).replay = none ∧ s.thState n = 2 ∧ x.inst ≤ s.counter x.sel ∧ x.bundle = [] ∧ x.dest < 16 :=
  ⟨1, { wait0 with prepared := false }, withThread (atTick (st [(LS_T_STAT_STATE 1, 2)]) 100) { ThreadS.reset with wait := some { wait0 with prepared := false } }, by decide⟩
theorem witness_waittReleaseAckpol : ∃ (n : Fin 4) (x : WaitS) (w a b : Word) (s : State),
    s.power ≠ .off ∧ (s.thread n).wait = some x ∧ s.ls.threads.length = 4 ∧ (s.thread n).replay = none ∧ s.thState n = 2 ∧ x.inst ≤ s.counter x.sel ∧ x.bundle = [(w, a, b)] ∧ insnOp w = opAckpol ∧ x.dest < 16 :=
  ⟨1, { wait0 with bundle := [(0x98000001, 0x0103, 0)] }, 0x98000001, 0x0103, 0, withThread (atTick (st [(LS_T_STAT_STATE 1, 2)]) 100) { ThreadS.reset with wait := some { wait0 with bundle := [(0x98000001, 0x0103, 0)] } }, by decide⟩
theorem witness_waittReleaseAny : ∃ (n : Fin 4) (x : WaitS) (s : State),
    s.power ≠ .off ∧ (s.thread n).wait = some x ∧ s.ls.threads.length = 4 ∧ (s.thread n).replay = none ∧ s.thState n = 2 ∧ x.inst ≤ s.counter x.sel ∧ x.dest < 16 :=
  ⟨1, { wait0 with bundle := [(0x98000001, 0x0103, 0), (0x88100000, 3, 0)] }, withThread (atTick (st [(LS_T_STAT_STATE 1, 2)]) 100) { ThreadS.reset with wait := some { wait0 with bundle := [(0x98000001, 0x0103, 0), (0x88100000, 3, 0)] } }, by decide⟩
theorem witness_waite : ∃ (n : Fin 4) (w : Word) (s : State),
    issueTurn s = some n.val ∧ s.power = .active ∧ imemWord s (s.thPc n) = w ∧ insnOp w = opWaite ∧ legalWord w = true ∧ (s.thread n).since < 1023 ∧ s.ls.threads.length = 4 ∧ (s.thread n).replay = none :=
  ⟨1, 0x6b14a002, atInsn (st [(LS_T_S_VALUE 1 2, 7), (LS_T_S_VALUE 1 3, 0x80000000), (LS_T_S_VALUE 1 4, 9), (LS_T_S_VALUE 1 5, 0x80000001)]) 1 0x6b14a002, by decide⟩
theorem witness_waiteDone : ∃ (n : Fin 4) (x : WaitS) (h : Nat) (s : State),
    s.power ≠ .off ∧ (s.thread n).wait = some x ∧ s.ls.threads.length = 4 ∧ (s.thread n).replay = none ∧ s.thState n = 3 ∧ s.get (pendBits n x.cond) &&& x.mask % 2 ^ 16 = h ∧ h ≠ 0 ∧ x.dest < 16 ∧ x.cond < 6 ∧ (s.thread n).haltReq = false :=
  ⟨1, wait0, 0x30, withThread (atTick (st [(LS_T_STAT_STATE 1, 3), (LS_T_PEND0_FRAME 1, 0x33)]) 100) { ThreadS.reset with wait := some wait0 }, by decide⟩
theorem witness_waiteTimeout : ∃ (n : Fin 4) (x : WaitS) (e : Nat) (s : State),
    s.power ≠ .off ∧ (s.thread n).wait = some x ∧ s.ls.threads.length = 4 ∧ (s.thread n).replay = none ∧ s.thState n = 3 ∧ s.get (pendBits n x.cond) &&& x.mask % 2 ^ 16 = 0 ∧ x.tmo = some e ∧ e ≤ s.now ∧ x.dest < 16 ∧ (s.thread n).haltReq = false :=
  ⟨1, wait0, 5, withThread (atTick (st [(LS_T_STAT_STATE 1, 3), (LS_T_PEND0_FRAME 1, 0x3)]) 100) { ThreadS.reset with wait := some wait0 }, by decide⟩
theorem witness_tune : ∃ (n : Fin 4) (w : Word) (s : State),
    issueTurn s = some n.val ∧ s.power = .active ∧ imemWord s (s.thPc n) = w ∧ insnOp w = opTune ∧ legalWord w = true ∧ (s.thread n).since < 1023 ∧ s.ls.threads.length = 4 ∧ (s.thread n).replay = none :=
  ⟨1, 0x70100000, atInsn (st [(LS_T_S_VALUE 1 2, 7), (LS_T_S_VALUE 1 3, 0x80000000), (LS_T_S_VALUE 1 4, 9), (LS_T_S_VALUE 1 5, 0x80000001)]) 1 0x70100000, by decide⟩
theorem witness_lane : ∃ (n : Fin 4) (w : Word) (s : State),
    issueTurn s = some n.val ∧ s.power = .active ∧ imemWord s (s.thPc n) = w ∧ insnOp w = opLane ∧ legalWord w = true ∧ (s.thread n).since < 1023 ∧ s.ls.threads.length = 4 ∧ (s.thread n).replay = none :=
  ⟨1, 0x78106000, atInsn (st [(LS_T_S_VALUE 1 2, 7), (LS_T_S_VALUE 1 3, 0x80000000), (LS_T_S_VALUE 1 4, 9), (LS_T_S_VALUE 1 5, 0x80000001)]) 1 0x78106000, by decide⟩
theorem witness_armrx : ∃ (n : Fin 4) (w : Word) (s : State),
    issueTurn s = some n.val ∧ s.power = .active ∧ imemWord s (s.thPc n) = w ∧ insnOp w = opArmrx ∧ legalWord w = true ∧ (s.thread n).since < 1023 ∧ s.ls.threads.length = 4 ∧ (s.thread n).replay = none :=
  ⟨1, 0x80106000, atInsn (st [(LS_T_S_VALUE 1 2, 7), (LS_T_S_VALUE 1 3, 0x80000000), (LS_T_S_VALUE 1 4, 9), (LS_T_S_VALUE 1 5, 0x80000001)]) 1 0x80106000, by decide⟩
theorem witness_disrx : ∃ (n : Fin 4) (w : Word) (s : State),
    issueTurn s = some n.val ∧ s.power = .active ∧ imemWord s (s.thPc n) = w ∧ insnOp w = opDisrx ∧ legalWord w = true ∧ (s.thread n).since < 1023 ∧ s.ls.threads.length = 4 ∧ (s.thread n).replay = none :=
  ⟨1, 0x88100000, atInsn (st [(LS_T_S_VALUE 1 2, 7), (LS_T_S_VALUE 1 3, 0x80000000), (LS_T_S_VALUE 1 4, 9), (LS_T_S_VALUE 1 5, 0x80000001)]) 1 0x88100000, by decide⟩
theorem witness_ackpol : ∃ (n : Fin 4) (w : Word) (s : State),
    issueTurn s = some n.val ∧ s.power = .active ∧ imemWord s (s.thPc n) = w ∧ insnOp w = opAckpol ∧ legalWord w = true ∧ (s.thread n).since < 1023 ∧ s.ls.threads.length = 4 ∧ (s.thread n).replay = none :=
  ⟨1, 0x98100002, atInsn (st [(LS_T_S_VALUE 1 2, 7), (LS_T_S_VALUE 1 3, 0x80000000), (LS_T_S_VALUE 1 4, 9), (LS_T_S_VALUE 1 5, 0x80000001)]) 1 0x98100002, by decide⟩
theorem witness_windowClose : ∃  (x : Window) (p : Fin 16) (e : Nat) (s : State),
    s.power ≠ .off ∧ s.cz.windows = [x] ∧ x.owner = .thread ∧ x.close = some e ∧ e ≤ s.now ∧ x.pre = false ∧ x.lane < 16 ∧ s.physOf x.lane = p.val ∧ s.laneState p = 2 ∧ s.on (CZ_LANE_STAT_ARMED_FW p) = false ∧ s.on (CZ_LANE_CFG_EN p) = true :=
  ⟨{ owner := .thread, lane := 3, opened := 0, close := some 9, pre := false, voided := false }, 3, 9, { atTick (st [(CZ_LANE_STAT_STATE 3, 2), (CZ_LANE_CFG_EN 3, 1)]) 9 with cz := { ChannelS.reset with windows := [{ owner := .thread, lane := 3, opened := 0, close := some 9, pre := false, voided := false }] } }, by decide⟩
theorem witness_windowCloseAny : ∃ (s : State),
    s.power ≠ .off :=
  ⟨{ atTick (st [(CZ_LANE_STAT_STATE 3, 2), (CZ_LANE_CFG_EN 3, 1)]) 9 with cz := { ChannelS.reset with windows := [{ owner := .thread, lane := 3, opened := 0, close := some 9, pre := false, voided := false }, { owner := .thread, lane := 5, opened := 0, close := some 10, pre := false, voided := false }, { owner := .pending, lane := 4, opened := 0, close := some 9, pre := true, voided := false }] } }, by decide⟩
theorem witness_ldn : ∃ (n : Fin 4) (w : Word) (s : State),
    issueTurn s = some n.val ∧ s.power = .active ∧ imemWord s (s.thPc n) = w ∧ insnOp w = opLdn ∧ legalWord w = true ∧ (s.thread n).since < 1023 ∧ s.ls.threads.length = 4 ∧ (s.thread n).replay = none :=
  ⟨1, 0xab100003, atInsn (st [(LS_T_S_VALUE 1 2, 7), (LS_T_S_VALUE 1 3, 0x80000000), (LS_T_S_VALUE 1 4, 9), (LS_T_S_VALUE 1 5, 0x80000001)]) 1 0xab100003, by decide⟩
theorem witness_stnReadOnly : ∃ (n : Fin 4) (w : Word) (s : State),
    issueTurn s = some n.val ∧ s.power = .active ∧ imemWord s (s.thPc n) = w ∧ insnOp w = opStn ∧ legalWord w = true ∧ (s.thread n).since < 1023 ∧ s.ls.threads.length = 4 ∧ (s.thread n).replay = none ∧ insnK w % 16 ≥ 14 :=
  ⟨1, 0xb010a00e, atInsn (st [(LS_T_S_VALUE 1 2, 7), (LS_T_S_VALUE 1 3, 0x80000000), (LS_T_S_VALUE 1 4, 9), (LS_T_S_VALUE 1 5, 0x80000001)]) 1 0xb010a00e, by decide⟩
theorem witness_stn : ∃ (n : Fin 4) (w : Word) (s : State),
    issueTurn s = some n.val ∧ s.power = .active ∧ imemWord s (s.thPc n) = w ∧ insnOp w = opStn ∧ legalWord w = true ∧ (s.thread n).since < 1023 ∧ s.ls.threads.length = 4 ∧ (s.thread n).replay = none ∧ insnK w % 16 ∈ [7, 8, 9, 11, 12] :=
  ⟨1, 0xb010a009, atInsn (st [(LS_T_S_VALUE 1 2, 7), (LS_T_S_VALUE 1 3, 0x80000000), (LS_T_S_VALUE 1 4, 9), (LS_T_S_VALUE 1 5, 0x80000001)]) 1 0xb010a009, by decide⟩
theorem witness_driftUntracked : ∃ (n : Fin 4) (w : Word) (s : State),
    issueTurn s = some n.val ∧ s.power = .active ∧ imemWord s (s.thPc n) = w ∧ insnOp w = opDrift ∧ legalWord w = true ∧ (s.thread n).since < 1023 ∧ s.ls.threads.length = 4 ∧ (s.thread n).replay = none ∧ tracked s (s.sreg n (insnB w) % 512) = false :=
  ⟨1, 0xa3108000, atInsn (st [(LS_T_S_VALUE 1 2, 7), (LS_T_S_VALUE 1 3, 0x80000000), (LS_T_S_VALUE 1 4, 9), (LS_T_S_VALUE 1 5, 0x80000001)]) 1 0xa3108000, by decide⟩
theorem witness_drift : ∃ (n : Fin 4) (w : Word) (s : State),
    issueTurn s = some n.val ∧ s.power = .active ∧ imemWord s (s.thPc n) = w ∧ insnOp w = opDrift ∧ legalWord w = true ∧ (s.thread n).since < 1023 ∧ s.ls.threads.length = 4 ∧ (s.thread n).replay = none ∧ tracked s (s.sreg n (insnB w) % 512) = true ∧ s.get (NB_W6_SNIFF (s.sreg n (insnB w) % 512)) = 0 :=
  ⟨1, 0xa3108000, atInsn (st [(LS_T_S_VALUE 1 2, 7), (LS_T_S_VALUE 1 3, 0x80000000), (LS_T_S_VALUE 1 4, 9), (LS_T_S_VALUE 1 5, 0x80000001), (NB_W6_RSTATE 9, 2), (NB_W9_DRIFT 9, 12345)]) 1 0xa3108000, by decide⟩
theorem witness_sig : ∃ (n : Fin 4) (w : Word) (s : State),
    issueTurn s = some n.val ∧ s.power = .active ∧ imemWord s (s.thPc n) = w ∧ insnOp w = opSig ∧ legalWord w = true ∧ (s.thread n).since < 1023 ∧ s.ls.threads.length = 4 ∧ (s.thread n).replay = none ∧ bitOf (insnK w) 8 = false :=
  ⟨1, 0xb8000003, atInsn (st []) 1 0xb8000003, by decide⟩
theorem witness_sigEvent : ∃ (n : Fin 4) (w : Word) (s : State),
    issueTurn s = some n.val ∧ s.power = .active ∧ imemWord s (s.thPc n) = w ∧ insnOp w = opSig ∧ legalWord w = true ∧ (s.thread n).since < 1023 ∧ s.ls.threads.length = 4 ∧ (s.thread n).replay = none ∧ bitOf (insnK w) 8 = true :=
  ⟨1, 0xb8000103, atInsn (st [(EV_CTL_EN, 1)]) 1 0xb8000103, by decide⟩
theorem witness_txf : ∃ (n : Fin 4) (w : Word) (s : State),
    issueTurn s = some n.val ∧ s.power = .active ∧ imemWord s (s.thPc n) = w ∧ insnOp w = opTxf ∧ legalWord w = true ∧ (s.thread n).since < 1023 ∧ s.ls.threads.length = 4 ∧ (s.thread n).replay = none ∧ (insnS w && s.on LS_BCN_STAT_SUSP) = false ∧ s.counter (insnS w) ≤ s.spair n (insnA w) + s.get (LS_T_CFG_TXTOL n) :=
  ⟨1, 0x93108000, atInsn (st [(LS_T_S_VALUE 1 2, 7), (LS_T_S_VALUE 1 3, 0x80000000), (LS_T_S_VALUE 1 4, 9), (LS_T_S_VALUE 1 5, 0x80000001)]) 1 0x93108000, by decide⟩
theorem witness_txfPreparedRaw : ∃ (n : Fin 4) (ecc : EccCell) (x : TxfS) (c : Nat) (f : FrameS) (s : State),
    s.power ≠ .off ∧ ecc = none ∧ txfSusp s n = false ∧ s.txf n = some x ∧ s.ls.threads.length = 4 ∧ x.phase = 0 ∧ s.get FE_WIN_CTL_FREQ ≠ 0 ∧ descBad s x = false ∧ s.on FW_CTL_EN = true ∧ s.frame c = some f ∧ f.busy = false ∧ s.on DC_CTL_EN = false ∧ s.on CX_CTL_EN = false ∧ 0 ≤ txLeft s x ∧ s.fe.air = none ∧ s.ls.acks = [] ∧ (x.mode = 3 → f.len + fcsLen x.fcs2 ≤ 255) ∧ x.src = 5 ∧ x.tgt = c ∧ f.use = 4 :=
  ⟨1, none, { txf0 0 with desc0 := 0x13882050, desc1 := 0x80007, fixed := false, inst := 1000000 }, 7, raw0, { withTxf (atTick (st [(FE_WIN_CTL_FREQ, 8680000), (FW_CTL_EN, 1), (FE_TXP_OUT 0, 0), (FW_FC_CFG_HBEN, 0), (DC_CTL_PACE, 0), (DC_CTL_EN, 0), (CX_CTL_EN, 0)]) 1000) { txf0 0 with desc0 := 0x13882050, desc1 := 0x80007, fixed := false, inst := 1000000 } with fw := { ForwardS.reset with frames := [(7, raw0)] } }, by decide⟩
theorem witness_txfPrepared : ∃ (n : Fin 4) (ecc : EccCell) (x : TxfS) (c : Nat) (f : FrameS) (q : List Nat) (s : State),
    s.power ≠ .off ∧ ecc = none ∧ txfSusp s n = false ∧ s.txf n = some x ∧ s.ls.threads.length = 4 ∧ x.phase = 0 ∧ s.get FE_WIN_CTL_FREQ ≠ 0 ∧ descBad s x = false ∧ s.on FW_CTL_EN = true ∧ s.frame c = some f ∧ f.busy = false ∧ s.on DC_CTL_EN = false ∧ s.on CX_CTL_EN = false ∧ 0 ≤ txLeft s x ∧ s.fe.air = none ∧ s.ls.acks = [] ∧ (x.mode = 3 → f.len + fcsLen x.fcs2 ≤ 255) ∧ x.src < 4 ∧ s.queue (4 * x.tgt + x.src) = c :: q ∧ lifeOver s f = false ∧ s.on FW_FC_CFG_HBEN = false ∧ s.get (NB_W6_SNIFF x.tgt) = 0 ∧ s.on DC_CTL_PACE = false :=
  ⟨1, none, { txf0 0 with desc0 := 0x13882020, desc1 := 0x80009, fixed := false, inst := 1000000 }, 7, { raw0 with use := 2, cls := 2, nh := 9 }, [8], { withTxf (atTick (st [(FE_WIN_CTL_FREQ, 8680000), (FW_CTL_EN, 1), (FE_TXP_OUT 0, 0), (FW_FC_CFG_HBEN, 0), (DC_CTL_PACE, 0), (DC_CTL_EN, 0), (CX_CTL_EN, 0)]) 1000) { txf0 0 with desc0 := 0x13882020, desc1 := 0x80009, fixed := false, inst := 1000000 } with fw := { ForwardS.reset with frames := [(7, { raw0 with use := 2, cls := 2, nh := 9 })], queues := [(38, [7, 8])] } }, by decide⟩
theorem witness_txfPreparedAny : ∃ (n : Fin 4) (ecc : EccCell) (x : TxfS) (s : State),
    s.power ≠ .off ∧ s.txf n = some x ∧ s.ls.threads.length = 4 ∧ x.phase = 0 ∧ x.dest < 16 ∧ (s.thread n).haltReq = false ∧ (s.thread n).replay = none :=
  ⟨1, none, { txf0 0 with desc0 := 0x13882050, desc1 := 0x80007, fixed := false, inst := 1000000 }, { withTxf (atTick (st [(FE_WIN_CTL_FREQ, 8680000), (FW_CTL_EN, 1), (FE_TXP_OUT 0, 0), (FW_FC_CFG_HBEN, 0), (DC_CTL_PACE, 0), (DC_CTL_EN, 0), (CX_CTL_EN, 0)]) 1000) { txf0 0 with desc0 := 0x13882050, desc1 := 0x80007, fixed := false, inst := 1000000 } with fw := { ForwardS.reset with frames := [(7, raw0)] } }, by decide⟩
theorem witness_ackTimeout : ∃ (n : Fin 4) (x : TxfS) (c : Nat) (f : FrameS) (s : State),
    s.power ≠ .off ∧ s.txf n = some x ∧ s.ls.threads.length = 4 ∧ x.dest < 16 ∧ (s.thread n).haltReq = false ∧ (s.thread n).replay = none ∧ s.cz.windows = [] ∧ s.dc.coex = [] ∧ s.dc.reserved = [] ∧ ackOver s n = true ∧ x.train = none ∧ x.nb = none ∧ x.cell = some c ∧ s.frame c = some f ∧ f.use = 4 ∧ f.fate = 0 :=
  ⟨1, { txf0 3 with late := 5, cell := some 7 }, 7, { raw0 with busy := true }, { withTxf (atTick (st []) 100) { txf0 3 with late := 5, cell := some 7 } with fw := { ForwardS.reset with frames := [(7, { raw0 with busy := true })] } }, by decide⟩
theorem witness_ackTimeoutAny : ∃ (n : Fin 4) (x : TxfS) (s : State),
    s.power ≠ .off ∧ s.txf n = some x ∧ s.ls.threads.length = 4 ∧ x.dest < 16 ∧ (s.thread n).haltReq = false ∧ (s.thread n).replay = none ∧ ackOver s n = true ∧ x.train = none :=
  ⟨1, { txf0 3 with late := 5, nb := some 4 }, withTxf (atTick (st [(NB_W6_RSTATE 4, 2)]) 100) { txf0 3 with late := 5, nb := some 4 }, by decide⟩
theorem witness_abortTxLate : ∃ (core : Cpu) (n : Fin 4) (x : TxfS) (s : State),
    s.power = .active ∧ bitOf (s.get (LS_T_CFG_CORES n)) core = true ∧ (s.on (IC_CPU_STAT_NS core) = false ∨ s.on (LS_T_CFG_NS_OK n) = true) ∧ s.txf n = some x ∧ s.ls.threads.length = 4 ∧ (x.phase = 2 ∨ x.phase = 3 ∨ rampUpNow s n = true) ∧ mayStore s core (A_LS_T_CMD n) :=
  ⟨1, 1, (txf0 2), withTxf (st [(LS_T_CFG_CORES 1, 3)]) (txf0 2), by decide⟩
theorem witness_abortTx : ∃ (core : Cpu) (n : Fin 4) (x : TxfS) (s : State),
    s.power = .active ∧ bitOf (s.get (LS_T_CFG_CORES n)) core = true ∧ (s.on (IC_CPU_STAT_NS core) = false ∨ s.on (LS_T_CFG_NS_OK n) = true) ∧ s.txf n = some x ∧ s.ls.threads.length = 4 ∧ x.dest < 16 ∧ (s.thread n).haltReq = false ∧ (s.thread n).replay = none ∧ s.cz.windows = [] ∧ s.dc.coex = [] ∧ s.dc.reserved = [] ∧ (x.phase = 0 ∨ x.phase = 1 ∨ x.phase = 4) ∧ rampUpNow s n = false ∧ x.cell = none ∧ mayStore s core (A_LS_T_CMD n) :=
  ⟨1, 1, (txf0 1), withTxf (st [(LS_T_CFG_CORES 1, 3)]) (txf0 1), by decide⟩
theorem witness_lsStart : ∃ (core : Cpu) (n : Fin 4) (s : State),
    s.power = .active ∧ bitOf (s.get (LS_T_CFG_CORES n)) core = true ∧ (s.on (IC_CPU_STAT_NS core) = false ∨ s.on (LS_T_CFG_NS_OK n) = true) ∧ s.thState n = 0 ∧ s.on LS_CTL_EN = true ∧ mayStore s core (A_LS_T_CMD n) :=
  ⟨1, 1, st [(LS_T_CFG_CORES 1, 3), (LS_CTL_EN, 1), (LS_T_STAT_DEPTH 1, 2)], by decide⟩
theorem witness_haltCmd : ∃ (core : Cpu) (n : Fin 4) (s : State),
    s.power = .active ∧ bitOf (s.get (LS_T_CFG_CORES n)) core = true ∧ (s.on (IC_CPU_STAT_NS core) = false ∨ s.on (LS_T_CFG_NS_OK n) = true) ∧ s.thState n ≠ 0 ∧ s.txf n = none ∧ (s.thread n).replay = none ∧ waittDue s n = false ∧ mayStore s core (A_LS_T_CMD n) :=
  ⟨1, 1, st [(LS_T_CFG_CORES 1, 3), (LS_T_STAT_STATE 1, 3)], by decide⟩
theorem witness_haltCmdReleases : ∃ (core : Cpu) (n : Fin 4) (x : WaitS) (w a b : Word) (s : State),
    s.power = .active ∧ bitOf (s.get (LS_T_CFG_CORES n)) core = true ∧ (s.on (IC_CPU_STAT_NS core) = false ∨ s.on (LS_T_CFG_NS_OK n) = true) ∧ (s.thread n).wait = some x ∧ s.ls.threads.length = 4 ∧ (s.thread n).replay = none ∧ waittDue s n = true ∧ s.txf n = none ∧ x.bundle = [(w, a, b)] ∧ insnOp w = opAckpol ∧ x.dest < 16 ∧ mayStore s core (A_LS_T_CMD n) :=
  ⟨1, 1, { wait0 with bundle := [(0x98000001, 0x0103, 0)] }, 0x98000001, 0x0103, 0, withThread (atTick (st [(LS_T_STAT_STATE 1, 2), (LS_T_CFG_CORES 1, 3)]) 100) { ThreadS.reset with wait := some { wait0 with bundle := [(0x98000001, 0x0103, 0)] } }, by decide⟩
theorem witness_haltCmdInTx : ∃ (core : Cpu) (n : Fin 4) (x : TxfS) (s : State),
    s.power = .active ∧ bitOf (s.get (LS_T_CFG_CORES n)) core = true ∧ (s.on (IC_CPU_STAT_NS core) = false ∨ s.on (LS_T_CFG_NS_OK n) = true) ∧ s.thState n ≠ 0 ∧ s.txf n = some x ∧ mayStore s core (A_LS_T_CMD n) :=
  ⟨1, 1, (txf0 2), withTxf (st [(LS_T_CFG_CORES 1, 3), (LS_T_STAT_STATE 1, 4)]) (txf0 2), by decide⟩
theorem witness_mail : ∃ (core : Cpu) (n : Fin 4) (s : State),
    s.power = .active ∧ bitOf (s.get (LS_T_CFG_CORES n)) core = true ∧ (s.on (IC_CPU_STAT_NS core) = false ∨ s.on (LS_T_CFG_NS_OK n) = true) ∧ mayStore s core (A_LS_T_CMD n) :=
  ⟨1, 1, st [(LS_T_CFG_CORES 1, 3)], by decide⟩
theorem witness_lsDisable : ∃ (core : Cpu) (s : State),
    s.power = .active ∧ s.on LS_CTL_EN = true ∧ s.on (IC_CPU_STAT_NS core) = false ∧ (∀ k : Fin 4, (s.thread k).replay = none) ∧ mayStore s core LS_CTL_EN.addr :=
  ⟨1, st [(LS_CTL_EN, 1), (LS_T_STAT_STATE 1, 3), (LS_T_STAT_STATE 2, 1)], by decide⟩
theorem witness_lsDisableDone : ∃ (s : State),
    s.power ≠ .off ∧ s.on LS_CTL_EN = false ∧ s.on LS_CTL_EN_ACK = true ∧ s.ls.acks = [] ∧ (∀ k : Fin 4, s.thState k = 0) ∧ s.cz.windows = [] :=
  ⟨st [(LS_CTL_EN, 0), (LS_CTL_EN_ACK, 1)], by decide⟩
theorem witness_pairMismatch : ∃ (n : Fin 4) (s : State),
    s.power ≠ .off ∧ s.thState n ≠ 0 ∧ s.thState n ≠ 5 ∧ s.ls.threads.length = 4 ∧ s.fc.recov = [] :=
  ⟨1, withThread (st [(LS_T_STAT_STATE 1, 1), (LS_T_PC_PC 1, 77), (LS_T_S_VALUE 1 2, 5)]) { ThreadS.reset with image := { pc := 40, flags := 3, gpr := [1, 2, 3], stack := [9], pend0 := 0, pend1 := 0 } }, by decide⟩
theorem witness_replayComplete : ∃ (n : Fin 4) (k : Nat) (i : ThreadImage) (r : Recovery) (s : State),
    s.power ≠ .off ∧ (s.thread n).replay = some (k, i) ∧ k < 5 ∧ (k = 2 → s.on LS_CTL_EN = true) ∧ s.ls.threads.length = 4 ∧ s.fc.recov = [r] ∧ r.code = 1 ∧ r.place % 4 = n ∧ s.fc.queue.length < 16 ∧ s.fc.hist = [] ∧ s.get FC_CFG_ESC_LIM ≠ 1 :=
  ⟨1, 3, { pc := 40, flags := 3, gpr := [1, 2, 3], stack := [9], pend0 := 0, pend1 := 0 }, (Recovery.mk 1 0 0x50001 0), { withThread (atTick (st [(LS_T_STAT_STATE 1, 5)]) 5000) { ThreadS.reset with replay := some (3, { pc := 40, flags := 3, gpr := [1, 2, 3], stack := [9], pend0 := 0, pend1 := 0 }) } with fc := { FaultS.reset with recov := [Recovery.mk 1 0 0x50001 0] } }, by decide⟩
theorem witness_fhMismatch : ∃ (p : Fin 16) (ack : Bool) (r : Reception) (l : Nat) (s : State),
    s.power ≠ .off ∧ ack = false ∧ s.laneState p = 5 ∧ (s.lane p).rx = some r ∧ r.phr = true ∧ (s.lane p).move = none ∧ s.cz.lanes.length = 16 ∧ s.fc.recov = [] ∧ s.logicalOf p = some l ∧ s.fc.queue.length < 16 ∧ s.fc.hist = [] ∧ s.get FC_CFG_ESC_LIM ≠ 1 :=
  ⟨3, false, { rx0 with phr := true, taken := [7] }, 3, withRx (st [(TB_STATUS_LOCKED, 1), (FE_CTL_EN, 1), (FE_CTL_EN_ACK, 1), (FE_CTL_CHA_EN, 1), (FE_WIN_CTL_FREQ, 8680000), (CZ_CTL_EN, 1), (CZ_LANE_CFG_EN 3, 1), (CZ_LANE_CFG_MODE 3, 2), (CZ_LANE_CFG_BIN 3, 9), (CZ_LANE_CFG_DIV 3, 1), (CZ_LANE_STAT_STATE 3, 5)]) { rx0 with phr := true, taken := [7] }, by decide⟩
theorem witness_ackSnapshot : ∃  (a : AckS) (s : State),
    s.power ≠ .off ∧ s.ls.acks = [a] ∧ a.phase = 0 ∧ a.fend + 200000 ≤ s.now + leadTicks s (s.get LS_ACK_CFG_PRESET) + 200 ∧ s.fe.air = none ∧ (∀ p : Fin 16, s.laneState p ≠ 5 ∨ p.val = a.phys) ∧ s.on DC_CTL_EN = false ∧ ((s.frame a.cell).all (fun f => f.fate != 2) = true) :=
  ⟨ack0, { atTick (st []) 1200000 with ls := { LinkS.reset with acks := [ack0] } }, by decide⟩
theorem witness_ackSnapshotAny : ∃  (a : AckS) (d : Nat) (s : State),
    s.power ≠ .off ∧ snapshotDue s = some a ∧ ackDecision s a = some d ∧ s.on DC_CTL_EN = false ∧ ((s.frame a.cell).all (fun f => f.fate != 2) = true) :=
  ⟨ack0, 0, { atTick (st []) 1200000 with ls := { LinkS.reset with acks := [ack0, { ack0 with id := 9, fend := 1300000 }] } }, by decide⟩
theorem witness_ackSnapshotSkips : ∃  (a : AckS) (s : State),
    s.power ≠ .off ∧ snapshotDue s = some a ∧ ackDecision s a = none :=
  ⟨ack0, { atTick (st []) 1200000 with ls := { LinkS.reset with acks := [ack0] }, fe := { AnalogueS.reset with air := some { air0 with planned := 3000000 } } }, by decide⟩
theorem witness_sniffIntWrite : ∃ (core : Cpu) (sel : Fin 3) (v : Word) (s : State),
    s.power = .active ∧ s.on (IC_CPU_STAT_NS core) = false ∧ sel = 0 ∧ 656 ≤ v.toNat ∧ v.toNat ≤ 1966080 ∧ s.get LS_SNF_INT_INT = 0 ∧ snfNext s ≤ s.slow ∧ s.slow + v.toNat < 2 ^ 48 ∧ mayStore s core (A_LS_SNF_INT + 4 * sel) :=
  ⟨1, 0, 32768, { st [] with tb := { TimeBase.reset with slow := 100000 } }, by decide⟩
theorem witness_sniffIntChange : ∃ (core : Cpu) (sel : Fin 3) (v : Word) (s : State),
    s.power = .active ∧ s.on (IC_CPU_STAT_NS core) = false ∧ sel = 0 ∧ v.toNat ≤ 1966080 ∧ (v.toNat = 0 ∨ (656 ≤ v.toNat ∧ s.get LS_SNF_INT_INT ≠ 0)) ∧ mayStore s core (A_LS_SNF_INT + 4 * sel) :=
  ⟨1, 0, 0, st [(LS_SNF_INT_INT, 32768)], by decide⟩
theorem witness_sniffNextWrite : ∃ (core : Cpu) (sel : Fin 3) (v : Word) (s : State),
    s.power = .active ∧ s.on (IC_CPU_STAT_NS core) = false ∧ sel ≠ 0 ∧ s.get LS_SNF_INT_INT = 0 ∧ v.toNat < 2 ^ 16 ∧ mayStore s core (A_LS_SNF_INT + 4 * sel) :=
  ⟨1, 2, 7, st [(LS_SNF_NEXT_LO_NEXT, 5)], by decide⟩
theorem witness_sniffOpen : ∃ (s : State),
    s.power = .active ∧ s.on TB_STATUS_LOCKED = true ∧ s.get LS_SNF_INT_INT ≠ 0 ∧ snfNext s = s.slow ∧ s.on LS_CTL_EN = true ∧ s.on CZ_CTL_EN = true ∧ s.fe.air = none ∧ chainsOut s = false ∧ (∀ l ∈ lanesOf (s.get LS_SNF_CFG_LMASK), sniffMin (lgMode s l) ≤ s.get LS_SNF_CFG_LEN * 4000) ∧ s.windowOpen .sniff = false ∧ (∀ l ∈ lanesOf (s.get LS_SNF_CFG_LMASK), s.on (CZ_LANE_CFG_EN (s.physOf l)) = true ∧ 1 ≤ s.laneState (s.physOf l) ∧ s.laneState (s.physOf l) ≤ 5) ∧ s.on CX_CFG_RXREQ = false ∧ s.dc.coex = [] :=
  ⟨st [(TB_STATUS_LOCKED, 1), (FE_CTL_EN, 1), (FE_CTL_EN_ACK, 1), (FE_CTL_CHA_EN, 1), (FE_WIN_CTL_FREQ, 8680000), (CZ_CTL_EN, 1), (CZ_LANE_CFG_EN 3, 1), (CZ_LANE_CFG_MODE 3, 2), (CZ_LANE_CFG_BIN 3, 9), (LS_CTL_EN, 1), (LS_SNF_INT_INT, 32768), (LS_SNF_CFG_LMASK, 8), (LS_SNF_CFG_LEN, 200), (CX_CFG_RXREQ, 0), (CZ_LANE_STAT_STATE 3, 1), (CZ_LANE_CFG_EN 4, 1), (CZ_LANE_CFG_MODE 4, 2), (CZ_LANE_STAT_STATE 4, 1), (LS_SNF_CFG_LMASK, 24)], by decide⟩
theorem witness_sniffClose : ∃ (s : State),
    s.power ≠ .off ∧ s.rdv.sniff ≠ 0 ∧ s.rdv.sniffClose ≤ s.now ∧ (s.rdv.sniff ≠ 1 ∨ s.rdv.sniffDet = true ∨ s.on LS_CTL_EN = false ∨ ∀ l ∈ s.rdv.lanes, s.getS (FE_LRPT_NOW_RSSI (s.physOf l)) < s.getS LS_SNF_ED_THR) ∧ (∀ w ∈ s.cz.windows, s.laneState (s.physOf w.lane) ≠ 6) ∧ s.on CX_CFG_RXREQ = false ∧ s.dc.coex = [] :=
  ⟨withRdv (st [(TB_STATUS_LOCKED, 1), (FE_CTL_EN, 1), (FE_CTL_EN_ACK, 1), (FE_CTL_CHA_EN, 1), (FE_WIN_CTL_FREQ, 8680000), (CZ_CTL_EN, 1), (CZ_LANE_CFG_EN 3, 1), (CZ_LANE_CFG_MODE 3, 2), (CZ_LANE_CFG_BIN 3, 9), (LS_CTL_EN, 1), (LS_SNF_INT_INT, 32768), (LS_SNF_CFG_LMASK, 8), (LS_SNF_CFG_LEN, 200), (CX_CFG_RXREQ, 0), (CZ_LANE_STAT_STATE 3, 2), (LS_SNF_ED_THR, 5)]) [win0 .sniff] { RdvS.reset with sniff := 1, lanes := [3] }, by decide⟩
theorem witness_sniffExtend : ∃ (s : State),
    s.power ≠ .off ∧ s.rdv.sniff = 1 ∧ s.rdv.sniffDet = false ∧ s.rdv.sniffClose ≤ s.now ∧ s.on LS_CTL_EN = true ∧ s.on CZ_CTL_EN = true ∧ (∃ l ∈ s.rdv.lanes, s.getS LS_SNF_ED_THR ≤ s.getS (FE_LRPT_NOW_RSSI (s.physOf l))) ∧ (∀ l ∈ s.rdv.lanes, s.on (CZ_LANE_CFG_EN (s.physOf l)) = true ∧ 1 ≤ s.laneState (s.physOf l) ∧ s.laneState (s.physOf l) ≤ 5) ∧ (∀ w ∈ s.cz.windows, w.owner = .sniff → w.lane ∈ s.rdv.lanes) ∧ s.on CX_CFG_RXREQ = false ∧ s.dc.coex = [] :=
  ⟨withRdv (st [(TB_STATUS_LOCKED, 1), (FE_CTL_EN, 1), (FE_CTL_EN_ACK, 1), (FE_CTL_CHA_EN, 1), (FE_WIN_CTL_FREQ, 8680000), (CZ_CTL_EN, 1), (CZ_LANE_CFG_EN 3, 1), (CZ_LANE_CFG_MODE 3, 2), (CZ_LANE_CFG_BIN 3, 9), (LS_CTL_EN, 1), (LS_SNF_INT_INT, 32768), (LS_SNF_CFG_LMASK, 8), (LS_SNF_CFG_LEN, 200), (CX_CFG_RXREQ, 0), (CZ_LANE_STAT_STATE 3, 2), (FE_LRPT_NOW_RSSI 3, 10)]) [win0 .sniff] { RdvS.reset with sniff := 1, lanes := [3] }, by decide⟩
theorem witness_dataWindowOpen : ∃  (w : DataWin) (p : Fin 16) (s : State),
    s.power ≠ .off ∧ dataDue s = some w ∧ s.on LS_CTL_EN = true ∧ s.on CZ_CTL_EN = true ∧ s.physOf w.lane = p.val ∧ s.on (CZ_LANE_CFG_EN p) = true ∧ 1 ≤ s.laneState p ∧ s.laneState p ≤ 5 ∧ (∀ x ∈ s.cz.windows, x.owner ≠ .data w.id) ∧ s.on CX_CFG_RXREQ = false ∧ s.dc.coex = [] :=
  ⟨⟨0, 5, 3, 4, 9, 1, false⟩, 3, withRdv (atTick (st [(TB_STATUS_LOCKED, 1), (FE_CTL_EN, 1), (FE_CTL_EN_ACK, 1), (FE_CTL_CHA_EN, 1), (FE_WIN_CTL_FREQ, 8680000), (CZ_CTL_EN, 1), (CZ_LANE_CFG_EN 3, 1), (CZ_LANE_CFG_MODE 3, 2), (CZ_LANE_CFG_BIN 3, 9), (LS_CTL_EN, 1), (LS_SNF_INT_INT, 32768), (LS_SNF_CFG_LMASK, 8), (LS_SNF_CFG_LEN, 200), (CX_CFG_RXREQ, 0), (CZ_LANE_STAT_STATE 3, 1)]) 6) [] { RdvS.reset with data := [⟨0, 5, 3, 4, 9, 1, false⟩, ⟨1, 6, 3, 44, 49, 1, false⟩] }, by decide⟩
theorem witness_dataWindowClose : ∃  (w : DataWin) (p : Fin 16) (s : State),
    s.power ≠ .off ∧ dataOver s = some w ∧ (∀ x ∈ s.cz.windows, x.owner = .data w.id → x.lane = w.lane) ∧ s.physOf w.lane = p.val ∧ s.laneState p ≠ 6 ∧ s.on CX_CFG_RXREQ = false ∧ s.dc.coex = [] :=
  ⟨⟨0, 5, 3, 4, 9, 1, true⟩, 3, withRdv (atTick (st [(TB_STATUS_LOCKED, 1), (FE_CTL_EN, 1), (FE_CTL_EN_ACK, 1), (FE_CTL_CHA_EN, 1), (FE_WIN_CTL_FREQ, 8680000), (CZ_CTL_EN, 1), (CZ_LANE_CFG_EN 3, 1), (CZ_LANE_CFG_MODE 3, 2), (CZ_LANE_CFG_BIN 3, 9), (LS_CTL_EN, 1), (LS_SNF_INT_INT, 32768), (LS_SNF_CFG_LMASK, 8), (LS_SNF_CFG_LEN, 200), (CX_CFG_RXREQ, 0), (CZ_LANE_STAT_STATE 3, 2)]) 9) [win0 (.data 0)] { RdvS.reset with data := [⟨0, 5, 3, 4, 9, 1, true⟩] }, by decide⟩
theorem witness_wakeTrainSegment : ∃ (n : Fin 4) (x : TxfS) (s : State),
    s.power ≠ .off ∧ s.txf n = some x ∧ s.ls.threads.length = 4 ∧ x.phase = 4 ∧ txfSusp s n = false ∧ s.on DC_CTL_EN = false ∧ s.on CX_CTL_EN = false ∧ s.fe.air = none ∧ s.ls.acks = [] :=
  ⟨1, { txf0 4 with train := some ⟨10, 5, 1, 3, true⟩ }, withTxf (st [(DC_CTL_EN, 0), (CX_CTL_EN, 0)]) { txf0 4 with train := some ⟨10, 5, 1, 3, true⟩ }, by decide⟩
theorem witness_beaconWindowOpen : ∃  (p : Fin 16) (s : State),
    s.power ≠ .off ∧ bcnDue s = true ∧ s.on LS_CTL_EN = true ∧ s.on CZ_CTL_PATH = false ∧ s.on CZ_CTL_EN = true ∧ s.get LS_BCN_CFG_EVERY ≤ s.rdv.skipped ∧ s.get LS_BCN_STAT_MISS ≠ 2 ∧ s.physOf (s.get LS_BCN_CFG_LANE) = p.val ∧ s.get (CZ_LANE_CFG_BIN p) = s.get LS_BCN_CFG_BIN ∧ s.windowOpen .beacon = false ∧ s.on (CZ_LANE_CFG_EN p) = true ∧ 1 ≤ s.laneState p ∧ s.laneState p ≤ 5 ∧ s.on CX_CFG_RXREQ = false ∧ s.dc.coex = [] :=
  ⟨3, withRdv (st [(TB_STATUS_LOCKED, 1), (FE_CTL_EN, 1), (FE_CTL_EN_ACK, 1), (FE_CTL_CHA_EN, 1), (FE_WIN_CTL_FREQ, 8680000), (CZ_CTL_EN, 1), (CZ_LANE_CFG_EN 3, 1), (CZ_LANE_CFG_MODE 3, 2), (CZ_LANE_CFG_BIN 3, 9), (LS_CTL_EN, 1), (LS_BCN_CFG_EN, 1), (LS_BCN_CFG_LANE, 3), (LS_BCN_CFG_LANE2, 4), (LS_BCN_CFG_BIN, 9), (CX_CFG_RXREQ, 0), (CZ_LANE_STAT_STATE 3, 1)]) [] { RdvS.reset with has := true }, by decide⟩
theorem witness_beaconPassedOver : ∃ (s : State),
    s.power ≠ .off ∧ bcnDue s = true ∧ s.on LS_CTL_EN = true ∧ s.on CZ_CTL_PATH = false ∧ s.rdv.skipped < s.get LS_BCN_CFG_EVERY :=
  ⟨withRdv (st [(TB_STATUS_LOCKED, 1), (FE_CTL_EN, 1), (FE_CTL_EN_ACK, 1), (FE_CTL_CHA_EN, 1), (FE_WIN_CTL_FREQ, 8680000), (CZ_CTL_EN, 1), (CZ_LANE_CFG_EN 3, 1), (CZ_LANE_CFG_MODE 3, 2), (CZ_LANE_CFG_BIN 3, 9), (LS_CTL_EN, 1), (LS_BCN_CFG_EN, 1), (LS_BCN_CFG_LANE, 3), (LS_BCN_CFG_LANE2, 4), (LS_BCN_CFG_BIN, 9), (CX_CFG_RXREQ, 0), (LS_BCN_CFG_EVERY, 2)]) [] { RdvS.reset with has := true }, by decide⟩
theorem witness_beaconMiss : ∃ (s : State),
    s.power ≠ .off ∧ bcnOver s = true ∧ trackerOn s = true ∧ s.on LS_CTL_EN = true ∧ s.windowOpen .beacon = true ∧ s.rdv.blanked = false ∧ s.get LS_BCN_STAT_MISS < 2 ∧ (∀ w ∈ s.cz.windows, s.laneState (s.physOf w.lane) ≠ 6) ∧ s.on CX_CFG_RXREQ = false ∧ s.dc.coex = [] :=
  ⟨withRdv (st [(TB_STATUS_LOCKED, 1), (FE_CTL_EN, 1), (FE_CTL_EN_ACK, 1), (FE_CTL_CHA_EN, 1), (FE_WIN_CTL_FREQ, 8680000), (CZ_CTL_EN, 1), (CZ_LANE_CFG_EN 3, 1), (CZ_LANE_CFG_MODE 3, 2), (CZ_LANE_CFG_BIN 3, 9), (LS_CTL_EN, 1), (LS_BCN_CFG_EN, 1), (LS_BCN_CFG_LANE, 3), (LS_BCN_CFG_LANE2, 4), (LS_BCN_CFG_BIN, 9), (CX_CFG_RXREQ, 0), (CZ_LANE_STAT_STATE 3, 2), (LS_BCN_STAT_MISS, 1)]) [win0 .beacon] { RdvS.reset with has := true, tracking := true }, by decide⟩
theorem witness_amberStarts : ∃ (s : State),
    s.power ≠ .off ∧ bcnOver s = true ∧ trackerOn s = true ∧ s.on LS_CTL_EN = true ∧ s.windowOpen .beacon = true ∧ s.rdv.blanked = false ∧ s.get LS_BCN_STAT_MISS = 2 ∧ s.on TB_DISC_STAT_ACQ = true ∧ umberLanes s = [] ∧ (∀ w ∈ s.cz.windows, s.laneState (s.physOf w.lane) ≠ 6) ∧ s.on CX_CFG_RXREQ = false ∧ s.dc.coex = [] :=
  ⟨withRdv (st [(TB_STATUS_LOCKED, 1), (FE_CTL_EN, 1), (FE_CTL_EN_ACK, 1), (FE_CTL_CHA_EN, 1), (FE_WIN_CTL_FREQ, 8680000), (CZ_CTL_EN, 1), (CZ_LANE_CFG_EN 3, 1), (CZ_LANE_CFG_MODE 3, 2), (CZ_LANE_CFG_BIN 3, 9), (LS_CTL_EN, 1), (LS_BCN_CFG_EN, 1), (LS_BCN_CFG_LANE, 3), (LS_BCN_CFG_LANE2, 4), (LS_BCN_CFG_BIN, 9), (CX_CFG_RXREQ, 0), (CZ_LANE_STAT_STATE 3, 2), (LS_BCN_STAT_MISS, 2), (TB_DISC_STAT_ACQ, 1), (LS_BCN_UMASK_UMASK, 0)]) [win0 .beacon] { RdvS.reset with has := true, tracking := true }, by decide⟩
theorem witness_amberSecond : ∃ (s : State),
    s.power ≠ .off ∧ s.on LS_BCN_STAT_AMBER = true ∧ s.rdv.amberAt + 200000000 ≤ s.now ∧ s.get LS_BCN_STAT_AMBER_S + 1 ≠ s.get LS_BCN_HOLD_LIMIT ∧ s.get LS_BCN_STAT_AMBER_S < 2 ^ LS_BCN_STAT_AMBER_S.w - 1 :=
  ⟨atTick (st [(LS_BCN_STAT_AMBER, 1)]) 200000000, by decide⟩
theorem witness_holdExpires : ∃ (s : State),
    s.power ≠ .off ∧ s.on LS_BCN_STAT_AMBER = true ∧ s.rdv.amberAt + 200000000 ≤ s.now ∧ s.get LS_BCN_STAT_AMBER_S + 1 = s.get LS_BCN_HOLD_LIMIT :=
  ⟨atTick (st [(LS_BCN_STAT_AMBER, 1), (LS_BCN_HOLD_LIMIT, 4), (LS_BCN_STAT_AMBER_S, 3)]) 200000000, by decide⟩
theorem witness_umberStep : ∃  (att : List Nat) (s : State),
    s.power ≠ .off ∧ s.on LS_BCN_STAT_UMBER = true ∧ trackerOn s = true ∧ s.on TB_STATUS_LOCKED = true ∧ s.on LS_CTL_EN = true ∧ s.on CZ_CTL_EN = true ∧ s.rdv.umberNext ≤ s.now ∧ s.get LS_BCN_STAT_UGRP + 1 < umberGroups s ∧ (umberLanes s).take ((umberBins s).length - (s.get LS_BCN_STAT_UGRP + 1) * (umberLanes s).length) = att ∧ (att.map s.physOf).Nodup ∧ (∀ l ∈ att, s.laneState (s.physOf l) = 2) ∧ s.cz.lanes.length = 16 :=
  ⟨[3], withRdv (st [(TB_STATUS_LOCKED, 1), (FE_CTL_EN, 1), (FE_CTL_EN_ACK, 1), (FE_CTL_CHA_EN, 1), (FE_WIN_CTL_FREQ, 8680000), (CZ_CTL_EN, 1), (CZ_LANE_CFG_EN 3, 1), (CZ_LANE_CFG_MODE 3, 2), (CZ_LANE_CFG_BIN 3, 9), (LS_CTL_EN, 1), (LS_BCN_CFG_EN, 1), (LS_BCN_CFG_LANE, 3), (LS_BCN_CFG_LANE2, 4), (LS_BCN_CFG_BIN, 9), (CX_CFG_RXREQ, 0), (CZ_LANE_STAT_STATE 3, 2), (LS_BCN_STAT_UMBER, 1), (LS_BCN_STAT_UGRP, 1), (LS_BCN_UMASK_UMASK, 8)]) [win0 .umber] RdvS.reset, by decide⟩
theorem witness_reparent : ∃ (core : Cpu) (idx : BitVec 9) (s : State),
    s.power = .active ∧ s.on (IC_CPU_STAT_NS core) = false ∧ mayParent s idx.toNat = true ∧ s.on (NB_W10_BCN idx.toNat) = true ∧ s.on LS_BCN_STAT_UMBER = false ∧ s.cz.windows = [] ∧ (s.get (NB_W12_BLAST idx.toNat)) * 1024 ≤ s.dtime ∧ s.dtime < (s.get (NB_W12_BLAST idx.toNat)) * 1024 + 2 ^ 42 ∧ s.on CX_CFG_RXREQ = false ∧ s.dc.coex = [] ∧ mayStore s core A_LS_BCN_CMD :=
  ⟨1, 7, { st [(TB_STATUS_LOCKED, 1), (FE_CTL_EN, 1), (FE_CTL_EN_ACK, 1), (FE_CTL_CHA_EN, 1), (FE_WIN_CTL_FREQ, 8680000), (CZ_CTL_EN, 1), (CZ_LANE_CFG_EN 3, 1), (CZ_LANE_CFG_MODE 3, 2), (CZ_LANE_CFG_BIN 3, 9), (LS_CTL_EN, 1), (LS_BCN_CFG_EN, 1), (LS_BCN_CFG_LANE, 3), (LS_BCN_CFG_LANE2, 4), (LS_BCN_CFG_BIN, 9), (CX_CFG_RXREQ, 0), (NB_W0_VALID 7, 1), (NB_W10_BCN 7, 1), (NB_W13_BDEPTH 7, 2), (NB_W13_BBIN 7, 11), (NB_W12_BLAST 7, 4), (NB_W10_BINT 7, 1), (NB_W13_BPAR 7, 99)] with tb := { TimeBase.reset with dtime := 10000 } }, by decide⟩
theorem witness_bsetEffect : ∃ (s : State),
    s.power ≠ .off ∧ s.on LS_BSET_STAT_PEND = true ∧ s.get64 LS_BSET_EFF_LO_EFF LS_BSET_EFF_HI_EFF ≤ s.dtime :=
  ⟨st [(LS_BSET_STAT_PEND, 1), (LS_BSET_NXT_NXT, 77)], by decide⟩
theorem witness_bucketRetire : ∃ (n : Fin 8) (s : State),
    s.power ≠ .off ∧ s.dc.recs.length = 8 ∧ s.on (DC_REC_CFG_KIND n) = false :=
  ⟨3, { atTick (st [(DC_STATUS_WARN, 8), (DC_REC_PER_WINDOW 3, 1), (DC_REC_CFG_LIMIT 3, 100), (DC_REC_CFG_WARN 3, 8)]) 3000000000 with dc := { BudgetS.reset with recs := BudgetS.reset.recs.set 3 ⟨[(9, 50000), (460, 100)], []⟩ } }, by decide⟩
theorem witness_quarterRetire : ∃ (n : Fin 8) (s : State),
    s.power ≠ .off ∧ s.dc.recs.length = 8 ∧ s.on (DC_REC_CFG_KIND n) = true ∧ (∀ k : Fin 257, usage s n k < warnLevel s n) :=
  ⟨3, { st [(DC_STATUS_WARN, 8), (DC_REC_PER_WINDOW 3, 1), (DC_REC_CFG_KIND 3, 1), (DC_REC_CFG_LIMIT 3, 100), (DC_REC_CFG_WARN 3, 8)] with dc := BudgetS.reset }, by decide⟩
theorem witness_preset : ∃ (core : Cpu) (n : Fin 8) (p : BitVec 4) (lo hi kind lim win sp : Nat) (s : State),
    s.power = .active ∧ s.on (IC_CPU_STAT_NS core) = false ∧ s.locked = false ∧ s.dc.recs.length = 8 ∧ presetRow p.toNat = some (lo, hi, kind, lim, win, sp) ∧ s.on (DC_REC_CFG_EN n) = false ∧ s.get (DC_REC_LOW_LOW n) ≠ lo ∧ mayStore s core (A_DC_REC_CMD n) :=
  ⟨1, 3, 7, 9022000, 9278000, 1, 400, 20, 2000, st [], by decide⟩
theorem witness_dcRecordWrite : ∃ (core : Cpu) (n : Fin 8) (k : Fin 4) (v : Word) (d : RegDesc) (s : State),
    s.power = .active ∧ s.on (IC_CPU_STAT_NS core) = false ∧ s.locked = false ∧ s.dc.recs.length = 8 ∧ k ≠ 0 ∧ s.on (DC_REC_CFG_EN n) = false ∧ findReg (A_DC_REC_CFG n + 4 * k) = some d ∧ mayStore s core (A_DC_REC_CFG n + 4 * k) :=
  ⟨1, 3, 1, 8680000, ((findReg (A_DC_REC_CFG 3 + 4)).getD ⟨0, [], 0, 0, 0, 0, 0, 0⟩), st [], by decide⟩
theorem witness_dcRecordEnable : ∃ (core : Cpu) (n : Fin 8) (k : Fin 4) (v : Word) (d : RegDesc) (s : State),
    s.power = .active ∧ s.on (IC_CPU_STAT_NS core) = false ∧ s.locked = false ∧ s.dc.recs.length = 8 ∧ k = 0 ∧ s.on (DC_REC_CFG_EN n) = false ∧ recBad (s.setReg (A_DC_REC_CFG n) v) n = false ∧ (s.setReg (A_DC_REC_CFG n) v).on (DC_REC_CFG_EN n) = true ∧ (s.setReg (A_DC_REC_CFG n) v).on (DC_REC_CFG_KIND n) = false ∧ findReg (A_DC_REC_CFG n) = some d ∧ mayStore s core (A_DC_REC_CFG n + 4 * k) :=
  ⟨1, 3, 0, ((st [(DC_REC_CFG_EN 3, 1), (DC_REC_CFG_LIMIT 3, 1000), (DC_REC_CFG_INIT 3, 4)]).reg (A_DC_REC_CFG 3)), ((findReg (A_DC_REC_CFG 3)).getD ⟨0, [], 0, 0, 0, 0, 0, 0⟩), st [(DC_REC_LOW_LOW 3, 8680000), (DC_REC_HIGH_HIGH 3, 8686000), (DC_REC_PER_WINDOW 3, 3600)], by decide⟩
theorem witness_lbtListenEnd : ∃ (n : Fin 4) (draw : Word) (x : TxfS) (s : State),
    s.power ≠ .off ∧ s.txf n = some x ∧ s.ls.threads.length = 4 ∧ listenDue s n = true ∧ attachedTo s x.alane (txFreq s x.ofs) x.mode = true ∧ listenBusy s n x = false :=
  ⟨1, 0x1234, { txf0 1 with lbt := true, anchor := 100000, desc0 := 0x13882003, levels := [(0, -9000)] }, withTxf (atTick (st [(FE_WIN_CTL_FREQ, 8680000), (CZ_LANE_CFG_EN 3, 1), (CZ_LANE_CFG_MODE 3, 2), (CZ_LANE_CFG_BIN 3, nearestBin 8680000 8685000), (DC_LBT_CFG_THR, 0xFD00)]) 100000) { txf0 1 with lbt := true, anchor := 100000, desc0 := 0x13882003, levels := [(0, -9000)] }, by decide⟩
theorem witness_lbtRetry : ∃ (n : Fin 4) (draw : Word) (x : TxfS) (s : State),
    s.power ≠ .off ∧ s.txf n = some x ∧ s.ls.threads.length = 4 ∧ listenDue s n = true ∧ attachedTo s x.alane (txFreq s x.ofs) x.mode = true ∧ listenBusy s n x = true ∧ x.tries < s.get DC_LBT_CFG_NTRY ∧ x.fixed = true ∧ s.dc.coex = [] ∧ s.now ≤ x.anchor :=
  ⟨1, 0x1234, { txf0 1 with lbt := true, anchor := 100000, desc0 := 0x13882003, levels := [(0, 0)] }, withTxf (atTick (st [(FE_WIN_CTL_FREQ, 8680000), (CZ_LANE_CFG_EN 3, 1), (CZ_LANE_CFG_MODE 3, 2), (CZ_LANE_CFG_BIN 3, nearestBin 8680000 8685000), (DC_LBT_CFG_THR, 0xFD00), (DC_LBT_CFG_NTRY, 3)]) 100000) { txf0 1 with lbt := true, anchor := 100000, desc0 := 0x13882003, levels := [(0, 0)] }, by decide⟩
theorem witness_coexRequest : ∃ (s : State),
    s.power ≠ .off :=
  ⟨{ atTick (st []) 9 with dc := { BudgetS.reset with coex := [⟨1, 4, 0, 0, false, 0, false, 3, false, true, false⟩, ⟨2, 5, 5000000, 0, false, 0, false, 3, false, true, false⟩] } }, by decide⟩
theorem witness_grantSample : ∃ (owner : Fin 20) (gnt : Bool) (x : TxfS) (q : CoexReq) (s : State),
    s.power ≠ .off ∧ owner.val < 4 ∧ s.txf owner = some x ∧ s.ls.threads.length = 4 ∧ s.dc.coex = [q] ∧ q.owner = owner.val ∧ grantDue s owner = true ∧ (gnt != s.on CX_CTL_POL_GNT) = true ∧ s.now + sampleLead s owner ≤ txAnchor s x ∧ s.fe.air = none ∧ s.ls.acks = [] :=
  ⟨1, true, { txf0 1 with granted := false, anchor := 1600 }, ⟨1, 4, 0, 0, true, 0, false, 3, false, true, false⟩, { withTxf (atTick (st [(CX_CTL_EN, 1)]) 1000) { txf0 1 with granted := false, anchor := 1600 } with dc := { BudgetS.reset with coex := [⟨1, 4, 0, 0, true, 0, false, 3, false, true, false⟩] } }, by decide⟩
theorem witness_grantSampleAck : ∃ (owner : Fin 20) (gnt : Bool) (a : AckS) (s : State),
    s.power ≠ .off ∧ 4 ≤ owner.val ∧ grantAckOn s (owner.val - 4) = some a ∧ (gnt != s.on CX_CTL_POL_GNT) = true :=
  ⟨7, true, ack0, { atTick (st [(CX_CTL_EN, 1)]) 1000 with ls := { LinkS.reset with acks := [ack0] }, dc := { BudgetS.reset with coex := [⟨34, 4, 0, 0, true, 0, false, 3, false, true, false⟩] } }, by decide⟩
theorem witness_grantWithdrawn : ∃  (x : TxfS) (q : CoexReq) (a : AirS) (s : State),
    s.power ≠ .off ∧ s.dc.coex = [q] ∧ q.sampled = true ∧ q.owner < 4 ∧ s.txf q.owner = some x ∧ x.phase = 2 ∧ s.ls.threads.length = 4 ∧ q.wdraw = true ∧ s.fe.air = some a ∧ a.ack = false ∧ a.thread = q.owner ∧ a.down = false ∧ a.cut = false :=
  ⟨(txf0 2), ⟨1, 4, 0, 0, true, 0, false, 3, false, true, true⟩, air0, { withTxf (st [(CX_CFG_WDRAW, 1)]) (txf0 2) with dc := { BudgetS.reset with coex := [⟨1, 4, 0, 0, true, 0, false, 3, false, true, true⟩] }, fe := { AnalogueS.reset with air := some air0 } }, by decide⟩
theorem witness_grantWithdrawnAny : ∃  (x : TxfS) (q : CoexReq) (s : State),
    s.power ≠ .off ∧ q ∈ s.dc.coex ∧ q.sampled = true ∧ q.wdraw = true ∧ q.owner < 4 ∧ s.txf q.owner = some x ∧ (x.phase = 1 ∨ x.phase = 2) ∧ s.ls.threads.length = 4 :=
  ⟨(txf0 1), ⟨1, 4, 0, 0, true, 0, false, 3, false, true, true⟩, { withTxf (st [(CX_CFG_WDRAW, 1)]) (txf0 1) with dc := { BudgetS.reset with coex := [{ (⟨1, 4, 0, 0, true, 0, false, 3, false, true, true⟩ : CoexReq) with owner := 20, sampled := false }, ⟨1, 4, 0, 0, true, 0, false, 3, false, true, true⟩] } }, by decide⟩
theorem witness_dcDisable : ∃ (core : Cpu) (s : State),
    s.power = .active ∧ s.on (IC_CPU_STAT_NS core) = false ∧ s.locked = false ∧ mayStore s core DC_CTL_EN.addr :=
  ⟨1, st [(DC_CTL_EN, 1)], by decide⟩
theorem witness_dcDisableDone : ∃ (s : State),
    s.power ≠ .off ∧ s.on DC_CTL_EN = false ∧ s.dc.reserved = [] :=
  ⟨st [(DC_CTL_EN, 0), (DC_CTL_EN_ACK, 1)], by decide⟩
theorem witness_cxDisable : ∃ (core : Cpu) (s : State),
    s.power = .active ∧ s.on (IC_CPU_STAT_NS core) = false ∧ mayStore s core CX_CTL_EN.addr :=
  ⟨1, { st [(CX_CTL_EN, 1)] with dc := { BudgetS.reset with coex := [⟨1, 4, 0, 0, true, 0, false, 3, false, true, false⟩, ⟨1, 4, 0, 0, true, 0, false, 3, false, true, true⟩] } }, by decide⟩
theorem witness_forward : ∃ (fault : Fin 11) (entry : Fin 512) (word : Fin 16) (c : Nat) (q : List Nat) (f : FrameS) (m : Mac) (i ks off : Nat) (p : List Byte) (cls hops orig : Nat) (s : State),
    s.power ≠ .off ∧ s.fw.work = c :: q ∧ s.frame c = some f ∧ (s.on FW_CTL_EN = true ∨ s.fw.inProc = true) ∧ fault = 0 ∧ c ∉ q ∧ s.fw.waiting.length = 4 ∧ f.use = 1 ∧ f.passed = false ∧ readMac (frameOctets s f) = m ∧ findSender s m = (some i, s) ∧ s.get (NB_W14_INCELLS i) + f.cells.length ≤ s.get FW_ADM1_INCAP ∧ i < 512 ∧ m.ccm = true ∧ m.typ = 1 ∧ m.bcast = false ∧ rxSlot s m i = some ks ∧ fwdSlot s ks = true ∧ (frameIes (frameOctets s f) m (s.get LS_OUI_OUI)).fin = off ∧ (frameIes (frameOctets s f) m (s.get LS_OUI_OUI)).payloadIe = false ∧ ccmOpen (s.slot ks).key (nbEui s i) m off (frameOctets s f) = some p ∧ s.get (NB_W4_FC_NEXT i) ≤ m.ctr ∧ m.ctr < 0xFFFFFFFF ∧ m.snSup = false ∧ s.fw.heard.contains i = true ∧ readMesh p false = some (cls, hops, orig, s.get LS_SHORT_NODE_ID) :=
  ⟨0, 0, 0, 7, [], rxf0, (readMac (sealed0 false)), 9, 4, 14, [1, 80, 0, 0x13, 0xAB], 1, 3, 5, { atForward (sealed0 false) with fw := { (atForward (sealed0 false)).fw with heard := [9] } }, by decide⟩
theorem witness_forwardRelay : ∃ (fault : Fin 11) (entry : Fin 512) (word : Fin 16) (c : Nat) (q : List Nat) (f : FrameS) (m : Mac) (i ks off : Nat) (p : List Byte) (cls hops orig dst nh : Nat) (s : State),
    s.power ≠ .off ∧ s.fw.work = c :: q ∧ s.frame c = some f ∧ (s.on FW_CTL_EN = true ∨ s.fw.inProc = true) ∧ fault = 0 ∧ c ∉ q ∧ s.fw.waiting.length = 4 ∧ f.use = 1 ∧ f.passed = false ∧ readMac (frameOctets s f) = m ∧ findSender s m = (some i, s) ∧ s.get (NB_W14_INCELLS i) + f.cells.length ≤ s.get FW_ADM1_INCAP ∧ i < 512 ∧ m.ccm = true ∧ m.typ = 1 ∧ m.bcast = false ∧ rxSlot s m i = some ks ∧ fwdSlot s ks = true ∧ (frameIes (frameOctets s f) m (s.get LS_OUI_OUI)).fin = off ∧ (frameIes (frameOctets s f) m (s.get LS_OUI_OUI)).payloadIe = false ∧ ccmOpen (s.slot ks).key (nbEui s i) m off (frameOctets s f) = some p ∧ s.get (NB_W4_FC_NEXT i) ≤ m.ctr ∧ m.ctr < 0xFFFFFFFF ∧ m.snSup = false ∧ s.fw.heard.contains i = true ∧ readMesh p false = some (cls, hops, orig, dst) ∧ dst ≠ s.get LS_SHORT_NODE_ID ∧ dst < 0xFFF ∧ s.get LS_SHORT_NODE_ID ≠ 0 ∧ s.on FW_CTL_RELAY = true ∧ s.on FW_CTL_LEARN = false ∧ s.on (NB_W0_NOFWD i) = false ∧ 0 < hops ∧ routeLookup s dst = .inr nh ∧ s.on (NB_W0_VALID nh) = true ∧ nh ≠ i ∧ nh < 512 ∧ s.get FW_FCTR_CTR < 0xFFFEFFFF ∧ fwdSlot s (s.get (NB_W3_TXKS nh)) = true ∧ s.get (NB_W3_TXLVL nh) ≠ 0 ∧ f.cells.length = 1 ∧ (sealedHeader s nh false false true).length + p.length + micLen (s.get (NB_W3_TXLVL nh) + 4) ≤ 128 ∧ 4 ≤ p.length ∧ (queueTest s cls nh 1).1 = true ∧ cls < 4 :=
  ⟨0, 0, 0, 7, [], rxf0, (readMac (sealed0 true)), 9, 4, 14, [6, 80, 0, 0x13, 0xAB], 1, 3, 5, 6, 8, { atForward (sealed0 true) with fw := { (atForward (sealed0 true)).fw with heard := [9] } }, by (repeat' apply And.intro) <;> decide⟩
theorem witness_forwardUnsecured : ∃ (fault : Fin 11) (entry : Fin 512) (word : Fin 16) (c : Nat) (q : List Nat) (f : FrameS) (m : Mac) (i : Nat) (s : State),
    s.power ≠ .off ∧ s.fw.work = c :: q ∧ s.frame c = some f ∧ (s.on FW_CTL_EN = true ∨ s.fw.inProc = true) ∧ fault = 0 ∧ c ∉ q ∧ s.fw.waiting.length = 4 ∧ f.use = 1 ∧ f.passed = false ∧ readMac (frameOctets s f) = m ∧ findSender s m = (some i, s) ∧ s.get (NB_W14_INCELLS i) + f.cells.length ≤ s.get FW_ADM1_INCAP ∧ i < 512 ∧ m.sec = false ∧ m.typ = 1 ∧ f.apend = false :=
  ⟨0, 0, 0, 7, [], { rxf0 with len := 9 }, (readMac [0x41, 0xA8, 7, 0, 0, 1, 0, 5, 0]), 9, atForward [0x41, 0xA8, 7, 0, 0, 1, 0, 5, 0], by decide⟩
theorem witness_forwardAny : ∃ (fault : Fin 11) (entry : Fin 512) (word : Fin 16) (c : Nat) (q : List Nat) (f : FrameS) (s : State),
    s.power ≠ .off ∧ s.fw.work = c :: q ∧ s.frame c = some f ∧ (s.on FW_CTL_EN = true ∨ s.fw.inProc = true) ∧ c ∉ q :=
  ⟨0, 0, 0, 7, [9], { rxf0 with len := 9 }, { atForward [0x41, 0xA8, 7, 0, 0, 1, 0, 5, 0] with fw := { (atForward [0x41, 0xA8, 7, 0, 0, 1, 0, 5, 0]).fw with work := [7, 9] } }, by decide⟩
theorem witness_nbEntryWrite : ∃ (core : Cpu) (i : Fin 512) (k : Fin 16) (v : Word) (d : RegDesc) (s : State),
    s.power = .active ∧ s.on (IC_CPU_STAT_NS core) = false ∧ findReg (A_NB_W0 i + 4 * k) = some d ∧ (k = 0 ∨ k = 3 → nbBad s (s.setReg (A_NB_W0 i + 4 * k) v) (A_NB_W0 i + 4 * k) = false) ∧ (k = 0 → s.on (NB_W0_VALID i) = false ∨ (s.setReg (A_NB_W0 i) v).on (NB_W0_VALID i) = true) ∧ mayStore s core (A_NB_W0 i + 4 * k) :=
  ⟨1, 9, 0, 0x80000005, ((findReg (A_NB_W0 9)).getD ⟨0, [], 0, 0, 0, 0, 0, 0⟩), st [(NB_W3_TXLVL 9, 1)], by decide⟩
theorem witness_ringCopy : ∃ (k : Fin 4) (ecc : EccCell) (c : Nat) (f : FrameS) (q : List Nat) (d buf w1 n : Nat) (s : State),
    s.power ≠ .off ∧ s.fw.waiting.length = 4 ∧ s.fw.waiting.getD k [] = c :: q ∧ s.fw.stalled.contains k.val = false ∧ s.frame c = some f ∧ f.use = 3 ∧ c ∉ q ∧ s.on FW_CTL_EN_ACK = true ∧ s.on (FW_RING_CFG_EN k) = true ∧ ringHead s k = d ∧ inSram d 16 = true ∧ sramWaits s d 16 = false ∧ sramWaits s buf n = false ∧ (s.memWord d).toNat = buf ∧ (s.memWord (d + 4)).toNat = w1 ∧ 2 ^ 31 ≤ w1 ∧ n = min f.len (w1 % 2048) ∧ inSram buf n = true ∧ (buf + n ≤ d ∨ d + 16 ≤ buf) ∧ c ∉ s.fw.work ∧ (s.fw.waiting.all (fun l => !(l.contains c) || l == c :: q) = true) ∧ ecc = none :=
  ⟨1, none, 7, { rxf0 with use := 3, cause := 3, charged := 1 }, [8], 0x20001000, 0x20002000, 0x80000010, 16, { (atRing 1 0x20002000 0x80000010).setBytes (cellAddr 7) (sealed0 false) with fw := { ForwardS.reset with frames := [(7, { rxf0 with use := 3, cause := 3, charged := 1 })], waiting := [[], [], [], []].set 1 [7, 8], nonbr := 3, stalled := [] } }, by decide⟩
theorem witness_ringKick : ∃ (core : Cpu) (k : Fin 4) (c : Nat) (f : FrameS) (q : List Nat) (d buf w1 n : Nat) (s : State),
    s.power = .active ∧ s.on (IC_CPU_STAT_NS core) = false ∧ ringBad s k = false ∧ s.fw.waiting.length = 4 ∧ s.fw.waiting.getD k [] = c :: q ∧ s.fw.stalled = [k.val] ∧ s.frame c = some f ∧ f.use = 3 ∧ c ∉ q ∧ s.on FW_CTL_EN_ACK = true ∧ s.on (FW_RING_CFG_EN k) = true ∧ ringHead s k = d ∧ inSram d 16 = true ∧ sramWaits s d 16 = false ∧ sramWaits s buf n = false ∧ (s.memWord d).toNat = buf ∧ (s.memWord (d + 4)).toNat = w1 ∧ 2 ^ 31 ≤ w1 ∧ n = min f.len (w1 % 2048) ∧ inSram buf n = true ∧ (buf + n ≤ d ∨ d + 16 ≤ buf) ∧ c ∉ s.fw.work ∧ (s.fw.waiting.all (fun l => !(l.contains c) || l == c :: q) = true) ∧ mayStore s core (FW_RING_CFG_KICK k).addr :=
  ⟨1, 1, 7, { rxf0 with use := 3, cause := 3, charged := 1 }, [8], 0x20001000, 0x20002000, 0x80000010, 16, { (atRing 1 0x20002000 0x80000010).setBytes (cellAddr 7) (sealed0 false) with fw := { ForwardS.reset with frames := [(7, { rxf0 with use := 3, cause := 3, charged := 1 })], waiting := [[], [], [], []].set 1 [7, 8], nonbr := 3, stalled := [1] } }, by decide⟩
theorem witness_ringRetry : ∃  (k : Nat) (c : Nat) (f : FrameS) (q : List Nat) (d buf w1 n : Nat) (s : State),
    s.power ≠ .off ∧ k < 4 ∧ s.fw.waiting.length = 4 ∧ s.fw.waiting.getD k [] = c :: q ∧ s.fw.stalled = [k] ∧ s.frame c = some f ∧ f.use = 3 ∧ c ∉ q ∧ s.on FW_CTL_EN_ACK = true ∧ s.on (FW_RING_CFG_EN k) = true ∧ ringHead s k = d ∧ inSram d 16 = true ∧ sramWaits s d 16 = false ∧ sramWaits s buf n = false ∧ (s.memWord d).toNat = buf ∧ (s.memWord (d + 4)).toNat = w1 ∧ 2 ^ 31 ≤ w1 ∧ n = min f.len (w1 % 2048) ∧ inSram buf n = true ∧ (buf + n ≤ d ∨ d + 16 ≤ buf) ∧ c ∉ s.fw.work ∧ (s.fw.waiting.all (fun l => !(l.contains c) || l == c :: q) = true) :=
  ⟨1, 7, { rxf0 with use := 3, cause := 3, charged := 1 }, [8], 0x20001000, 0x20002000, 0x80000010, 16, { (atRing 1 0x20002000 0x80000010).setBytes (cellAddr 7) (sealed0 false) with fw := { ForwardS.reset with frames := [(7, { rxf0 with use := 3, cause := 3, charged := 1 })], waiting := [[], [], [], []].set 1 [7, 8], nonbr := 3, stalled := [1] } }, by decide⟩
theorem witness_subKick : ∃ (core : Cpu) (s : State),
    s.power = .active ∧ s.on (IC_CPU_STAT_NS core) = false ∧ ringBad s 4 = false ∧ s.on (FW_RING_CFG_EN 4) = true ∧ mayStore s core (FW_RING_CFG_KICK 4).addr :=
  ⟨1, atRing 4 0 0, by decide⟩
theorem witness_submissionBad : ∃ (fault : Fin 6) (word : Fin 16) (d w1 : Nat) (s : State),
    s.power ≠ .off ∧ s.on FW_CTL_EN = true ∧ s.fw.subWait = true ∧ s.fw.work = [] ∧ s.on (FW_RING_CFG_EN 4) = true ∧ ringHead s 4 = d ∧ inSram d 16 = true ∧ sramWaits s d 16 = false ∧ (inSram (s.memWord d).toNat (w1 % 2048) && sramWaits s (s.memWord d).toNat (w1 % 2048)) = false ∧ (s.memWord (d + 4)).toNat = w1 ∧ 2 ^ 31 ≤ w1 ∧ fault ≠ 3 ∧ (fault = 1 ∨ w1 % 2048 = 0 ∨ 2043 < w1 % 2048) :=
  ⟨0, 0, 0x20001000, 0x80000000, { atRing 4 0x20002000 0x80000000 with fw := { ForwardS.reset with subWait := true } }, by decide⟩
theorem witness_submission : ∃ (fault : Fin 6) (word : Fin 16) (d w1 buf n : Nat) (s : State),
    s.power ≠ .off ∧ s.on FW_CTL_EN = true ∧ s.fw.subWait = true ∧ s.fw.work = [] ∧ s.on (FW_RING_CFG_EN 4) = true ∧ ringHead s 4 = d ∧ inSram d 16 = true ∧ sramWaits s d 16 = false ∧ (inSram (s.memWord d).toNat (w1 % 2048) && sramWaits s (s.memWord d).toNat (w1 % 2048)) = false ∧ (s.memWord (d + 4)).toNat = w1 ∧ 2 ^ 31 ≤ w1 ∧ fault = 0 ∧ (s.memWord d).toNat = buf ∧ n = w1 % 2048 ∧ 0 < n ∧ n ≤ 128 ∧ inSram buf n = true ∧ bitOf w1 30 = true ∧ bitOf w1 29 = false ∧ bitOf w1 28 = false ∧ s.fw.freeNext < 4096 ∧ 0 < freeCells s ∧ (buf + n ≤ d ∨ d + 16 ≤ buf) :=
  ⟨0, 0, 0x20001000, 0xC0000010, 0x20002000, 16, { atRing 4 0x20002000 0xC0000010 with fw := { ForwardS.reset with subWait := true } }, by decide⟩
theorem witness_submissionAny : ∃ (fault : Fin 6) (word : Fin 16) (d w1 : Nat) (s : State),
    s.power ≠ .off ∧ s.on FW_CTL_EN = true ∧ s.fw.subWait = true ∧ s.fw.work = [] ∧ s.on (FW_RING_CFG_EN 4) = true ∧ ringHead s 4 = d ∧ inSram d 16 = true ∧ sramWaits s d 16 = false ∧ (inSram (s.memWord d).toNat (w1 % 2048) && sramWaits s (s.memWord d).toNat (w1 % 2048)) = false ∧ (s.memWord (d + 4)).toNat = w1 ∧ 2 ^ 31 ≤ w1 :=
  ⟨0, 0, 0x20001000, 0xC0000010, { atRing 4 0x20002000 0xC0000010 with fw := { ForwardS.reset with subWait := true } }, by decide⟩
theorem witness_subFree : ∃ (core : Cpu) (cell : BitVec 12) (f : FrameS) (s : State),
    s.power = .active ∧ s.frame cell.toNat = some f ∧ f.use = 4 ∧ mayStore s core A_FW_SUB_FREE :=
  ⟨1, 7, { raw0 with busy := true }, withFrames (st []) [(7, { raw0 with busy := true })], by decide⟩
theorem witness_fwDisable : ∃ (core : Cpu) (s : State),
    s.power = .active ∧ s.on (IC_CPU_STAT_NS core) = false ∧ s.on FW_CTL_EN = true ∧ mayStore s core FW_CTL_EN.addr :=
  ⟨1, st [(FW_CTL_EN, 1)], by decide⟩
theorem witness_fwDisableDone : ∃ (s : State),
    s.power ≠ .off ∧ s.on FW_CTL_EN = false ∧ s.fw.inProc = false ∧ ringBusy s = false :=
  ⟨st [(FW_CTL_EN, 0), (FW_CTL_EN_ACK, 1)], by decide⟩
theorem witness_routeAging : ∃  (x : Nat) (s : State),
    s.power ≠ .off ∧ ageDue s = true ∧ routesUsed s = [x] ∧ s.on (NB_ROUTE_RV x) = true ∧ s.on (NB_ROUTE_LEARNED x) = true :=
  ⟨6, atTick (st [(FW_AGE_PERIOD, 2), (NB_ROUTE_RV 6, 1), (NB_ROUTE_LEARNED 6, 1), (NB_ROUTE_AGE 6, 15)]) 400000000, by decide⟩
theorem witness_routeAgingAny : ∃ (s : State),
    s.power ≠ .off ∧ ageDue s = true ∧ Registers.wf s.regs :=
  ⟨atTick (st [(FW_AGE_PERIOD, 2), (NB_ROUTE_RV 6, 1), (NB_ROUTE_LEARNED 6, 1), (NB_ROUTE_AGE 6, 15), (NB_ROUTE_RV 7, 1), (NB_ROUTE_LEARNED 7, 1), (NB_ROUTE_AGE 7, 3), (NB_ROUTE_RV 8, 1), (NB_ROUTE_AGE 8, 3)]) 400000000, by decide⟩
theorem witness_alloc : ∃ (core : Cpu) (x : Nat) (s : State),
    s.power = .active ∧ s.on (IC_CPU_STAT_NS core) = false ∧ s.profile = 2 ∧ 1 ≤ x ∧ x ≤ 0xFFE ∧ s.on (NB_ROUTE_ADM x) = false ∧ s.on (NB_ROUTE_RV x) = false ∧ s.on (NB_ROUTE_NV x) = false ∧ (∀ y : Fin 4096, 1 ≤ y.val → y.val < x → s.on (NB_ROUTE_ADM y) = true ∨ s.on (NB_ROUTE_RV y) = true ∨ s.on (NB_ROUTE_NV y) = true) ∧ mayStore s core A_FW_DOM_CMD :=
  ⟨1, 2, { st [(NB_ROUTE_ADM 1, 1)] with profile := 2 }, by decide⟩
theorem witness_free : ∃ (core : Cpu) (id : BitVec 12) (s : State),
    s.power = .active ∧ s.on (IC_CPU_STAT_NS core) = false ∧ s.profile = 2 ∧ id.toNat ≠ 0 ∧ id.toNat ≠ 0xFFF ∧ mayStore s core A_FW_DOM_CMD :=
  ⟨1, 5, { st [(NB_ROUTE_ADM 5, 1)] with profile := 2 }, by decide⟩
theorem witness_keyRollover : ∃ (w3 : Word) (b : Nat) (d : RegDesc) (s : State),
    s.power ≠ .off ∧ s.profile = 2 ∧ s.get FW_CFG_BCIDX = b ∧ findReg (A_NB_W3 b) = some d ∧ s.on (NB_W0_VALID b) = true ∧ s.on (NB_W0_CHILD b) = false ∧ (s.setReg (A_NB_W3 b) w3).get (NB_W3_TXLVL b) ≠ 0 :=
  ⟨((st [(NB_W3_TXLVL 9, 2)]).reg (A_NB_W3 9)), 9, ((findReg (A_NB_W3 9)).getD ⟨0, [], 0, 0, 0, 0, 0, 0⟩), { st [(FW_CFG_BCIDX, 9), (NB_W0_VALID 9, 1)] with profile := 2 }, by decide⟩
theorem witness_kprevExpire : ∃  (e : Nat) (s : State),
    s.power ≠ .off ∧ s.fw.kprevEnd = some e ∧ e ≤ s.now :=
  ⟨5, { atTick (st [(FW_KPREV_EN, 1)]) 9 with fw := { ForwardS.reset with kprevEnd := some 5 } }, by decide⟩
theorem witness_load : ∃ (core : Cpu) (n : Fin 64) (s : State),
    s.power = .active ∧ bitOf (s.get (CE_KS_ATTR_CORES n)) core = true ∧ (s.on (CE_KS_ATTR_SEC n) = false ∨ s.on (IC_CPU_STAT_NS core) = false) ∧ s.ce.slots.length = 64 ∧ (((s.slot n).buf.take (if s.on (CE_KS_ATTR_SIZE n) then 8 else 4)).all (·.isSome) = true) ∧ mayStore s core (A_CE_KS_CMD n) :=
  ⟨1, 4, { st [(CE_KS_ATTR_CORES 4, 15), (CE_KS_ATTR_SEC 4, 0)] with ce := { CipherS.reset with slots := CipherS.reset.slots.set 4 ⟨[], [some 1, some 2, some 3, some 4, none, none, none, none]⟩ } }, by decide⟩
theorem witness_loadIncomplete : ∃ (core : Cpu) (n : Fin 64) (s : State),
    s.power = .active ∧ bitOf (s.get (CE_KS_ATTR_CORES n)) core = true ∧ (s.on (CE_KS_ATTR_SEC n) = false ∨ s.on (IC_CPU_STAT_NS core) = false) ∧ s.ce.slots.length = 64 ∧ (((s.slot n).buf.take (if s.on (CE_KS_ATTR_SIZE n) then 8 else 4)).all (·.isSome) = false) ∧ mayStore s core (A_CE_KS_CMD n) :=
  ⟨1, 4, st [(CE_KS_ATTR_CORES 4, 15), (CE_KS_ATTR_SEC 4, 0)], by decide⟩
theorem witness_clear : ∃ (core : Cpu) (n : Fin 64) (s : State),
    s.power = .active ∧ bitOf (s.get (CE_KS_ATTR_CORES n)) core = true ∧ (s.on (CE_KS_ATTR_SEC n) = false ∨ s.on (IC_CPU_STAT_NS core) = false) ∧ s.ce.slots.length = 64 ∧ mayStore s core (A_CE_KS_CMD n) :=
  ⟨1, 4, { st [(CE_KS_ATTR_CORES 4, 15), (CE_KS_ATTR_SEC 4, 0), (CE_KS_ATTR_VALID 4, 1)] with ce := { CipherS.reset with slots := CipherS.reset.slots.set 4 ⟨[1, 2], []⟩ } }, by decide⟩
theorem witness_ksAttrWrite : ∃ (core : Cpu) (n : Fin 64) (v : Word) (d : RegDesc) (s : State),
    s.power = .active ∧ bitOf (s.get (CE_KS_ATTR_CORES n)) core = true ∧ (s.on (CE_KS_ATTR_SEC n) = false ∨ s.on (IC_CPU_STAT_NS core) = false) ∧ s.on (CE_KS_ATTR_VALID n) = false ∧ findReg (A_CE_KS_ATTR n) = some d ∧ mayStore s core (A_CE_KS_ATTR n) :=
  ⟨1, 4, 0x7F, ((findReg (A_CE_KS_ATTR 4)).getD ⟨0, [], 0, 0, 0, 0, 0, 0⟩), st [(CE_KS_ATTR_CORES 4, 15), (CE_KS_ATTR_SEC 4, 0)], by decide⟩
theorem witness_ceStart : ∃ (core : Cpu) (c : Cpu) (s : State),
    s.power = .active ∧ core = c ∧ s.on CE_CTL_EN = true ∧ s.ce.jobs.length = 4 ∧ (s.get (CE_J_STAT_STATE c) = 0 ∨ s.get (CE_J_STAT_STATE c) = 3) ∧ mayStore s core (CE_J_CTL_START c).addr :=
  ⟨1, 1, st [(CE_CTL_EN, 1)], by decide⟩
theorem witness_ceJobRun : ∃ (c : Cpu) (ecc : Bool) (q : List Nat) (l : Nat) (s : State),
    s.power ≠ .off ∧ s.get (CE_J_STAT_STATE c) = 1 ∧ s.ce.queue = c.val :: q ∧ c.val ∉ q ∧ (∀ k : Fin 4, s.get (CE_J_STAT_STATE k) ≠ 2) ∧ s.fitLevel (some (.ce c.val)) = some l ∧ s.pm.held = [] ∧ jobBadParam (ceParams s c) = false ∧ jobBadLength s (ceParams s c) = false ∧ ecc = false ∧ slotUsable s c (s.get (CE_J_CTL_KS c)) (ceParams s c).mode (ceParams s c).ns = true ∧ s.ce.jobs.length = 4 :=
  ⟨1, false, [], 0, { st [(CE_J_CTL_MODE 1, 4), (CE_J_CTL_KS 1, 4), (CE_J_SRC_ADDR 1, 0x20000100), (CE_J_DST_ADDR 1, 0x20000200), (CE_J_LEN_PLEN 1, 16), (CE_J_STAT_STATE 1, 1), (CE_KS_ATTR_VALID 4, 1), (CE_KS_ATTR_USAGE 4, 16), (CE_KS_ATTR_CORES 4, 2)] with ce := { CipherS.reset with queue := [1] } }, by decide⟩
theorem witness_ceJobEnd : ∃ (c : Cpu) (bus : Bool) (s : State),
    s.power ≠ .off ∧ s.get (CE_J_STAT_STATE c) = 2 ∧ s.get PM_STAT_LEVEL ≠ 2 ∧ bus = false ∧ (s.job c).ns = false ∧ memBusy s (s.job c).src (s.job c).plen = false ∧ memBusy s (s.job c).aad (s.job c).alen = false ∧ memBusy s (s.job c).dst (s.job c).plen = false ∧ 1 ≤ (s.job c).mode ∧ (s.job c).mode ≤ 4 ∧ ((s.job c).dir = true → (jobResult (s.job c) (octets (s.bytes (s.job c).aad (s.job c).alen)) (octets (s.bytes (s.job c).src (s.job c).plen))).2.2 = true) ∧ 0x20000000 ≤ (s.job c).dst ∧ s.ce.jobs.length = 4 :=
  ⟨1, false, { st [(CE_J_STAT_STATE 1, 2)] with ce := { CipherS.reset with queue := [1], jobs := CipherS.reset.jobs.set 1 job0 } }, by decide⟩
theorem witness_ceAbort : ∃ (core : Cpu) (c : Cpu) (s : State),
    s.power = .active ∧ core = c ∧ s.get (CE_J_STAT_STATE c) = 1 ∧ s.ce.jobs.length = 4 ∧ mayStore s core (CE_J_CTL_ABORT c).addr :=
  ⟨1, 1, { st [(CE_J_STAT_STATE 1, 1)] with ce := { CipherS.reset with queue := [1] } }, by decide⟩
theorem witness_ceAbortRunning : ∃ (core : Cpu) (c : Cpu) (s : State),
    s.power = .active ∧ core = c ∧ s.get (CE_J_STAT_STATE c) = 2 ∧ (s.job c).reach ≤ refusedAt s (s.job c).ns (s.job c).dst (s.job c).plen ∧ s.ce.jobs.length = 4 ∧ mayStore s core (CE_J_CTL_ABORT c).addr :=
  ⟨1, 1, { st [(CE_J_STAT_STATE 1, 2)] with ce := { CipherS.reset with queue := [1], jobs := CipherS.reset.jobs.set 1 job0 } }, by decide⟩
theorem witness_ceAbortLate : ∃ (core : Cpu) (c : Cpu) (s : State),
    s.power = .active ∧ core = c ∧ (s.get (CE_J_STAT_STATE c) = 0 ∨ s.get (CE_J_STAT_STATE c) = 3) ∧ mayStore s core (CE_J_CTL_ABORT c).addr :=
  ⟨1, 1, st [(CE_J_STAT_STATE 1, 3)], by decide⟩
theorem witness_ceDisable : ∃ (core : Cpu) (s : State),
    s.power = .active ∧ s.on CE_CTL_EN = true ∧ s.ce.jobs.length = 4 ∧ (∀ c : Fin 4, (s.job c).reach ≤ refusedAt s (s.job c).ns (s.job c).dst (s.job c).plen) ∧ mayStore s core CE_CTL_EN.addr :=
  ⟨1, { st [(CE_CTL_EN, 1), (CE_J_STAT_STATE 1, 2)] with ce := { CipherS.reset with queue := [1], jobs := CipherS.reset.jobs.set 1 job0 } }, by decide⟩
theorem witness_pqStart : ∃ (core : Cpu) (c : Cpu) (s : State),
    s.power = .active ∧ core = c ∧ s.on PQ_CTL_EN = true ∧ s.pq.jobs.length = 4 ∧ (s.get (PQ_J_STAT_STATE c) = 0 ∨ s.get (PQ_J_STAT_STATE c) = 3) ∧ mayStore s core (PQ_J_CTL_START c).addr :=
  ⟨1, 1, st [(PQ_CTL_EN, 1)], by decide⟩
theorem witness_pqJobRun : ∃ (c : Cpu) (q : List Nat) (l : Nat) (s : State),
    s.power ≠ .off ∧ s.get (PQ_J_STAT_STATE c) = 1 ∧ s.pq.queue = c.val :: q ∧ c.val ∉ q ∧ (∀ k : Fin 4, s.get (PQ_J_STAT_STATE k) ≠ 2) ∧ s.fitLevel (some (.pq c.val)) = some l ∧ s.pm.held = [] ∧ pqBadMode s (pqParams s c) = false ∧ (pqSecure (pqParams s c).mode && (pqParams s c).ns) = false ∧ pqBadLength (pqParams s c) = false ∧ pqBadRange (pqParams s c) = false ∧ (pqNeeds (pqParams s c)).map (pqKey s) ≠ some none ∧ pqHedged (pqParams s c) = false ∧ s.pq.jobs.length = 4 :=
  ⟨1, [], 0, { st [(PQ_J_CTL_MODE 1, 4), (PQ_J_SRC_ADDR 1, 0x20000100), (PQ_J_DST_ADDR 1, 0x20000200), (PQ_J_MLEN_MLEN 1, 4), (PQ_J_STAT_STATE 1, 1)] with pq := { SignS.reset with queue := [1] } }, by decide⟩
theorem witness_pqJobEnd : ∃ (c : Cpu) (rounds : BitVec 8) (bus : Bool) (s : State),
    s.power ≠ .off ∧ s.get (PQ_J_STAT_STATE c) = 2 ∧ s.get PM_STAT_LEVEL ≠ 2 ∧ pqWaits s c = false ∧ bus = false ∧ (s.pqJob c).ns = false ∧ memBusy s (s.pqJob c).dst (pqOutLen (s.pqJob c)) = false ∧ (∀ r ∈ pqInputs (s.pqJob c), memBusy s r.1 r.2 = false) ∧ s.pq.clear1 = false ∧ s.pq.jobs.length = 4 ∧ (s.pqJob c).mode ≠ 1 ∧ (s.pqJob c).mode ≠ 3 ∧ (((s.pqJob c).mode == 2 || (s.pqJob c).mode == 7) && (pqSigned s (s.pqJob c)).2.isNone) = false ∧ 0x20000000 ≤ (s.pqJob c).dst :=
  ⟨1, 0, false, { st [(PQ_J_STAT_STATE 1, 2)] with pq := { SignS.reset with queue := [1], jobs := SignS.reset.jobs.set 1 pqj0 } }, by decide⟩
theorem witness_pqVerifyEnd : ∃ (c : Cpu) (rounds : BitVec 8) (bus : Bool) (s : State),
    s.power ≠ .off ∧ s.get (PQ_J_STAT_STATE c) = 2 ∧ s.get PM_STAT_LEVEL ≠ 2 ∧ pqWaits s c = false ∧ bus = false ∧ (s.pqJob c).ns = false ∧ memBusy s (s.pqJob c).dst (pqOutLen (s.pqJob c)) = false ∧ (∀ r ∈ pqInputs (s.pqJob c), memBusy s r.1 r.2 = false) ∧ s.pq.clear1 = false ∧ s.pq.jobs.length = 4 ∧ (s.pqJob c).mode = 3 :=
  ⟨1, 0, false, { st [(PQ_J_STAT_STATE 1, 2)] with pq := { SignS.reset with queue := [1], jobs := SignS.reset.jobs.set 1 { pqj0 with mode := 3 } } }, by decide⟩
theorem witness_pqAbort : ∃ (core : Cpu) (c : Cpu) (s : State),
    s.power = .active ∧ core = c ∧ s.get (PQ_J_STAT_STATE c) = 1 ∧ s.pq.clear1 = false ∧ s.pq.jobs.length = 4 ∧ mayStore s core (PQ_J_CTL_ABORT c).addr :=
  ⟨1, 1, { st [(PQ_J_STAT_STATE 1, 1)] with pq := { SignS.reset with queue := [1] } }, by decide⟩
theorem witness_pqAbortRunning : ∃ (core : Cpu) (c : Cpu) (s : State),
    s.power = .active ∧ core = c ∧ s.get (PQ_J_STAT_STATE c) = 2 ∧ s.pq.clear1 = false ∧ (s.pqJob c).reach ≤ refusedAt s (s.pqJob c).ns (s.pqJob c).dst (pqOutLen (s.pqJob c)) ∧ s.pq.jobs.length = 4 ∧ mayStore s core (PQ_J_CTL_ABORT c).addr :=
  ⟨1, 1, { st [(PQ_J_STAT_STATE 1, 2)] with pq := { SignS.reset with queue := [1], jobs := SignS.reset.jobs.set 1 pqj0 } }, by decide⟩
theorem witness_pqAbortLate : ∃ (core : Cpu) (c : Cpu) (s : State),
    s.power = .active ∧ core = c ∧ (s.get (PQ_J_STAT_STATE c) = 0 ∨ s.get (PQ_J_STAT_STATE c) = 3) ∧ mayStore s core (PQ_J_CTL_ABORT c).addr :=
  ⟨1, 1, st [(PQ_J_STAT_STATE 1, 3)], by decide⟩
theorem witness_pqDisable : ∃ (core : Cpu) (s : State),
    s.power = .active ∧ s.on PQ_CTL_EN = true ∧ s.pq.jobs.length = 4 ∧ s.pq.clear1 = false ∧ (∀ c : Fin 4, (s.pqJob c).reach ≤ refusedAt s (s.pqJob c).ns (s.pqJob c).dst (pqOutLen (s.pqJob c))) ∧ mayStore s core PQ_CTL_EN.addr :=
  ⟨1, { st [(PQ_CTL_EN, 1), (PQ_J_STAT_STATE 1, 2)] with pq := { SignS.reset with queue := [1], jobs := SignS.reset.jobs.set 1 pqj0 } }, by decide⟩
theorem witness_clear1 : ∃ (core : Cpu) (s : State),
    s.power = .active ∧ s.on (IC_CPU_STAT_NS core) = false ∧ pk1InUse s = false ∧ mayStore s core A_PQ_PK_CMD :=
  ⟨1, { st [(PQ_STATUS_PK1V, 1)] with pq := { SignS.reset with pk1 := some [1] } }, by decide⟩
theorem witness_clear1InUse : ∃ (core : Cpu) (s : State),
    s.power = .active ∧ s.on (IC_CPU_STAT_NS core) = false ∧ pk1InUse s = true ∧ mayStore s core A_PQ_PK_CMD :=
  ⟨1, { st [(PQ_STATUS_PK1V, 1), (PQ_J_STAT_STATE 1, 2)] with pq := { SignS.reset with queue := [1], jobs := SignS.reset.jobs.set 1 { pqj0 with mode := 1, seedm := true } } }, by decide⟩
theorem witness_entropyWord : ∃ (raw : List Byte) (s : State),
    raw.length = 128 ∧ s.get PQ_ENT_STAT_STATE = 2 ∧ (longestRun s.pq.run s.pq.runBit (rawBits raw)).1 < 41 ∧ ((rawBits raw).filter id).length < 800 ∧ 224 < ((rawBits raw).filter id).length ∧ s.pq.pool.length < 4 ∧ s.power = .active ∧ (∀ c : Fin 4, pqWaits s c = false) :=
  ⟨(List.replicate 128 5), st [(PQ_ENT_STAT_STATE, 2)], by decide⟩
theorem witness_entropyWordTaken : ∃ (raw : List Byte) (c : Fin 4) (s : State),
    raw.length = 128 ∧ s.get PQ_ENT_STAT_STATE = 2 ∧ (longestRun s.pq.run s.pq.runBit (rawBits raw)).1 < 41 ∧ ((rawBits raw).filter id).length < 800 ∧ 224 < ((rawBits raw).filter id).length ∧ s.pq.pool.length < 4 ∧ s.power = .active ∧ pqWaits s c = true ∧ (∀ d : Fin 4, d < c → pqWaits s d = false) ∧ s.pq.jobs.length = 4 :=
  ⟨(List.replicate 128 5), 1, { st [(PQ_ENT_STAT_STATE, 2), (PQ_J_STAT_STATE 1, 2)] with pq := { SignS.reset with queue := [1], jobs := SignS.reset.jobs.set 1 { pqj0 with mode := 7 } } }, by decide⟩
theorem witness_entropyRepetition : ∃ (raw : List Byte) (s : State),
    raw.length = 128 ∧ s.get PQ_ENT_STAT_STATE = 2 ∧ s.power = .active ∧ (∀ c : Fin 4, pqWaits s c = false) ∧ s.fc.queue.length < 16 ∧ 41 ≤ (longestRun s.pq.run s.pq.runBit (rawBits raw)).1 :=
  ⟨(List.replicate 128 0), st [(PQ_ENT_STAT_STATE, 2)], by decide⟩
theorem witness_entropyProportion : ∃ (raw : List Byte) (s : State),
    raw.length = 128 ∧ s.get PQ_ENT_STAT_STATE = 2 ∧ s.power = .active ∧ (∀ c : Fin 4, pqWaits s c = false) ∧ s.fc.queue.length < 16 ∧ (longestRun s.pq.run s.pq.runBit (rawBits raw)).1 < 41 ∧ (800 ≤ ((rawBits raw).filter id).length ∨ ((rawBits raw).filter id).length ≤ 224) :=
  ⟨(List.replicate 128 0xF7), st [(PQ_ENT_STAT_STATE, 2)], by decide⟩
theorem witness_entropyFail : ∃ (rct : Bool) (s : State),
    s.get PQ_ENT_STAT_STATE ≠ 3 ∧ s.power = .active ∧ (∀ c : Fin 4, pqWaits s c = false) ∧ s.fc.queue.length < 16 :=
  ⟨true, st [(PQ_ENT_STAT_STATE, 2)], by decide⟩
theorem witness_restart : ∃ (core : Cpu) (s : State),
    s.power = .active ∧ mayStore s core A_PQ_ENT_CTL :=
  ⟨1, st [(PQ_ENT_STAT_STATE, 3)], by decide⟩
theorem witness_startupTestEnd : ∃ (s : State),
    s.get PQ_ENT_STAT_STATE = 1 ∧ s.power = .active :=
  ⟨st [(PQ_ENT_STAT_STATE, 1)], by decide⟩
theorem witness_progOkh : ∃ (core : Cpu) (idx : Fin 4) (l : Nat) (s : State),
    s.power = .active ∧ s.on (IC_CPU_STAT_NS core) = false ∧ s.locked = false ∧ s.on PQ_CTL_OTP_EN = true ∧ s.on PQ_OTP_CMD_BUSY = false ∧ s.get FL_STAT_STATE < 2 ∧ s.pm.held = [] ∧ s.fitLevel (some .prog) = some l ∧ okhEmpty s idx = true ∧ inSram (s.get PQ_OTP_SRC_ADDR) 32 = true ∧ allZero (s.bytes (s.get PQ_OTP_SRC_ADDR) 32) = false ∧ mayStore s core A_PQ_OTP_CMD :=
  ⟨1, 2, 0, (st [(PQ_CTL_OTP_EN, 1), (PQ_OTP_SRC_ADDR, 0x20000100)]).setBytes 0x20000100 [9], by decide⟩
theorem witness_progOkhRefused : ∃ (core : Cpu) (idx : Fin 4) (s : State),
    s.power = .active ∧ s.on (IC_CPU_STAT_NS core) = false ∧ s.locked = false ∧ s.on PQ_CTL_OTP_EN = true ∧ s.on PQ_OTP_CMD_BUSY = false ∧ okhEmpty s idx = false ∧ mayStore s core A_PQ_OTP_CMD :=
  ⟨1, 1, withOtp (st [(PQ_CTL_OTP_EN, 1)]), by decide⟩
theorem witness_revoke : ∃ (core : Cpu) (idx : Fin 4) (l k : Nat) (s : State),
    s.power = .active ∧ s.on (IC_CPU_STAT_NS core) = false ∧ s.locked = false ∧ s.on PQ_CTL_OTP_EN = true ∧ s.on PQ_OTP_CMD_BUSY = false ∧ s.get FL_STAT_STATE < 2 ∧ s.pm.held = [] ∧ s.fitLevel (some .prog) = some l ∧ okhProgrammed s idx = true ∧ (k : Nat) ≠ idx ∧ k < 4 ∧ okhProgrammed s k = true ∧ mayStore s core A_PQ_OTP_CMD :=
  ⟨1, 1, 0, 0, withOtp (st [(PQ_CTL_OTP_EN, 1)]), by decide⟩
theorem witness_arbAdv : ∃ (core : Cpu) (l k : Nat) (s : State),
    s.power = .active ∧ s.on (IC_CPU_STAT_NS core) = false ∧ s.locked = false ∧ s.on PQ_CTL_OTP_EN = true ∧ s.on PQ_OTP_CMD_BUSY = false ∧ s.get FL_STAT_STATE < 2 ∧ s.pm.held = [] ∧ s.fitLevel (some .prog) = some l ∧ arbValue s < s.get64 PQ_OTP_ARG_LO_ARG PQ_OTP_ARG_HI_ARG ∧ s.get64 PQ_OTP_ARG_LO_ARG PQ_OTP_ARG_HI_ARG ≤ s.get64 PQ_ARB_IMG_LO_IMG PQ_ARB_IMG_HI_IMG ∧ arbFree s = some k ∧ mayStore s core A_PQ_OTP_CMD :=
  ⟨1, 0, 0, st [(PQ_CTL_OTP_EN, 1), (PQ_OTP_ARG_LO_ARG, 3), (PQ_ARB_IMG_LO_IMG, 4)], by decide⟩
theorem witness_otpOpEnd : ∃  (o : OtpOp) (s : State),
    s.power ≠ .off ∧ s.pq.otp = some o ∧ o.started = true ∧ 0x1FFF0000 ≤ o.addr ∧ o.addr + o.data.length ≤ 0x1FFF2000 :=
  ⟨⟨0x1FFF1B00, [3, 0, 0, 0, 0, 0, 0, 0], true⟩, { st [] with pq := { SignS.reset with otp := some ⟨0x1FFF1B00, [3, 0, 0, 0, 0, 0, 0, 0], true⟩ } }, by decide⟩
theorem witness_bootTestPin : ∃ (e : BootEnv) (s : State),
    s.power = .active ∧ s.on TB_STATUS_LOCKED = true ∧ s.pm.buckWait = false ∧ s.bt.stage = 0 ∧ s.fl.op = none ∧ allZero (s.bytes otpSeed 32) = true ∧ s.on (PM_BOOTREC_REC.bit 31) = false ∧ s.sp.length = 2 ∧ e.test = true ∧ bitOf (leNat (s.bytes 0x1FFF0000 4)) 2 = false :=
  ⟨⟨true, [], [0, 0x200000], [], [], false, false⟩, st [(TB_STATUS_LOCKED, 1)], by decide⟩
theorem witness_bootNoImage : ∃ (e : BootEnv) (s : State),
    s.power = .active ∧ s.on TB_STATUS_LOCKED = true ∧ s.pm.buckWait = false ∧ s.bt.stage = 0 ∧ s.fl.op = none ∧ allZero (s.bytes otpSeed 32) = true ∧ s.on (PM_BOOTREC_REC.bit 31) = false ∧ s.sp.length = 2 ∧ e.test = false ∧ headReadable e s 0 = false ∧ headReadable e s 1 = false ∧ s.bytes 0x1FFF0000 4 = [0, 0, 0, 0] :=
  ⟨⟨false, [], [0, 0x200000], [], [], false, false⟩, st [(TB_STATUS_LOCKED, 1)], by decide⟩
theorem witness_boot : ∃ (e : BootEnv) (s : State),
    s.power = .active ∧ s.on TB_STATUS_LOCKED = true ∧ s.pm.buckWait = false ∧ s.bt.stage = 2 ∧ s.fe.resetCal = 2 ∧ (∀ w : Fin 9, s.on (WD_CFG_EN w) = false) ∧ s.cores.length = 4 ∧ (∀ c : Fin 4, (s.core c).dm = []) :=
  ⟨⟨false, [], [0, 0x200000], [], [], false, false⟩, { st [(TB_STATUS_LOCKED, 1)] with bt := { BootS.reset with stage := 2, hdr := List.replicate 64 1 }, fe := { AnalogueS.reset with resetCal := 2 } }, by decide⟩
theorem witness_release : ∃ (e : BootEnv) (s : State),
    s.power ≠ .off ∧ (s.get (SP_STAT_STATE 1) = 0 ∨ s.get (SP_STAT_STATE 1) = 5) ∧ s.bt.stage = 1 ∧ s.get BT_STATUS_IVCAUSE = 2 ∧ s.fe.resetCal ≠ 2 :=
  ⟨⟨false, [], [0, 0x200000], [], [], false, false⟩, { st [(BT_STATUS_IVORY, 1), (BT_STATUS_IVCAUSE, 2)] with bt := { BootS.reset with stage := 1 } }, by decide⟩
theorem witness_coreStart : ∃ (core : Cpu) (c : Cpu) (s : State),
    s.power = .active ∧ s.on (IC_CPU_STAT_NS core) = false ∧ s.coreState c = 0 ∧ bitOf ((assocGet (s.core c).dm dmControl).getD 0).toNat 31 = false ∧ s.cores.length = 4 ∧ mayStore s core (A_IC_CPU_CTL c) :=
  ⟨0, 2, st [(IC_CTL_EN, 0), (WD_CFG_EN 2, 1)], by decide⟩
theorem witness_wfi : ∃ (c : Cpu) (s : State),
    s.power ≠ .off ∧ s.coreState c = 1 ∧ s.on (IC_CPU_STAT_ASG c) = false ∧ s.cores.length = 4 :=
  ⟨1, st [(IC_CTL_EN, 0), (IC_CPU_STAT_STATE 1, 1)], by decide⟩
theorem witness_claim : ∃ (c : Cpu) (csr : DeviceCsr) (plain : Bool) (n : Nat) (s : State),
    s.power ≠ .off ∧ csr = .svclaim ∧ plain = true ∧ (s.core c).user = false ∧ s.on IC_CTL_EN = true ∧ s.on (IC_CPU_STAT_ASG c) = true ∧ s.get (IC_CPU_STAT_ASRC c) = n ∧ n < 192 ∧ srcOffered s n = true ∧ eligible s n c = true ∧ s.cores.length = 4 :=
  ⟨1, .svclaim, true, 20, { st [(IC_CTL_EN, 1), (IC_CPU_STAT_STATE 1, 1), (IC_SRC_CFG_PRIO 20, 3), (IC_SRC_CFG_TGT 20, 2), (enField 20, 1), (IC_CPU_STAT_ASG 1, 1), (IC_CPU_STAT_ASRC 1, 20), (pendField 20, 1)] with cores := CoreS.reset :: { CoreS.reset with mie := true, meie := true } :: [CoreS.reset, CoreS.reset] }, by decide⟩
theorem witness_claimNothing : ∃ (c : Cpu) (csr : DeviceCsr) (plain : Bool) (s : State),
    s.power ≠ .off ∧ csr = .svclaim ∧ plain = true ∧ (s.core c).user = false ∧ (s.on IC_CTL_EN = false ∨ s.on (IC_CPU_STAT_ASG c) = false) :=
  ⟨1, .svclaim, true, State.reset, by decide⟩
theorem witness_claimWithdrawn : ∃ (c : Cpu) (csr : DeviceCsr) (plain : Bool) (n : Nat) (s : State),
    s.power ≠ .off ∧ csr = .svclaim ∧ plain = true ∧ (s.core c).user = false ∧ s.on IC_CTL_EN = true ∧ s.on (IC_CPU_STAT_ASG c) = true ∧ s.get (IC_CPU_STAT_ASRC c) = n ∧ (srcOffered s n && eligible s n c) = false ∧ s.cores.length = 4 :=
  ⟨1, .svclaim, true, 20, { st [(IC_CTL_EN, 1), (IC_CPU_STAT_STATE 1, 1), (IC_SRC_CFG_PRIO 20, 3), (IC_SRC_CFG_TGT 20, 2), (enField 20, 1), (IC_CPU_STAT_ASG 1, 1), (IC_CPU_STAT_ASRC 1, 20)] with cores := CoreS.reset :: { CoreS.reset with mie := true, meie := true } :: [CoreS.reset, CoreS.reset] }, by decide⟩
theorem witness_deviceCsrRead : ∃ (c : Cpu) (csr : DeviceCsr) (plain : Bool) (s : State),
    s.power ≠ .off ∧ csr ≠ .svclaim ∧ (s.core c).user = false :=
  ⟨1, .svprio, true, State.reset, by decide⟩
theorem witness_claimIllegal : ∃ (c : Cpu) (csr : DeviceCsr) (plain : Bool) (s : State),
    s.power ≠ .off ∧ ((s.core c).user = true ∨ (csr = .svclaim ∧ plain = false)) ∧ s.cores.length = 4 :=
  ⟨1, .svclaim, false, State.reset, by decide⟩
theorem witness_completion : ∃ (c : Cpu) (v : Word) (plain : Bool) (p : Nat) (q : List Nat) (s : State),
    s.power ≠ .off ∧ plain = true ∧ (s.core c).user = false ∧ (s.core c).active.contains (v.toNat % 256) = true ∧ v.toNat % 256 < 192 ∧ (s.core c).stack = p :: q ∧ p < 16 ∧ s.cores.length = 4 :=
  ⟨1, 20, true, 2, [], { st [(IC_CTL_EN, 0), (actField 20, 1)] with cores := CoreS.reset :: { CoreS.reset with stack := [2], active := [20] } :: [CoreS.reset, CoreS.reset] }, by decide⟩
theorem witness_badCompletion : ∃ (c : Cpu) (v : Word) (plain : Bool) (s : State),
    s.power ≠ .off ∧ plain = true ∧ (s.core c).user = false ∧ (s.core c).active.contains (v.toNat % 256) = false :=
  ⟨1, 20, true, State.reset, by decide⟩
theorem witness_completionIllegal : ∃ (c : Cpu) (v : Word) (plain : Bool) (s : State),
    s.power ≠ .off ∧ ((s.core c).user = true ∨ plain = false) ∧ s.cores.length = 4 :=
  ⟨1, 20, false, State.reset, by decide⟩
theorem witness_svprioWrite : ∃ (c : Cpu) (v : Word) (s : State),
    s.power ≠ .off ∧ (s.core c).user = false ∧ s.cores.length = 4 :=
  ⟨1, 5, st [(IC_CTL_EN, 0)], by decide⟩
theorem witness_svprioIllegal : ∃ (c : Cpu) (v : Word) (s : State),
    s.power ≠ .off ∧ (s.core c).user = true ∧ s.cores.length = 4 :=
  ⟨1, 5, { st [] with cores := CoreS.reset :: { CoreS.reset with user := true } :: [CoreS.reset, CoreS.reset] }, by decide⟩
theorem witness_swi : ∃ (core : Cpu) (mask : BitVec 4) (s : State),
    s.power = .active ∧ s.on (IC_CPU_STAT_NS core) = false ∧ mayStore s core A_IC_SWI :=
  ⟨1, 5, st [(IC_CTL_EN, 0)], by decide⟩
theorem witness_pendWrite : ∃ (core : Cpu) (k : Fin 6) (v hw : Word) (s : State),
    s.power = .active ∧ s.on (IC_CPU_STAT_NS core) = false ∧ k < 4 ∧ s.cores.length = 4 ∧ mayStore s core (arrAddr 0 k) :=
  ⟨1, 3, 0xF0F, 0x11, st [(IC_CTL_EN, 0)], by decide⟩
theorem witness_icAmo : ∃ (core : Cpu) (arr : Fin 3) (k : Fin 6) (op : Fin 3) (v : Word) (s : State),
    s.power = .active ∧ s.on (IC_CPU_STAT_NS core) = false ∧ 1 ≤ arr ∧ (arr = 2 → k < 4) ∧ s.cores.length = 4 ∧ mayStore s core (arrAddr arr k) :=
  ⟨1, 1, 2, 1, 0xF0, st [(IC_CTL_EN, 0)], by decide⟩
theorem witness_edgeLatch : ∃ (n : Fin 128) (s : State),
    s.power ≠ .off ∧ n < 120 ∧ s.cores.length = 4 :=
  ⟨20, st [(IC_CTL_EN, 0)], by decide⟩
theorem witness_edgeAssigned : ∃ (n : Fin 128) (c : Fin 4) (s : State),
    n < 120 ∧ s.on (enField n) = true ∧ srcPrio s n ≠ 0 ∧ s.on (actField n) = false ∧ s.power = .active ∧ s.on IC_CTL_EN = true ∧ (∀ d : Fin 4, s.on (IC_CPU_STAT_ASG d) = false) ∧ s.coreState c = 1 ∧ (s.core c).wasIdle = false ∧ eligible s n.val c = true ∧ (∀ d : Fin 4, d ≠ c → eligible s n.val d = false) ∧ (∀ k : Fin 192, k.val ≠ n.val → srcOffered s k = false) :=
  ⟨20, 1, { st [(IC_CTL_EN, 1), (IC_CPU_STAT_STATE 1, 1), (IC_SRC_CFG_PRIO 20, 3), (IC_SRC_CFG_TGT 20, 2), (enField 20, 1)] with cores := CoreS.reset :: { CoreS.reset with mie := true, meie := true } :: [CoreS.reset, CoreS.reset] }, by decide⟩
theorem witness_levelChange : ∃ (n : Fin 64) (level : Bool) (s : State),
    s.power ≠ .off ∧ 32 ≤ n.val ∧ n.val ≠ 34 ∧ n.val ≠ 35 ∧ s.cores.length = 4 :=
  ⟨32, true, st [(FL_INT_STAT_END, 1)], by decide⟩
theorem witness_levelAssigned : ∃ (n : Fin 64) (level : Bool) (c : Fin 4) (s : State),
    32 ≤ n.val ∧ n.val < 53 ∧ n.val ≠ 34 ∧ n.val ≠ 35 ∧ srcOffered s (128 + n) = true ∧ s.power = .active ∧ s.on IC_CTL_EN = true ∧ (∀ d : Fin 4, s.on (IC_CPU_STAT_ASG d) = false) ∧ s.coreState c = 1 ∧ (s.core c).wasIdle = false ∧ eligible s (128 + n.val) c = true ∧ (∀ d : Fin 4, d ≠ c → eligible s (128 + n.val) d = false) ∧ (∀ k : Fin 192, k.val ≠ (128 + n.val) → srcOffered s k = false) :=
  ⟨32, true, 1, { st [(IC_CTL_EN, 1), (IC_CPU_STAT_STATE 1, 1), (IC_SRC_CFG_PRIO 160, 3), (IC_SRC_CFG_TGT 160, 2), (enField 160, 1), (FL_INT_STAT_END, 1)] with cores := CoreS.reset :: { CoreS.reset with mie := true, meie := true } :: [CoreS.reset, CoreS.reset] }, by decide⟩
theorem witness_icDisable : ∃ (core : Cpu) (s : State),
    s.power = .active ∧ s.on (IC_CPU_STAT_NS core) = false ∧ s.cores.length = 4 ∧ mayStore s core IC_CTL_EN.addr :=
  ⟨0, st [(IC_CTL_EN, 1), (IC_CPU_STAT_ASG 2, 1)], by decide⟩
theorem witness_mstatusMieChange : ∃ (c : Cpu) (mie meie user : Bool) (s : State),
    s.power ≠ .off ∧ s.cores.length = 4 :=
  ⟨1, true, true, false, st [(IC_CTL_EN, 0)], by decide⟩
theorem witness_setaddr : ∃ (arg : Word) (s : State),
    s.power = .active ∧ s.dbg.quietTo ≤ s.now ∧ s.dbg.busy = none ∧ dbgLevel s ≠ 0 ∧ winValid (arg &&& 0x7FFFFFFF) = true :=
  ⟨0x48000100, { st [(IC_DBG_CTL_LEVEL, 2)] with dbg := { DebugS.reset with space := 2, addr := 0x100, inc := true } }, by decide⟩
theorem witness_setaddrDenied : ∃ (arg : Word) (s : State),
    s.power = .active ∧ s.dbg.quietTo ≤ s.now ∧ dbgLevel s = 0 :=
  ⟨0x48000100, st [(IC_DBG_CTL_LEVEL, 0)], by decide⟩
theorem witness_dbgRead : ∃ (late : Bool) (s : State),
    s.power = .active ∧ s.dbg.quietTo ≤ s.now ∧ s.dbg.busy = none ∧ dbgLevel s = 2 ∧ s.dbg.bad = false ∧ s.dbg.past = false ∧ s.dbg.space = 2 ∧ s.dbg.addr + 4 ≤ 0x100000 ∧ s.dbg.addr % 4 = 0 ∧ late = false ∧ memBusy s (0x20000000 + s.dbg.addr) 4 = false :=
  ⟨false, { st [(IC_DBG_CTL_LEVEL, 2)] with dbg := { DebugS.reset with space := 2, addr := 0x100, inc := true } }, by decide⟩
theorem witness_dbgWrite : ∃ (v : Word) (late : Bool) (s : State),
    s.power = .active ∧ s.dbg.quietTo ≤ s.now ∧ s.dbg.busy = none ∧ dbgLevel s = 2 ∧ s.dbg.bad = false ∧ s.dbg.past = false ∧ s.dbg.space = 2 ∧ s.dbg.addr + 4 ≤ 0x100000 ∧ s.dbg.addr % 4 = 0 ∧ late = false ∧ sramWaits s (0x20000000 + s.dbg.addr) 4 = false :=
  ⟨0xABCD1234, false, { st [(IC_DBG_CTL_LEVEL, 2)] with dbg := { DebugS.reset with space := 2, addr := 0x100, inc := true } }, by decide⟩
theorem witness_dmsel : ∃ (arg : Word) (s : State),
    s.power = .active ∧ s.dbg.quietTo ≤ s.now ∧ s.dbg.busy = none ∧ dbgLevel s = 2 :=
  ⟨0x204, { st [(IC_DBG_CTL_LEVEL, 2)] with dbg := { DebugS.reset with space := 2, addr := 0x100, inc := true } }, by decide⟩
theorem witness_dmread : ∃ (s : State),
    s.power = .active ∧ s.dbg.quietTo ≤ s.now ∧ s.dbg.busy = none ∧ dbgLevel s = 2 ∧ s.dbg.selReg = 4 :=
  ⟨{ st [(IC_DBG_CTL_LEVEL, 2)] with dbg := { DebugS.reset with space := 2, addr := 0x100, inc := true, selReg := 4, selCore := 1 } }, by decide⟩
theorem witness_dmwrite : ∃ (v : Word) (s : State),
    s.power = .active ∧ s.dbg.quietTo ≤ s.now ∧ s.dbg.busy = none ∧ dbgLevel s = 2 ∧ s.dbg.selReg = 4 ∧ bitOf ((assocGet (s.core s.dbg.selCore).dm 0x10).getD 0).toNat 0 = true ∧ s.dbg.selCore < 4 ∧ s.cores.length = 4 :=
  ⟨77, { st [(IC_DBG_CTL_LEVEL, 2)] with dbg := { DebugS.reset with space := 2, addr := 0x100, inc := true, selReg := 4, selCore := 1 }, cores := CoreS.reset :: { CoreS.reset with dm := [(0x10, 1)] } :: [CoreS.reset, CoreS.reset] }, by decide⟩
theorem witness_dmCommand : ∃ (v : Word) (r : Nat) (s : State),
    s.power = .active ∧ s.dbg.quietTo ≤ s.now ∧ s.dbg.busy = none ∧ dbgLevel s = 2 ∧ s.dbg.selReg = 0x17 ∧ bitOf ((assocGet (s.core s.dbg.selCore).dm 0x10).getD 0).toNat 0 = true ∧ s.dbg.selCore < 4 ∧ s.cores.length = 4 ∧ bitsOf (dmReg s s.dbg.selCore 0x16) 8 3 = 0 ∧ s.coreState s.dbg.selCore = 4 ∧ 0 < r ∧ r < 32 ∧ v = w32 (0x00221000 + r) :=
  ⟨0x00221008, 8, { st [(IC_DBG_CTL_LEVEL, 2), (IC_CPU_STAT_STATE 1, 4)] with dbg := { DebugS.reset with space := 2, addr := 0x100, inc := true, selReg := 0x17, selCore := 1 }, cores := CoreS.reset :: { CoreS.reset with dm := [(0x10, 1)] } :: [CoreS.reset, CoreS.reset] }, by decide⟩
theorem witness_dbgStatus : ∃ (s : State),
    s.power = .active ∧ s.dbg.quietTo ≤ s.now :=
  ⟨{ st [(IC_DBG_CTL_LEVEL, 2)] with dbg := { DebugS.reset with space := 2, addr := 0x100, inc := true } }, by decide⟩
theorem witness_result : ∃ (s : State),
    s.power = .active ∧ s.dbg.quietTo ≤ s.now ∧ s.dbg.busy = none ∧ dbgLevel s ≠ 0 :=
  ⟨{ st [(IC_DBG_CTL_LEVEL, 2)] with dbg := { DebugS.reset with space := 2, addr := 0x100, inc := true, result := (1, 9) } }, by decide⟩
theorem witness_debugBadSync : ∃ (head : BitVec 8) (rest : BitVec 40) (s : State),
    s.power = .active ∧ s.dbg.quietTo ≤ s.now ∧ head.toNat / 16 ≠ 5 :=
  ⟨0x61, 0x2345678900, { st [(IC_DBG_CTL_LEVEL, 2)] with dbg := { DebugS.reset with space := 2, addr := 0x100, inc := true } }, by decide⟩
theorem witness_debugBadCrc : ∃ (head : BitVec 8) (rest : BitVec 40) (s : State),
    s.power = .active ∧ s.dbg.quietTo ≤ s.now ∧ head.toNat / 16 = 5 ∧ crc8 40 (head.toNat * 2 ^ 32 + rest.toNat / 256) ≠ rest.toNat % 256 :=
  ⟨0x51, 0x2345678900, { st [(IC_DBG_CTL_LEVEL, 2)] with dbg := { DebugS.reset with space := 2, addr := 0x100, inc := true } }, by decide⟩
theorem witness_debugBadRequest : ∃ (head : BitVec 8) (rest : BitVec 40) (s : State),
    s.power = .active ∧ s.dbg.quietTo ≤ s.now ∧ s.dbg.busy = none ∧ dbgLevel s ≠ 0 ∧ head.toNat / 16 = 5 ∧ crc8 40 (head.toNat * 2 ^ 32 + rest.toNat / 256) = rest.toNat % 256 ∧ (head.toNat % 16 = 0 ∨ 8 < head.toNat % 16) :=
  ⟨0x5F, 0x00000000F3, { st [(IC_DBG_CTL_LEVEL, 2)] with dbg := { DebugS.reset with space := 2, addr := 0x100, inc := true } }, by decide⟩
theorem witness_debugAccessDone : ∃  (v : Word) (s : State),
    s.power = .active ∧ dbgLevel s = 2 ∧ s.dbg.busy = some (true, v) ∧ sramWaits s (0x20000000 + s.dbg.addr) 4 = false ∧ s.dbg.bad = false ∧ s.dbg.past = false ∧ s.dbg.space = 2 ∧ s.dbg.addr + 4 ≤ 0x100000 ∧ s.dbg.addr % 4 = 0 :=
  ⟨0x1234, { st [(IC_DBG_CTL_LEVEL, 2)] with dbg := { DebugS.reset with space := 2, addr := 0x100, inc := true, busy := some (true, 0x1234) } }, by decide⟩
theorem witness_debugHalt : ∃ (c : Cpu) (cause : Fin 8) (pc : Word) (d : Word) (s : State),
    s.power ≠ .off ∧ s.coreState c = 1 ∧ cause = 1 ∧ (s.core c).user = false ∧ assocGet (s.core c).csr csrDcsr = some d ∧ d.getLsbD 15 = true ∧ s.cores.length = 4 :=
  ⟨1, 1, 0x44, 0x40008003, { st [(IC_CPU_STAT_STATE 1, 1)] with cores := CoreS.reset :: { CoreS.reset with csr := [(0x7B0, 0x40008003)] } :: [CoreS.reset, CoreS.reset] }, by decide⟩
theorem witness_evDisable : ∃ (core : Cpu) (s : State),
    s.power = .active ∧ s.on (IC_CPU_STAT_NS core) = false ∧ s.emitted = [] ∧ mayStore s core EV_CTL_EN.addr :=
  ⟨1, st [(EV_CTL_EN, 1), (EV_CTL_EN_ACK, 1)], by decide⟩
theorem witness_program : ∃ (core : Cpu) (s : State),
    s.power = .active ∧ s.on FL_CTL_EN = true ∧ s.get FL_STAT_STATE = 0 ∧ ((if flProtected s (flBlock (s.get FL_ADDR_ADDR * 0x200)) then 5 else if s.on (IC_CPU_STAT_NS core) && (flashSecure s (s.get FL_ADDR_ADDR * 0x200) || sramSecure s (s.get FL_SRC_ADDR * 4) || sramSecure s ((s.get FL_SRC_ADDR * 4) + 0x1FF)) then 6 else if (s.get FL_SRC_ADDR * 4) < 0x20000000 ∨ 0x20100000 < (s.get FL_SRC_ADDR * 4) + 0x200 then 9 else if s.fl.flags.contains (flBlock (s.get FL_ADDR_ADDR * 0x200)) then 4 else if s.fl.susp.any (fun e => flBlock e.addr == flBlock (s.get FL_ADDR_ADDR * 0x200)) then 7 else if s.fl.marks.contains (flPage (s.get FL_ADDR_ADDR * 0x200)) then 3 else if s.fl.marks.any (fun m => decide (m / 128 = flPage (s.get FL_ADDR_ADDR * 0x200) / 128) && decide (flPage (s.get FL_ADDR_ADDR * 0x200) < m)) then 2 else 0 : Nat) = 0) ∧ mayStore s core A_FL_CMD :=
  ⟨1, { st [(FL_CTL_EN, 1), (FL_ADDR_ADDR, 0x81), (FL_SRC_ADDR, 0x8000040)] with fl := { FlashS.reset with marks := [0x80, 0x300] } }, by decide⟩
theorem witness_programChecked : ∃ (core : Cpu) (code : Nat) (s : State),
    s.power = .active ∧ s.on FL_CTL_EN = true ∧ s.get FL_STAT_STATE = 0 ∧ ((if flProtected s (flBlock (s.get FL_ADDR_ADDR * 0x200)) then 5 else if s.on (IC_CPU_STAT_NS core) && (flashSecure s (s.get FL_ADDR_ADDR * 0x200) || sramSecure s (s.get FL_SRC_ADDR * 4) || sramSecure s ((s.get FL_SRC_ADDR * 4) + 0x1FF)) then 6 else if (s.get FL_SRC_ADDR * 4) < 0x20000000 ∨ 0x20100000 < (s.get FL_SRC_ADDR * 4) + 0x200 then 9 else if s.fl.flags.contains (flBlock (s.get FL_ADDR_ADDR * 0x200)) then 4 else if s.fl.susp.any (fun e => flBlock e.addr == flBlock (s.get FL_ADDR_ADDR * 0x200)) then 7 else if s.fl.marks.contains (flPage (s.get FL_ADDR_ADDR * 0x200)) then 3 else if s.fl.marks.any (fun m => decide (m / 128 = flPage (s.get FL_ADDR_ADDR * 0x200) / 128) && decide (flPage (s.get FL_ADDR_ADDR * 0x200) < m)) then 2 else 0 : Nat) = code) ∧ code ≠ 0 ∧ mayStore s core A_FL_CMD :=
  ⟨1, 3, { st [(FL_CTL_EN, 1), (FL_ADDR_ADDR, 0x81), (FL_SRC_ADDR, 0x8000040)] with fl := { FlashS.reset with waiting := [(1, 1, 0x10002), (2, 2, 0x200)], marks := [0x81, 0x300] } }, by decide⟩
theorem witness_programBad : ∃ (core : Cpu) (s : State),
    s.power = .active ∧ (s.on FL_CTL_EN = false ∨ s.get FL_STAT_STATE ≠ 0) ∧ mayStore s core A_FL_CMD :=
  ⟨1, { st [(FL_CTL_EN, 1), (FL_STAT_STATE, 3)] with fl := { FlashS.reset with op := some ⟨true, 0x10000, 0, false, [], true, 0, 0⟩ } }, by decide⟩
theorem witness_erase : ∃ (core : Cpu) (s : State),
    s.power = .active ∧ s.on FL_CTL_EN = true ∧ s.get FL_STAT_STATE = 0 ∧ ((if flProtected s (flBlock (s.get FL_ADDR_ADDR * 0x200)) then 5 else if s.on (IC_CPU_STAT_NS core) && flashSecure s (s.get FL_ADDR_ADDR * 0x200) then 6 else if s.fl.susp.isSome then 8 else 0 : Nat) = 0) ∧ mayStore s core A_FL_CMD :=
  ⟨1, { st [(FL_CTL_EN, 1), (FL_ADDR_ADDR, 0x81)] with fl := { FlashS.reset with marks := [0x80] } }, by decide⟩
theorem witness_eraseChecked : ∃ (core : Cpu) (code : Nat) (s : State),
    s.power = .active ∧ s.on FL_CTL_EN = true ∧ s.get FL_STAT_STATE = 0 ∧ ((if flProtected s (flBlock (s.get FL_ADDR_ADDR * 0x200)) then 5 else if s.on (IC_CPU_STAT_NS core) && flashSecure s (s.get FL_ADDR_ADDR * 0x200) then 6 else if s.fl.susp.isSome then 8 else 0 : Nat) = code) ∧ code ≠ 0 ∧ mayStore s core A_FL_CMD :=
  ⟨1, 5, { st [(FL_CTL_EN, 1), (FL_ADDR_ADDR, 0x81), (FL_WP_A_WP, 2)] with fl := { FlashS.reset with waiting := [(1, 1, 0x10002), (2, 2, 0x200)], marks := [0x80] } }, by decide⟩
theorem witness_eraseBad : ∃ (core : Cpu) (s : State),
    s.power = .active ∧ (s.on FL_CTL_EN = false ∨ s.get FL_STAT_STATE ≠ 0) ∧ mayStore s core A_FL_CMD :=
  ⟨1, { st [(FL_CTL_EN, 1), (FL_STAT_STATE, 1)] with fl := { FlashS.reset with op := some ⟨true, 0x10000, 0, false, [], false, 0, 0⟩ } }, by decide⟩
theorem witness_flOpStart : ∃  (o : FlashOp) (l : Nat) (s : State),
    s.power ≠ .off ∧ s.get FL_STAT_STATE = 1 ∧ s.on PQ_OTP_CMD_BUSY = false ∧ s.fl.op = some o ∧ o.erase = true ∧ s.fitLevel (some .erase) = some l :=
  ⟨⟨true, 0x10000, 0, false, [], false, 0, 0⟩, 0, { st [(FL_CTL_EN, 1), (FL_STAT_STATE, 1)] with fl := { FlashS.reset with waiting := [(1, 1, 0x10002), (2, 2, 0x200)], op := some ⟨true, 0x10000, 0, false, [], false, 0, 0⟩ } }, by decide⟩
theorem witness_flOpStartProgram : ∃  (o : FlashOp) (l : Nat) (s : State),
    s.power ≠ .off ∧ s.get FL_STAT_STATE = 1 ∧ s.on PQ_OTP_CMD_BUSY = false ∧ s.fl.op = some o ∧ o.erase = false ∧ sramWaits s o.src 512 = false ∧ (o.ns && (sramSecure s o.src || sramSecure s (o.src + 0x1FF))) = false ∧ s.fitLevel (some .prog) = some l :=
  ⟨⟨false, 0x10200, 0x20000100, false, [], false, 0, 0⟩, 0, ({ st [(FL_CTL_EN, 1), (FL_STAT_STATE, 1)] with fl := { FlashS.reset with waiting := [(1, 1, 0x10002), (2, 2, 0x200)], op := some ⟨false, 0x10200, 0x20000100, false, [], false, 0, 0⟩ } }).setBytes 0x20000110 [1, 2, 3], by decide⟩
theorem witness_flOpStartRefused : ∃  (o : FlashOp) (s : State),
    s.power ≠ .off ∧ s.get FL_STAT_STATE = 1 ∧ s.on PQ_OTP_CMD_BUSY = false ∧ s.fl.op = some o ∧ o.erase = false ∧ sramWaits s o.src 512 = false ∧ o.ns = true ∧ (sramSecure s o.src = true ∨ sramSecure s (o.src + 0x1FF) = true) ∧ (s.fitLevel (some .prog)).isSome = true :=
  ⟨⟨false, 0x10200, 0x20000100, true, [], false, 0, 0⟩, { st [(FL_CTL_EN, 1), (FL_STAT_STATE, 1), (IC_MEMSEC_SEC, 1)] with fl := { FlashS.reset with waiting := [(1, 1, 0x10002), (2, 2, 0x200)], op := some ⟨false, 0x10200, 0x20000100, true, [], false, 0, 0⟩ } }, by decide⟩
theorem witness_programEnd : ∃ (ok : Bool) (o : FlashOp) (s : State),
    s.power ≠ .off ∧ ok = true ∧ s.get FL_STAT_STATE = 2 ∧ s.fl.op = some o ∧ o.erase = false ∧ o.page.length = 512 ∧ o.addr + 512 ≤ 0x400000 ∧ (∀ e ∈ s.xFlash, e.1 + e.2.1 ≤ o.addr ∨ o.addr + 512 ≤ e.1 ∨ (o.addr ≤ e.1 ∧ e.1 + e.2.1 ≤ o.addr + 512)) :=
  ⟨true, ⟨false, 0x10200, 0x20000100, false, List.replicate 512 7, true, 0, 0⟩, { st [(FL_CTL_EN, 1), (FL_STAT_STATE, 2)] with fl := { FlashS.reset with waiting := [(1, 1, 0x10002), (2, 2, 0x200)], op := some ⟨false, 0x10200, 0x20000100, false, List.replicate 512 7, true, 0, 0⟩, marks := [0x81] } }, by decide⟩
theorem witness_programVerify : ∃ (ok : Bool) (o : FlashOp) (s : State),
    s.power ≠ .off ∧ ok = false ∧ s.get FL_STAT_STATE = 2 ∧ s.fl.op = some o ∧ o.erase = false :=
  ⟨false, ⟨false, 0x10200, 0x20000100, false, List.replicate 512 7, false, 0, 0⟩, { st [(FL_CTL_EN, 1), (FL_STAT_STATE, 2), (FL_STAT_SUSP, 1)] with fl := { FlashS.reset with waiting := [(1, 1, 0x10002), (2, 2, 0x200)], op := some ⟨false, 0x10200, 0x20000100, false, List.replicate 512 7, false, 0, 0⟩, susp := some ⟨true, 0x10000, 0, false, [], true, 0, 0⟩, resume := true } }, by decide⟩
theorem witness_eraseEnd : ∃ (ok : Bool) (o : FlashOp) (s : State),
    s.power ≠ .off ∧ ok = true ∧ s.get FL_STAT_STATE = 3 ∧ s.fl.op = some o ∧ o.erase = true ∧ o.addr < 0x400000 ∧ (∀ e ∈ s.xFlash, e.1 + e.2.1 ≤ o.addr / 0x10000 * 0x10000 ∨ o.addr / 0x10000 * 0x10000 + 0x10000 ≤ e.1 ∨ (o.addr / 0x10000 * 0x10000 ≤ e.1 ∧ e.1 + e.2.1 ≤ o.addr / 0x10000 * 0x10000 + 0x10000)) :=
  ⟨true, ⟨true, 0x10000, 0, false, [], true, 0, 0⟩, ({ st [(FL_CTL_EN, 1), (FL_STAT_STATE, 3)] with fl := { FlashS.reset with waiting := [(1, 1, 0x10002), (2, 2, 0x200)], op := some ⟨true, 0x10000, 0, false, [], true, 0, 0⟩, marks := [0x81, 0x300], flags := [1, 2] } }).setBytes 0x103FD [1, 2, 3, 4], by decide⟩
theorem witness_eraseVerify : ∃ (ok : Bool) (o : FlashOp) (s : State),
    s.power ≠ .off ∧ ok = false ∧ s.get FL_STAT_STATE = 3 ∧ s.fl.op = some o ∧ o.erase = true :=
  ⟨false, ⟨true, 0x10000, 0, false, [], true, 0, 0⟩, { st [(FL_CTL_EN, 1), (FL_STAT_STATE, 3)] with fl := { FlashS.reset with waiting := [(1, 1, 0x10002), (2, 2, 0x200)], op := some ⟨true, 0x10000, 0, false, [], true, 0, 0⟩ } }, by decide⟩
theorem witness_flAbort : ∃ (core : Cpu) (o : FlashOp) (s : State),
    s.power = .active ∧ (s.get FL_STAT_STATE = 1 ∨ s.get FL_STAT_STATE = 3 ∨ (s.get FL_STAT_STATE = 2 ∧ o.pulsed = false)) ∧ s.fl.op = some o ∧ mayStore s core A_FL_CMD :=
  ⟨1, ⟨true, 0x10000, 0, false, [], false, 0, 0⟩, { st [(FL_CTL_EN, 1), (FL_STAT_STATE, 1)] with fl := { FlashS.reset with waiting := [(1, 1, 0x10002), (2, 2, 0x200)], op := some ⟨true, 0x10000, 0, false, [], false, 0, 0⟩ } }, by decide⟩
theorem witness_flAbortSuspended : ∃ (core : Cpu) (e : FlashOp) (s : State),
    s.power = .active ∧ s.fl.op = none ∧ s.fl.susp = some e ∧ mayStore s core A_FL_CMD :=
  ⟨1, ⟨true, 0x10000, 0, false, [], true, 0, 0⟩, { st [(FL_CTL_EN, 1), (FL_STAT_SUSP, 1)] with fl := { FlashS.reset with waiting := [(1, 1, 0x10002), (2, 2, 0x200)], susp := some ⟨true, 0x10000, 0, false, [], true, 0, 0⟩ } }, by decide⟩
theorem witness_flAbortLate : ∃ (core : Cpu) (s : State),
    s.power = .active ∧ (s.fl.op = none ∧ s.fl.susp = none ∨ s.get FL_STAT_STATE = 2 ∧ s.fl.op.any (·.pulsed) = true) ∧ mayStore s core A_FL_CMD :=
  ⟨1, { st [(FL_CTL_EN, 1)] with fl := { FlashS.reset with lastRead := 0 } }, by decide⟩
theorem witness_flDisable : ∃ (core : Cpu) (s : State),
    s.power = .active ∧ s.on (IC_CPU_STAT_NS core) = false ∧ s.fl.op = none ∧ mayStore s core FL_CTL_EN.addr :=
  ⟨1, { st [(FL_CTL_EN, 1), (FL_CTL_EN_ACK, 1)] with fl := { FlashS.reset with waiting := [(1, 1, 0x10002), (2, 2, 0x200)], lastRead := 0 } }, by decide⟩
theorem witness_flDisableWaiting : ∃ (core : Cpu) (o : FlashOp) (s : State),
    s.power = .active ∧ s.on (IC_CPU_STAT_NS core) = false ∧ s.get FL_STAT_STATE = 1 ∧ s.fl.op = some o ∧ mayStore s core FL_CTL_EN.addr :=
  ⟨1, ⟨true, 0x10000, 0, false, [], false, 0, 0⟩, { st [(FL_CTL_EN, 1), (FL_STAT_STATE, 1), (FL_CTL_EN_ACK, 1)] with fl := { FlashS.reset with waiting := [(1, 1, 0x10002), (2, 2, 0x200)], op := some ⟨true, 0x10000, 0, false, [], false, 0, 0⟩ } }, by decide⟩
theorem witness_flDisableRunning : ∃ (core : Cpu) (o : FlashOp) (s : State),
    s.power = .active ∧ s.on (IC_CPU_STAT_NS core) = false ∧ s.get FL_STAT_STATE ≠ 1 ∧ s.fl.op = some o ∧ mayStore s core FL_CTL_EN.addr :=
  ⟨1, ⟨true, 0x10000, 0, false, [], true, 0, 0⟩, { st [(FL_CTL_EN, 1), (FL_STAT_STATE, 3), (FL_CTL_EN_ACK, 1)] with fl := { FlashS.reset with op := some ⟨true, 0x10000, 0, false, [], true, 0, 0⟩ } }, by decide⟩
theorem witness_suspend : ∃ (core : Cpu) (o : FlashOp) (s : State),
    s.power = .active ∧ s.get FL_STAT_STATE = 3 ∧ s.fl.op = some o ∧ mayStore s core A_FL_CMD :=
  ⟨1, ⟨true, 0x10000, 0, false, [], true, 0, 0⟩, { st [(FL_CTL_EN, 1), (FL_STAT_STATE, 3)] with fl := { FlashS.reset with waiting := [(1, 1, 0x10002), (2, 2, 0x200)], op := some ⟨true, 0x10000, 0, false, [], true, 0, 0⟩ } }, by decide⟩
theorem witness_suspendBad : ∃ (core : Cpu) (s : State),
    s.power = .active ∧ s.get FL_STAT_STATE ≠ 3 ∧ mayStore s core A_FL_CMD :=
  ⟨1, { st [(FL_CTL_EN, 1), (FL_STAT_STATE, 2)] with fl := { FlashS.reset with lastRead := 0 } }, by decide⟩
theorem witness_resume : ∃ (core : Cpu) (o : FlashOp) (s : State),
    s.power = .active ∧ s.on FL_CTL_EN = true ∧ s.get FL_STAT_STATE = 0 ∧ s.fl.susp = some o ∧ mayStore s core A_FL_CMD :=
  ⟨1, ⟨true, 0x10000, 0, false, [], true, 0, 0⟩, { st [(FL_CTL_EN, 1), (FL_STAT_SUSP, 1)] with fl := { FlashS.reset with susp := some ⟨true, 0x10000, 0, false, [], true, 0, 0⟩ } }, by decide⟩
theorem witness_resumeLater : ∃ (core : Cpu) (s : State),
    s.power = .active ∧ s.on FL_CTL_EN = true ∧ s.get FL_STAT_STATE ≠ 0 ∧ s.fl.susp ≠ none ∧ mayStore s core A_FL_CMD :=
  ⟨1, { st [(FL_CTL_EN, 1), (FL_STAT_SUSP, 1), (FL_STAT_STATE, 2)] with fl := { FlashS.reset with op := some ⟨false, 0x10200, 0x20000100, false, List.replicate 512 7, true, 0, 0⟩, susp := some ⟨true, 0x10000, 0, false, [], true, 0, 0⟩ } }, by decide⟩
theorem witness_resumeBad : ∃ (core : Cpu) (s : State),
    s.power = .active ∧ (s.on FL_CTL_EN = false ∨ s.fl.susp = none) ∧ mayStore s core A_FL_CMD :=
  ⟨1, { st [(FL_CTL_EN, 1)] with fl := { FlashS.reset with lastRead := 0 } }, by decide⟩
theorem witness_autoSuspend : ∃ (core : Cpu) (addr : BitVec 22) (o : FlashOp) (s : State),
    s.power = .active ∧ (s.on (IC_CPU_STAT_NS core) && flashSecure s addr.toNat) = false ∧ s.get FL_STAT_STATE = 3 ∧ s.fl.op = some o ∧ flBank o.addr = flBank addr.toNat ∧ s.on FL_CTL_AUTOSUS = true ∧ o.since + s.get FL_CFG_MINRUN * 20000 ≤ s.now ∧ addr.toNat % 4 = 0 ∧ mayLoad s core addr.toNat :=
  ⟨1, 0x200, ⟨true, 0x10000, 0, false, [], true, 0, 0⟩, { st [(FL_CTL_EN, 1), (FL_STAT_STATE, 3), (FL_CTL_AUTOSUS, 1), (FL_CFG_MINRUN, 0)] with fl := { FlashS.reset with waiting := [(1, 1, 0x10002), (2, 2, 0x200)], op := some ⟨true, 0x10000, 0, false, [], true, 0, 0⟩ } }, by decide⟩
theorem witness_autoResume : ∃  (o : FlashOp) (s : State),
    s.power ≠ .off ∧ s.on FL_CTL_EN = true ∧ s.get FL_STAT_STATE = 0 ∧ s.fl.susp = some o ∧ s.fl.auto = true ∧ s.fl.lastRead + max 1 (s.get FL_CFG_QUIET) * 2000 ≤ s.now :=
  ⟨⟨true, 0x10000, 0, false, [], true, 0, 0⟩, { { st [(FL_CTL_EN, 1), (FL_STAT_SUSP, 1)] with fl := { FlashS.reset with susp := some ⟨true, 0x10000, 0, false, [], true, 0, 0⟩, auto := true } } with tb := { TimeBase.reset with now := 3000000 } }, by decide⟩
theorem witness_flashEccError : ∃ (core : Cpu) (addr : BitVec 22) (uncorrectable : Bool) (s : State),
    s.power = .active ∧ (s.on (IC_CPU_STAT_NS core) && flashSecure s addr.toNat) = false ∧ flBankBusy s addr.toNat = false ∧ addr.toNat % 4 = 0 ∧ mayLoad s core addr.toNat ∧ uncorrectable = false :=
  ⟨1, 0x400, false, { st [(FL_CTL_EN, 1)] with fl := { FlashS.reset with lastRead := 0 } }, by decide⟩
theorem witness_flashEccUncorrectable : ∃ (core : Cpu) (addr : BitVec 22) (uncorrectable : Bool) (s : State),
    s.power = .active ∧ (s.on (IC_CPU_STAT_NS core) && flashSecure s addr.toNat) = false ∧ flBankBusy s addr.toNat = false ∧ addr.toNat % 4 = 0 ∧ mayLoad s core addr.toNat ∧ uncorrectable = true ∧ s.cores.length = 4 :=
  ⟨1, 0x400, true, { st [(FL_CTL_EN, 1)] with fl := { FlashS.reset with lastRead := 0 } }, by decide⟩
theorem witness_flashEccOfAgent : ∃ (agent : SramAgent) (addr : BitVec 22) (uncorrectable : Bool) (s : State),
    s.power ≠ .off ∧ mapsFlash agent = true ∧ agentReads s agent = true ∧ flBankBusy s addr.toNat = false ∧ uncorrectable = false :=
  ⟨(.cipher 1), 0x400, false, { st [(CE_J_STAT_STATE 1, 2)] with fl := { FlashS.reset with lastRead := 0 } }, by decide⟩
theorem witness_flashEccEndsJob : ∃ (c : Cpu) (addr : BitVec 22) (uncorrectable : Bool) (s : State),
    s.power ≠ .off ∧ s.get (CE_J_STAT_STATE c) = 2 ∧ flBankBusy s addr.toNat = false ∧ uncorrectable = true ∧ (s.job c).reach ≤ refusedAt s (s.job c).ns (s.job c).dst (s.job c).plen ∧ s.ce.jobs.length = 4 :=
  ⟨1, 0x400, true, { st [(CE_J_STAT_STATE 1, 2)] with fl := { FlashS.reset with lastRead := 0 } }, by decide⟩
theorem witness_xferStart : ∃ (core : Cpu) (x : Fin 2) (rxign txfill : Bool) (sel : BitVec 5) (count : BitVec 16) (s : State),
    s.power = .active ∧ s.get (SP_STAT_STATE x) = 0 ∧ count ≠ 0 ∧ s.get (SP_CTL_MODE x) = 0 ∧ s.on (SP_CTL_EN x) = true ∧ s.sp.length = 2 ∧ mayStore s core (A_SP_XFER x) :=
  ⟨1, 1, false, false, 2, 5, { st [(SP_CTL_EN 1, 1), (SP_CTL_MODE 1, 0)] with sp := [PortS.reset, { PortS.reset with tx := [3] }] }, by decide⟩
theorem witness_xferAbort : ∃ (core : Cpu) (x : Fin 2) (s : State),
    s.power = .active ∧ (s.get (SP_STAT_STATE x) = 2 ∨ s.get (SP_STAT_STATE x) = 3) ∧ s.get (SP_CTL_MODE x) = 0 ∧ (s.port x).left ≠ 0 ∧ spWordOver s x = false ∧ s.sp.length = 2 ∧ mayStore s core (SP_XFER_ABORT x).addr :=
  ⟨1, 1, { st [(SP_CTL_EN 1, 1), (SP_CTL_MODE 1, 0), (SP_STAT_STATE 1, 3), (SP_FMT_WLEN 1, 7)] with sp := [PortS.reset, { PortS.reset with left := 4 }] }, by decide⟩
theorem witness_xferAbortRunning : ∃ (core : Cpu) (x : Fin 2) (s : State),
    s.power = .active ∧ s.get (SP_STAT_STATE x) = 1 ∧ s.get (SP_CTL_MODE x) = 0 ∧ (s.port x).left ≠ 0 ∧ ((s.port x).left ≠ 1 ∨ spWordOver s x = false) ∧ s.sp.length = 2 ∧ mayStore s core (SP_XFER_ABORT x).addr :=
  ⟨1, 1, { st [(SP_CTL_EN 1, 1), (SP_CTL_MODE 1, 0), (SP_STAT_STATE 1, 1), (SP_FMT_WLEN 1, 7)] with sp := [PortS.reset, { PortS.reset with left := 4 }] }, by decide⟩
theorem witness_xferAbortLate : ∃ (core : Cpu) (x : Fin 2) (s : State),
    s.power = .active ∧ (s.get (SP_STAT_STATE x) = 0 ∨ (s.port x).left = 0) ∧ mayStore s core (SP_XFER_ABORT x).addr :=
  ⟨1, 1, { st [(SP_CTL_EN 1, 1), (SP_CTL_MODE 1, 0)] with sp := [PortS.reset, { PortS.reset with left := 0 }] }, by decide⟩
theorem witness_masterWord : ∃ (x : Fin 2) (rx : Word) (s : State),
    s.power ≠ .off ∧ (s.get (SP_STAT_STATE x) = 1 ∨ s.get (SP_STAT_STATE x) = 2) ∧ s.get (SP_CTL_MODE x) = 0 ∧ spWordOver s x = true ∧ s.sp.length = 2 ∧ 2 ≤ (s.port x).left ∧ (s.port x).ending = 0 ∧ s.on (SP_CTL_EN x) = true :=
  ⟨1, 0xFFF, { st [(SP_CTL_EN 1, 1), (SP_CTL_MODE 1, 0), (SP_STAT_STATE 1, 1), (SP_FMT_WLEN 1, 7)] with sp := [PortS.reset, { PortS.reset with left := 4, tx := [3, 4], bit := 8, inHand := true }] }, by decide⟩
theorem witness_masterLastWord : ∃ (x : Fin 2) (rx : Word) (s : State),
    s.power ≠ .off ∧ (s.get (SP_STAT_STATE x) = 1 ∨ s.get (SP_STAT_STATE x) = 2) ∧ s.get (SP_CTL_MODE x) = 0 ∧ spWordOver s x = true ∧ s.sp.length = 2 ∧ 1 ≤ (s.port x).left ∧ ((s.port x).left = 1 ∨ s.on (SP_CTL_EN x) = false ∨ (s.port x).ending ≠ 0) :=
  ⟨1, 0xFFF, { st [(SP_CTL_EN 1, 1), (SP_CTL_MODE 1, 0), (SP_STAT_STATE 1, 1), (SP_FMT_WLEN 1, 7)] with sp := [PortS.reset, { PortS.reset with left := 1, tx := [3, 4], bit := 8, inHand := true }] }, by decide⟩
theorem witness_stallClear : ∃ (x : Fin 2) (s : State),
    s.power ≠ .off ∧ s.get (SP_STAT_STATE x) = 3 ∧ (¬((s.on (SP_XFER_TXFILL x) = false ∧ (s.port x).tx = []) ∨ (s.on (SP_XFER_RXIGN x) = false ∧ 64 ≤ (s.port x).rx.length))) ∧ 1 ≤ s.get (SP_CLKCFG_HALF x) ∧ s.sp.length = 2 :=
  ⟨1, { st [(SP_CTL_EN 1, 1), (SP_CTL_MODE 1, 0), (SP_STAT_STATE 1, 3), (SP_CLKCFG_HALF 1, 2)] with sp := [PortS.reset, { PortS.reset with left := 4, tx := [3, 4] }] }, by decide⟩
theorem witness_xferEnd : ∃ (x : Fin 2) (s : State),
    s.power ≠ .off ∧ s.get (SP_STAT_STATE x) = 1 ∧ s.get (SP_CTL_MODE x) = 0 ∧ s.sp.length = 2 ∧ (s.port x).left = 0 ∧ (s.port x).endAt ≤ s.now ∧ (s.port x).code < 256 :=
  ⟨1, { st [(SP_CTL_EN 1, 1), (SP_CTL_MODE 1, 0), (SP_STAT_STATE 1, 1)] with sp := [PortS.reset, { PortS.reset with code := 1, selen := true }] }, by decide⟩
theorem witness_rdyLow : ∃ (x : Fin 2) (s : State),
    s.power ≠ .off ∧ s.sp.length = 2 :=
  ⟨1, { st [(SP_CTL_EN 1, 1), (SP_CTL_MODE 1, 0), (SP_STAT_STATE 1, 1), (SP_RDYCFG_RDYEN 1, 1)] with sp := [PortS.reset, { PortS.reset with left := 4 }] }, by decide⟩
theorem witness_rdyHigh : ∃ (x : Fin 2) (s : State),
    s.power ≠ .off ∧ s.get (SP_STAT_STATE x) = 2 ∧ ((s.port x).bit ≠ 0 ∨ ¬((s.on (SP_XFER_TXFILL x) = false ∧ (s.port x).tx = []) ∨ (s.on (SP_XFER_RXIGN x) = false ∧ 64 ≤ (s.port x).rx.length))) ∧ s.pins.vioLost.getD x false = false ∧ 1 ≤ s.get (SP_CLKCFG_HALF x) ∧ s.sp.length = 2 :=
  ⟨1, { st [(SP_CTL_EN 1, 1), (SP_CTL_MODE 1, 0), (SP_STAT_STATE 1, 2), (SP_RDYCFG_RDYEN 1, 1), (SP_CLKCFG_HALF 1, 2)] with sp := [PortS.reset, { PortS.reset with left := 4, bit := 3 }] }, by decide⟩
theorem witness_rdyHighStalls : ∃ (x : Fin 2) (s : State),
    s.power ≠ .off ∧ (s.get (SP_STAT_STATE x) ≠ 2 ∨ ((s.port x).bit = 0 ∧ ((s.on (SP_XFER_TXFILL x) = false ∧ (s.port x).tx = []) ∨ (s.on (SP_XFER_RXIGN x) = false ∧ 64 ≤ (s.port x).rx.length)))) ∧ s.pins.vioLost.getD x false = false ∧ s.sp.length = 2 :=
  ⟨1, { st [(SP_CTL_EN 1, 1), (SP_CTL_MODE 1, 0), (SP_STAT_STATE 1, 2), (SP_RDYCFG_RDYEN 1, 1)] with sp := [PortS.reset, { PortS.reset with left := 4 }] }, by decide⟩
theorem witness_rdyTimeout : ∃ (x : Fin 2) (s : State),
    s.power ≠ .off ∧ s.get (SP_STAT_STATE x) = 2 ∧ s.get (SP_RDYCFG_RDYTO x) ≠ 0 ∧ spWordOver s x = false ∧ (s.port x).pauseAt + s.get (SP_RDYCFG_RDYTO x) * 200 ≤ s.now ∧ s.sp.length = 2 :=
  ⟨1, atTick ({ st [(SP_CTL_EN 1, 1), (SP_CTL_MODE 1, 0), (SP_STAT_STATE 1, 2), (SP_RDYCFG_RDYTO 1, 1), (SP_FMT_WLEN 1, 7)] with sp := [PortS.reset, { PortS.reset with left := 4 }] }) 300, by decide⟩
theorem witness_slaveSelect : ∃ (x : Fin 2) (s : State),
    s.on (SP_CTL_EN x) = true ∧ s.get (SP_STAT_STATE x) = 0 ∧ s.power = .active ∧ s.get (SP_CTL_MODE x) = 1 ∧ s.pins.vioLost.getD x false = false ∧ s.pins.selen.length = 2 ∧ s.sp.length = 2 :=
  ⟨1, { st [(SP_CTL_EN 1, 1), (SP_CTL_MODE 1, 0), (SP_CTL_MODE 1, 1)] with sp := [PortS.reset, { PortS.reset with left := 0 }] }, by decide⟩
theorem witness_windowSelect : ∃ (x : Fin 2) (s : State),
    s.on (SP_CTL_EN x) = true ∧ s.get (SP_STAT_STATE x) = 0 ∧ s.power = .active ∧ s.get (SP_CTL_MODE x) = 2 ∧ s.pins.vioLost.getD x false = false ∧ s.pins.selen.length = 2 ∧ s.sp.length = 2 :=
  ⟨1, { st [(SP_CTL_EN 1, 1), (SP_CTL_MODE 1, 0), (SP_CTL_MODE 1, 2)] with sp := [PortS.reset, { PortS.reset with winCmd := true }] }, by decide⟩
theorem witness_slaveSelectMaster : ∃ (x : Fin 2) (s : State),
    (s.get (SP_CTL_MODE x) = 0 ∨ s.get (SP_STAT_STATE x) = 4 ∨ s.get (SP_STAT_STATE x) = 5) ∧ s.power = .active ∧ s.pins.vioLost.getD x false = false ∧ s.pins.selen.length = 2 ∧ s.sp.length = 2 :=
  ⟨1, { st [(SP_CTL_EN 1, 1), (SP_CTL_MODE 1, 0), (SP_CTL_MODE 1, 0)] with sp := [PortS.reset, { PortS.reset with sel := true }] }, by decide⟩
theorem witness_slaveWord : ∃ (x : Fin 2) (rx : Word) (s : State),
    s.power ≠ .off ∧ s.get (SP_STAT_STATE x) = 4 ∧ s.pins.vioLost.getD x false = false ∧ s.sp.length = 2 :=
  ⟨1, 0xFFF, { st [(SP_CTL_EN 1, 1), (SP_CTL_MODE 1, 0), (SP_STAT_STATE 1, 4), (SP_FMT_WLEN 1, 7)] with sp := [PortS.reset, { PortS.reset with tx := [3], inHand := true }] }, by decide⟩
theorem witness_slaveWordLost : ∃ (x : Fin 2) (rx : Word) (s : State),
    s.power ≠ .off ∧ s.get (SP_STAT_STATE x) = 4 ∧ s.on (SP_CTL_EN x) = true ∧ (s.port x).tx = [] ∧ (s.port x).inHand = false ∧ 64 ≤ (s.port x).rx.length ∧ s.pins.vioLost.getD x false = false ∧ s.sp.length = 2 :=
  ⟨1, 0xFFF, { st [(SP_CTL_EN 1, 1), (SP_CTL_MODE 1, 0), (SP_STAT_STATE 1, 4), (SP_FMT_WLEN 1, 7)] with sp := [PortS.reset, { PortS.reset with rx := List.replicate 64 1 }] }, by decide⟩
theorem witness_slaveFragment : ∃ (x : Fin 2) (bits : Fin 32) (s : State),
    (s.get (SP_STAT_STATE x) = 4 ∨ s.get (SP_STAT_STATE x) = 5) ∧ s.get (SP_CTL_MODE x) ≠ 0 ∧ bits ≠ 0 ∧ s.power = .active ∧ s.pins.vioLost.getD x false = false ∧ s.pins.selen.length = 2 ∧ s.sp.length = 2 :=
  ⟨1, 3, { st [(SP_CTL_EN 1, 1), (SP_CTL_MODE 1, 0), (SP_CTL_MODE 1, 1), (SP_STAT_STATE 1, 4)] with sp := [PortS.reset, { PortS.reset with left := 0 }] }, by decide⟩
theorem witness_slaveDeselect : ∃ (x : Fin 2) (bits : Fin 32) (s : State),
    (s.get (SP_STAT_STATE x) = 4 ∨ s.get (SP_STAT_STATE x) = 5) ∧ s.get (SP_CTL_MODE x) ≠ 0 ∧ bits = 0 ∧ s.power = .active ∧ s.pins.vioLost.getD x false = false ∧ s.pins.selen.length = 2 ∧ s.sp.length = 2 :=
  ⟨1, 0, { st [(SP_CTL_EN 1, 1), (SP_CTL_MODE 1, 0), (SP_CTL_MODE 1, 1), (SP_STAT_STATE 1, 4)] with sp := [PortS.reset, { PortS.reset with left := 0 }] }, by decide⟩
theorem witness_slaveDeselectIdle : ∃ (x : Fin 2) (bits : Fin 32) (s : State),
    (s.get (SP_CTL_MODE x) = 0 ∨ (s.get (SP_STAT_STATE x) ≠ 4 ∧ s.get (SP_STAT_STATE x) ≠ 5)) ∧ s.power = .active ∧ s.pins.vioLost.getD x false = false ∧ s.pins.selen.length = 2 ∧ s.sp.length = 2 :=
  ⟨1, 3, { st [(SP_CTL_EN 1, 1), (SP_CTL_MODE 1, 0), (SP_CTL_MODE 1, 1)] with sp := [PortS.reset, { PortS.reset with sel := true }] }, by decide⟩
theorem witness_txdPush : ∃ (core : Cpu) (x : Fin 2) (v : Word) (s : State),
    s.power = .active ∧ (s.port x).tx.length < 64 ∧ (s.get (SP_STAT_STATE x) = 3 → (s.on (SP_XFER_RXIGN x) = false ∧ 64 ≤ (s.port x).rx.length)) ∧ s.sp.length = 2 ∧ mayStore s core (A_SP_TXD x) :=
  ⟨1, 1, 9, { st [(SP_CTL_EN 1, 1), (SP_CTL_MODE 1, 0)] with sp := [PortS.reset, { PortS.reset with tx := [3] }] }, by decide⟩
theorem witness_txdPushResumes : ∃ (core : Cpu) (x : Fin 2) (v : Word) (s : State),
    s.power = .active ∧ (s.port x).tx.length < 64 ∧ s.get (SP_STAT_STATE x) = 3 ∧ (¬((s.on (SP_XFER_RXIGN x) = false ∧ 64 ≤ (s.port x).rx.length))) ∧ 1 ≤ s.get (SP_CLKCFG_HALF x) ∧ s.sp.length = 2 ∧ mayStore s core (A_SP_TXD x) :=
  ⟨1, 1, 9, { st [(SP_CTL_EN 1, 1), (SP_CTL_MODE 1, 0), (SP_STAT_STATE 1, 3), (SP_CLKCFG_HALF 1, 2)] with sp := [PortS.reset, { PortS.reset with left := 4 }] }, by decide⟩
theorem witness_txdOverflow : ∃ (core : Cpu) (x : Fin 2) (v : Word) (s : State),
    s.power = .active ∧ 64 ≤ (s.port x).tx.length ∧ mayStore s core (A_SP_TXD x) :=
  ⟨1, 1, 9, { st [(SP_CTL_EN 1, 1), (SP_CTL_MODE 1, 0)] with sp := [PortS.reset, { PortS.reset with tx := List.replicate 64 3 }] }, by decide⟩
theorem witness_rxdPop : ∃ (core : Cpu) (x : Fin 2) (w : Word) (q : List Word) (s : State),
    s.power = .active ∧ (s.port x).rx = w :: q ∧ (s.get (SP_STAT_STATE x) = 3 → (s.on (SP_XFER_TXFILL x) = false ∧ (s.port x).tx = []) ∨ (s.on (SP_XFER_RXIGN x) = false ∧ 64 ≤ q.length)) ∧ s.sp.length = 2 ∧ mayLoad s core (A_SP_RXD x) :=
  ⟨1, 1, 3, [4], { st [(SP_CTL_EN 1, 1), (SP_CTL_MODE 1, 0)] with sp := [PortS.reset, { PortS.reset with rx := [3, 4] }] }, by decide⟩
theorem witness_rxdPopResumes : ∃ (core : Cpu) (x : Fin 2) (w : Word) (q : List Word) (s : State),
    s.power = .active ∧ (s.port x).rx = w :: q ∧ s.get (SP_STAT_STATE x) = 3 ∧ (¬((s.on (SP_XFER_TXFILL x) = false ∧ (s.port x).tx = []))) ∧ q.length < 64 ∧ 1 ≤ s.get (SP_CLKCFG_HALF x) ∧ s.sp.length = 2 ∧ mayLoad s core (A_SP_RXD x) :=
  ⟨1, 1, 3, [4], { st [(SP_CTL_EN 1, 1), (SP_CTL_MODE 1, 0), (SP_STAT_STATE 1, 3), (SP_CLKCFG_HALF 1, 2)] with sp := [PortS.reset, { PortS.reset with left := 4, tx := [9], rx := [3, 4] }] }, by decide⟩
theorem witness_rxdUnderflow : ∃ (core : Cpu) (x : Fin 2) (s : State),
    s.power = .active ∧ (s.port x).rx = [] ∧ mayLoad s core (A_SP_RXD x) :=
  ⟨1, 1, { st [(SP_CTL_EN 1, 1), (SP_CTL_MODE 1, 0)] with sp := [PortS.reset, { PortS.reset with left := 0 }] }, by decide⟩
theorem witness_flushRx : ∃ (core : Cpu) (x : Fin 2) (s : State),
    s.power = .active ∧ (s.get (SP_STAT_STATE x) = 3 → (s.on (SP_XFER_TXFILL x) = false ∧ (s.port x).tx = [])) ∧ s.sp.length = 2 ∧ mayStore s core (A_SP_FIFO x) :=
  ⟨1, 1, { st [(SP_CTL_EN 1, 1), (SP_CTL_MODE 1, 0)] with sp := [PortS.reset, { PortS.reset with rx := [3, 4] }] }, by decide⟩
theorem witness_flushRxResumes : ∃ (core : Cpu) (x : Fin 2) (s : State),
    s.power = .active ∧ s.get (SP_STAT_STATE x) = 3 ∧ (¬((s.on (SP_XFER_TXFILL x) = false ∧ (s.port x).tx = []))) ∧ 1 ≤ s.get (SP_CLKCFG_HALF x) ∧ s.sp.length = 2 ∧ mayStore s core (A_SP_FIFO x) :=
  ⟨1, 1, { st [(SP_CTL_EN 1, 1), (SP_CTL_MODE 1, 0), (SP_STAT_STATE 1, 3), (SP_CLKCFG_HALF 1, 2)] with sp := [PortS.reset, { PortS.reset with left := 4, tx := [9], rx := List.replicate 64 4 }] }, by decide⟩
theorem witness_flushTx : ∃ (core : Cpu) (x : Fin 2) (s : State),
    s.power = .active ∧ s.get (SP_STAT_STATE x) ≠ 4 ∧ (s.get (SP_STAT_STATE x) = 3 → s.on (SP_XFER_TXFILL x) = false ∨ (s.on (SP_XFER_RXIGN x) = false ∧ 64 ≤ (s.port x).rx.length)) ∧ s.sp.length = 2 ∧ mayStore s core (A_SP_FIFO x) :=
  ⟨1, 1, { st [(SP_CTL_EN 1, 1), (SP_CTL_MODE 1, 0)] with sp := [PortS.reset, { PortS.reset with tx := [3, 4] }] }, by decide⟩
theorem witness_flushTxSlave : ∃ (core : Cpu) (x : Fin 2) (s : State),
    s.power = .active ∧ s.get (SP_STAT_STATE x) = 4 ∧ s.sp.length = 2 ∧ mayStore s core (A_SP_FIFO x) :=
  ⟨1, 1, { st [(SP_CTL_EN 1, 1), (SP_CTL_MODE 1, 0), (SP_CTL_MODE 1, 1), (SP_STAT_STATE 1, 4)] with sp := [PortS.reset, { PortS.reset with tx := [3, 4], sel := true }] }, by decide⟩
theorem witness_spDisable : ∃ (core : Cpu) (x : Fin 2) (s : State),
    s.power = .active ∧ s.get (SP_STAT_STATE x) ≠ 3 ∧ (s.get (SP_STAT_STATE x) ≠ 2 ∨ (s.port x).bit ≠ 0) ∧ s.get (SP_CTL_MODE x) ≠ 3 ∧ mayStore s core (SP_CTL_EN x).addr :=
  ⟨1, 1, { st [(SP_CTL_EN 1, 1), (SP_CTL_MODE 1, 0), (SP_STAT_STATE 1, 1)] with sp := [PortS.reset, { PortS.reset with left := 4 }] }, by decide⟩
theorem witness_spDisableStalled : ∃ (core : Cpu) (x : Fin 2) (s : State),
    s.power = .active ∧ (s.get (SP_STAT_STATE x) = 3 ∨ (s.get (SP_STAT_STATE x) = 2 ∧ (s.port x).bit = 0)) ∧ s.get (SP_CTL_MODE x) ≠ 3 ∧ s.sp.length = 2 ∧ mayStore s core (SP_CTL_EN x).addr :=
  ⟨1, 1, { st [(SP_CTL_EN 1, 1), (SP_CTL_MODE 1, 0), (SP_STAT_STATE 1, 3)] with sp := [PortS.reset, { PortS.reset with left := 4 }] }, by decide⟩
theorem witness_spDisableDone : ∃ (x : Fin 2) (s : State),
    s.power ≠ .off ∧ s.on (SP_CTL_EN x) = false ∧ (s.get (SP_STAT_STATE x) = 0 ∨ s.get (SP_STAT_STATE x) = 4 ∨ s.get (SP_STAT_STATE x) = 5) :=
  ⟨1, st [(SP_CTL_EN 1, 0), (SP_CTL_EN_ACK 1, 1)], by decide⟩
theorem witness_windowCommand : ∃ (v : Word) (s : State),
    s.power ≠ .off ∧ s.get (SP_STAT_STATE 1) = 5 ∧ (s.port 1).winCmd = false ∧ winValid v = true ∧ s.pins.vioLost.getD 1 false = false ∧ s.sp.length = 2 :=
  ⟨0xC8000100, { st [(SP_CTL_EN 1, 1), (SP_CTL_MODE 1, 0), (SP_CTL_MODE 1, 2), (SP_STAT_STATE 1, 5)] with sp := [PortS.reset, { PortS.reset with left := 0 }] }, by decide⟩
theorem witness_windowCommandBad : ∃ (v : Word) (s : State),
    s.power ≠ .off ∧ s.get (SP_STAT_STATE 1) = 5 ∧ (s.port 1).winCmd = false ∧ winValid v = false ∧ s.pins.vioLost.getD 1 false = false ∧ s.sp.length = 2 :=
  ⟨0xF8000100, { st [(SP_CTL_EN 1, 1), (SP_CTL_MODE 1, 0), (SP_CTL_MODE 1, 2), (SP_STAT_STATE 1, 5)] with sp := [PortS.reset, { PortS.reset with left := 0 }] }, by decide⟩
theorem witness_windowRead : ∃ (early : Bool) (s : State),
    s.get (SP_STAT_STATE 1) = 5 ∧ (s.port 1).winCmd = true ∧ (s.port 1).winBad = false ∧ (s.port 1).winOver = false ∧ (s.port 1).winSpace = 2 ∧ (s.port 1).winOff + 4 ≤ 0x100000 ∧ (s.port 1).winOff % 4 = 0 ∧ early = false ∧ s.power = .active ∧ s.sp.length = 2 ∧ windowWaits s = false ∧ s.pins.vioLost.getD 1 false = false ∧ (s.port 1).winWrite = false :=
  ⟨false, ({ st [(SP_CTL_EN 1, 1), (SP_CTL_MODE 1, 0), (SP_CTL_MODE 1, 2), (SP_STAT_STATE 1, 5)] with sp := [PortS.reset, { PortS.reset with winCmd := true, winSpace := 2, winOff := 0x100, winInc := true }] }).setBytes 0x20000101 [7], by decide⟩
theorem witness_windowReadEarly : ∃ (early : Bool) (s : State),
    s.power = .active ∧ s.get (SP_STAT_STATE 1) = 5 ∧ (s.port 1).winCmd = true ∧ (s.port 1).winWrite = false ∧ (early = true ∨ windowWaits s = true) ∧ s.pins.vioLost.getD 1 false = false ∧ s.sp.length = 2 :=
  ⟨true, { st [(SP_CTL_EN 1, 1), (SP_CTL_MODE 1, 0), (SP_CTL_MODE 1, 2), (SP_STAT_STATE 1, 5)] with sp := [PortS.reset, { PortS.reset with winCmd := true, winSpace := 2, winOff := 0x100 }] }, by decide⟩
theorem witness_windowWrite : ∃ (v : Word) (early : Bool) (s : State),
    s.get (SP_STAT_STATE 1) = 5 ∧ (s.port 1).winCmd = true ∧ (s.port 1).winBad = false ∧ (s.port 1).winOver = false ∧ (s.port 1).winSpace = 2 ∧ (s.port 1).winOff + 4 ≤ 0x100000 ∧ (s.port 1).winOff % 4 = 0 ∧ early = false ∧ s.power = .active ∧ s.sp.length = 2 ∧ windowWaits s = false ∧ s.pins.vioLost.getD 1 false = false ∧ (s.port 1).winWrite = true ∧ sramWaits s (0x20000000 + (s.port 1).winOff) 4 = false :=
  ⟨0xABCD1234, false, { st [(SP_CTL_EN 1, 1), (SP_CTL_MODE 1, 0), (SP_CTL_MODE 1, 2), (SP_STAT_STATE 1, 5)] with sp := [PortS.reset, { PortS.reset with winCmd := true, winWrite := true, winSpace := 2, winOff := 0x100, winInc := true }] }, by decide⟩
theorem witness_windowWriteWaits : ∃ (v : Word) (early : Bool) (s : State),
    s.get (SP_STAT_STATE 1) = 5 ∧ (s.port 1).winCmd = true ∧ (s.port 1).winBad = false ∧ (s.port 1).winOver = false ∧ (s.port 1).winSpace = 2 ∧ (s.port 1).winOff + 4 ≤ 0x100000 ∧ (s.port 1).winOff % 4 = 0 ∧ early = false ∧ s.power = .active ∧ s.sp.length = 2 ∧ windowWaits s = false ∧ s.pins.vioLost.getD 1 false = false ∧ (s.port 1).winWrite = true ∧ sramWaits s (0x20000000 + (s.port 1).winOff) 4 = true :=
  ⟨0xABCD1234, false, { st [(SP_CTL_EN 1, 1), (SP_CTL_MODE 1, 0), (SP_CTL_MODE 1, 2), (SP_STAT_STATE 1, 5)] with sp := [PortS.reset, { PortS.reset with winCmd := true, winWrite := true, winSpace := 2, winOff := 0x100, winInc := true }], fc := { FaultS.reset with scan := [0] } }, by decide⟩
theorem witness_windowWriteEarly : ∃ (v : Word) (early : Bool) (s : State),
    s.power = .active ∧ s.get (SP_STAT_STATE 1) = 5 ∧ (s.port 1).winCmd = true ∧ (s.port 1).winWrite = true ∧ (early = true ∨ windowWaits s = true) ∧ s.pins.vioLost.getD 1 false = false :=
  ⟨0xABCD1234, true, { st [(SP_CTL_EN 1, 1), (SP_CTL_MODE 1, 0), (SP_CTL_MODE 1, 2), (SP_STAT_STATE 1, 5)] with sp := [PortS.reset, { PortS.reset with winCmd := true, winWrite := true, winSpace := 2, winOff := 0x100 }] }, by decide⟩
theorem witness_tmStart : ∃ (core : Cpu) (m : Fin 8) (s : State),
    s.power = .active ∧ mayStore s core (A_TM_CMD m) :=
  ⟨1, 3, { st [(TM_CTL_EN, 1), (TM_STAT_PREM 3, 5)] with tm := { TimerS.reset with wdTicks := TimerS.reset.wdTicks } }, by decide⟩
theorem witness_tmStop : ∃ (core : Cpu) (m : Fin 8) (s : State),
    s.power = .active ∧ mayStore s core (A_TM_CMD m) :=
  ⟨1, 3, { st [(TM_CTL_EN, 1), (TM_STAT_RUN 3, 1)] with tm := { TimerS.reset with wdTicks := TimerS.reset.wdTicks } }, by decide⟩
theorem witness_timerIncrement : ∃ (m : Fin 8) (s : State),
    s.power = .active ∧ s.on TM_CTL_EN = true ∧ s.on (TM_STAT_RUN m) = true ∧ tmDebugStop s m = false ∧ m.val ∈ s.tm.due ∧ (s.get (TM_COUNT_COUNT m) < 2 ^ 32 - 1 ∨ s.get (TM_COUNT_COUNT m) = s.get (TM_TOP_TOP m)) ∧ (∀ e ∈ s.tm.taken, e.1 ≠ m.val) ∧ (∀ c : Fin 4, s.get (TM_CH_CFG_MODE m c) = 1 → s.get (TM_CH_CMP_CMP m c) ≠ (if s.get (TM_COUNT_COUNT m) = s.get (TM_TOP_TOP m) then 0 else s.get (TM_COUNT_COUNT m) + 1)) ∧ s.get (TM_COUNT_COUNT m) ≠ s.get (TM_TOP_TOP m) :=
  ⟨3, { st [(TM_CTL_EN, 1), (TM_STAT_RUN 3, 1), (TM_TOP_TOP 3, 9)] with tm := { TimerS.reset with due := [3] } }, by decide⟩
theorem witness_timerWrap : ∃ (m : Fin 8) (s : State),
    s.power = .active ∧ s.on TM_CTL_EN = true ∧ s.on (TM_STAT_RUN m) = true ∧ tmDebugStop s m = false ∧ m.val ∈ s.tm.due ∧ (s.get (TM_COUNT_COUNT m) < 2 ^ 32 - 1 ∨ s.get (TM_COUNT_COUNT m) = s.get (TM_TOP_TOP m)) ∧ (∀ e ∈ s.tm.taken, e.1 ≠ m.val) ∧ (∀ c : Fin 4, s.get (TM_CH_CFG_MODE m c) = 1 → s.get (TM_CH_CMP_CMP m c) ≠ (if s.get (TM_COUNT_COUNT m) = s.get (TM_TOP_TOP m) then 0 else s.get (TM_COUNT_COUNT m) + 1)) ∧ s.get (TM_COUNT_COUNT m) = s.get (TM_TOP_TOP m) :=
  ⟨3, { st [(TM_CTL_EN, 1), (TM_STAT_RUN 3, 1), (TM_TOP_TOP 3, 9), (TM_COUNT_COUNT 3, 9)] with tm := { TimerS.reset with due := [3] } }, by decide⟩
theorem witness_timerMatch : ∃ (m : Fin 8) (k : Fin 4) (s : State),
    s.power = .active ∧ s.on TM_CTL_EN = true ∧ s.on (TM_STAT_RUN m) = true ∧ tmDebugStop s m = false ∧ m.val ∈ s.tm.due ∧ (s.get (TM_COUNT_COUNT m) < 2 ^ 32 - 1 ∨ s.get (TM_COUNT_COUNT m) = s.get (TM_TOP_TOP m)) ∧ (∀ e ∈ s.tm.taken, e.1 ≠ m.val) ∧ (∀ c : Fin 4, c ≠ k → s.get (TM_CH_CFG_MODE m c) = 1 → s.get (TM_CH_CMP_CMP m c) ≠ (if s.get (TM_COUNT_COUNT m) = s.get (TM_TOP_TOP m) then 0 else s.get (TM_COUNT_COUNT m) + 1)) ∧ s.get (TM_CH_CFG_MODE m k) = 1 ∧ (s.get (TM_CH_CMP_CMP m k) = (if s.get (TM_COUNT_COUNT m) = s.get (TM_TOP_TOP m) then 0 else s.get (TM_COUNT_COUNT m) + 1)) ∧ s.get (TM_COUNT_COUNT m) ≠ s.get (TM_TOP_TOP m) :=
  ⟨3, 2, { st [(TM_CTL_EN, 1), (TM_STAT_RUN 3, 1), (TM_TOP_TOP 3, 9), (TM_COUNT_COUNT 3, 6), (TM_CH_CFG_MODE 3 2, 1), (TM_CH_CMP_CMP 3 2, 7)] with tm := { TimerS.reset with due := [3] } }, by decide⟩
theorem witness_timerMoves : ∃ (m : Fin 8) (s : State),
    s.power = .active ∧ s.on TM_CTL_EN = true ∧ s.on (TM_STAT_RUN m) = true ∧ tmDebugStop s m = false ∧ m.val ∈ s.tm.due ∧ (s.get (TM_COUNT_COUNT m) < 2 ^ 32 - 1 ∨ s.get (TM_COUNT_COUNT m) = s.get (TM_TOP_TOP m)) ∧ (∀ e ∈ s.tm.taken, e.1 ≠ m.val) :=
  ⟨3, { st [(TM_CTL_EN, 1), (TM_STAT_RUN 3, 1), (TM_TOP_TOP 3, 9), (TM_COUNT_COUNT 3, 9), (TM_CH_CFG_MODE 3 2, 1), (TM_CH_CMP_CMP 3 2, 0)] with tm := { TimerS.reset with due := [3] } }, by decide⟩
theorem witness_timerStopped : ∃ (m : Fin 8) (s : State),
    s.power ≠ .off ∧ m.val ∈ s.tm.due ∧ tmCounting s m = false ∧ (∀ e ∈ s.tm.taken, e.1 ≠ m.val) :=
  ⟨3, { st [(TM_CTL_EN, 1), (TM_TOP_TOP 3, 9)] with tm := { TimerS.reset with due := [3] } }, by decide⟩
theorem witness_timerCaptures : ∃ (m : Fin 8) (k : Fin 4) (rising : Bool) (s : State),
    s.power = .active ∧ s.on TM_CTL_EN = true ∧ s.on (TM_STAT_RUN m) = true ∧ tmDebugStop s m = false ∧ m.val ∈ s.tm.due ∧ (s.get (TM_COUNT_COUNT m) < 2 ^ 32 - 1 ∨ s.get (TM_COUNT_COUNT m) = s.get (TM_TOP_TOP m)) ∧ (s.tm.taken.filter (fun e => e.1 == m.val) = [(m.val, k.val, rising, false)]) ∧ (∀ c : Fin 4, s.get (TM_CH_CFG_MODE m c) = 1 → s.get (TM_CH_CMP_CMP m c) ≠ (if s.get (TM_COUNT_COUNT m) = s.get (TM_TOP_TOP m) then 0 else s.get (TM_COUNT_COUNT m) + 1)) ∧ s.get (TM_COUNT_COUNT m) ≠ s.get (TM_TOP_TOP m) ∧ (s.caps m k).length < 4 ∧ s.tm.caps.length = 32 :=
  ⟨3, 2, true, { st [(TM_CTL_EN, 1), (TM_STAT_RUN 3, 1), (TM_TOP_TOP 3, 9), (TM_COUNT_COUNT 3, 6)] with tm := { TimerS.reset with due := [3], taken := [(3, 2, true, false), (4, 2, true, false)] } }, by decide⟩
theorem witness_captureWaits : ∃ (m : Fin 8) (k : Fin 4) (rising : Bool) (s : State),
    s.power = .active ∧ s.get (TM_CH_CFG_MODE m k) = 2 ∧ s.on (TM_CH_CFG_EVT m k) = false ∧ (s.tm.inTick = true ∨ m.val ∈ s.tm.due) ∧ (tmPaired s = true ∨ (s.get (TM_CH_CFG_EDGE m k)).testBit (if rising then 0 else 1) = true) :=
  ⟨3, 2, true, { st [(TM_CTL_EN, 1), (TM_COUNT_COUNT 3, 6), (TM_CH_CFG_MODE 3 2, 2), (TM_CH_CFG_EDGE 3 2, 1)] with tm := { TimerS.reset with due := [3] } }, by decide⟩
theorem witness_capture : ∃ (m : Fin 8) (k : Fin 4) (rising : Bool) (s : State),
    s.power = .active ∧ s.get (TM_CH_CFG_MODE m k) = 2 ∧ s.on (TM_CH_CFG_EVT m k) = false ∧ s.tm.inTick = false ∧ m.val ∉ s.tm.due ∧ tmPaired s = false ∧ ((s.get (TM_CH_CFG_EDGE m k)).testBit (if rising then 0 else 1) = true) ∧ (s.caps m k).length < 4 ∧ s.tm.caps.length = 32 ∧ s.on BT_STATUS_IVORY = false ∧ s.on TM_CTL_TEST = false ∧ s.fc.recov = [] :=
  ⟨3, 2, true, { st [(TM_CTL_EN, 1), (TM_COUNT_COUNT 3, 6), (TM_CH_CFG_MODE 3 2, 2), (TM_CH_CFG_EDGE 3 2, 1)] with tm := { TimerS.reset with wdTicks := TimerS.reset.wdTicks } }, by decide⟩
theorem witness_captureRise : ∃ (m : Fin 8) (k : Fin 4) (rising : Bool) (s : State),
    s.power = .active ∧ s.get (TM_CH_CFG_MODE m k) = 2 ∧ s.on (TM_CH_CFG_EVT m k) = false ∧ s.tm.inTick = false ∧ m.val ∉ s.tm.due ∧ tmPaired s = true ∧ s.on TM_CTL_TEST = true ∧ rising = true ∧ s.on (TM_CH_STAT_RISE_V m k) = false :=
  ⟨3, 2, true, { st [(TM_CTL_EN, 1), (TM_CTL_TEST, 1), (TM_CTL_PAIRED, 1), (TM_COUNT_COUNT 3, 6), (TM_CH_CFG_MODE 3 2, 2), (TM_CH_CFG_EDGE 3 2, 1)] with tm := { TimerS.reset with wdTicks := TimerS.reset.wdTicks } }, by decide⟩
theorem witness_captureWidth : ∃ (m : Fin 8) (k : Fin 4) (rising : Bool) (s : State),
    s.power = .active ∧ s.get (TM_CH_CFG_MODE m k) = 2 ∧ s.on (TM_CH_CFG_EVT m k) = false ∧ s.tm.inTick = false ∧ m.val ∉ s.tm.due ∧ tmPaired s = true ∧ s.on TM_CTL_TEST = true ∧ rising = false ∧ s.on (TM_CH_STAT_RISE_V m k) = true ∧ s.get (TM_CH_RISE_RISE m k) ≤ s.get (TM_TOP_TOP m) ∧ s.get (TM_COUNT_COUNT m) ≤ s.get (TM_TOP_TOP m) :=
  ⟨3, 2, false, { st [(TM_CTL_EN, 1), (TM_CTL_TEST, 1), (TM_CTL_PAIRED, 1), (TM_TOP_TOP 3, 9), (TM_COUNT_COUNT 3, 2), (TM_CH_RISE_RISE 3 2, 6), (TM_CH_STAT_RISE_V 3 2, 1), (TM_CH_CFG_MODE 3 2, 2), (TM_CH_CFG_EDGE 3 2, 1)] with tm := { TimerS.reset with wdTicks := TimerS.reset.wdTicks } }, by decide⟩
theorem witness_capPop : ∃ (core : Cpu) (m : Fin 8) (k : Fin 4) (c : Nat) (e : Bool) (s : State),
    s.power = .active ∧ (s.caps m k).head? = some (c, e) ∧ (s.caps m k).length ≤ 4 ∧ s.tm.caps.length = 32 ∧ mayLoad s core (A_TM_CH_CAP m k) :=
  ⟨1, 3, 2, 7, true, { st [(TM_CTL_EN, 1)] with tm := { TimerS.reset with caps := TimerS.reset.caps.set 14 [(7, true), (8, true)] } }, by decide⟩
theorem witness_widthRead : ∃ (core : Cpu) (m : Fin 8) (k : Fin 4) (s : State),
    s.power = .active ∧ mayLoad s core (A_TM_CH_WIDTH m k) :=
  ⟨1, 3, 2, { st [(TM_CTL_EN, 1), (TM_CH_WIDTH_WIDTH 3 2, 7), (TM_CH_STAT_WIDTH_V 3 2, 1)] with tm := { TimerS.reset with wdTicks := TimerS.reset.wdTicks } }, by decide⟩
theorem witness_countWrite : ∃ (core : Cpu) (m : Fin 8) (v : Word) (s : State),
    s.power = .active ∧ v.toNat ≤ s.get (TM_TOP_TOP m) ∧ mayStore s core (A_TM_COUNT m) :=
  ⟨1, 3, 7, { st [(TM_CTL_EN, 1), (TM_TOP_TOP 3, 9)] with tm := { TimerS.reset with wdTicks := TimerS.reset.wdTicks } }, by decide⟩
theorem witness_cmpWrite : ∃ (core : Cpu) (m : Fin 8) (k : Fin 4) (v : Word) (s : State),
    s.power = .active ∧ mayStore s core (A_TM_CH_CMP m k) :=
  ⟨1, 3, 2, 7, { st [(TM_CTL_EN, 1), (TM_COUNT_COUNT 3, 7)] with tm := { TimerS.reset with wdTicks := TimerS.reset.wdTicks } }, by decide⟩
theorem witness_tmDisable : ∃ (core : Cpu) (s : State),
    s.power = .active ∧ mayStore s core TM_CTL_EN.addr :=
  ⟨1, { st [(TM_CTL_EN, 1), (TM_CTL_EN_ACK, 1)] with tm := { TimerS.reset with wdTicks := TimerS.reset.wdTicks } }, by decide⟩
theorem witness_kick : ∃ (core : Cpu) (w : Fin 5) (key : BitVec 16) (s : State),
    s.power = .active ∧ (w.val < 4 → s.coreState w ≠ 0) ∧ (core.val = w.val ∨ (w = 4 ∧ s.on (IC_CPU_STAT_NS core) = false)) ∧ s.on (WD_CFG_EN (wdReg w)) = true ∧ key = 0x5AC3 ∧ (s.on (WD_STAT_RUN (wdReg w)) = true ∧ s.get (WD_CFG_TIMEOUT (wdReg w)) ≤ s.get (WD_STAT_ELAPSED (wdReg w)) → s.tm.wdTicks.getD w 0 ≠ 0) ∧ s.get (WD_WIN_WINDOW (wdReg w)) ≤ s.get (WD_STAT_ELAPSED (wdReg w)) ∧ mayStore s core (A_WD_KICK (wdReg w)) :=
  ⟨1, 1, 0x5AC3, { st [(IC_CTL_EN, 0), (WD_CFG_EN (wdReg 1), 1), (WD_STAT_RUN (wdReg 1), 1), (WD_CFG_TIMEOUT (wdReg 1), 100), (WD_STAT_ELAPSED 1, 9), (WD_WIN_WINDOW 1, 5), (IC_CPU_STAT_STATE 1, 1)] with tm := { TimerS.reset with wdTicks := [1, 2, 3, 4, 5] } }, by decide⟩
theorem witness_kickIgnored : ∃ (core : Cpu) (w : Fin 5) (key : BitVec 16) (s : State),
    s.power = .active ∧ (w.val < 4 → s.coreState w ≠ 0) ∧ (core.val = w.val ∨ (w = 4 ∧ s.on (IC_CPU_STAT_NS core) = false)) ∧ (s.on (WD_CFG_EN (wdReg w)) = false ∨ (s.on (WD_STAT_RUN (wdReg w)) = true ∧ s.get (WD_CFG_TIMEOUT (wdReg w)) ≤ s.get (WD_STAT_ELAPSED (wdReg w)) ∧ s.tm.wdTicks.getD w 0 = 0)) ∧ mayStore s core (A_WD_KICK (wdReg w)) :=
  ⟨1, 1, 0x5AC3, { st [(IC_CTL_EN, 0), (WD_CFG_EN (wdReg 1), 1), (WD_STAT_RUN (wdReg 1), 1), (WD_CFG_TIMEOUT (wdReg 1), 100), (WD_STAT_ELAPSED 1, 100), (IC_CPU_STAT_STATE 1, 1)] with tm := { TimerS.reset with wdTicks := [1, 0, 3, 4, 5] } }, by decide⟩
theorem witness_kickExpires : ∃ (core : Cpu) (w : Fin 5) (key : BitVec 16) (s : State),
    s.power = .active ∧ (w.val < 4 → s.coreState w ≠ 0) ∧ core.val = w.val ∧ s.on (WD_CFG_EN (wdReg w)) = true ∧ (key ≠ 0x5AC3 ∨ s.get (WD_STAT_ELAPSED (wdReg w)) < s.get (WD_WIN_WINDOW (wdReg w))) ∧ (s.on (WD_STAT_RUN (wdReg w)) = true ∧ s.get (WD_CFG_TIMEOUT (wdReg w)) ≤ s.get (WD_STAT_ELAPSED (wdReg w)) → s.tm.wdTicks.getD w 0 ≠ 0) ∧ s.cores.length = 4 ∧ mayStore s core (A_WD_KICK (wdReg w)) :=
  ⟨1, 1, 0x5AC3, { st [(IC_CTL_EN, 0), (WD_CFG_EN (wdReg 1), 1), (WD_STAT_RUN (wdReg 1), 1), (WD_CFG_TIMEOUT (wdReg 1), 100), (WD_STAT_ELAPSED 1, 3), (WD_WIN_WINDOW 1, 5), (IC_CPU_STAT_STATE 1, 1)] with tm := { TimerS.reset with wdTicks := [1, 2, 3, 4, 5] } }, by decide⟩
theorem witness_wdWarn : ∃ (w : Fin 5) (s : State),
    s.power ≠ .off ∧ s.on (WD_STAT_RUN (wdReg w)) = true ∧ s.get (WD_WIN_WARN (wdReg w)) ≠ 0 ∧ s.get (WD_STAT_ELAPSED (wdReg w)) + s.get (WD_WIN_WARN (wdReg w)) = s.get (WD_CFG_TIMEOUT (wdReg w)) :=
  ⟨4, { st [(IC_CTL_EN, 0), (WD_CFG_EN (wdReg 4), 1), (WD_STAT_RUN (wdReg 4), 1), (WD_CFG_TIMEOUT (wdReg 4), 100), (WD_STAT_ELAPSED 8, 90), (WD_WIN_WARN 8, 10)] with tm := { TimerS.reset with wdTicks := [1, 2, 3, 4, 5] } }, by decide⟩
theorem witness_wdExpiry : ∃ (w : Fin 5) (c : Fin 4) (s : State),
    s.power ≠ .off ∧ w.val = c.val ∧ s.on (WD_STAT_RUN (wdReg w)) = true ∧ s.get (WD_CFG_TIMEOUT (wdReg w)) ≤ s.get (WD_STAT_ELAPSED (wdReg w)) ∧ (s.core c).active = [] ∧ s.cores.length = 4 ∧ (∀ c : Fin 4, s.get (CE_J_STAT_STATE c) ≠ 1 ∧ s.get (CE_J_STAT_STATE c) ≠ 2 ∧ s.get (PQ_J_STAT_STATE c) ≠ 1 ∧ s.get (PQ_J_STAT_STATE c) ≠ 2) ∧ (∀ g : Fin 8, s.groupState g ≠ 1) ∧ s.on IC_CTL_EN = false ∧ (∀ c : Fin 4, s.on (IC_CPU_STAT_ASG c) = false) :=
  ⟨1, 1, { st [(IC_CTL_EN, 0), (WD_CFG_EN (wdReg 1), 1), (WD_STAT_RUN (wdReg 1), 1), (WD_CFG_TIMEOUT (wdReg 1), 100), (IC_CPU_STAT_STATE 1, 1), (WD_STAT_ELAPSED 1, 100)] with tm := { TimerS.reset with wdTicks := [1, 2, 3, 4, 5] } }, by decide⟩
theorem witness_wdExpiryAll : ∃ (w : Fin 5) (c : Fin 4) (s : State),
    s.power ≠ .off ∧ w.val = c.val ∧ s.on (WD_STAT_RUN (wdReg w)) = true ∧ s.get (WD_CFG_TIMEOUT (wdReg w)) ≤ s.get (WD_STAT_ELAPSED (wdReg w)) ∧ s.cores.length = 4 :=
  ⟨1, 1, { st [(IC_CTL_EN, 0), (WD_CFG_EN (wdReg 1), 1), (WD_STAT_RUN (wdReg 1), 1), (WD_CFG_TIMEOUT (wdReg 1), 100), (IC_CTL_EN, 1), (IC_CPU_STAT_STATE 1, 1), (WD_STAT_ELAPSED 1, 100), (CE_J_STAT_STATE 1, 2)] with tm := { TimerS.reset with wdTicks := [1, 2, 3, 4, 5] } }, by decide⟩
theorem witness_wdSystem : ∃ (w : Fin 5) (s : State),
    s.power ≠ .off ∧ s.fl.op = none ∧ s.pq.otp = none ∧ w = 4 ∧ s.on (WD_STAT_RUN 8) = true ∧ s.get (WD_CFG_TIMEOUT 8) ≤ s.get (WD_STAT_ELAPSED 8) ∧ s.on VR_CTL_EN_ACK = false :=
  ⟨4, { st [(IC_CTL_EN, 0), (WD_CFG_EN (wdReg 4), 1), (WD_STAT_RUN (wdReg 4), 1), (WD_CFG_TIMEOUT (wdReg 4), 100), (WD_STAT_ELAPSED 8, 100)] with tm := { TimerS.reset with wdTicks := [1, 2, 3, 4, 5] } }, by decide⟩
theorem witness_coreRestartEnd : ∃ (c : Cpu) (k : Nat) (b : BitVec 64) (s : State),
    s.power ≠ .off ∧ s.coreState c = 3 ∧ s.fc.scan = [] ∧ s.cores.length = 4 ∧ bitOf ((assocGet (s.core c).dm dmControl).getD 0).toNat 31 = false ∧ s.fc.recov = [{ code := 0x8, sub := k, place := c.val, start := b }] ∧ k < 16 ∧ s.fc.queue.length < 16 ∧ s.get FC_CFG_ESC_LIM = 0 :=
  ⟨1, 1, 500, { st [(IC_CTL_EN, 0), (FC_CFG_ESC_LIM, 0), (IC_CPU_STAT_STATE 1, 3)] with fc := { FaultS.reset with recov := [⟨0x8, 1, 1, 500⟩] }, tb := { TimeBase.reset with now := 90000 } }, by decide⟩
theorem witness_coreRestartEndRuns : ∃ (c : Cpu) (s : State),
    s.power ≠ .off ∧ s.coreState c = 3 ∧ (∀ k ∈ s.fc.scan, unitOwner s k ≠ c.val) ∧ s.cores.length = 4 ∧ bitOf ((assocGet (s.core c).dm dmControl).getD 0).toNat 31 = false ∧ s.get FC_CFG_ESC_LIM = 0 :=
  ⟨1, { st [(FC_CFG_ESC_LIM, 0), (IC_CPU_STAT_STATE 1, 3), (WD_CFG_EN 1, 1)] with fc := { FaultS.reset with hist := [] } }, by decide⟩
theorem witness_sleepArm : ∃ (core : Cpu) (arm target : Bool) (s : State),
    s.power = .active ∧ s.on (IC_CPU_STAT_NS core) = false ∧ mayStore s core A_PM_SLEEP :=
  ⟨1, true, true, { st [(TB_STATUS_LOCKED, 1), (PM_SLEEP_ARM, 1), (PM_ALARM_HI_EN, 0)] with tb := { TimeBase.reset with now := 500, slow := 7, edge := true } }, by decide⟩
theorem witness_sleepAttempt : ∃ (s : State),
    s.power = .active ∧ s.on TB_STATUS_LOCKED = true ∧ s.on PM_SLEEP_ARM = true ∧ s.tb.edge = true ∧ s.on TB_STATUS_SLOW_FAIL = false ∧ (∀ a ∈ pmAlarms s, (s.slow : Int) + 1 < a) ∧ (∀ g : Fin 8, s.groupState g ≠ 2) ∧ wakeActive s = false ∧ pmWait s = 0 ∧ (s.pm.attempt = true → s.pm.abandoned = false) ∧ pmHeld s = false ∧ s.emitted = [] ∧ (∀ p : Fin 16, s.laneState p = 2 ∨ s.laneState p = 3 ∨ s.laneState p = 4 → (s.lane p).rx = none) ∧ s.cz.lanes.length = 16 :=
  ⟨{ st [(TB_STATUS_LOCKED, 1), (PM_SLEEP_ARM, 1), (PM_ALARM_HI_EN, 0), (PM_ALARM_HI_EN, 1), (PM_ALARM_LO_SLOW, 900), (CZ_LANE_STAT_STATE 3, 2)] with tb := { TimeBase.reset with now := 500, slow := 7, edge := true }, cores := CoreS.reset :: [CoreS.reset, CoreS.reset, CoreS.reset] }, by decide⟩
theorem witness_sleepBegins : ∃ (s : State),
    s.power = .active ∧ s.on TB_STATUS_LOCKED = true ∧ s.on PM_SLEEP_ARM = true ∧ s.tb.edge = false ∧ s.pm.attempt = false ∧ pmWait s = 0 ∧ s.on TB_STATUS_SLOW_FAIL = false :=
  ⟨{ st [(TB_STATUS_LOCKED, 1), (PM_SLEEP_ARM, 1), (PM_ALARM_HI_EN, 0)] with tb := { TimeBase.reset with now := 500, slow := 7 }, cores := CoreS.reset :: [CoreS.reset, CoreS.reset, CoreS.reset] }, by decide⟩
theorem witness_sleepRefused : ∃ (s : State),
    s.power = .active ∧ s.on TB_STATUS_LOCKED = true ∧ s.on PM_SLEEP_ARM = true ∧ s.tb.edge = true ∧ (s.pm.attempt = true ∨ pmWait s = 0) ∧ s.on TB_STATUS_SLOW_FAIL = true ∧ s.pm.attempt = true :=
  ⟨{ st [(TB_STATUS_LOCKED, 1), (PM_SLEEP_ARM, 1), (PM_ALARM_HI_EN, 0), (TB_STATUS_SLOW_FAIL, 1)] with tb := { TimeBase.reset with now := 500, slow := 7, edge := true }, pm := { PowerS.reset with attempt := true } }, by decide⟩
theorem witness_sleepTooNear : ∃ (s : State),
    s.power = .active ∧ s.on TB_STATUS_LOCKED = true ∧ s.on PM_SLEEP_ARM = true ∧ s.tb.edge = true ∧ (s.pm.attempt = true ∨ pmWait s = 0) ∧ s.on TB_STATUS_SLOW_FAIL = false ∧ ((pmAlarms s).any (fun a => decide (a ≤ (s.slow : Int) + 1)) = true) :=
  ⟨{ st [(TB_STATUS_LOCKED, 1), (PM_SLEEP_ARM, 1), (PM_ALARM_HI_EN, 0), (PM_ALARM_HI_EN, 1), (PM_ALARM_LO_SLOW, 8)] with tb := { TimeBase.reset with now := 500, slow := 7, edge := true }, cores := CoreS.reset :: [CoreS.reset, CoreS.reset, CoreS.reset] }, by decide⟩
theorem witness_sleepWoken : ∃ (s : State),
    s.power = .active ∧ s.on TB_STATUS_LOCKED = true ∧ s.on PM_SLEEP_ARM = true ∧ s.tb.edge = true ∧ (s.pm.attempt = true ∨ pmWait s = 0) ∧ s.on TB_STATUS_SLOW_FAIL = false ∧ (∀ a ∈ pmAlarms s, (s.slow : Int) + 1 < a) ∧ (∀ g : Fin 8, s.groupState g ≠ 2) ∧ wakeActive s = true :=
  ⟨{ st [(TB_STATUS_LOCKED, 1), (PM_SLEEP_ARM, 1), (PM_ALARM_HI_EN, 0), (PM_WAKE_EN_PIN, 1)] with tb := { TimeBase.reset with now := 500, slow := 7, edge := true }, cores := CoreS.reset :: [CoreS.reset, CoreS.reset, CoreS.reset], pins := { PinS.reset with wake := true } }, by decide⟩
theorem witness_sleepArming : ∃ (s : State),
    s.power = .active ∧ s.on TB_STATUS_LOCKED = true ∧ s.on PM_SLEEP_ARM = true ∧ s.tb.edge = true ∧ (s.pm.attempt = true ∨ pmWait s = 0) ∧ s.on TB_STATUS_SLOW_FAIL = false ∧ (∀ a ∈ pmAlarms s, (s.slow : Int) + 1 < a) ∧ (∃ g : Fin 8, s.groupState g = 2) :=
  ⟨{ st [(TB_STATUS_LOCKED, 1), (PM_SLEEP_ARM, 1), (PM_ALARM_HI_EN, 0), (AC_G_STAT_STATE 3, 2)] with tb := { TimeBase.reset with now := 500, slow := 7, edge := true }, cores := CoreS.reset :: [CoreS.reset, CoreS.reset, CoreS.reset] }, by decide⟩
theorem witness_sleepAbandoned : ∃ (s : State),
    s.power = .active ∧ s.on TB_STATUS_LOCKED = true ∧ s.on PM_SLEEP_ARM = true ∧ s.tb.edge = true ∧ s.pm.attempt = true ∧ s.on TB_STATUS_SLOW_FAIL = false ∧ (∀ a ∈ pmAlarms s, (s.slow : Int) + 1 < a) ∧ (∀ g : Fin 8, s.groupState g ≠ 2) ∧ wakeActive s = false ∧ (pmWait s ≠ 0 ∨ s.pm.abandoned = true) :=
  ⟨{ st [(TB_STATUS_LOCKED, 1), (PM_SLEEP_ARM, 1), (PM_ALARM_HI_EN, 0), (IC_CPU_STAT_STATE 1, 1)] with tb := { TimeBase.reset with now := 500, slow := 7, edge := true }, pm := { PowerS.reset with attempt := true } }, by decide⟩
theorem witness_sleepHeld : ∃ (s : State),
    s.power = .active ∧ s.on TB_STATUS_LOCKED = true ∧ s.on PM_SLEEP_ARM = true ∧ s.tb.edge = true ∧ (s.pm.attempt = true ∨ pmWait s = 0) ∧ s.on TB_STATUS_SLOW_FAIL = false ∧ (∀ a ∈ pmAlarms s, (s.slow : Int) + 1 < a) ∧ (∀ g : Fin 8, s.groupState g ≠ 2) ∧ wakeActive s = false ∧ pmWait s = 0 ∧ (s.pm.attempt = true → s.pm.abandoned = false) ∧ pmHeld s = true :=
  ⟨{ st [(TB_STATUS_LOCKED, 1), (PM_SLEEP_ARM, 1), (PM_ALARM_HI_EN, 0)] with tb := { TimeBase.reset with now := 500, slow := 7, edge := true }, cores := CoreS.reset :: [CoreS.reset, CoreS.reset, CoreS.reset], cz := { ChannelS.reset with windows := [win0 .sniff] } }, by decide⟩
theorem witness_wake : ∃ (s : State),
    (s.power = .sleep ∨ s.power = .deep) ∧ s.pm.waking = 0 ∧ (b2n (s.pins.wake && s.on PM_WAKE_EN_PIN) + 2 * b2n (icWakes s && s.on PM_WAKE_EN_IC)) ≠ 0 :=
  ⟨{ st [(PM_WAKE_EN_PIN, 1)] with power := .sleep, tb := { TimeBase.reset with now := 500, slow := 7 }, pm := { PowerS.reset with alarm := none }, pins := { PinS.reset with wake := true } }, by decide⟩
theorem witness_wakeStarts : ∃ (s : State),
    (s.power = .sleep ∨ s.power = .deep) ∧ s.pm.waking = 1 :=
  ⟨{ st [(VR_CTL_EN, 1)] with power := .sleep, tb := { TimeBase.reset with now := 500, slow := 7 }, pm := { PowerS.reset with waking := 1 } }, by decide⟩
theorem witness_wakePin : ∃ (high : Bool) (s : State),
    s.power = .active ∧ high = true ∧ s.pins.wake = false :=
  ⟨true, st [], by decide⟩
theorem witness_wakePinSleep : ∃ (high : Bool) (s : State),
    (s.power = .sleep ∨ s.power = .deep) ∧ high = true ∧ s.pins.wake = false ∧ s.on PM_WAKE_EN_PIN = true ∧ s.pm.waking = 0 :=
  ⟨true, { st [(PM_WAKE_EN_PIN, 1)] with power := .sleep, tb := { TimeBase.reset with now := 500, slow := 7 }, pm := { PowerS.reset with alarm := none } }, by decide⟩
theorem witness_wakePinOff : ∃ (high : Bool) (s : State),
    s.fl.op = none ∧ s.pq.otp = none ∧ s.power = .off ∧ high = true ∧ s.pins.wake = false :=
  ⟨true, { st [] with power := .off }, by decide⟩
theorem witness_comparatorChange : ∃ (x : Fin 2) (out : Bool) (s : State),
    s.power = .active ∧ s.on (PM_CMP_CFG_EN x) = true ∧ s.pm.cmp.getD x false = !out ∧ ((s.get (PM_CMP_CFG_EDGE x)).testBit (if out then 0 else 1) = true) :=
  ⟨1, true, st [(PM_CMP_CFG_EN 1, 1), (PM_CMP_CFG_EDGE 1, 1)], by decide⟩
theorem witness_comparatorWakes : ∃ (x : Fin 2) (out : Bool) (s : State),
    (s.power = .sleep ∨ s.power = .deep) ∧ s.pm.waking = 0 ∧ s.on (PM_CMP_CFG_EN x) = true ∧ s.pm.cmp.getD x false = !out ∧ ((s.get (PM_CMP_CFG_EDGE x)).testBit (if out then 0 else 1) = true) ∧ (s.on (if x = 0 then PM_WAKE_EN_CMPA else PM_WAKE_EN_CMPB) = true) :=
  ⟨1, true, { st [(PM_CMP_CFG_EN 1, 1), (PM_CMP_CFG_EDGE 1, 1), (PM_WAKE_EN_CMPB, 1)] with power := .sleep, tb := { TimeBase.reset with now := 500, slow := 7 }, pm := { PowerS.reset with alarm := none } }, by decide⟩
theorem witness_slowAlarm : ∃  (a : Nat) (s : State),
    (s.power = .sleep ∨ s.power = .deep) ∧ s.pm.waking = 0 ∧ s.pm.alarm = some a ∧ a ≤ s.slow :=
  ⟨6, { st [] with power := .sleep, tb := { TimeBase.reset with now := 500, slow := 7 }, pm := { PowerS.reset with alarm := some 6 } }, by decide⟩
theorem witness_slowAlarmRun : ∃ (s : State),
    s.power = .active ∧ s.tb.edge = true ∧ s.on PM_ALARM_HI_EN = true ∧ s.get64 PM_ALARM_LO_SLOW PM_ALARM_HI_SLOW = s.slow :=
  ⟨{ st [(PM_ALARM_HI_EN, 1), (PM_ALARM_LO_SLOW, 7)] with tb := { TimeBase.reset with slow := 7, edge := true } }, by decide⟩
theorem witness_off : ∃ (core : Cpu) (key : BitVec 16) (s : State),
    s.fl.op = none ∧ s.pq.otp = none ∧ s.power = .active ∧ s.on (IC_CPU_STAT_NS core) = false ∧ key = 0xA55A ∧ s.pins.wake = false ∧ s.get FL_STAT_STATE = 0 ∧ mayStore s core A_PM_CMD :=
  ⟨1, 0xA55A, { st [(TB_RATIO_VALUE, 25000001), (TB_INT_EN_EN, 3), (PM_BOOTREC_REC, 1)] with mem := [(16, 5), (0x20000000, 1)], tb := { TimeBase.reset with now := 7, slow := 5 } }, by decide⟩
theorem witness_offBadKey : ∃ (core : Cpu) (key : BitVec 16) (s : State),
    s.power = .active ∧ s.on (IC_CPU_STAT_NS core) = false ∧ key ≠ 0xA55A ∧ mayStore s core A_PM_CMD :=
  ⟨1, 0x1234, st [], by decide⟩
theorem witness_vcoreWrite : ∃ (core : Cpu) (bspr : Bool) (run : BitVec 8) (s : State),
    s.power = .active ∧ s.on (IC_CPU_STAT_NS core) = false ∧ 0x3C ≤ run.toNat ∧ run.toNat ≤ 0x64 ∧ s.on VR_CTL_EN = false ∧ mayStore s core A_PM_VCORE :=
  ⟨1, true, 0x50, st [], by decide⟩
theorem witness_vcoreSends : ∃ (core : Cpu) (bspr : Bool) (run : BitVec 8) (s : State),
    s.power = .active ∧ s.on (IC_CPU_STAT_NS core) = false ∧ 0x3C ≤ run.toNat ∧ run.toNat ≤ 0x64 ∧ s.on VR_CTL_EN = true ∧ mayStore s core A_PM_VCORE :=
  ⟨1, true, 0x50, { st [(VR_CTL_EN, 1)] with pm := { PowerS.reset with vrSeq := 3, buckWait := true } }, by decide⟩
theorem witness_vcoreForbidden : ∃ (core : Cpu) (bspr : Bool) (run : BitVec 8) (s : State),
    s.power = .active ∧ s.on (IC_CPU_STAT_NS core) = false ∧ (run.toNat < 0x3C ∨ 0x64 < run.toNat) ∧ mayStore s core A_PM_VCORE :=
  ⟨1, true, 0x20, st [], by decide⟩
theorem witness_droop : ∃ (level : Fin 3) (s : State),
    s.power = .active ∧ s.get PM_STAT_DLVL < level.val :=
  ⟨2, st [(PM_STAT_DLVL, 1)], by decide⟩
theorem witness_droopRelease : ∃ (s : State),
    s.power = .active :=
  ⟨st [(PM_STAT_DLVL, 2), (PM_STAT_LEVEL, 2)], by decide⟩
theorem witness_vrEnable : ∃ (core : Cpu) (s : State),
    s.power = .active ∧ s.on (IC_CPU_STAT_NS core) = false ∧ s.on VR_CTL_EN = false ∧ mayStore s core VR_CTL_EN.addr :=
  ⟨1, { st [(VR_CTL_FALLBACK, 1)] with pm := { PowerS.reset with vrSeq := 3 } }, by decide⟩
theorem witness_vrDisable : ∃ (core : Cpu) (s : State),
    s.power = .active ∧ s.on (IC_CPU_STAT_NS core) = false ∧ s.on VR_CTL_EN = true ∧ mayStore s core VR_CTL_EN.addr :=
  ⟨1, st [(VR_CTL_EN, 1), (VR_CTL_EN_ACK, 1)], by decide⟩
theorem witness_vrqAck : ∃ (s : State),
    s.power ≠ .off ∧ s.pm.vrWait ≠ 0 ∧ vrOver s = true :=
  ⟨{ st [(VR_CTL_EN, 1), (VR_STAT_BUSY, 1), (VR_STAT_LAST, 0x2A03)] with pm := { PowerS.reset with vrWait := 1, vrSlow := 0, vrStart := some 0 }, tb := { TimeBase.reset with now := 5000 } }, by decide⟩
theorem witness_vrqAckIgnored : ∃ (s : State),
    s.power ≠ .off ∧ (s.pm.vrWait = 0 ∨ (vrOver s = false ∧ vrMaybe s = false)) :=
  ⟨{ st [(VR_CTL_EN, 1), (VR_STAT_BUSY, 1)] with pm := { PowerS.reset with vrWait := 0 } }, by decide⟩
theorem witness_vrTimeout : ∃ (s : State),
    s.power ≠ .off ∧ vrLate s = true :=
  ⟨atTick { st [(VR_CTL_EN, 1), (VR_STAT_BUSY, 1)] with pm := { PowerS.reset with vrWait := 2, vrStart := some 0 } } 500000, by decide⟩
theorem witness_sramUncorrectable : ∃ (agent : SramAgent) (addr : BitVec 20) (k : Nat) (c : Fin 4) (d : Fin 4) (s : State),
    s.power ≠ .off ∧ addr.toNat / 0x8000 = k ∧ k < 16 ∧ agent = .core d ∧ s.fc.scan.contains k = false ∧ (s.get FC_SRAM_ACT_RST).testBit k = false ∧ c.val = (s.get FC_OWN0_OWN / 4 ^ k % 4) ∧ s.coreState c ≠ 0 ∧ s.cores.length = 4 ∧ (∀ r ∈ s.reservations, outlives none (0x20000000 + addr.toNat / 4 * 4) 4 r = true) :=
  ⟨(.core 2), 0x8105, 1, 1, 2, (st [(IC_CPU_STAT_STATE 1, 1), (IC_CPU_STAT_STATE 2, 1), (FC_OWN0_OWN, 4)]).setBytes 0x20008104 [7, 7, 7, 7, 7], by decide⟩
theorem witness_sramEndsJob : ∃ (agent : SramAgent) (addr : BitVec 20) (k : Nat) (c : Fin 4) (d : Fin 4) (s : State),
    s.power ≠ .off ∧ addr.toNat / 0x8000 = k ∧ k < 16 ∧ agent = .cipher d ∧ s.get (CE_J_STAT_STATE d) = 2 ∧ s.fc.scan.contains k = false ∧ (s.get FC_SRAM_ACT_RST).testBit k = false ∧ c.val = (s.get FC_OWN0_OWN / 4 ^ k % 4) ∧ s.coreState c ≠ 0 ∧ s.ce.jobs.length = 4 :=
  ⟨(.cipher 2), 0x8105, 1, 1, 2, (st [(IC_CPU_STAT_STATE 1, 1), (FC_OWN0_OWN, 4), (CE_J_STAT_STATE 2, 2)]).setBytes 0x20008104 [7, 7, 7, 7, 7], by decide⟩
theorem witness_sramReset : ∃ (agent : SramAgent) (addr : BitVec 20) (k : Nat) (s : State),
    s.power ≠ .off ∧ s.fl.op = none ∧ s.pq.otp = none ∧ addr.toNat / 0x8000 = k ∧ k < 16 ∧ (agent = .debug ∨ agent = .window ∨ (∃ r : Fin 4, agent = .ring r)) ∧ s.fc.scan.contains k = false ∧ (s.get FC_SRAM_ACT_RST).testBit k = true ∧ s.on VR_CTL_EN_ACK = false :=
  ⟨.debug, 0x8105, 1, (st [(FC_SRAM_ACT_RST, 2)]).setBytes 0x20008104 [7, 7, 7, 7, 7], by decide⟩
theorem witness_sramScanFinds : ∃ (agent : SramAgent) (addr : BitVec 20) (k : Nat) (s : State),
    s.power ≠ .off ∧ addr.toNat / 0x8000 = k ∧ k < 16 ∧ agent = .scan ∧ s.fc.scan.contains k = true :=
  ⟨.scan, 0x8105, 1, { (st [(IC_CPU_STAT_STATE 1, 3), (FC_OWN0_OWN, 4)]).setBytes 0x20008104 [7, 7, 7, 7, 7] with fc := { FaultS.reset with scan := [1] } }, by decide⟩
theorem witness_sramScanning : ∃ (agent : SramAgent) (addr : BitVec 20) (k : Nat) (s : State),
    s.power ≠ .off ∧ addr.toNat / 0x8000 = k ∧ k < 16 ∧ agent ≠ .scan ∧ s.fc.scan.contains k = true :=
  ⟨(.core 2), 0x8105, 1, { (st [(IC_CPU_STAT_STATE 1, 3), (FC_OWN0_OWN, 4)]).setBytes 0x20008104 [7, 7, 7, 7, 7] with fc := { FaultS.reset with scan := [1] } }, by decide⟩
theorem witness_unitScanEnd : ∃ (k : Fin 32) (c : Fin 4) (s : State),
    s.power ≠ .off ∧ k.val ∈ s.fc.scan ∧ k.val < 16 ∧ c.val = (s.get FC_OWN0_OWN / 4 ^ k.val % 4) ∧ s.fc.stalls = [] ∧ (s.core c).active = [] ∧ s.cores.length = 4 ∧ (∀ c : Fin 4, s.get (CE_J_STAT_STATE c) ≠ 1 ∧ s.get (CE_J_STAT_STATE c) ≠ 2 ∧ s.get (PQ_J_STAT_STATE c) ≠ 1 ∧ s.get (PQ_J_STAT_STATE c) ≠ 2) ∧ (∀ g : Fin 8, s.groupState g ≠ 1) ∧ s.on IC_CTL_EN = false ∧ (∀ c : Fin 4, s.on (IC_CPU_STAT_ASG c) = false) :=
  ⟨1, 1, { st [(IC_CTL_EN, 0), (IC_CPU_STAT_STATE 1, 3), (FC_OWN0_OWN, 4)] with fc := { FaultS.reset with scan := [1] } }, by decide⟩
theorem witness_unitScanEndAll : ∃ (k : Fin 32) (c : Fin 4) (s : State),
    s.power ≠ .off ∧ k.val ∈ s.fc.scan ∧ k.val < 16 ∧ c.val = (s.get FC_OWN0_OWN / 4 ^ k.val % 4) ∧ s.fc.stalls = [] ∧ s.cores.length = 4 :=
  ⟨1, 1, { st [(IC_CTL_EN, 1), (IC_CPU_STAT_STATE 1, 3), (FC_OWN0_OWN, 4), (CE_J_STAT_STATE 1, 2)] with fc := { FaultS.reset with scan := [1] } }, by decide⟩
theorem witness_recPop : ∃ (core : Cpu) (s : State),
    s.power = .active ∧ s.on (IC_CPU_STAT_NS core) = false ∧ s.fc.queue.length < 16 ∧ mayStore s core A_FC_REC_POP :=
  ⟨1, { st [] with fc := { FaultS.reset with queue := [⟨1, 2, 3⟩, ⟨4, 5, 6⟩] } }, by decide⟩
theorem witness_sramCorrectable : ∃ (core : Cpu) (addr : BitVec 20) (s : State),
    s.power = .active ∧ s.on (IC_CPU_STAT_NS core) = false ∧ sramScanned s (0x20000000 + addr.toNat / 4 * 4) = false ∧ mayLoad s core (0x20000000 + addr.toNat / 4 * 4) :=
  ⟨1, 0x105, (st []).setBytes 0x20000104 [7], by decide⟩
theorem witness_sramCorrectableOther : ∃ (agent : SramAgent) (addr : BitVec 20) (s : State),
    s.power ≠ .off ∧ (agent = .scan ∧ sramScanned s (0x20000000 + addr.toNat / 4 * 4) = true ∨ (agentReads s agent = true ∧ agent ≠ .scan ∧ sramWaits s (0x20000000 + addr.toNat / 4 * 4) 4 = false)) :=
  ⟨.scan, 0x8105, { st [] with fc := { FaultS.reset with scan := [1] } }, by decide⟩
theorem witness_outSet : ∃ (core : Cpu) (mask : BitVec 24) (s : State),
    s.power = .active ∧ s.on (IC_CPU_STAT_NS core) = false ∧ mayStore s core A_GP_OUT_SET :=
  ⟨1, 0x5A, st [(GP_OUT_OUT, 0xF00)], by decide⟩
theorem witness_outClr : ∃ (core : Cpu) (mask : BitVec 24) (s : State),
    s.power = .active ∧ s.on (IC_CPU_STAT_NS core) = false ∧ mayStore s core A_GP_OUT_CLR :=
  ⟨1, 0x5A, st [(GP_OUT_OUT, 0xF0F)], by decide⟩
theorem witness_gpioEdge : ∃ (n : Fin 24) (rising : Bool) (s : State),
    s.pins.gpio.getD n false = !rising ∧ gpOutput s n = false ∧ s.on (GP_PAD_CFG_IEN n) = true ∧ pinLost s n = false ∧ (s.power = .active ∨ s.power = .sleep) ∧ ((s.get (GP_PAD_CFG_EDGE n)).testBit (if rising then 0 else 1) = true) ∧ (∀ k : Fin 8, s.get (GP_EVP_PIN k) ≠ n.val ∨ (s.get (GP_EVP_EDGE k)).testBit (if rising then 0 else 1) = false) ∧ (∀ m : Fin 8, ∀ k : Fin 4, s.get (TM_CH_CFG_MODE m k) = 2 → s.on (TM_CH_CFG_EVT m k) = true ∨ s.get (TM_CH_CFG_GSEL m k) ≠ n.val) :=
  ⟨5, true, st [(GP_PAD_CFG_IEN 5, 1), (GP_PAD_CFG_EDGE 5, 1)], by decide⟩
theorem witness_gpioEvent : ∃ (n : Fin 24) (rising : Bool) (j : Fin 8) (s : State),
    s.pins.gpio.getD n false = !rising ∧ gpOutput s n = false ∧ s.on (GP_PAD_CFG_IEN n) = true ∧ pinLost s n = false ∧ s.power = .active ∧ ((s.get (GP_PAD_CFG_EDGE n)).testBit (if rising then 0 else 1) = true) ∧ s.get (GP_EVP_PIN j) = n.val ∧ ((s.get (GP_EVP_EDGE j)).testBit (if rising then 0 else 1) = true) ∧ (∀ k : Fin 8, k ≠ j → s.get (GP_EVP_PIN k) ≠ n.val) ∧ (∀ m : Fin 8, ∀ k : Fin 4, s.get (TM_CH_CFG_MODE m k) = 2 → s.on (TM_CH_CFG_EVT m k) = true ∨ s.get (TM_CH_CFG_GSEL m k) ≠ n.val) :=
  ⟨5, true, 3, st [(GP_PAD_CFG_IEN 5, 1), (GP_PAD_CFG_EDGE 5, 1), (GP_EVP_PIN 3, 5), (GP_EVP_EDGE 3, 1)], by decide⟩
theorem witness_gpioMuted : ∃ (n : Fin 24) (rising : Bool) (s : State),
    s.power ≠ .off ∧ s.pins.gpio.getD n false = !rising ∧ gpOutput s n = false ∧ (s.on (GP_PAD_CFG_IEN n) = false ∨ pinLost s n = true) :=
  ⟨5, true, st [(GP_PAD_CFG_IEN 5, 0)], by decide⟩
theorem witness_gpioAny : ∃ (n : Fin 24) (rising : Bool) (s : State),
    s.pins.gpio.getD n false = !rising ∧ gpOutput s n = false ∧ s.on (GP_PAD_CFG_IEN n) = true ∧ pinLost s n = false ∧ s.power = .active :=
  ⟨5, true, st [(GP_PAD_CFG_IEN 5, 1), (GP_PAD_CFG_EDGE 5, 1), (TM_CTL_EN, 1), (TM_CFG_SRC 3, 3), (TM_CFG_GSEL 3, 5)], by decide⟩
theorem witness_vioSupplyLoss : ∃ (b lost : Bool) (s : State),
    s.power ≠ .off ∧ s.pins.vioLost.length = 2 :=
  ⟨true, true, st [(GP_PAD_CFG_IEN 15, 1)], by decide⟩
theorem witness_ledgerLimit : ∃ (core : Cpu) (form : WriteForm) (addr : Word) (v : Word) (s : State),
    s.power = .active ∧ s.on (IC_CPU_STAT_NS core) = false ∧ addr.toNat = A_PM_LEDGER ∧ form = .store 2 ∧ s.cores.length = 4 ∧ mayStore s core addr.toNat :=
  ⟨1, (.store 2), 0x40000014, 0x5A0000, st [], by decide⟩
theorem witness_openOutOfPlace : ∃ (core : Cpu) (g : Fin 8) (s : State),
    s.power = .active ∧ (s.groupState g = 0 ∨ (s.get (AC_G_STAT_OWNER g) = core.val ∧ (s.on (AC_G_STAT_ATTR g) = false ∨ s.on (IC_CPU_STAT_NS core) = false))) ∧ (s.groupState g = 1 ∨ s.groupState g = 2 ∨ s.groupState g = 3) ∧ mayStore s core (A_AC_G_CMD g) :=
  ⟨1, 3, st [(AC_CTL_EN, 1), (AC_G_STAT_STATE 3, 2), (AC_G_STAT_OWNER 3, 1), (AC_G_STAT_ATTR 3, 1)], by decide⟩
theorem witness_commitNowOutOfPlace : ∃ (core : Cpu) (g : Fin 8) (s : State),
    s.power = .active ∧ (s.groupState g = 0 ∨ (s.get (AC_G_STAT_OWNER g) = core.val ∧ (s.on (AC_G_STAT_ATTR g) = false ∨ s.on (IC_CPU_STAT_NS core) = false))) ∧ s.groupState g ≠ 1 ∧ mayStore s core (A_AC_G_CMD g) :=
  ⟨1, 3, st [(AC_CTL_EN, 1), (AC_G_STAT_STATE 3, 4), (AC_G_STAT_OWNER 3, 1), (AC_G_STAT_ATTR 3, 1)], by decide⟩
theorem witness_commitAtOutOfPlace : ∃ (core : Cpu) (g : Fin 8) (sel : Bool) (s : State),
    s.power = .active ∧ (s.groupState g = 0 ∨ (s.get (AC_G_STAT_OWNER g) = core.val ∧ (s.on (AC_G_STAT_ATTR g) = false ∨ s.on (IC_CPU_STAT_NS core) = false))) ∧ s.groupState g ≠ 1 ∧ mayStore s core (A_AC_G_CMD g) :=
  ⟨1, 3, true, st [(AC_CTL_EN, 1), (AC_G_STAT_STATE 3, 3), (AC_G_STAT_OWNER 3, 1), (AC_G_STAT_ATTR 3, 1)], by decide⟩
theorem witness_releaseOutOfPlace : ∃ (core : Cpu) (g : Fin 8) (s : State),
    s.power = .active ∧ (s.groupState g = 0 ∨ (s.get (AC_G_STAT_OWNER g) = core.val ∧ (s.on (AC_G_STAT_ATTR g) = false ∨ s.on (IC_CPU_STAT_NS core) = false))) ∧ (s.groupState g = 0 ∨ s.groupState g = 2 ∨ s.groupState g = 3) ∧ mayStore s core (A_AC_G_CMD g) :=
  ⟨1, 3, st [(AC_CTL_EN, 1), (AC_G_STAT_STATE 3, 3), (AC_G_STAT_OWNER 3, 1), (AC_G_STAT_ATTR 3, 1)], by decide⟩
theorem witness_abortFree : ∃ (core : Cpu) (g : Fin 8) (s : State),
    s.power = .active ∧ s.groupState g = 0 ∧ mayStore s core (A_AC_G_CMD g) :=
  ⟨1, 3, st [(AC_CTL_EN, 1), (AC_G_STAT_STATE 3, 0), (AC_G_STAT_OWNER 3, 1), (AC_G_STAT_ATTR 3, 1)], by decide⟩
theorem witness_pushOutOfPlace : ∃ (core : Cpu) (g : Fin 8) (v : Word) (s : State),
    s.power = .active ∧ (s.groupState g = 0 ∨ (s.get (AC_G_STAT_OWNER g) = core.val ∧ (s.on (AC_G_STAT_ATTR g) = false ∨ s.on (IC_CPU_STAT_NS core) = false))) ∧ s.groupState g ≠ 0 ∧ s.groupState g ≠ 1 ∧ mayStore s core (A_AC_G_SDATA g) :=
  ⟨1, 3, 5, st [(AC_CTL_EN, 1), (AC_G_STAT_STATE 3, 4), (AC_G_STAT_OWNER 3, 1), (AC_G_STAT_ATTR 3, 1)], by decide⟩
theorem witness_pushFree : ∃ (core : Cpu) (g : Fin 8) (v : Word) (s : State),
    s.power = .active ∧ s.groupState g = 0 ∧ s.cores.length = 4 ∧ mayStore s core (A_AC_G_SDATA g) :=
  ⟨1, 3, 5, st [(AC_CTL_EN, 1), (AC_G_STAT_STATE 3, 0), (AC_G_STAT_OWNER 3, 1), (AC_G_STAT_ATTR 3, 1)], by decide⟩
theorem witness_abortEnds : ∃ (core : Cpu) (g : Fin 8) (s : State),
    s.power = .active ∧ (s.groupState g = 1 ∨ s.groupState g = 2 ∨ s.groupState g = 3) ∧ s.get (AC_G_STAT_OWNER g) = core.val ∧ (s.on (AC_G_STAT_ATTR g) = false ∨ s.on (IC_CPU_STAT_NS core) = false) ∧ timedDue s g = false ∧ s.groups.length = 8 ∧ mayStore s core (A_AC_G_CMD g) :=
  ⟨1, 3, { st [(AC_CTL_EN, 1), (AC_G_STAT_STATE 3, 3), (AC_G_STAT_OWNER 3, 1), (AC_G_STAT_ATTR 3, 1)] with groups := (List.replicate 8 Group.reset).set 3 { Group.reset with entries := [⟨A_TB_CTL, 0xF0, 0xAB⟩] } }, by decide⟩
theorem witness_programBusy : ∃ (core : Cpu) (s : State),
    s.power = .active ∧ s.get FL_STAT_STATE ≠ 0 ∧ mayStore s core A_FL_CMD :=
  ⟨1, { st [(FL_CTL_EN, 1), (FL_STAT_STATE, 3)] with fl := { FlashS.reset with lastRead := 0 } }, by decide⟩
theorem witness_eraseBusy : ∃ (core : Cpu) (s : State),
    s.power = .active ∧ s.get FL_STAT_STATE ≠ 0 ∧ mayStore s core A_FL_CMD :=
  ⟨1, { st [(FL_CTL_EN, 1), (FL_STAT_STATE, 3)] with fl := { FlashS.reset with lastRead := 0 } }, by decide⟩
theorem witness_flashBadOp : ∃ (core : Cpu) (form : WriteForm) (addr : Word) (v : Word) (s : State),
    s.power = .active ∧ addr.toNat = A_FL_CMD ∧ form = .store 2 ∧ (v.toNat % 8 = 0 ∨ 5 < v.toNat % 8) ∧ s.cores.length = 4 ∧ mayStore s core addr.toNat :=
  ⟨1, (.store 2), 0x400D0010, 7, { st [(FL_CTL_EN, 1), (FL_STAT_STATE, 3)] with fl := { FlashS.reset with lastRead := 0 } }, by decide⟩
theorem witness_windowBadCommand : ∃ (v : Word) (s : State),
    s.power ≠ .off ∧ s.get (SP_STAT_STATE 1) = 5 ∧ (s.port 1).winCmd = false ∧ (4 < bitsOf v 26 4 ∨ bitsOf v 24 2 ≠ 0 ∨ bitsOf v 0 2 ≠ 0 ∨ (bitsOf v 26 4 = 0 ∧ 0x400000 ≤ bitsOf v 0 24) ∨ (bitsOf v 26 4 = 1 ∧ 0x2000 ≤ bitsOf v 0 24) ∨ (bitsOf v 26 4 = 2 ∧ 0x100000 ≤ bitsOf v 0 24) ∨ (bitsOf v 26 4 = 3 ∧ 0x80000 ≤ bitsOf v 0 24) ∨ (bitsOf v 26 4 = 4 ∧ 0x170000 ≤ bitsOf v 0 24)) ∧ s.sp.length = 2 :=
  ⟨0x48000102, { st [(SP_CTL_EN 1, 1), (SP_CTL_MODE 1, 0), (SP_CTL_MODE 1, 2), (SP_STAT_STATE 1, 5)] with sp := [PortS.reset, { PortS.reset with left := 0 }] }, by decide⟩
theorem witness_windowReadBlocked : ∃ (early : Bool) (s : State),
    s.power ≠ .off ∧ s.get (SP_STAT_STATE 1) = 5 ∧ (s.port 1).winCmd = true ∧ (s.port 1).winWrite = false ∧ (s.port 1).winBad = true ∧ early = false :=
  ⟨false, { st [(SP_CTL_EN 1, 1), (SP_CTL_MODE 1, 0), (SP_CTL_MODE 1, 2), (SP_STAT_STATE 1, 5)] with sp := [PortS.reset, { PortS.reset with winCmd := true, winBad := true, winSpace := 2 }] }, by decide⟩
theorem witness_windowWriteBlocked : ∃ (v : Word) (early : Bool) (s : State),
    s.power ≠ .off ∧ s.get (SP_STAT_STATE 1) = 5 ∧ (s.port 1).winCmd = true ∧ (s.port 1).winWrite = true ∧ (s.port 1).winBad = true ∧ early = false :=
  ⟨5, false, { st [(SP_CTL_EN 1, 1), (SP_CTL_MODE 1, 0), (SP_CTL_MODE 1, 2), (SP_STAT_STATE 1, 5)] with sp := [PortS.reset, { PortS.reset with winCmd := true, winWrite := true, winBad := true, winSpace := 2 }] }, by decide⟩
theorem witness_evHiddenRead : ∃ (core : Cpu) (form : ReadForm) (addr : Word) (hw : Word) (ecc : Bool) (n : Fin 64) (k : Fin 16) (s : State),
    s.power = .active ∧ form = .load 2 ∧ addr.toNat = A_EV_CH_CFG n + 4 * k ∧ s.on (IC_CPU_STAT_NS core) = true ∧ s.on (EV_CH_CFG_SEC n) = true ∧ mayLoad s core addr.toNat :=
  ⟨1, (.load 2), 0x400310C4, 0, false, 3, 1, st [(IC_CPU_STAT_NS 1, 1), (EV_CH_CFG_SEC 3, 1)], by decide⟩
theorem witness_evRead : ∃ (core : Cpu) (form : ReadForm) (addr : Word) (hw : Word) (ecc : Bool) (n : Fin 64) (k : Fin 16) (s : State),
    s.power = .active ∧ form = .load 2 ∧ addr.toNat = A_EV_CH_CFG n + 4 * k ∧ (s.on (IC_CPU_STAT_NS core) = false ∨ s.on (EV_CH_CFG_SEC n) = false) ∧ mayLoad s core addr.toNat :=
  ⟨1, (.load 2), 0x400310C4, 0, false, 3, 1, st [(EV_CH_CFG_SEC 3, 1)], by decide⟩
theorem witness_nonSecureSleepArm : ∃ (core : Cpu) (arm target : Bool) (s : State),
    s.power = .active ∧ s.on (IC_CPU_STAT_NS core) = true ∧ s.cores.length = 4 ∧ mayStore s core A_PM_SLEEP :=
  ⟨1, true, true, st [(IC_CPU_STAT_NS 1, 1)], by decide⟩
theorem witness_nonSecureOff : ∃ (core : Cpu) (key : BitVec 16) (s : State),
    s.power = .active ∧ s.on (IC_CPU_STAT_NS core) = true ∧ s.cores.length = 4 ∧ mayStore s core A_PM_CMD :=
  ⟨1, 0xA55A, st [(IC_CPU_STAT_NS 1, 1)], by decide⟩
theorem witness_nonSecureSysrst : ∃ (core : Cpu) (key : BitVec 16) (s : State),
    s.power = .active ∧ s.on (IC_CPU_STAT_NS core) = true ∧ s.cores.length = 4 ∧ mayStore s core A_PM_CMD :=
  ⟨1, 0xA55A, st [(IC_CPU_STAT_NS 1, 1)], by decide⟩
theorem witness_nonSecureVcoreWrite : ∃ (core : Cpu) (bspr : Bool) (run : BitVec 8) (s : State),
    s.power = .active ∧ s.on (IC_CPU_STAT_NS core) = true ∧ s.cores.length = 4 ∧ mayStore s core A_PM_VCORE :=
  ⟨1, true, 0x50, st [(IC_CPU_STAT_NS 1, 1)], by decide⟩
theorem witness_nonSecureVrEnable : ∃ (core : Cpu) (s : State),
    s.power = .active ∧ s.on (IC_CPU_STAT_NS core) = true ∧ s.cores.length = 4 ∧ mayStore s core VR_CTL_EN.addr :=
  ⟨1, st [(IC_CPU_STAT_NS 1, 1)], by decide⟩
theorem witness_nonSecureVrDisable : ∃ (core : Cpu) (s : State),
    s.power = .active ∧ s.on (IC_CPU_STAT_NS core) = true ∧ s.cores.length = 4 ∧ mayStore s core VR_CTL_EN.addr :=
  ⟨1, st [(IC_CPU_STAT_NS 1, 1)], by decide⟩
theorem witness_nonSecureFlDisable : ∃ (core : Cpu) (s : State),
    s.power = .active ∧ s.on (IC_CPU_STAT_NS core) = true ∧ s.cores.length = 4 ∧ mayStore s core FL_CTL_EN.addr :=
  ⟨1, st [(IC_CPU_STAT_NS 1, 1)], by decide⟩
theorem witness_nonSecureRecPop : ∃ (core : Cpu) (s : State),
    s.power = .active ∧ s.on (IC_CPU_STAT_NS core) = true ∧ s.cores.length = 4 ∧ mayStore s core A_FC_REC_POP :=
  ⟨1, st [(IC_CPU_STAT_NS 1, 1)], by decide⟩
theorem witness_nonSecureCoreStart : ∃ (core : Cpu) (c : Cpu) (s : State),
    s.power = .active ∧ s.on (IC_CPU_STAT_NS core) = true ∧ s.cores.length = 4 ∧ mayStore s core (A_IC_CPU_CTL c) :=
  ⟨1, 2, st [(IC_CPU_STAT_NS 1, 1)], by decide⟩
theorem witness_nonSecureKick : ∃ (core : Cpu) (w : Fin 5) (key : BitVec 16) (s : State),
    s.power = .active ∧ s.on (IC_CPU_STAT_NS core) = true ∧ w = 4 ∧ s.cores.length = 4 ∧ mayStore s core (A_WD_KICK (wdReg w)) :=
  ⟨1, 4, 0x5AC3, st [(IC_CPU_STAT_NS 1, 1)], by decide⟩
theorem witness_frameTooLong : ∃ psdu : List Byte, 2047 < psdu.length := ⟨List.replicate 2048 0, by rw [List.length_replicate]; decide⟩
theorem witness_entropyShort : ∃ raw : List Byte, raw.length ≠ 128 := ⟨[], by decide⟩
theorem witness_wellFormed : (Instr.slowFail).wellFormed = true := by decide
theorem witness_offCommand : ∃ (c : Instr) (s : State), c.wellFormed = true ∧ s.power = .off ∧ c ≠ .powerOnReset ∧ (∀ high, c ≠ .wakePin high) :=
  ⟨.slowFail, { st [] with power := .off }, by decide, by decide, by decide, fun h => by cases h <;> decide⟩
theorem witness_sleepTick : ∃ s : State, s.pending = [] ∧ s.asleep = true ∧ s.tb.xoStopped = false :=
  ⟨{ st [] with power := .sleep }, by decide⟩
theorem witness_sleepTickStopped : ∃ s : State, s.pending = [] ∧ s.power ≠ .off ∧ (s.asleep = true ∨ s.on TB_STATUS_LOCKED = false) ∧ s.tb.xoStopped = true :=
  ⟨{ st [] with power := .deep, tb := { TimeBase.reset with xoStopped := true } }, by decide⟩
theorem witness_unlockedTick : ∃ s : State, s.pending = [] ∧ s.power = .active ∧ s.on TB_STATUS_LOCKED = false ∧ s.tb.xoStopped = false :=
  ⟨State.reset, by decide⟩
theorem witness_tick : ∃ s : State, s.pending = [] ∧ s.power = .active ∧ s.on TB_STATUS_LOCKED = true ∧ s.on EV_CTL_EN = false ∧ s.evWas = none ∧
    s.ls.launches = [] ∧ s.fe.cal = none ∧ s.fe.queue = [] ∧ s.pm.offPend = false :=
  ⟨st [(TB_STATUS_LOCKED, 1), (EV_CTL_EN, 0)], by decide⟩
theorem witness_offStep : ∃ s : State, s.pending = [] ∧ s.power = .off := ⟨{ st [] with power := .off }, by decide⟩
theorem witness_step : ∃ s t : State, (s.power = .off → Views s) ∧ step s = .next t :=
  ⟨{ st [] with pending := [.slowFail] }, _, fun h => absurd h (by decide), rfl⟩

/-! ### The spec's worked examples -/

/-- 04: an LO of 918.2 MHz has BIN28 and BIN29 near the 920 MHz spur. -/
theorem test_spur_bins : spurBins 9182000 = 0x03000000 := by decide
/-- 02: 65,536 and 65,537 slow ticks at a ratio of 24,999,625. -/
theorem test_catch_up : catchUp 24999625 0 65536 = (399994000, 0) := by decide
theorem test_catch_up_fraction : catchUp 24999625 0 65537 = (400000103, 1737) := by decide
/-- 17: the tester's first command word names BT_CHIP_ID, whose word is 0x58880001 (R2). -/
theorem test_window_command : winValid 0x50120000 = true := by decide
theorem test_chip_id : State.reset.reg 0x40120000 = 0x58880001 := by decide
/-- 18: with TOP 999,999 a compare at COUNT + 1 matches at the next increment. -/
theorem test_compare_next :
    ((tmIncrement (st [(TM_TOP_TOP 2, 999999), (TM_COUNT_COUNT 2, 500000), (TM_CH_CFG_MODE 2 2, 1),
      (TM_CH_CMP_CMP 2 2, 500001)]) 2).get (TM_INT_STAT_MATCH 2)) = 4 := by decide
theorem test_window_address : winAddr { PortS.reset with winSpace := 4, winOff := 0x120000 } = 0x40120000 := by decide
/-- FIPS 197, appendix C.1. -/
theorem test_aes :
    aesEncrypt (List.range 16) ((List.range 16).map (0x11 * ·)) =
      [0x69, 0xC4, 0xE0, 0xD8, 0x6A, 0x7B, 0x04, 0x30, 0xD8, 0xCD, 0xB7, 0x80, 0x70, 0xB4, 0xC5, 0x5A] := by decide

end Sys2Proof.Tests
end

section
/-! Frames by composition: what each shared operation of the model leaves as it was, stated once as a relation that
composes, and how such a relation, with the `settle` that ends every command, gives a `Frame`. -/

namespace Sys2Proof.Machine

/-! ### The relation -/

/-- Between `s` and `t` nothing but the fields `fs`, the parts `ps` of the state and no pin has changed: the part of a `Frame`
that operations inside a command keep, before `settle` brings views and pins up to date. -/
structure Kept (s t : State) (fs : List Field) (ps : List Part) : Prop where
  reg : ∀ a b, (∀ f ∈ fs, f.misses a b = true) → (t.reg a).getLsbD b = (s.reg a).getLsbD b
  byte : ∀ a, t.byte a = s.byte a
  part : ∀ p ∉ ps, p ≠ .pins → p.same s t []
  pins : t.pins = s.pins
  pending : t.pending = s.pending

theorem Part.same_reservations (s t : State) : Part.same s t [] .reservations ↔ t.reservations = s.reservations := by
  have h : (s.reservations.filter fun r => ([] : List (Nat × Nat)).all fun m => outlives none m.1 m.2 r) = s.reservations :=
    List.filter_eq_self.2 fun _ _ => rfl
  exact ⟨fun e => Eq.trans e h, fun e => Eq.trans e h.symm⟩

theorem Part.same_refl (s : State) (p : Part) (hp : p ≠ .pins) : p.same s s [] := by
  cases p with
  | pins => exact absurd rfl hp
  | reservations => exact (Part.same_reservations s s).2 rfl
  | _ => rfl

theorem Part.same_trans {s t u : State} {p : Part} (hp : p ≠ .pins) (h : p.same s t []) (h' : p.same t u []) :
    p.same s u [] := by
  cases p with
  | pins => exact absurd rfl hp
  | reservations =>
    rw [Part.same_reservations] at *
    exact h'.trans h
  | _ => exact Eq.trans h' h

theorem Kept.refl (s : State) : Kept s s [] [] :=
  ⟨fun _ _ _ => rfl, fun _ => rfl, fun p _ hp => Part.same_refl s p hp, rfl, rfl⟩

theorem Kept.mono {s t : State} {fs gs : List Field} {ps qs : List Part} (h : Kept s t fs ps) (hf : fs ⊆ gs)
    (hp : ps ⊆ qs) : Kept s t gs qs where
  reg a b hb := h.reg a b fun f hm => hb f (hf hm)
  byte := h.byte
  part p hq := h.part p fun hm => hq (hp hm)
  pins := h.pins
  pending := h.pending

theorem Kept.trans {s t u : State} {fs : List Field} {ps : List Part} (h : Kept s t fs ps) (h' : Kept t u fs ps) :
    Kept s u fs ps where
  reg a b hb := (h'.reg a b hb).trans (h.reg a b hb)
  byte a := (h'.byte a).trans (h.byte a)
  part p hq hp := Part.same_trans hp (h.part p hq hp) (h'.part p hq hp)
  pins := h'.pins.trans h.pins
  pending := h'.pending.trans h.pending

/-- Two operations one after the other leave what neither of them changes. -/
theorem Kept.append {s t u : State} {fs gs : List Field} {ps qs : List Part} (h : Kept s t fs ps) (h' : Kept t u gs qs) :
    Kept s u (fs ++ gs) (ps ++ qs) :=
  (h.mono (List.subset_append_left ..) (List.subset_append_left ..)).trans
    (h'.mono (List.subset_append_right ..) (List.subset_append_right ..))

/-- A register none of whose bits lies in one of the fields. -/
theorem Kept.reg_eq {s t : State} {fs : List Field} {ps : List Part} (h : Kept s t fs ps) {a : Nat}
    (ha : ∀ f ∈ fs, f.addr ≠ a) : t.reg a = s.reg a :=
  BitVec.eq_of_getLsbD_eq fun b _ => h.reg a b fun f hf => by simp [Field.misses, ha f hf]

theorem Kept.get_eq {s t : State} {fs : List Field} {ps : List Part} (h : Kept s t fs ps) {g : Field}
    (ha : ∀ f ∈ fs, f.addr ≠ g.addr) : t.get g = s.get g := by
  unfold State.get
  rw [h.reg_eq ha]

/-! ### Updates of one part -/

/-- An update of the register list. -/
theorem Part.same_regs (s : State) (l : List (Nat × Word)) (p : Part) (hp : p ≠ .pins) : p.same s { s with regs := l } [] := by
  cases p with
  | pins => exact absurd rfl hp
  | reservations => exact (Part.same_reservations ..).2 rfl
  | _ => rfl

theorem set_kept (s : State) (f : Field) (v : Nat) : Kept s (s.set f v) [f] [] where
  reg a b hb := by
    have hm := hb f List.mem_cons_self
    simp only [Field.misses, Bool.or_eq_true, bne_iff_ne, decide_eq_true_eq] at hm
    by_cases ha : a = f.addr
    · subst ha
      by_cases h32 : b < 32
      · have : ¬ (f.lo ≤ b ∧ b < f.lo + f.w) := by omega
        simp [State.set, getLsbD_insertBits _ _ _ _ _ h32, this]
      · rw [BitVec.getLsbD_of_ge _ _ (by omega), BitVec.getLsbD_of_ge _ _ (by omega)]
    · rw [s.reg_set_of_ne f v a ha]
  byte _ := rfl
  part p _ hp := Part.same_regs s _ p hp
  pins := rfl
  pending := rfl

theorem setReg_kept (s : State) (a : Nat) (v : Word) : Kept s (s.setReg a v) [wordAt a] [] where
  reg c b hb := by
    have hm := hb (wordAt a) List.mem_cons_self
    simp only [Field.misses, Bool.or_eq_true, bne_iff_ne, decide_eq_true_eq] at hm
    by_cases h32 : b < 32
    · rw [s.reg_setReg_of_ne v (by omega)]
    · rw [BitVec.getLsbD_of_ge _ _ (by omega), BitVec.getLsbD_of_ge _ _ (by omega)]
  byte _ := rfl
  part p _ hp := Part.same_regs s _ p hp
  pins := rfl
  pending := rfl

theorem resp_kept (s : State) (r : Resp) : Kept s { s with resp := r } [] [.resp] where
  reg _ _ _ := rfl
  byte _ := rfl
  part p hq hp := by
    cases p with
    | pins => exact absurd rfl hp
    | resp => exact absurd List.mem_cons_self hq
    | reservations => exact (Part.same_reservations ..).2 rfl
    | _ => rfl
  pins := rfl
  pending := rfl

theorem respond_kept (s : State) (d : Word) : Kept s (s.respond d) [] [.resp] := resp_kept s _

theorem fresh_kept (s : State) : Kept s s.fresh.2 [] [.free] where
  reg _ _ _ := rfl
  byte _ := rfl
  part p hq hp := by
    cases p with
    | pins => exact absurd rfl hp
    | free => exact absurd List.mem_cons_self hq
    | reservations => exact (Part.same_reservations ..).2 rfl
    | _ => rfl
  pins := rfl
  pending := rfl

theorem updCore_kept (s : State) (c : Nat) (f : CoreS → CoreS) : Kept s (s.updCore c f) [] [.cores] where
  reg _ _ _ := rfl
  byte _ := rfl
  part p hq hp := by
    cases p with
    | pins => exact absurd rfl hp
    | cores => exact absurd List.mem_cons_self hq
    | reservations => exact (Part.same_reservations ..).2 rfl
    | _ => rfl
  pins := rfl
  pending := rfl

theorem emitted_kept (s : State) (l : List Nat) : Kept s { s with emitted := l } [] [.emitted] where
  reg _ _ _ := rfl
  byte _ := rfl
  part p hq hp := by
    cases p with
    | pins => exact absurd rfl hp
    | emitted => exact absurd List.mem_cons_self hq
    | reservations => exact (Part.same_reservations ..).2 rfl
    | _ => rfl
  pins := rfl
  pending := rfl

theorem reservations_kept (s : State) (l : List (Nat × Nat)) : Kept s { s with reservations := l } [] [.reservations] where
  reg _ _ _ := rfl
  byte _ := rfl
  part p hq hp := by
    cases p with
    | pins => exact absurd rfl hp
    | reservations => exact absurd List.mem_cons_self hq
    | _ => rfl
  pins := rfl
  pending := rfl

/-! ### Events, status bits, the level of the ledger, exceptions -/

theorem emit_kept (s : State) (p : Nat) : Kept s (s.emit p) [] [.emitted] := by
  unfold State.emit
  split
  · exact emitted_kept s _
  · exact (Kept.refl s).mono (List.nil_subset _) (List.nil_subset _)

theorem latchOf_of_some {f : Field} {en src : Nat} (h : irqOf f.addr f.lo = some (en, src)) :
    latchOf f = [pendField src] := by
  unfold latchOf
  rw [h]

theorem edge_kept (s : State) (n : Nat) : Kept s (s.edge n) [pendField n] [] := by
  unfold State.edge
  split
  · exact set_kept s (pendField n) 1
  · exact (Kept.refl s).mono (List.nil_subset _) (List.nil_subset _)

/-- A raise changes the status bit and the latch of its source (R431). -/
theorem raise_kept (s : State) (f : Field) : Kept s (s.raise f) (f :: latchOf f) [] := by
  have hs : Kept s (s.set f 1) (f :: latchOf f) [] :=
    (set_kept s f 1).mono (List.cons_subset_cons _ (List.nil_subset _)) (List.nil_subset _)
  unfold State.raise
  simp only
  split
  · next en src hq =>
    split
    · rw [latchOf_of_some hq]
      exact (set_kept s f 1).append (edge_kept _ src)
    · exact hs
  · exact hs

theorem applyLevel_kept (s : State) : Kept s s.applyLevel [PM_STAT_LEVEL] [.emitted] := by
  unfold State.applyLevel
  have hs := set_kept s PM_STAT_LEVEL (max (s.get PM_STAT_LLVL) (s.get PM_STAT_DLVL))
  simp only
  split
  · exact hs.append (emit_kept _ 153)
  · exact hs.mono (List.Subset.refl _) (List.nil_subset _)

theorem relevel_kept (s : State) : Kept s s.relevel [PM_STAT_LLVL, PM_STAT_LEVEL] [.emitted] :=
  (set_kept s PM_STAT_LLVL _).append (applyLevel_kept _)

/-- An exception of a core changes no register of the bus (R417). -/
theorem trap_kept (s : State) (c cause : Nat) (tval : Word) :
    Kept s (s.trap c cause tval) [] [.free, .cores, .reservations] := by
  refine (fresh_kept s).append (Kept.append (fs := []) (ps := [.cores]) ?_ (reservations_kept _ _))
  exact ((((updCore_kept _ c _).trans (updCore_kept _ c _)).trans (updCore_kept _ c _)).trans (updCore_kept _ c _)).trans
    (updCore_kept _ c _)

/-! ### The end of a command -/

@[simp] theorem settle_reservations (s : State) : (settle s).reservations = s.reservations :=
  settle_keeps (·.reservations) (fun _ _ _ _ => rfl) (fun _ _ => rfl) s
@[simp] theorem settle_evWas (s : State) : (settle s).evWas = s.evWas :=
  settle_keeps (·.evWas) (fun _ _ _ _ => rfl) (fun _ _ => rfl) s

theorem live_of_on {s : State} (h : s.power ≠ .off) (t : State) : live s t = settle t := by
  simp [live, h]

theorem settle_same (s : State) (p : Part) (hp : p ≠ .pins) : p.same s (settle s) [] := by
  cases p with
  | pins => exact absurd rfl hp
  | reservations => exact (Part.same_reservations ..).2 (settle_reservations s)
  | _ => simp only [Part.same, settle_xFlash, settle_resp, settle_free, settle_locked, settle_openRegs, settle_profile,
      settle_power, settle_tb, settle_groups, settle_cores, settle_emitted, settle_evWas, settle_pm, settle_fc, settle_dbg,
      settle_fl, settle_tm, settle_sp, settle_fe, settle_cz, settle_ls, settle_rdv, settle_dc, settle_fw, settle_ce,
      settle_pq, settle_bt]

/-- A bit as a field of width 1. -/
theorem getLsbD_eq_get (s : State) (a b : Nat) : (s.reg a).getLsbD b = (s.get ⟨a, b, 1⟩).testBit 0 := by
  rw [State.get, testBit_bitsOf]
  rfl

/-- A bit outside the fields that show other state. -/
theorem settle_getLsbD (s : State) {a b : Nat} (hb : ∀ f ∈ viewFields, f.misses a b = true) :
    ((settle s).reg a).getLsbD b = (s.reg a).getLsbD b := by
  have hset : ∀ (t : State) (g : Field) (v : Nat), g ∈ viewFields → (t.set g v).get ⟨a, b, 1⟩ = t.get ⟨a, b, 1⟩ :=
    fun t g v hg => by
      have hm := hb g hg
      simp only [Field.misses, Bool.or_eq_true, bne_iff_ne, decide_eq_true_eq] at hm
      refine t.get_set_of_ne g _ v ?_
      simp only
      omega
  rw [getLsbD_eq_get, getLsbD_eq_get, settle_get_beside s fun t g v hg => hset t g v ?_]
  rcases hg with rfl | ⟨i, k, hi, hk, rfl⟩ | rfl | rfl | rfl | rfl | rfl
  case inr.inl =>
    have hmem : TM_CH_STAT_RISE_V i k ∈ (List.range 32).map fun i => TM_CH_STAT_RISE_V (i / 4) (i % 4) :=
      List.mem_map.2 ⟨4 * i + k, List.mem_range.2 (by omega), by
        rw [show (4 * i + k) / 4 = i by omega, show (4 * i + k) % 4 = k by omega]⟩
    simp only [viewFields, List.mem_cons, hmem, or_true]
  all_goals simp only [viewFields, List.mem_cons, true_or, or_true]

/-- The aerial switch takes its code where the field in force changes (R125); the coexistence pins follow the requests. -/
theorem updAnt_cxSync_pins (s : State) : Part.same s (cxSync s).updAnt [] .pins := by
  unfold State.updAnt
  simp only
  split
  · exact ⟨rfl, (if_pos rfl).symm⟩
  · next h => exact ⟨rfl, (if_neg fun e => h e.symm).symm⟩

/-- What `Part.same` says of the pins, it says by the pins alone. -/
theorem Part.same_pins_congr {s t u : State} (h : s.pins = t.pins) (hs : Part.same s u [] .pins) : Part.same t u [] .pins := by
  unfold Part.same pinsButSwitch at *
  rwa [← h]

theorem settle_pins (s : State) : Part.same s (settle s) [] .pins := by
  have hp : (dbgSync (poolSync (feSync s.fcSync.updPaired))).pins = s.pins :=
    updPaired_keeps (·.pins) (fun _ _ _ _ => rfl) s.fcSync
  exact Part.same_pins_congr hp (updAnt_cxSync_pins _)

/-- What the operations of a command keep, the whole command keeps (R112, R125, R271, R447, R523, R573). -/
theorem Kept.frame {s t : State} {fs : List Field} {ps : List Part} (h : Kept s t fs ps) :
    Frame s (settle t) fs ps [] := by
  refine ⟨fun a b hb => ?_, fun a _ => (settle_byte t a).trans (h.byte a), fun p hp => ?_, by rw [settle_pending, h.pending]⟩
  · rw [settle_getLsbD t fun f hf => hb f (List.mem_append_right _ hf), h.reg a b fun f hf => hb f (List.mem_append_left _ hf)]
  · by_cases hpin : p = .pins
    · subst hpin
      exact Part.same_pins_congr h.pins (settle_pins t)
    · exact Part.same_trans hpin (h.part p hp hpin) (settle_same t p hpin)

end Sys2Proof.Machine
end

section
/-! What the controller's re-evaluation (R436, R437) does: which fields it writes, what it notes of the cores, and which
cores it wakes. -/

namespace Sys2Proof.Machine

/-- The fields that the controller writes when it routes: assignments, the states of the cores that it wakes, the pointer
of R436, and with the core loads the level of the ledger (R43). -/
abbrev routeFields : List Field :=
  ((List.range 4).flatMap fun d => [IC_CPU_STAT_ASG d, IC_CPU_STAT_ASRC d, IC_CPU_STAT_STATE d]) ++
    [IC_STATUS_PTR, PM_STAT_LLVL, PM_STAT_LEVEL]

/-! ### Notes of a wake -/

/-- The cores of `t` are those of `s`, but for the note that an assignment has taken a core out of its WFI. -/
structure Noted (s t : State) : Prop where
  core : ∀ d, t.core d = { s.core d with wasIdle := (t.core d).wasIdle }
  length : t.cores.length = s.cores.length

theorem Noted.of_cores {s t : State} (h : t.cores = s.cores) : Noted s t :=
  ⟨fun d => by simp only [State.core, h], by rw [h]⟩

theorem Noted.trans {s t u : State} (h : Noted s t) (h' : Noted t u) : Noted s u where
  core d := by
    rw [h'.core d, h.core d]
  length := h'.length.trans h.length

theorem noted_updCore (s : State) (c : Nat) (b : Bool) : Noted s (s.updCore c fun k => { k with wasIdle := b }) where
  core d := by
    simp only [State.core, State.updCore, getD_updAt]
    split
    · rename_i h
      rw [h.1]
    · rfl
  length := updAt_length ..

theorem relevel_cores (s : State) : s.relevel.cores = s.cores :=
  relevel_keeps (·.cores) (fun _ _ _ _ => rfl) (fun t p => State.emit_cores t p) s

/-! ### One assignment -/

/-- What one turn of the controller may change. -/
structure Turned (s t : State) : Prop where
  kept : Kept s t routeFields [.cores, .emitted]
  noted : Noted s t

theorem Turned.refl (s : State) : Turned s s :=
  ⟨(Kept.refl s).mono (List.nil_subset _) (List.nil_subset _), .of_cores rfl⟩

theorem Turned.trans {s t u : State} (h : Turned s t) (h' : Turned t u) : Turned s u :=
  ⟨h.kept.trans h'.kept, h.noted.trans h'.noted⟩

theorem Turned.foldl {α : Type} (f : State → α → State) (l : List α) (h : ∀ x ∈ l, ∀ t, Turned t (f t x))
    (s : State) : Turned s (l.foldl f s) := by
  induction l generalizing s with
  | nil => exact .refl s
  | cons x xs ih => exact (h x List.mem_cons_self s).trans (ih (fun y hy => h y (List.mem_cons_of_mem _ hy)) _)

theorem turned_set (s : State) {f : Field} (v : Nat) (hf : f ∈ routeFields) : Turned s (s.set f v) :=
  ⟨(set_kept s f v).mono (List.cons_subset.2 ⟨hf, List.nil_subset _⟩) (List.nil_subset _), .of_cores rfl⟩

theorem turned_note (s : State) (c : Nat) (b : Bool) : Turned s (s.updCore c fun k => { k with wasIdle := b }) :=
  ⟨(updCore_kept s c _).mono (List.nil_subset _) (by decide), noted_updCore s c b⟩

theorem turned_relevel (s : State) : Turned s s.relevel :=
  ⟨(relevel_kept s).mono (by decide) (by decide), .of_cores (relevel_cores s)⟩

theorem mem_routeFields {c : Nat} (hc : c < 4) :
    IC_CPU_STAT_ASG c ∈ routeFields ∧ IC_CPU_STAT_ASRC c ∈ routeFields ∧ IC_CPU_STAT_STATE c ∈ routeFields := by
  have hm : ∀ f ∈ [IC_CPU_STAT_ASG c, IC_CPU_STAT_ASRC c, IC_CPU_STAT_STATE c], f ∈ routeFields := fun f hf =>
    List.mem_append_left _ (List.mem_flatMap.2 ⟨c, List.mem_range.2 hc, hf⟩)
  exact ⟨hm _ (by simp), hm _ (by simp), hm _ (by simp)⟩

theorem withdraw_turned (s : State) {c : Nat} (hc : c < 4) : Turned s (withdraw s c) :=
  ((turned_set s 0 (mem_routeFields hc).1).trans (turned_set _ 0 (mem_routeFields hc).2.1)).trans (turned_note _ c false)

theorem assignTo_turned (s : State) (n : Nat) {c : Nat} (hc : c < 4) : Turned s (assignTo s n c) := by
  obtain ⟨hasg, hsrc, hstate⟩ := mem_routeFields hc
  have h := ((turned_set s 1 hasg).trans (turned_set _ n hsrc)).trans
    (turned_set _ ((c + 1) % 4) (show IC_STATUS_PTR ∈ routeFields by decide))
  unfold assignTo
  simp only
  split
  · exact ((h.trans (turned_note _ c true)).trans (turned_set _ csRun hstate)).trans (turned_relevel _)
  · exact h

/-- The one of a list that a fold of choices between two ends with. -/
theorem foldl_choice_mem {α : Type} (p : α → α → Bool) (l : List α) (a : α) :
    l.foldl (fun b d => if p d b then d else b) a ∈ a :: l := by
  induction l generalizing a with
  | nil => exact List.mem_cons_self
  | cons x xs ih =>
    rw [List.foldl_cons]
    split
    · exact List.mem_cons_of_mem _ (ih x)
    · rcases List.mem_cons.1 (ih a) with h | h
      · rw [h]; exact List.mem_cons_self
      · exact List.mem_cons_of_mem _ (List.mem_cons_of_mem _ h)

/-- A source goes to one of the four cores (R436). -/
theorem routeTo_lt {s : State} {n c : Nat} (h : routeTo s n = some c) : c < 4 := by
  have hp : s.get IC_STATUS_PTR < 4 := s.get_lt IC_STATUS_PTR
  unfold routeTo at h
  simp only at h
  split at h
  · cases h
  · next b cs hcs =>
    have hmem := foldl_choice_mem (fun d b => decide (coreRank s d < coreRank s b)) cs b
    simp only [decide_eq_true_eq] at hmem
    rw [← hcs, Option.some.inj h] at hmem
    have := (List.mem_filter.1 hmem).1
    simp only [List.mem_cons, List.not_mem_nil, or_false] at this
    omega

theorem routeOne_turned (s : State) (n : Nat) : Turned s (routeOne s n) := by
  unfold routeOne
  split
  · exact .refl s
  · split
    · exact .refl s
    · next c hc =>
      have h := (withdraw_turned s (routeTo_lt hc)).trans (assignTo_turned _ n (routeTo_lt hc))
      simp only
      split
      · exact h.trans (turned_note _ c true)
      · exact h

/-- One core of `withdrawStale`. -/
def staleTurn (t : State) (c : Nat) : State :=
  match assigned t c with
  | some n => if t.on IC_CTL_EN && srcOffered t n && eligible t n c then t else withdraw t c
  | none => t

theorem withdrawStale_eq (s : State) : withdrawStale s = (List.range 4).foldl staleTurn s := rfl

/-- A core keeps its assignment only while the controller is enabled (R437, R442). -/
theorem staleTurn_cases (t : State) (c : Nat) :
    staleTurn t c = withdraw t c ∨ staleTurn t c = t ∧ (t.on (IC_CPU_STAT_ASG c) = false ∨ t.on IC_CTL_EN = true) := by
  unfold staleTurn
  split
  · split
    · next h =>
      simp only [Bool.and_eq_true] at h
      exact .inr ⟨rfl, .inr h.1.1⟩
    · exact .inl rfl
  · next h =>
    exact .inr ⟨rfl, .inl (Bool.eq_false_iff.2 fun hn => by simp [assigned, hn] at h)⟩

theorem staleTurn_turned (t : State) {c : Nat} (hc : c < 4) : Turned t (staleTurn t c) := by
  rcases staleTurn_cases t c with h | h
  · rw [h]; exact withdraw_turned t hc
  · rw [h.1]; exact .refl t

theorem withdrawStale_turned (s : State) : Turned s (withdrawStale s) := by
  rw [withdrawStale_eq]
  exact Turned.foldl staleTurn _ (fun _ hc t => staleTurn_turned t (List.mem_range.1 hc)) s

/-- The controller writes assignments, states of cores and the level of the ledger, and notes wakes (R43, R421, R436). -/
theorem route_turned (s : State) : Turned s (route s) := by
  unfold route
  split
  · exact .refl s
  · have h := withdrawStale_turned s
    simp only
    split
    · exact h.trans (Turned.foldl _ _ (fun n _ t => routeOne_turned t n) _)
    · exact h

/-! ### Which cores wake -/

/-- Assignments that stand stay, and a core whose state differs was idle, runs, and holds an assignment (R421, R436). -/
def Woken (s t : State) : Prop :=
  ∀ d, (s.on (IC_CPU_STAT_ASG d) = true → t.on (IC_CPU_STAT_ASG d) = true) ∧
    (t.coreState d = s.coreState d ∨
      s.coreState d = csIdle ∧ t.coreState d = csRun ∧ t.on (IC_CPU_STAT_ASG d) = true)

theorem Woken.refl (s : State) : Woken s s := fun _ => ⟨id, .inl rfl⟩

theorem Woken.trans {s t u : State} (h : Woken s t) (h' : Woken t u) : Woken s u := fun d => by
  obtain ⟨hasg, hst⟩ := h d
  obtain ⟨hasg', hst'⟩ := h' d
  refine ⟨fun ha => hasg' (hasg ha), ?_⟩
  rcases hst with hst | ⟨hi, hr, ha⟩
  · rwa [← hst]
  · rcases hst' with hst' | ⟨hi', _, _⟩
    · exact .inr ⟨hi, hst'.trans hr, hasg' ha⟩
    · exact absurd (hr.symm.trans hi') (by decide)

theorem updCore_get (s : State) (c : Nat) (f : CoreS → CoreS) (g : Field) : (s.updCore c f).get g = s.get g := rfl

/-- A field that neither an assignment nor the ledger writes. -/
theorem relevel_get (s : State) (f : Field) (hf : f.addr ≠ A_PM_STAT) : s.relevel.get f = s.get f :=
  relevel_keeps (fun t => t.get f) (fun t g v hg => t.get_set_of_ne g f v (.inl fun h => hf (h.trans hg)))
    (fun t p => emit_get t p f) s

/-- The fields of IC_CPUc_STAT lie apart from each other, from those of another core, and from the pointer and the level. -/
theorem state_set_asg (s : State) (c d v : Nat) :
    (s.set (IC_CPU_STAT_ASG c) v).get (IC_CPU_STAT_STATE d) = s.get (IC_CPU_STAT_STATE d) :=
  s.get_set_of_ne (IC_CPU_STAT_ASG c) (IC_CPU_STAT_STATE d) v (.inr (.inr (show 26 + 1 ≤ 28 by omega)))
theorem state_set_asrc (s : State) (c d v : Nat) :
    (s.set (IC_CPU_STAT_ASRC c) v).get (IC_CPU_STAT_STATE d) = s.get (IC_CPU_STAT_STATE d) :=
  s.get_set_of_ne (IC_CPU_STAT_ASRC c) (IC_CPU_STAT_STATE d) v (.inr (.inr (show 16 + 8 ≤ 28 by omega)))
theorem asg_set_asrc (s : State) (c d v : Nat) :
    (s.set (IC_CPU_STAT_ASRC c) v).get (IC_CPU_STAT_ASG d) = s.get (IC_CPU_STAT_ASG d) :=
  s.get_set_of_ne (IC_CPU_STAT_ASRC c) (IC_CPU_STAT_ASG d) v (.inr (.inr (show 16 + 8 ≤ 26 by omega)))
theorem asg_set_state (s : State) (c d v : Nat) :
    (s.set (IC_CPU_STAT_STATE c) v).get (IC_CPU_STAT_ASG d) = s.get (IC_CPU_STAT_ASG d) :=
  s.get_set_of_ne (IC_CPU_STAT_STATE c) (IC_CPU_STAT_ASG d) v (.inr (.inl (show 26 + 1 ≤ 28 by omega)))

theorem cpuStat_ne (d : Nat) {a : Nat} (ha : a < 0x40020060) : A_IC_CPU_STAT d ≠ a := by
  show 0x40020060 + d * 4 ≠ a
  omega

theorem state_set_state (s : State) (c d : Nat) {v : Nat} (hv : v < 16) :
    (s.set (IC_CPU_STAT_STATE c) v).get (IC_CPU_STAT_STATE d) = if d = c then v else s.get (IC_CPU_STAT_STATE d) := by
  split
  · next h =>
    rw [h, State.get_set_same s (IC_CPU_STAT_STATE c) v (show 28 + 4 ≤ 32 by omega)]
    exact Nat.mod_eq_of_lt hv
  · next h =>
    exact s.get_set_of_ne (IC_CPU_STAT_STATE c) (IC_CPU_STAT_STATE d) v
      (.inl (show 0x40020060 + d * 4 ≠ 0x40020060 + c * 4 by omega))

theorem asg_set_asg (s : State) (c d : Nat) {v : Nat} (hv : v < 2) :
    (s.set (IC_CPU_STAT_ASG c) v).get (IC_CPU_STAT_ASG d) = if d = c then v else s.get (IC_CPU_STAT_ASG d) := by
  split
  · next h =>
    rw [h, State.get_set_same s (IC_CPU_STAT_ASG c) v (show 26 + 1 ≤ 32 by omega)]
    exact Nat.mod_eq_of_lt hv
  · next h =>
    exact s.get_set_of_ne (IC_CPU_STAT_ASG c) (IC_CPU_STAT_ASG d) v
      (.inl (show 0x40020060 + d * 4 ≠ 0x40020060 + c * 4 by omega))

theorem withdraw_coreState (s : State) (c d : Nat) : (withdraw s c).coreState d = s.coreState d := by
  unfold withdraw State.coreState
  rw [updCore_get, state_set_asrc, state_set_asg]

theorem withdraw_asg (s : State) (c d : Nat) :
    (withdraw s c).get (IC_CPU_STAT_ASG d) = if d = c then 0 else s.get (IC_CPU_STAT_ASG d) := by
  unfold withdraw
  rw [updCore_get, asg_set_asrc, asg_set_asg _ _ _ (by decide)]

/-- The first writes of an assignment: the source, its core, and where the next search starts. -/
def placed (s : State) (n c : Nat) : State :=
  ((s.set (IC_CPU_STAT_ASG c) 1).set (IC_CPU_STAT_ASRC c) n).set IC_STATUS_PTR ((c + 1) % 4)

theorem assignTo_eq (s : State) (n c : Nat) :
    assignTo s n c = if (placed s n c).coreState c = csIdle then
      (((placed s n c).updCore c fun k => { k with wasIdle := true }).set (IC_CPU_STAT_STATE c) csRun).relevel
    else placed s n c := rfl

theorem placed_coreState (s : State) (n c d : Nat) : (placed s n c).coreState d = s.coreState d := by
  unfold placed State.coreState
  rw [State.get_set_of_ne _ IC_STATUS_PTR (IC_CPU_STAT_STATE d) _ (.inl (cpuStat_ne d (by decide))), state_set_asrc,
    state_set_asg]

theorem placed_asg (s : State) (n c d : Nat) :
    (placed s n c).get (IC_CPU_STAT_ASG d) = if d = c then 1 else s.get (IC_CPU_STAT_ASG d) := by
  unfold placed
  rw [State.get_set_of_ne _ IC_STATUS_PTR (IC_CPU_STAT_ASG d) _ (.inl (cpuStat_ne d (by decide))), asg_set_asrc,
    asg_set_asg _ _ _ (by decide)]

/-- An assignment wakes its core where that is idle, and no other (R421, R436). -/
theorem assignTo_coreState (s : State) (n c d : Nat) :
    (assignTo s n c).coreState d = if d = c ∧ s.coreState c = csIdle then csRun else s.coreState d := by
  rw [assignTo_eq, placed_coreState]
  by_cases hi : s.coreState c = csIdle
  · rw [if_pos hi, State.coreState, relevel_get _ _ (cpuStat_ne d (by decide)), state_set_state _ _ _ (by decide), updCore_get]
    simp only [hi, and_true]
    rw [← placed_coreState s n c d]
    rfl
  · simp [hi, placed_coreState]

theorem assignTo_asg (s : State) (n c d : Nat) :
    (assignTo s n c).get (IC_CPU_STAT_ASG d) = if d = c then 1 else s.get (IC_CPU_STAT_ASG d) := by
  rw [assignTo_eq, ← placed_asg s n]
  split
  · rw [relevel_get _ _ (cpuStat_ne d (by decide)), asg_set_state, updCore_get]
  · rfl

/-- A turn of the controller for core `c`, whatever it held. -/
theorem assignTo_withdraw_woken (s : State) (n c : Nat) : Woken s (assignTo (withdraw s c) n c) := fun d => by
  unfold State.on
  rw [assignTo_asg, assignTo_coreState, withdraw_asg, withdraw_coreState, withdraw_coreState]
  by_cases hd : d = c
  · subst hd
    by_cases hi : s.coreState d = csIdle <;> simp [hi]
  · simp [hd]

theorem routeOne_woken (s : State) (n : Nat) : Woken s (routeOne s n) := by
  unfold routeOne
  split
  · exact .refl s
  · split
    · exact .refl s
    · simp only
      split
      · exact assignTo_withdraw_woken s n _
      · exact assignTo_withdraw_woken s n _

theorem routeAll_woken (l : List Nat) (s : State) : Woken s (l.foldl routeOne s) := by
  induction l generalizing s with
  | nil => exact .refl s
  | cons n ns ih => exact (routeOne_woken s n).trans (ih _)

theorem staleTurn_coreState (t : State) (c d : Nat) : (staleTurn t c).coreState d = t.coreState d := by
  rcases staleTurn_cases t c with h | h
  · rw [h, withdraw_coreState]
  · rw [h.1]

/-- The controller changes the state of a core only where it wakes it from its WFI with an assignment (R421, R436). -/
theorem route_coreState (s : State) (d : Nat) :
    (route s).coreState d = s.coreState d ∨
      s.coreState d = csIdle ∧ (route s).coreState d = csRun ∧ (route s).on (IC_CPU_STAT_ASG d) = true := by
  have hw : (withdrawStale s).coreState d = s.coreState d := by
    rw [withdrawStale_eq]
    exact foldl_keeps (fun t => t.coreState d) staleTurn (fun t c => staleTurn_coreState t c d) (List.range 4) s
  unfold route
  split
  · exact .inl rfl
  · simp only
    split
    · rw [← hw]
      exact (routeAll_woken _ _ d).2
    · exact .inl hw

/-! ### No assignment while the controller is disabled (R442) -/

theorem staleTurn_asg (t : State) {c : Nat} (h : t.on IC_CTL_EN = false) (d : Nat) :
    (staleTurn t c).on (IC_CPU_STAT_ASG d) = if d = c then false else t.on (IC_CPU_STAT_ASG d) := by
  rcases staleTurn_cases t c with he | ⟨he, ha⟩
  · rw [he, State.on, withdraw_asg]
    split <;> rfl
  · rw [he]
    split
    · next hd =>
      rw [hd]
      exact ha.resolve_right (by simp [h])
    · rfl

theorem staleTurn_enabled (t : State) {c : Nat} (hc : c < 4) : (staleTurn t c).on IC_CTL_EN = t.on IC_CTL_EN := by
  unfold State.on
  rw [(staleTurn_turned t hc).kept.get_eq (by decide)]

theorem staleTurns_asg {l : List Nat} (hl : ∀ c ∈ l, c < 4) {s : State} (h : s.on IC_CTL_EN = false) {d : Nat}
    (hd : d ∈ l ∨ s.on (IC_CPU_STAT_ASG d) = false) : (l.foldl staleTurn s).on (IC_CPU_STAT_ASG d) = false := by
  induction l generalizing s with
  | nil => simpa using hd
  | cons c cs ih =>
    have hc := hl c List.mem_cons_self
    refine ih (fun e he => hl e (List.mem_cons_of_mem _ he)) ((staleTurn_enabled s hc).trans h) ?_
    rw [staleTurn_asg s h]
    by_cases hdc : d = c
    · exact .inr (if_pos hdc)
    · rw [if_neg hdc]
      exact hd.imp (fun hm => (List.mem_cons.1 hm).resolve_left hdc) id

theorem route_disabled {s : State} (hs : s.power = .active) (h : s.on IC_CTL_EN = false) {d : Nat} (hd : d < 4) :
    (route s).on (IC_CPU_STAT_ASG d) = false := by
  have hoff : (withdrawStale s).on (IC_CPU_STAT_ASG d) = false := by
    rw [withdrawStale_eq]
    exact staleTurns_asg (fun c hc => List.mem_range.1 hc) h (.inl (List.mem_range.2 hd))
  have hen : (withdrawStale s).on IC_CTL_EN = false := by
    rw [← h]
    unfold State.on
    rw [(withdrawStale_turned s).kept.get_eq (by decide)]
  simp [route, State.awake, hs, hen, hoff]

end Sys2Proof.Machine
end

section
/-! Accesses of a core that end with an exception: what they leave, and that a narrow or misaligned access to a block
window is one (R10, R419, R426, R428). -/

namespace Sys2Proof.Machine

/-! ### Exceptions -/

/-- The fields that record an access ended with an error response, with its source's latch (R428, R431). -/
abbrev berrFields : List Field := wordAt A_IC_BERR_ADDR :: wordAt A_IC_BERR_INFO :: IC_ERR_BERR :: latchOf IC_ERR_BERR

/-- The parts of the state that an access fault changes: the response, the draw of mepc, the core and its reservation. -/
abbrev faultParts : List Part := [.resp, .free, .cores, .reservations]

/-- `Trapped` speaks of no part of the state before but cores and reservations. -/
theorem Trapped.congr_left {s s' t : State} {c cause : Nat} {v : Word} (hc : s'.cores = s.cores)
    (hr : s'.reservations = s.reservations) (h : Trapped s' t c cause v) : Trapped s t c cause v := by
  unfold Trapped State.csr State.core at *
  rwa [hc, hr] at h

/-- `Trapped` says nothing of the note of a wake. -/
theorem Trapped.noted {s t u : State} {c cause : Nat} {v : Word} (h : Trapped s t c cause v) (hn : Noted t u)
    (hr : u.reservations = t.reservations) : Trapped s u c cause v := by
  have hcsr : ∀ e n, u.csr e n = t.csr e n := fun e n => by rw [State.csr, hn.core e, State.csr]
  obtain ⟨h1, h2, h3, h4, h5, h6, h7, h8, h9⟩ := h
  unfold Trapped
  simp only [hcsr]
  refine ⟨h1, h2, h3, h4, h5, h6, ?_, fun d hd => ?_, hr.trans h9⟩
  · rw [hn.core c]
    exact h7
  · rw [hn.core d]
    exact h8 d hd

/-- Core `c` has been answered with an error response and has taken the exception of it; nothing else has changed but the
record of the error. -/
structure AccessFault (s t : State) (c cause : Nat) (tval : Word) : Prop where
  resp : t.resp = ⟨0, true⟩
  trapped : Trapped s t c cause tval
  kept : Kept s t berrFields faultParts

theorem coreFault_fault (s : State) {c : Nat} (hc : c < s.cores.length) (cause a : Nat) :
    AccessFault s (coreFault s c cause a) c cause (w32 a) where
  resp := rfl
  trapped := (trap_trapped { s with resp := ⟨0, true⟩ } c cause _ hc).congr_left rfl rfl
  kept := ((resp_kept s _).append (trap_kept _ c cause _)).mono (List.nil_subset _) (by decide)

theorem respondErr_fault (s : State) {acc : Acc} (hk : acc.kind = .core) (hc : acc.core < s.cores.length) (a : Nat)
    (write : Bool) (kind : Nat) :
    AccessFault s (s.respondErr acc a write kind) acc.core (if write then 7 else 5) (w32 a) := by
  unfold State.respondErr
  simp only [hk]
  refine ⟨by simp, ?_, ?_⟩
  · exact (trap_trapped _ _ _ _ (by simpa using hc)).congr_left (by simp) (by simp)
  · exact (((((resp_kept s _).append (setReg_kept _ A_IC_BERR_ADDR _)).append (setReg_kept _ A_IC_BERR_INFO _)).append
      (raise_kept _ IC_ERR_BERR)).append (trap_kept _ _ _ _)).mono (by decide) (by decide)

/-! ### Access size and alignment (R10) -/

section
variable {core : Cpu} {s : State} {a m : Nat}

/-- A narrow or misaligned write of a core to a block window: refused by PMP, or else by the window. -/
theorem busWrite_narrow (hc : s.cores.length = 4) (hr : regionOf a = .window m) {size : Nat} (h : size ≠ 2 ∨ a % 4 ≠ 0)
    (v : Word) : AccessFault s (busWrite (coreAcc s core) s size a v) core 7 (w32 a) := by
  have hlt : core.val < s.cores.length := by omega
  unfold busWrite
  rw [memMisaligned_window size hr, if_neg (by decide)]
  split
  · exact coreFault_fault s hlt 7 a
  · simp only [busWriteEnd, hr, if_pos h]
    exact respondErr_fault s (acc := coreAcc s core) rfl hlt a true 2

/-- An atomic access of a core to a block window that is misaligned or no AMO: refused by PMP, or else by the window. -/
theorem coreAtomic_narrow (hc : s.cores.length = 4) (hr : regionOf a = .window m) {op : MemOp}
    (h : op = .reserve ∨ a % 4 ≠ 0) :
    AccessFault s (coreAtomic s core a op) core (if !(op == .reserve) then 7 else 5) (w32 a) := by
  have hlt : core.val < s.cores.length := by omega
  have herr := respondErr_fault s (acc := coreAcc s core) rfl hlt a (!(op == .reserve))
  unfold coreAtomic
  simp only [memMisaligned_window 2 hr, hr, Bool.false_eq_true, if_false]
  generalize pmpAllows s core (if (op == .reserve) = true then pmpLoad else pmpStore) a 4 = allowed
  cases allowed with
  | false =>
    have hcause : (if (!(op == .reserve)) = true then 7 else 5) = if (op == .reserve) = true then 5 else 7 := by
      cases op == .reserve <;> rfl
    rw [hcause]
    exact coreFault_fault s hlt _ a
  | true =>
    simp only [Bool.not_true, Bool.false_eq_true, if_false]
    by_cases h4 : a % 4 = 0
    · rw [h.resolve_right (not_not_intro h4)] at herr ⊢
      rw [if_neg (not_not_intro h4)]
      split
      · exact herr 1
      · exact herr 2
    · rw [if_pos h4]
      exact herr 2

theorem busRead_narrow (hc : s.cores.length = 4) (hr : regionOf a = .window m) {size : Nat} (h : size ≠ 2 ∨ a % 4 ≠ 0)
    (hw : Word) (ecc : Bool) : AccessFault s (busRead (coreAcc s core) s size a hw ecc) core 5 (w32 a) := by
  have hlt : core.val < s.cores.length := by omega
  unfold busRead
  rw [memMisaligned_window size hr, if_neg (by decide)]
  split
  · exact coreFault_fault s hlt 5 a
  · simp only [busReadEnd, hr, if_pos h]
    exact respondErr_fault s (acc := coreAcc s core) rfl hlt a false 2

theorem coreStore_narrow (hc : s.cores.length = 4) (hr : regionOf a = .window m) {form : WriteForm}
    (h : (∃ size : Fin 3, form = .store size ∧ size ≠ 2) ∨ a % 4 ≠ 0) (v : Word) :
    AccessFault s (coreStore s core form a v) core 7 (w32 a) := by
  cases form with
  | store size =>
    refine busWrite_narrow hc hr (h.imp_left ?_) v
    rintro ⟨_, ⟨⟩, hne⟩ heq
    exact hne (Fin.ext heq)
  | conditional =>
    exact coreAtomic_narrow hc hr (.inr (h.resolve_left (by simp)))
  | amo op =>
    exact coreAtomic_narrow hc hr (.inr (h.resolve_left (by simp)))

theorem coreLoad_narrow (hc : s.cores.length = 4) (hr : regionOf a = .window m) {form : ReadForm} (hf : form ≠ .fetch)
    (h : form ≠ .load 2 ∨ a % 4 ≠ 0) (hw : Word) (ecc : Bool) :
    AccessFault s (coreLoad s core form a hw ecc) core 5 (w32 a) := by
  cases form with
  | load size =>
    refine busRead_narrow hc hr (h.imp_left ?_) hw ecc
    intro hne heq
    exact hne (congrArg ReadForm.load (Fin.ext heq))
  | reserve => exact coreAtomic_narrow hc hr (.inl rfl)
  | fetch => exact absurd rfl hf

end

/-! ### The end of such an access -/

theorem w32_toNat (x : Word) : w32 x.toNat = x := BitVec.ofNat_toNat 32 x

theorem route_resp (s : State) : (route s).resp = s.resp := (route_turned s).kept.part .resp (by decide) (by decide)

theorem route_reservations (s : State) : (route s).reservations = s.reservations :=
  (Part.same_reservations s _).1 ((route_turned s).kept.part .reservations (by decide) (by decide))

theorem Trapped.settle {s t : State} {c cause : Nat} {v : Word} (h : Trapped s t c cause v) :
    Trapped s (settle t) c cause v :=
  h.noted (.of_cores (settle_cores t)) (settle_reservations t)

theorem Trapped.route {s t : State} {c cause : Nat} {v : Word} (h : Trapped s t c cause v) :
    Trapped s (route t) c cause v :=
  h.noted (route_turned t).noted (route_reservations t)

/-- Settles O1: PMP or the window refuses the access, and either is an access fault of the core. -/
theorem registerAccessesAreWords : Obligations.RegisterAccessesAreWords := by
  unfold Obligations.RegisterAccessesAreWords
  refine ⟨fun core form addr v m s hp hr hn hc => ?_, fun core form addr hw ecc m s hp hr hf hn hc => ?_⟩
  · have h := coreStore_narrow hc hr hn v (core := core)
    rw [w32_toNat] at h
    refine ⟨_, rfl, ?_⟩
    rw [live_of_on hp]
    refine ⟨by rw [settle_resp, route_resp, h.resp], h.trapped.route.settle, ?_⟩
    exact ((h.kept.append (route_turned _).kept).mono (List.Subset.refl _) (by decide)).frame
  · have h := coreLoad_narrow hc hr hf hn hw ecc (core := core)
    rw [w32_toNat] at h
    refine ⟨_, rfl, ?_⟩
    rw [live_of_on hp]
    exact ⟨by rw [settle_resp, h.resp], h.trapped.settle, h.kept.frame⟩

end Sys2Proof.Machine
end

section
/-! Registers that take a write under their access codes alone: the word that they then hold, and a core's store to one
(R11, R13). -/

namespace Sys2Proof.Machine

/-! ### The access codes -/

/-- The access codes of every row are apart: no bit that is written to clear is also RW or LK (R11). -/
theorem w1c_apart_of_block : ∀ m < 23, ∀ d ∈ blockRegs m, d.w1c &&& (d.rw ||| d.lk) = 0 := by decide

theorem findReg_w1c_apart {a : Nat} {d : RegDesc} (h : findReg a = some d) : d.w1c &&& (d.rw ||| d.lk) = 0 := by
  unfold findReg at h
  split at h
  · cases h
  · exact w1c_apart_of_block _ (by omega) d (List.mem_of_find?_eq_some h)

/-- One bit of a write: `m` where it is RW or LK, `k` where it is locked, `w` where it is W1C. -/
theorem codes_bit : ∀ m k w old v : Bool, (w && m) = false →
    (((old && !(m && !k)) || (v && (m && !k))) && !(v && w)) = if m && !k then v else old && !(w && v) := by decide

/-- Bit `b` of the word that a write leaves under the access codes (R11, R13, R36). -/
theorem getLsbD_fieldWord {s : State} {d : RegDesc} {a : Nat} (hd : findReg a = some d) (h0 : absentBits s a = 0) (v : Word)
    (b : Fin 32) :
    (fieldWord s d a v).getLsbD b =
      if (d.rw ||| d.lk).getLsbD b && !(lockedBits s d a).getLsbD b then v.getLsbD b
      else (s.reg a).getLsbD b && !(d.w1c.getLsbD b && v.getLsbD b) := by
  have hw : (d.w1c.getLsbD b && (d.rw ||| d.lk).getLsbD b) = false := by
    rw [← BitVec.getLsbD_and, findReg_w1c_apart hd]
    exact BitVec.getLsbD_zero
  rw [← codes_bit _ _ _ _ _ hw]
  unfold fieldWord
  simp only [h0, show ~~~(0 : Word) = BitVec.allOnes 32 from rfl, BitVec.and_allOnes]
  simp [-BitVec.getLsbD_eq_getElem]

/-! ### Registers without effects of their own -/

/-- Registers of block window `m` whose writes do what their access codes say and nothing else. -/
def plainRegs (m : Nat) : List Nat :=
  match m with
  | 0 => [A_PM_WAKE_EN, A_PM_INT_EN, A_PM_INT_STAT]
  | 1 => [A_TB_CTL, A_TB_DISC_CTL, A_TB_GD_TRIM, A_TB_INT_EN, A_TB_INT_STAT]
  | 4 => [A_AC_INT_EN, A_AC_INT_STAT]
  | 5 => [A_FE_INT_EN, A_FE_CAL_CTL, A_FE_INT_STAT]
  | 6 => [A_CZ_INT_EN]
  | 10 => [A_DC_INT_EN, A_DC_INT_STAT]
  | 20 => [A_FC_SRAM_ACT]
  | _ => []

/-- Where a plain register lies: in its window, word aligned, with a row of its own, and in no register that other parts of
a command write. -/
structure PlainAt (m a : Nat) : Prop where
  region : regionOf a = .window m
  aligned : a % 4 = 0
  present : reservedOffset a = false
  noDog : ¬ (0x40130100 ≤ a ∧ a < 0x40130180)
  whole : a ≠ A_FW_CTL ∧ a ≠ A_FW_DOM_CMD ∧ ¬ (A_NB_ROUTE 0 ≤ a ∧ a < A_NB_ROUTE 4096)
  unviewed : settleWrites a = false
  unrouted : ∀ f ∈ berrFields ++ routeFields, f.addr ≠ a
  noCtl : A_IC_CTL ≠ a
  noCore : ∀ d : Fin 4, A_IC_CPU_STAT d ≠ a

theorem plainRegs_place : ∀ m < 23, ∀ a ∈ plainRegs m,
    regionOf a = .window m ∧ a % 4 = 0 ∧ reservedOffset a = false ∧ ¬ (0x40130100 ≤ a ∧ a < 0x40130180) := by decide

theorem plainRegs_apart : ∀ m < 23, ∀ a ∈ plainRegs m,
    settleWrites a = false ∧ (∀ f ∈ berrFields ++ routeFields, f.addr ≠ a) ∧ A_IC_CTL ≠ a ∧ ∀ d : Fin 4, A_IC_CPU_STAT d ≠ a := by
  decide

theorem plainRegs_whole : ∀ m < 23, ∀ a ∈ plainRegs m,
    a ≠ A_FW_CTL ∧ a ≠ A_FW_DOM_CMD ∧ ¬ (A_NB_ROUTE 0 ≤ a ∧ a < A_NB_ROUTE 4096) := by decide

theorem plainRegs_at (m : Nat) (hm : m < 23) (a : Nat) (ha : a ∈ plainRegs m) : PlainAt m a := by
  obtain ⟨hregion, haligned, hpresent, hdog⟩ := plainRegs_place m hm a ha
  obtain ⟨hview, hroute, hctl, hcore⟩ := plainRegs_apart m hm a ha
  exact ⟨hregion, haligned, hpresent, hdog, plainRegs_whole m hm a ha, hview, hroute, hctl, hcore⟩

theorem PlainAt.absent {m a : Nat} (h : PlainAt m a) (s : State) : absentBits s a = 0 := by
  obtain ⟨h1, h2, h3⟩ := h.whole
  simp only [absentBits, h1, h2, false_and, if_false]
  rw [if_neg fun hc => h3 ⟨hc.1, hc.2.1⟩]

theorem domainOff_of_active {s : State} (hp : s.power = .active) {a : Nat} (h : ¬ (0x40130100 ≤ a ∧ a < 0x40130180)) :
    domainOff s a = false := by
  have : (decide (0x40130100 ≤ a) && decide (a < 0x40130180)) = false := by simpa using h
  simp [domainOff, State.awake, hp, this]

theorem blockWrite_plain {acc : Acc} (hns : acc.ns = false) (s : State) {m a : Nat} (ha : a ∈ plainRegs m) (v : Word) :
    blockWrite acc s m a v = fieldWrite s a v := by
  unfold plainRegs at ha
  split at ha <;> simp only [List.mem_cons, List.not_mem_nil, or_false] at ha
  · rcases ha with rfl | rfl | rfl <;> rfl
  · rcases ha with rfl | rfl | rfl | rfl | rfl <;> rfl
  · rcases ha with rfl | rfl <;> rfl
  · rcases ha with rfl | rfl | rfl <;> rfl
  · subst ha
    show czWrite acc.staged s A_CZ_INT_EN v = _
    cases acc.staged <;> rfl
  · rcases ha with rfl | rfl <;> rfl
  · subst ha
    show fcWrite acc s A_FC_SRAM_ACT v = _
    unfold fcWrite secureWrite
    rw [hns]
    rfl

/-- A word store of a Secure core to a plain register. -/
theorem coreStore_plain {s : State} {core : Cpu} {m a : Nat} (hp : s.power = .active)
    (hns : s.on (IC_CPU_STAT_NS core) = false) (hm : m < 23) (ha : a ∈ plainRegs m) (hst : mayStore s core a) (v : Word) :
    coreStore s core (.store 2) a v =
      (fieldWrite s a v).1.finishWrite (coreAcc s core) a (fieldWrite s a v).2 := by
  have h := plainRegs_at m hm a ha
  have := coreWrite_window (v := v) h.region h.aligned (domainOff_of_active hp h.noDog) h.present hst
  rwa [blockWrite_plain hns s ha] at this

/-! ### The state after a write and the routing that follows it -/

theorem route_core (s : State) (d : Nat) : (route s).core d = { s.core d with wasIdle := ((route s).core d).wasIdle } :=
  (route_turned s).noted.core d

theorem settle_core (s : State) (d : Nat) : (settle s).core d = s.core d := by
  unfold State.core
  rw [settle_cores]

theorem settle_cpuStat (s : State) (d : Fin 4) :
    (settle s).coreState d = s.coreState d ∧ (settle s).on (IC_CPU_STAT_ASG d) = s.on (IC_CPU_STAT_ASG d) := by
  have h : settleWrites (A_IC_CPU_STAT d) = false := (by decide : ∀ d : Fin 4, settleWrites (A_IC_CPU_STAT d) = false) d
  exact ⟨settle_get s h, settle_on s h⟩

/-- A register that no routing and no view writes. -/
theorem PlainAt.reg_end {m a : Nat} (h : PlainAt m a) (s : State) : (settle (route s)).reg a = s.reg a := by
  rw [settle_reg _ h.unviewed,
    (route_turned s).kept.reg_eq fun f hf => h.unrouted f (List.mem_append_right _ hf)]

/-- The registers that the statements on access codes and on locks name are plain. -/
theorem rwRegs_plain : ∀ a ∈ [A_TB_CTL, A_TB_DISC_CTL, A_TB_INT_EN, A_AC_INT_EN, A_FE_INT_EN, A_FE_CAL_CTL, A_CZ_INT_EN,
    A_DC_INT_EN, A_PM_WAKE_EN, A_PM_INT_EN, A_TB_INT_STAT, A_AC_INT_STAT, A_FE_INT_STAT, A_DC_INT_STAT, A_PM_INT_STAT],
    ∃ m < 23, a ∈ plainRegs m := by decide

theorem lkRegs_plain : ∀ a ∈ [A_TB_DISC_CTL, A_TB_GD_TRIM, A_FC_SRAM_ACT], ∃ m < 23, a ∈ plainRegs m := by decide

end Sys2Proof.Machine
end

section
/-! What a core's accesses under the access codes leave, with the routing after them: writes that are accepted, reads that
clear RC fields, and writes that differ in a locked field (R11, R12, R13). -/

namespace Sys2Proof.Machine

/-! ### Writes that are accepted (R11) -/

/-- A write with its response and the routing after it, at the end of the command. -/
abbrev written (s : State) (a : Nat) (w : Word) : State := settle (route ((s.setReg a w).respond 0))

theorem written_reg (s : State) {m a : Nat} (h : PlainAt m a) (w : Word) : (written s a w).reg a = w := by
  rw [written, h.reg_end]
  exact State.reg_setReg_same s a w

theorem written_resp (s : State) (a : Nat) (w : Word) : (written s a w).resp = ⟨0, false⟩ := by
  rw [written, settle_resp, route_resp]
  rfl

theorem written_core (s : State) (a : Nat) (w : Word) (d : Nat) :
    (written s a w).core d = { s.core d with wasIdle := ((written s a w).core d).wasIdle } := by
  rw [written, settle_core]
  exact route_core _ d

theorem write_kept (s : State) (a : Nat) (w : Word) :
    Kept s (route ((s.setReg a w).respond 0)) ([wordAt a] ++ routeFields) [.resp, .cores, .emitted] :=
  ((setReg_kept s a w).append (respond_kept _ 0)).append (route_turned _).kept

/-- A register write leaves the states and assignments of the cores to the routing after it. -/
theorem PlainAt.cpuStat {m a : Nat} (h : PlainAt m a) (s : State) (w : Word) (d : Fin 4) :
    ((s.setReg a w).respond 0).coreState d = s.coreState d := by
  unfold State.coreState State.get
  show bitsOf ((s.setReg a w).reg (A_IC_CPU_STAT d)) _ _ = _
  rw [State.reg_setReg_of_ne _ _ (h.noCore d)]

theorem written_coreState {s : State} {m a : Nat} (h : PlainAt m a) (w : Word) (d : Fin 4) :
    (written s a w).coreState d = s.coreState d ∨
      s.coreState d = csIdle ∧ (written s a w).coreState d = csRun ∧ (written s a w).on (IC_CPU_STAT_ASG d) = true := by
  rw [written, (settle_cpuStat _ d).1, (settle_cpuStat _ d).2, ← h.cpuStat s w d]
  exact route_coreState _ d

theorem written_disabled {s : State} {m a : Nat} (h : PlainAt m a) (w : Word) (hp : s.power = .active)
    (hen : s.on IC_CTL_EN = false) (d : Fin 4) : (written s a w).on (IC_CPU_STAT_ASG d) = false := by
  rw [written, (settle_cpuStat _ d).2]
  refine route_disabled (s := (s.setReg a w).respond 0) hp ?_ d.isLt
  have : A_IC_CTL ≠ a := h.noCtl
  unfold State.on State.get at hen ⊢
  show (bitsOf ((s.setReg a w).reg A_IC_CTL) _ _ == 1) = false
  rwa [State.reg_setReg_of_ne _ _ this]

/-! ### Reads that clear (R11, R12) -/

/-- Registers of block window `m` with RC fields that read as they are stored. -/
def clearingRegs (m : Nat) : List Nat :=
  match m with
  | 0 => [A_PM_CNT]
  | 6 => [A_CZ_LANE_CNT0 5, A_CZ_LANE_CNT1 15]
  | 7 => [A_LS_FH_CNT0, A_LS_FH_CNT3]
  | 9 => [A_FW_CNT0]
  | 10 => [A_DC_CNT]
  | 11 => [A_CE_CNT0]
  | 20 => [A_FC_CNT0]
  | 21 => [A_CX_CNT0]
  | _ => []

theorem rcRegs_clearing : ∀ a ∈ [A_CZ_LANE_CNT0 5, A_CZ_LANE_CNT1 15, A_LS_FH_CNT0, A_LS_FH_CNT3, A_DC_CNT, A_CX_CNT0,
    A_FW_CNT0, A_CE_CNT0, A_PM_CNT, A_FC_CNT0], ∃ m < 23, a ∈ clearingRegs m := by decide

theorem blockRead_clearing (acc : Acc) (s : State) {m a : Nat} (ha : a ∈ clearingRegs m) :
    blockRead acc s m a = (s.reg a, s) := by
  unfold clearingRegs at ha
  split at ha <;> simp only [List.mem_cons, List.not_mem_nil, or_false] at ha
  · subst ha; rfl
  · rcases ha with rfl | rfl <;> rfl
  · rcases ha with rfl | rfl <;> rfl
  · subst ha; rfl
  · subst ha; rfl
  · subst ha; rfl
  · subst ha; rfl
  · subst ha; rfl

/-- A register that a read clears: in its window, and read as it is stored. -/
structure ClearingAt (m a : Nat) : Prop where
  region : regionOf a = .window m
  aligned : a % 4 = 0
  present : reservedOffset a = false
  noDog : ¬ (0x40130100 ≤ a ∧ a < 0x40130180)
  unviewed : settleWrites a = false
  noCounter : tsAtLo a = none ∧ tsAtLo (a - 4) = none
  unpaired : pairedLo a = false ∧ pairedLo (a - 4) = false
  rc : ∀ d, findReg a = some d → d.rc ≠ 0

theorem clearingRegs_at : ∀ m < 23, ∀ a ∈ clearingRegs m, ClearingAt m a := by
  have h : ∀ m < 23, ∀ a ∈ clearingRegs m,
      regionOf a = .window m ∧ a % 4 = 0 ∧ reservedOffset a = false ∧ ¬ (0x40130100 ≤ a ∧ a < 0x40130180) ∧
      settleWrites a = false ∧ ((tsAtLo a).isNone ∧ (tsAtLo (a - 4)).isNone) ∧
      (pairedLo a = false ∧ pairedLo (a - 4) = false) ∧ ∀ d ∈ findReg a, d.rc ≠ 0 := by decide
  intro m hm a ha
  obtain ⟨h1, h2, h3, h4, h5, ⟨h6, h7⟩, h8, h9⟩ := h m hm a ha
  exact ⟨h1, h2, h3, h4, h5, ⟨Option.isNone_iff_eq_none.1 h6, Option.isNone_iff_eq_none.1 h7⟩, h8, h9⟩

theorem windowRegRead_clearing (acc : Acc) (s : State) {m a : Nat} (hm : m < 23) (ha : a ∈ clearingRegs m) {d : RegDesc}
    (hd : findReg a = some d) (hw : Word) :
    windowRegRead acc s m a hw = (s.reg a, s.setReg a ((s.reg a &&& ~~~ d.rc) ||| (hw &&& d.rc))) := by
  have h := clearingRegs_at m hm a ha
  simp [windowRegRead, h.noCounter, h.unpaired, blockRead_clearing acc s ha, hd]
  exact fun h0 => absurd h0 (h.rc d hd)

/-- A word load of a Secure core from such a register. -/
theorem coreLoad_clearing {s : State} {core : Cpu} {m a : Nat} (hp : s.power = .active)
    (hns : s.on (IC_CPU_STAT_NS core) = false) (hm : m < 23) (ha : a ∈ clearingRegs m) (hld : mayLoad s core a) {d : RegDesc}
    (hd : findReg a = some d) (hw : Word) (ecc : Bool) :
    coreLoad s core (.load 2) a hw ecc =
      (s.setReg a ((s.reg a &&& ~~~ d.rc) ||| (hw &&& d.rc))).respond (s.reg a) := by
  have h := clearingRegs_at m hm a ha
  show busRead (coreAcc s core) s 2 a hw ecc = _
  simp [busRead, busReadEnd, accessOff, readClosed, memMisaligned_window 2 h.region, pmpRefuses_of_allows hld, h.region,
    h.aligned, domainOff_of_active hp h.noDog, h.present, hns, windowRegRead_clearing _ s hm ha hd]

/-- Settles O2: the word of the access codes bit by bit, then the routing after it; a read clears at its response. -/
theorem registerWritesFollowTheAccessCodes : Obligations.RegisterWritesFollowTheAccessCodes := by
  unfold Obligations.RegisterWritesFollowTheAccessCodes
  refine ⟨fun core form addr v d s hp hns ha hf hd hl _ hst => ?_, fun core form addr hw ecc d s hp hns hf ha hd hld => ?_⟩
  · obtain ⟨m, hm, hpl⟩ := rwRegs_plain _ ha
    have h := plainRegs_at m hm _ hpl
    subst hf
    refine ⟨_, rfl, ?_⟩
    rw [live_of_on (by simp [hp]), coreStore_plain hp hns hm hpl hst, fieldWrite_of_row hd hl, State.finishWrite_ok]
    refine ⟨written_resp s _ _, fun b => ?_, fun e => written_core s _ _ e, ?_, written_coreState h _,
      fun _ hen => written_disabled h _ hp hen, (write_kept s _ _).frame⟩
    · rw [written_reg s h, getLsbD_fieldWord hd (h.absent s), hl]
      simp
    · rw [settle_cores, (route_turned _).noted.length]
      rfl
  · obtain ⟨m, hm, hcl⟩ := rcRegs_clearing _ ha
    subst hf
    refine ⟨_, rfl, ?_⟩
    rw [live_of_on (by simp [hp]), coreLoad_clearing hp hns hm hcl hld hd]
    refine ⟨by rw [settle_resp]; rfl, ?_, ((setReg_kept s _ _).append (respond_kept _ _)).frame⟩
    rw [settle_reg _ (clearingRegs_at m hm _ hcl).unviewed]
    exact State.reg_setReg_same ..

/-! ### Locked fields (R13) -/

theorem lockedBits_of_locked {s : State} {d : RegDesc} {a : Nat} (hl : s.locked = true) (ho : a ∉ s.openRegs) :
    lockedBits s d a = d.lk := by
  simp [lockedBits, hl, ho]

/-- A write that differs in a locked bit: the register takes what it can, and the core its exception. -/
theorem finishWrite_berrFree_fault (s : State) {acc : Acc} (hk : acc.kind = .core) (hc : acc.core < s.cores.length) (a : Nat)
    (w : Word) :
    Trapped s ((s.setReg a w).finishWrite acc a .berrFree) acc.core 7 (w32 a) ∧
      ((s.setReg a w).finishWrite acc a .berrFree).resp = ⟨0, true⟩ ∧
      Kept (s.setReg a w) ((s.setReg a w).finishWrite acc a .berrFree) berrFields faultParts := by
  have h := respondErr_fault (s.setReg a w).fresh.2 hk hc a true (s.setReg a w).fresh.1.toNat
  exact ⟨h.trapped.congr_left rfl rfl, h.resp,
    ((fresh_kept _).append h.kept).mono (List.Subset.refl _) (by decide)⟩

/-- The outcome of a write to a register whose LK bits are locked (R13). -/
theorem fieldWrite_locked {s : State} {a : Nat} {d : RegDesc} (hd : findReg a = some d) (hl : lockedBits s d a = d.lk)
    (v : Word) :
    fieldWrite s a v = (s.setReg a (fieldWord s d a v), if (s.reg a ^^^ v) &&& d.lk = 0 then .ok else .berrFree) := by
  simp [fieldWrite, hd, hl]

theorem lkRegs_w1c : ∀ a ∈ [A_TB_DISC_CTL, A_TB_GD_TRIM, A_FC_SRAM_ACT], ∀ d ∈ findReg a, d.w1c = 0 := by decide

/-- In a register without W1C bits all of whose LK bits are locked, a write changes the RW bits that are not LK. -/
theorem getLsbD_fieldWord_locked {s : State} {a : Nat} {d : RegDesc} (hd : findReg a = some d) (h0 : absentBits s a = 0)
    (hl : lockedBits s d a = d.lk) (hw : d.w1c = 0) (v : Word) (b : Fin 32) :
    (fieldWord s d a v).getLsbD b =
      if d.rw.getLsbD b && !d.lk.getLsbD b then v.getLsbD b else (s.reg a).getLsbD b := by
  rw [getLsbD_fieldWord hd h0, hl, hw, BitVec.getLsbD_or]
  cases d.rw.getLsbD b <;> cases d.lk.getLsbD b <;> simp

/-- Settles O3: the written word is refused where it differs in a locked bit, after the bits that are not locked took it. -/
theorem lockedFieldsKeepTheirValue : Obligations.LockedFieldsKeepTheirValue := by
  unfold Obligations.LockedFieldsKeepTheirValue
  intro core form addr v d s hp hns ha hf hd hlk hop hc hst
  obtain ⟨m, hm, hpl⟩ := lkRegs_plain _ ha
  have h := plainRegs_at m hm _ hpl
  have hl := lockedBits_of_locked (d := d) hlk hop
  have hbit := getLsbD_fieldWord_locked hd (h.absent s) hl (lkRegs_w1c _ ha d hd) v
  subst hf
  refine ⟨_, rfl, ?_⟩
  rw [live_of_on (by simp [hp]), coreStore_plain hp hns hm hpl hst, fieldWrite_locked hd hl]
  by_cases hx : (s.reg addr.toNat ^^^ v) &&& d.lk = 0
  · rw [if_pos hx, State.finishWrite_ok]
    have herr : (written s addr.toNat (fieldWord s d addr.toNat v)).resp.err = false := by rw [written_resp]
    refine ⟨fun b => ?_, ?_, fun he => ?_, fun _ => ⟨fun e => written_core s _ _ e, ?_⟩, ?_⟩
    · rw [written_reg s h, hbit]
    · exact herr.trans (decide_eq_false (not_not_intro hx)).symm
    · exact absurd (herr.symm.trans he) (by decide)
    · rw [settle_reservations, route_reservations]
      rfl
    · have hfs := List.cons_subset_cons (wordAt addr.toNat) (List.subset_append_right berrFields routeFields)
      exact ((write_kept s _ _).mono hfs (by decide)).frame
  · rw [if_neg hx]
    obtain ⟨htrap, hresp, hkept⟩ := finishWrite_berrFree_fault s (acc := coreAcc s core) rfl
      (show core.val < s.cores.length by omega) addr.toNat (fieldWord s d addr.toNat v)
    rw [w32_toNat] at htrap
    have hend := hkept.append (route_turned _).kept
    have herr := congrArg Resp.err ((settle_resp _).trans ((route_resp _).trans hresp))
    refine ⟨fun b => ?_, ?_, fun _ => htrap.route.settle, fun he => ?_, ?_⟩
    · rw [settle_reg _ h.unviewed, hend.reg_eq h.unrouted, State.reg_setReg_same, hbit]
    · exact herr.trans (decide_eq_true hx).symm
    · exact absurd (herr.symm.trans he) (by decide)
    · exact (((setReg_kept s _ _).append hend).mono (List.Subset.refl _) (by decide)).frame

end Sys2Proof.Machine
end

section
/-! Resets: where the views show the rest of the state already, `settle` changes nothing; the state that a reset leaves is
such a state (R15, R16). -/

namespace Sys2Proof.Machine

/-! ### `settle` where the views hold -/

/-- A field written with the value that it holds leaves every register as it was. -/
theorem set_reg_of_get {s : State} {f : Field} {v : Nat} (h : s.get f = v % 2 ^ f.w) (a : Nat) : (s.set f v).reg a = s.reg a := by
  by_cases ha : a = f.addr
  · subst ha
    rw [State.set, State.reg_setReg_same]
    refine BitVec.eq_of_getLsbD_eq fun i hi => ?_
    rw [getLsbD_insertBits _ _ _ _ _ hi]
    split
    · next hr =>
      have hb := congrArg (Nat.testBit · (i - f.lo)) h
      simp only [State.get, testBit_bitsOf, Nat.testBit_mod_two_pow, show i - f.lo < f.w by omega, decide_true,
        Bool.true_and, Nat.add_sub_cancel' hr.1] at hb
      exact hb.symm
    · rfl
  · exact s.reg_set_of_ne f v a ha

/-- States whose registers read the same. -/
def SameRegs (s t : State) : Prop := ∀ a, t.reg a = s.reg a

theorem SameRegs.get {s t : State} (h : SameRegs s t) (f : Field) : t.get f = s.get f := by
  unfold State.get
  rw [h]

theorem SameRegs.on {s t : State} (h : SameRegs s t) (f : Field) : t.on f = s.on f := by
  unfold State.on
  rw [h.get]

theorem SameRegs.trans {s t u : State} (h : SameRegs s t) (h' : SameRegs t u) : SameRegs s u :=
  fun a => (h' a).trans (h a)

theorem SameRegs.set {s t : State} (h : SameRegs s t) {f : Field} {v : Nat} (hv : s.get f = v % 2 ^ f.w) :
    SameRegs s (t.set f v) :=
  h.trans (set_reg_of_get ((h.get f).trans hv))

theorem get_eq_b2n {s : State} {f : Field} {b : Bool} (hw : f.w = 1) (h : s.on f = b) : s.get f = b2n b % 2 ^ f.w := by
  have hlt := s.get_lt f
  rw [hw] at hlt ⊢
  subst h
  unfold State.on
  have : s.get f = 0 ∨ s.get f = 1 := by omega
  rcases this with h | h <;> rw [h] <;> rfl

/-- A field of four bits is the number of its bits. -/
theorem fourBits_of_bits {n : Nat} (hn : n < 16) {p : Nat → Bool} (h : ∀ c : Fin 4, bitOf n c = p c) : fourBits p = n := by
  have hb : ∀ n < 16, fourBits (bitOf n) = n := by decide
  have hp : fourBits p = fourBits (bitOf n) := by
    have h0 := h 0
    have h1 := h 1
    have h2 := h 2
    have h3 := h 3
    simp only [Fin.isValue, Fin.val_zero, Fin.val_one, Fin.val_two, show ((3 : Fin 4) : Nat) = 3 from rfl] at h0 h1 h2 h3
    simp only [fourBits, h0, h1, h2, h3]
  exact hp.trans (hb n hn)

/-- Where TM_CTL.PAIRED shows its conditions, no capture channel is cleared (R523). -/
theorem updPaired_of_shown {s : State} (h : s.on TM_CTL_PAIRED = (s.ivory || s.on TM_CTL_TEST || !s.fc.recov.isEmpty)) :
    s.updPaired = s.set TM_CTL_PAIRED (b2n (s.on TM_CTL_PAIRED)) := by
  unfold State.updPaired
  simp only [← h, Bool.and_not_self, Bool.false_eq_true, if_false]

/-- Where the views hold, the writes of `settle` change no register. -/
theorem settle_sameRegs {s : State} (h : Views s) : SameRegs s (settle s) := by
  obtain ⟨hpair, hlevel, hrecov, hbusy, hpool, hhalt, _⟩ := h
  have h1 : SameRegs s s.fcSync := (SameRegs.set (fun _ => rfl) hlevel).set (get_eq_b2n rfl hrecov)
  have h2 : SameRegs s s.fcSync.updPaired ∧ s.fcSync.updPaired.fe = s.fe ∧ s.fcSync.updPaired.pq = s.pq := by
    rw [updPaired_of_shown (by rw [State.ivory, h1.on, h1.on, h1.on]; exact hpair), h1.on]
    exact ⟨h1.set (get_eq_b2n rfl rfl), rfl, rfl⟩
  unfold settle
  generalize s.fcSync.updPaired = u at h2
  obtain ⟨h2, hfe, hpq⟩ := h2
  have h3 : SameRegs s (feSync u) := h2.set (get_eq_b2n rfl (by rw [hbusy, hfe, h2.on]))
  have h4 : SameRegs s (poolSync (feSync u)) := h3.set (by rw [hpool, show (feSync u).pq = s.pq from hpq]; rfl)
  have h5 : SameRegs s (dbgSync (poolSync (feSync u))) := by
    refine h4.set ?_
    have hcs : ∀ c, (poolSync (feSync u)).coreState c = s.coreState c := fun c => h4.get _
    unfold haltedCores
    simp only [hcs]
    rw [fourBits_of_bits (s.get_lt IC_DBG_CTL_HALTED) hhalt]
    exact (Nat.mod_eq_of_lt (s.get_lt IC_DBG_CTL_HALTED)).symm
  have h6 : ∀ t : State, SameRegs t t.updAnt := fun t a => updAnt_keeps (fun t => t.reg a) (fun _ _ => rfl) t
  exact SameRegs.trans h5 (h6 (cxSync _))

/-- `settle` writes registers and pins alone. -/
theorem settle_eq (s : State) : settle s = { s with regs := (settle s).regs, pins := (settle s).pins } := by
  have h := settle_keeps (fun t => { t with regs := s.regs, pins := s.pins }) (fun _ _ _ _ => rfl) (fun _ _ => rfl) s
  exact congrArg (fun t => { t with regs := (settle s).regs, pins := (settle s).pins }) h

/-! ### The aerial switch and the coexistence pins of a device that is out of lock -/

theorem antName_unlocked {s : State} (ha : s.fe.air = none) (hl : s.on TB_STATUS_LOCKED = false) : antName s = 0 := by
  have hc : ∀ c, chainLive s c = false := fun c => by
    have hl' : ({ s with fe := { s.fe with blank := false } } : State).isLocked = false := hl
    simp [chainLive, State.chainUp, hl']
  simp [antName, ha, hc]

theorem settle_antSel (s : State) : (settle s).pins.antSel = antName (settle s) := by
  unfold settle
  generalize cxSync (dbgSync (poolSync (feSync s.fcSync.updPaired))) = u
  unfold State.updAnt
  simp only
  split
  · next h => exact h
  · rfl

theorem settle_coexPins {s : State} (h : s.dc.coex = []) : (settle s).pins.req = false ∧ (settle s).pins.pri = false := by
  have hd : (dbgSync (poolSync (feSync s.fcSync.updPaired))).dc = s.dc := updPaired_keeps (·.dc) (fun _ _ _ _ => rfl) s.fcSync
  unfold settle
  generalize dbgSync (poolSync (feSync s.fcSync.updPaired)) = u at hd
  have hu : ((cxSync u).pins.req = false ∧ (cxSync u).pins.pri = false) := by simp [cxSync, hd, h]
  unfold State.updAnt
  simp only
  split <;> exact hu

/-- The pins of a device that is out of lock, where they show that already. -/
theorem settle_pins_unlocked {s : State} (ha : s.fe.air = none) (hl : s.on TB_STATUS_LOCKED = false) (hc : s.dc.coex = [])
    (hp : s.pins.req = false ∧ s.pins.pri = false ∧ s.pins.antSel = 0) : (settle s).pins = s.pins := by
  obtain ⟨hreq, hpri, hsel⟩ := hp
  obtain ⟨hpins, hsw⟩ := settle_pins s
  have hsel' : (settle s).pins.antSel = s.pins.antSel := by
    rw [settle_antSel, antName_unlocked (by rw [settle_fe, ha]) ((settle_on s (by decide)).trans hl), hsel]
  rw [if_pos hsel'] at hsw
  rw [pinsButSwitch, hsw, hsel', (settle_coexPins hc).1.trans hreq.symm, (settle_coexPins hc).2.trans hpri.symm] at hpins
  exact hpins

/-! ### What a reset leaves -/

/-- The state that a reset leaves but for its registers and its time base (R15). -/
def resetState (s : State) (regs : List (Nat × Word)) (tb : TimeBase) : State := { resetTo s regs with tb := tb }

/-- The registers that some reset leaves other than at their reset words. -/
abbrev keptRegs : List Nat := [A_TB_STATUS, A_TB_RATIO, A_TB_CATCH_FRAC, A_PM_RSTCAUSE, A_PM_BOOTREC]

theorem assocGet_filter {α : Type} (p : Nat → Bool) (l : List (Nat × α)) (k : Nat) :
    assocGet (l.filter fun e => p e.1) k = if p k then assocGet l k else none := by
  induction l with
  | nil => simp [assocGet]
  | cons e xs ih =>
    obtain ⟨k', v⟩ := e
    rw [List.filter_cons, assocGet]
    by_cases hk : k' = k
    · subst hk
      cases hp : p k' <;> simp [assocGet, ih, hp]
    · cases hp : p k' <;> simp [assocGet, ih, hk]

/-- Flash and OTP keep their bytes; every other memory reads zero (R15). -/
theorem byte_resetState (s : State) (regs : List (Nat × Word)) (tb : TimeBase) (a : Nat) :
    (resetState s regs tb).byte a = if a < 0x20000000 then s.byte a else 0 := by
  have hx : (resetState s regs tb).xDraw a = s.xDraw a := rfl
  have hm : assocGet (resetState s regs tb).mem a = if a < 0x20000000 then assocGet s.mem a else none := by
    have := assocGet_filter (fun k => decide (k < 0x20000000)) s.mem a
    simp only [decide_eq_true_eq] at this
    exact this
  unfold State.byte
  rw [hx, hm]
  by_cases ha : a < 0x20000000
  · simp only [if_pos ha]
  · have hd : s.xDraw a = none := by simp [State.xDraw, ha]
    have h0 : memDefault a = 0 := if_neg (by omega)
    simp only [hd, if_neg ha, h0, Option.getD_none]

/-- No core is halted at reset, and IC_DBG_CTL shows none (R447). -/
theorem halted_at_reset : ∀ c : Fin 4, A_IC_CPU_STAT c ∉ keptRegs ∧
    bitOf (bitsOf (resetWord A_IC_DBG_CTL) 4 4) c = (bitsOf (resetWord (A_IC_CPU_STAT c)) 28 4 == csDebug) := by decide

section
variable {s : State} {regs : List (Nat × Word)} {tb : TimeBase}
  (hr : ∀ a ∉ keptRegs, (resetState s regs tb).reg a = resetWord a)
include hr

/-- A field of a register at its reset word. -/
theorem get_resetState (f : Field) (hf : f.addr ∉ keptRegs) :
    (resetState s regs tb).get f = bitsOf (resetWord f.addr) f.lo f.w := by
  rw [State.get, hr _ hf]

theorem on_resetState (f : Field) (hf : f.addr ∉ keptRegs) :
    (resetState s regs tb).on f = (bitsOf (resetWord f.addr) f.lo f.w == 1) := by
  rw [State.on, get_resetState hr f hf]

/-- After a reset the registers that show other state show it (R112, R125, R271, R374, R447, R523, R573). -/
theorem views_resetState (hl : (resetState s regs tb).on TB_STATUS_LOCKED = false) : Views (resetState s regs tb) := by
  refine ⟨?_, ?_, ?_, ?_, ?_, fun c => ?_, rfl, rfl, (antName_unlocked rfl hl).symm⟩
  · rw [State.ivory, on_resetState hr _ (by decide), on_resetState hr _ (by decide), on_resetState hr _ (by decide)]
    rfl
  · rw [get_resetState hr _ (by decide)]
    rfl
  · rw [on_resetState hr _ (by decide)]
    rfl
  · rw [on_resetState hr _ (by decide), on_resetState hr _ (by decide)]
    rfl
  · rw [get_resetState hr _ (by decide)]
    exact (by decide : bitsOf (resetWord A_PQ_ENT_STAT) 0 3 = 0)
  · obtain ⟨hc, hd⟩ := halted_at_reset c
    rw [get_resetState hr _ (by decide), State.coreState, get_resetState hr _ hc]
    exact hd

/-- A reset as its command ends (R15). -/
theorem afterReset_settle (hl : (resetState s regs tb).on TB_STATUS_LOCKED = false) :
    AfterReset s (settle (resetState s regs tb)) ∧ SameRegs (resetState s regs tb) (settle (resetState s regs tb)) := by
  refine ⟨⟨fun a => (settle_byte _ a).trans (byte_resetState s regs tb a), ?_⟩, settle_sameRegs (views_resetState hr hl)⟩
  have h := settle_eq (resetState s regs tb)
  rw [settle_pins_unlocked rfl hl rfl ⟨rfl, rfl, rfl⟩] at h
  rw [settle_mem, settle_tb]
  exact h

end

/-! ### Power-on reset -/

/-- Power-on reset with no flash or OTP operation in progress. -/
theorem powerOnReset_quiet {s : State} (hf : s.fl.op = none) (ho : s.pq.otp = none) (cause : Nat) :
    powerOnReset s cause = (resetTo s []).set PM_RSTCAUSE_CAUSE cause := by
  simp [powerOnReset, hf, ho]

theorem powerOnReset_afterPowerOn {s : State} (hf : s.fl.op = none) (ho : s.pq.otp = none) {cause : Nat} (hc : cause < 16) :
    AfterPowerOn s (settle (powerOnReset s cause)) cause := by
  have hreg : ∀ a ≠ A_PM_RSTCAUSE, (powerOnReset s cause).reg a = resetWord a := fun a ha => by
    rw [powerOnReset_quiet hf ho]
    exact State.reg_set_of_ne _ _ _ _ ha
  have hcause : (powerOnReset s cause).get PM_RSTCAUSE_CAUSE = cause := by
    rw [powerOnReset_quiet hf ho, State.get_set_same _ _ _ (by decide)]
    exact Nat.mod_eq_of_lt hc
  have hshape : powerOnReset s cause = resetState s (powerOnReset s cause).regs TimeBase.reset := by
    rw [powerOnReset_quiet hf ho]
    rfl
  have hlock : (powerOnReset s cause).on TB_STATUS_LOCKED = false := by
    rw [State.on, State.get, hreg _ (by decide)]
    decide
  rw [hshape] at hreg hlock hcause ⊢
  obtain ⟨hafter, hsame⟩ := afterReset_settle (fun a ha => hreg a fun h => ha (h ▸ by decide)) hlock
  exact ⟨hafter, fun a ha => (hsame a).trans (hreg a ha), (hsame.get _).trans hcause, settle_tb _⟩

/-! ### System reset -/

/-- The time base after a system reset: TB_SLOW and the phase of the slow clock stand (R49, R53). -/
abbrev slowKept (s : State) : TimeBase :=
  { TimeBase.reset with
    slow := s.tb.slow, firstAccepted := s.tb.firstAccepted, phase := s.tb.phase, xoStopped := s.tb.xoStopped }

/-- The registers of AON (R49, R72, R560). -/
abbrev aonAddrs : List Nat := [A_TB_RATIO, A_TB_CATCH_FRAC, A_PM_RSTCAUSE, A_PM_BOOTREC]

/-- A system reset keeps the registers of AON and no other (R49, R72, R560). -/
theorem reg_aonRegs (s : State) (tb : TimeBase) (a : Nat) :
    (resetState s (aonRegs s) tb).reg a =
      if a ∈ aonAddrs then s.reg a else resetWord a := by
  have h := assocGet_filter (fun k => k == A_TB_RATIO || k == A_TB_CATCH_FRAC || k == A_PM_RSTCAUSE || k == A_PM_BOOTREC)
    s.regs a
  show (assocGet (aonRegs s) a).getD (resetWord a) = _
  rw [show aonRegs s = s.regs.filter _ from rfl, h]
  simp only [Bool.or_eq_true, beq_iff_eq, List.mem_cons, List.not_mem_nil, or_false, or_assoc]
  split <;> rfl

section
variable (s : State) (cause sub : Nat)

/-- The registers of AON with the cause of a system reset. -/
abbrev causeRecorded : State :=
  (((resetState s (aonRegs s) (slowKept s)).set TB_STATUS_CAL_VALID (s.get TB_STATUS_CAL_VALID)).set PM_RSTCAUSE_CAUSE
    cause).set PM_RSTCAUSE_SUB sub

theorem causeRecorded_reg {a : Nat} (h : a ≠ A_TB_STATUS) (h' : a ≠ A_PM_RSTCAUSE) :
    (causeRecorded s cause sub).reg a = if a ∈ aonAddrs then s.reg a else resetWord a := by
  rw [causeRecorded, State.reg_set_of_ne _ _ _ _ h', State.reg_set_of_ne _ _ _ _ h', State.reg_set_of_ne _ _ _ _ h, reg_aonRegs]

theorem causeRecorded_status (f : Field) (h : f.addr = A_TB_STATUS) :
    (causeRecorded s cause sub).get f =
      ((resetState s (aonRegs s) (slowKept s)).set TB_STATUS_CAL_VALID (s.get TB_STATUS_CAL_VALID)).get f := by
  have hne : f.addr ≠ A_PM_RSTCAUSE := by rw [h]; decide
  rw [causeRecorded, State.get_set_of_ne _ _ _ _ (.inl hne), State.get_set_of_ne _ _ _ _ (.inl hne)]

theorem causeRecorded_locked : (causeRecorded s cause sub).on TB_STATUS_LOCKED = false := by
  rw [State.on, causeRecorded_status _ _ _ _ rfl, State.get_set_of_ne _ _ _ _ (by decide), State.get, reg_aonRegs,
    if_neg (by decide)]
  decide

theorem causeRecorded_calValid : (causeRecorded s cause sub).get TB_STATUS_CAL_VALID = s.get TB_STATUS_CAL_VALID := by
  rw [causeRecorded_status _ _ _ _ rfl, State.get_set_same _ _ _ (by decide)]
  exact Nat.mod_eq_of_lt (s.get_lt TB_STATUS_CAL_VALID)

theorem causeRecorded_cause (hc : cause < 16) : (causeRecorded s cause sub).get PM_RSTCAUSE_CAUSE = cause := by
  rw [causeRecorded, State.get_set_of_ne _ _ _ _ (by decide), State.get_set_same _ _ _ (by decide)]
  exact Nat.mod_eq_of_lt hc

theorem causeRecorded_sub (hs : sub < 16) : (causeRecorded s cause sub).get PM_RSTCAUSE_SUB = sub := by
  rw [causeRecorded, State.get_set_same _ _ _ (by decide)]
  exact Nat.mod_eq_of_lt hs

end

/-- System reset with no flash or OTP operation in progress and the internal regulator in use. -/
theorem systemReset_quiet {s : State} (hf : s.fl.op = none) (ho : s.pq.otp = none) (hv : s.on VR_CTL_EN_ACK = false)
    (cause sub : Nat) : systemReset s cause sub = causeRecorded s cause sub := by
  simp only [systemReset, hf, ho, hv, Bool.false_eq_true, if_false]
  rfl

theorem systemReset_afterSystemReset {s : State} (hf : s.fl.op = none) (ho : s.pq.otp = none)
    (hv : s.on VR_CTL_EN_ACK = false) {cause sub : Nat} (hc : cause < 16) (hs : sub < 16) :
    AfterSystemReset s (settle (systemReset s cause sub)) cause sub := by
  rw [systemReset_quiet hf ho hv]
  have hreset : ∀ a ∉ keptRegs, (causeRecorded s cause sub).reg a = resetWord a := fun a ha => by
    simp only [List.mem_cons, List.not_mem_nil, or_false, not_or] at ha
    obtain ⟨h1, h2, h3, h4, h5⟩ := ha
    rw [causeRecorded_reg s cause sub h1 h4, if_neg (by simp [h2, h3, h4, h5])]
  have hkept : ∀ a ∈ [A_TB_RATIO, A_TB_CATCH_FRAC, A_PM_BOOTREC], (causeRecorded s cause sub).reg a = s.reg a := by
    intro a ha
    have hne : ∀ a ∈ [A_TB_RATIO, A_TB_CATCH_FRAC, A_PM_BOOTREC],
        a ≠ A_TB_STATUS ∧ a ≠ A_PM_RSTCAUSE ∧ a ∈ aonAddrs := by decide
    obtain ⟨h1, h2, h3⟩ := hne a ha
    rw [causeRecorded_reg s cause sub h1 h2, if_pos h3]
  obtain ⟨hafter, hsame⟩ := afterReset_settle (s := s) (regs := (causeRecorded s cause sub).regs) (tb := slowKept s) hreset
    (causeRecorded_locked s cause sub)
  exact ⟨hafter, fun a ha => (hsame a).trans (hreset a ha), fun a ha => (hsame a).trans (hkept a ha),
    (hsame.on _).trans (causeRecorded_locked s cause sub), (hsame.get _).trans (causeRecorded_calValid s cause sub),
    (hsame.get _).trans (causeRecorded_cause s cause sub hc), (hsame.get _).trans (causeRecorded_sub s cause sub hs),
    settle_tb _⟩

/-! ### PM_CMD.SYSRST (R552) -/

/-- PM_CMD with its key and SYSRST, by a Secure core: a system reset, whose response is that of an accepted write. -/
theorem coreWrite_sysrst {s : State} {core : Cpu} (hp : s.power = .active) (hns : s.on (IC_CPU_STAT_NS core) = false)
    (hst : mayStore s core A_PM_CMD) :
    coreWrite core A_PM_CMD (w32 (2 + 2 ^ 16 * 0xA55A)) s = (systemReset s 3 0).respond 0 := by
  rw [coreWrite_window (m := 0) (by decide) (by decide) (domainOff_of_active hp (by decide)) (by decide) hst]
  have hcmd : pmCommand s (w32 (2 + 2 ^ 16 * 0xA55A)) = systemReset s 3 0 := rfl
  have hw : blockWrite (coreAcc s core) s 0 A_PM_CMD (w32 (2 + 2 ^ 16 * 0xA55A)) = (systemReset s 3 0, .ok) := by
    rw [← hcmd]
    simp [blockWrite, pmWrite, pmSecure, secureWrite, hns]
  rw [hw, State.finishWrite_ok]

/-- Settles O4: each reset leaves a state whose views hold, so that the `settle` at the end of its command changes nothing. -/
theorem resetsLeaveTheStatedState : Obligations.ResetsLeaveTheStatedState := by
  unfold Obligations.ResetsLeaveTheStatedState
  refine ⟨fun s hf ho => ?_, fun s hf ho hp hv => ?_, fun rail s hf ho hp hr hv => ?_, fun s hf ho hp hl hv => ?_,
    fun core key s hf ho hp hns hk hv hst => ?_⟩
  · exact ⟨_, rfl, powerOnReset_afterPowerOn hf ho (by decide)⟩
  · refine ⟨_, rfl, ?_⟩
    rw [live_of_on hp]
    exact systemReset_afterSystemReset hf ho hv (by decide) (by decide)
  · refine ⟨_, rfl, ?_⟩
    have hact : (rail && !s.awake) = false := by
      rcases hr with hr | hr <;> simp [State.awake, hr]
    rw [live_of_on hp, hact]
    exact systemReset_afterSystemReset hf ho hv (by decide) (by cases rail <;> decide)
  · refine ⟨_, rfl, ?_⟩
    rw [live_of_on (by simp [hp]), State.awake, State.isLocked, hp, hl]
    exact systemReset_afterSystemReset hf ho hv (by decide) (by decide)
  · refine ⟨_, rfl, ?_⟩
    have hresp : (systemReset s 3 0).respond 0 = systemReset s 3 0 := by
      rw [systemReset_quiet hf ho hv]
      rfl
    subst hk
    have hw := coreWrite_sysrst hp hns hst
    rw [hresp] at hw
    rw [live_of_on (by simp [hp])]
    show AfterSystemReset s (settle (coreWrite core A_PM_CMD (w32 (2 + 2 ^ 16 * 0xA55A)) s)) 3 0
    rw [hw]
    exact systemReset_afterSystemReset hf ho hv (by decide) (by decide)

end Sys2Proof.Machine
end
